-- ==== Sys2Proof/Word.lean ====
section
/-! DEFINITION. The smallest words of the model: bytes, byte strings and 32-bit registers. -/

namespace Sys2Proof

/-- One byte (R10). -/
abbrev Byte := BitVec 8

/-- A byte string in payload or wire order: offset 0 first. -/
abbrev Bytes := List Byte

/-- One BAR0 register word (R511). -/
abbrev Reg := BitVec 32

/-- A table keyed by object number, in ascending order of the numbers. -/
abbrev Tab (α : Type) := List (Nat × α)

end Sys2Proof
end

