-- ==== Sys2Proof/Syntax.lean ====
section
/-! DEFINITION. The commands the block takes, one constructor per row of the opcode table, and the operands that come
from outside with them. A host command carries the request of R81 with its payload bytes; an event carries what the
outside world brings to it (a packet, a pin level, a reading). -/

namespace Sys2Proof

/-- The three memories with error counters, coded as in CHK.UE_ADDR_HI (R453). -/
inductive MemKind where
  | dram
  | sram
  | ledger
  deriving DecidableEq, Repr

/-- The rows of R439: what the poisoned word held. -/
inductive PoisonRow where
  | schedule
  | image
  | bothCopies
  /-- One copy of the image, A (false) or B, at an address in the copy. -/
  | imageCopy (copyB : Bool) (at_ : Nat)
  | parameter (address : Nat)
  | fade (playback address : Nat)
  | playbackState (playback : Nat)
  | generatorState (generator : Nat)
  | cueEntry (playback cue address : Nat)
  | assignment (generator address : Nat)
  | transient
  | coreData (core : Nat)
  deriving DecidableEq, Repr

/-- A word that a read found uncorrectable: its memory and address, and what it held (R439). -/
structure Poison where
  mem     : MemKind
  address : Nat
  row     : PoisonRow
  deriving DecidableEq, Repr

/-- A host command as it reaches its opcode: the header fields of R81 that follow the opcode, and the payload.
`pair` is the ring pair that carries it, `rplSize` the reply buffer of R92, `sentTo` the address that its datagram was sent
to, where that is not the one in use (R515), `poison` an uncorrectable word that a read for its reply meets (R439). -/
structure Req where
  pair      : Nat
  flags     : Nat
  session   : Nat
  tag       : Nat
  timeoutMs : Nat
  atFrame   : Option Nat
  payload   : Bytes
  rplSize   : Nat
  sentTo    : Option Nat := none
  poison    : Option Poison := none
  deriving DecidableEq, Repr

/-- The endpoint of a datagram: IPv4 source address and UDP source port (R98). -/
structure Endpoint where
  ip   : Nat
  port : Nat
  deriving DecidableEq, Repr

/-- What unmasks MSI-X vectors (R513): the mask of a vector's table entry is cleared, or the function mask is written. -/
inductive MsixMask where
  | vector (n : Nat)
  | function (masked : Bool)
  deriving DecidableEq, Repr

/-- A read by the PCIe host: its offset, and 1, 2, 4 or 8 bytes (R511). -/
structure BarRead where
  offset : Nat
  bytes  : Nat := 4
  deriving DecidableEq, Repr

/-- The data of a write by the PCIe host: a word, 64 bits, or fewer than 32 bits (R511). -/
inductive BarWrite where
  | word (v : Reg)
  | wide (lo hi : Reg)
  | narrow (v : Reg)
  deriving DecidableEq, Repr

/-- What a failed DMA read was for (R512): a command entry or packet of a ring pair, or a layer's buffer fetch. -/
inductive DmaTarget where
  | ring (pair : Nat)
  | fetch (layer : Nat)
  deriving DecidableEq, Repr

/-- A FIFO or queue with a rinse (R27). -/
inductive RinseTarget where
  | commandRing (pair : Nat)
  | capture (input : Nat)
  | launchQueue (lane : Nat)
  | returnFifo (port : Nat)
  | uids (port : Nat)
  | flowQueue (flow : Nat)
  deriving DecidableEq, Repr

/-- A DHCPv4 server message as the ML client uses it (R515). -/
inductive DhcpMsg where
  | offer (address : Nat)
  | ack (address gateway prefixLen : Nat)
  | nak
  deriving DecidableEq, Repr

/-- The lease timers of RFC 2131 (R515). -/
inductive LeaseTimer where
  | renew
  | rebind
  | expire
  deriving DecidableEq, Repr

/-- What boot samples and finds outside the block: straps (R459), readings of I/O banks 0-4 in mV (R534), and whether
the firmware images' check values computed from flash hold is the block's own work. -/
structure BootInputs where
  strap0 : Bool
  strap1 : Bool
  strap2 : Bool
  banks  : List Nat
  /-- VOUT_MODE of the core regulator, as the device reads it (R485). -/
  voutMode : Nat
  deriving DecidableEq, Repr

/-- The kinds of background work (R441). -/
inductive BackgroundKind where
  | scrub
  | check
  | calibration
  | telemetry
  deriving DecidableEq, Repr

/-- A record of the ledger that fails its CRC: in the newer of its copies A and B, or in both, or its only copy (R444). -/
inductive LedgerRecord where
  | boot (both : Bool)
  | energy (meter : Nat) (both : Bool)
  | logEntry (entry : Nat)
  deriving DecidableEq, Repr

/-- What one 8 KiB scrub item of a memory found, or reads of the ledger: by number of the 64-bit word in the item, rising, a
word corrected, or what an uncorrectable word held (R438-R440); or a record of the ledger that failed its CRC (R444). -/
inductive ScrubResult where
  | item (mem : MemKind) (found : List (Nat × Option PoisonRow))
  | badRecord (record : LedgerRecord)
  deriving DecidableEq, Repr

/-- What the reads in a segment of a job brought: no error, errors of the lane's state store corrected, or one there that
cannot be corrected (R263), or a word of a memory that is corrected (R438) or poisoned (R439). -/
inductive StoreRead where
  | clean
  | memCorrected (mem : MemKind) (address : Nat)
  | corrected (count : Nat)
  | uncorrectable
  | poisoned (word : Poison)
  deriving DecidableEq, Repr

/-- Who keeps an expected value in the ledger region EXPECT (R236, R451). -/
inductive ExpectOwner where
  | witness (window : Nat)
  | channel (channel : Nat)
  deriving DecidableEq, Repr

/-- How a frame reached the MAC of a lane (R22, R314, R338): its bytes from the destination address to the FCS, whether it
is tagged, whether it is an IPv4 fragment, whether its FCS was good and the receive FIFO had room, and its source MAC and
IPv4 addresses. -/
structure RxFrame where
  bytes    : Nat
  tagged   : Bool
  fragment : Bool
  goodFcs  : Bool
  room     : Bool
  source   : Bytes
  ip       : Nat
  /-- The 66-bit block or codeword position of the frame in 2^-16 ns, which the device measures in modes 4 to 6 (R278). -/
  position : Nat := 0
  deriving DecidableEq, Repr

/-- A frame received on a lane; lane 16 is ML. -/
structure LaneFrame where
  lane  : Nat
  frame : RxFrame
  deriving DecidableEq, Repr

/-- How a transaction of a sensor script failed (R189): a read that was not acknowledged, or no end within 25 ms; the step of
the script that it was, and when it began, in us from the start of the script. -/
structure SensorFailure where
  script : Nat
  step   : Nat
  began  : Nat
  nack   : Bool
  deriving DecidableEq, Repr

/-- A received ST 2110-20 RTP packet: SSRC, payload type, RTP timestamp, and the pixel words it carries as (index, Y, Cb,
Cr) (R226, R228). -/
structure VideoPacket where
  rx          : RxFrame
  ssrc        : Nat
  payloadType : Nat
  rtp         : Nat
  pixels      : List (Nat × Nat × Nat × Nat)
  deriving DecidableEq, Repr

/-- A received PTP event or general message of one domain: port lane (0x10 for ML), sequence id, correction-free
time it carries, ingress stamp (both in 2^-16 ns), two-step flag (R272). -/
structure PtpMsg where
  rx      : RxFrame
  dom     : Nat
  lane    : Nat
  seq     : Nat
  origin  : Nat
  ingress : Nat
  twoStep : Bool
  deriving DecidableEq, Repr

/-- A received Announce: the fields of the best master clock comparison and the metadata TLV status (R274, R276). -/
structure PtpAnnounce where
  rx         : RxFrame
  dom        : Nat
  lane       : Nat
  priority1  : Nat
  clockClass : Nat
  accuracy   : Nat
  variance   : Nat
  priority2  : Nat
  identity   : Nat
  steps      : Nat
  locking    : Option Nat
  deriving DecidableEq, Repr

/-- A decoded LTC codeword: timecode and the counter value at the start of bit 0 (R286). -/
structure LtcCode where
  hh    : Nat
  mm    : Nat
  ss    : Nat
  ff    : Nat
  stamp : Nat
  deriving DecidableEq, Repr

/-- A received E1.31 data packet (R329): `wellFormed` says its layers are well formed. -/
structure SacnPacket where
  rx         : RxFrame
  lane       : Nat
  univ       : Nat
  cid        : Bytes
  priority   : Nat
  sequence   : Nat
  wellFormed : Bool
  preview    : Bool
  terminated : Bool
  sync       : Nat
  startCode  : Nat
  slots      : Bytes
  deriving DecidableEq, Repr

/-- A response on a DMX line (R377): not decodable, or with its fields, among them its source and destination UIDs. -/
structure RdmResponse where
  goodSum      : Bool
  transaction  : Nat
  uid          : Nat
  dest         : Nat
  responseType : Nat
  messageCount : Nat
  pid          : Nat
  pd           : Bytes
  cutOff       : Bool
  deriving DecidableEq, Repr

/-- The frozen inputs a heartbeat carries that the standby cannot derive itself (R389 CUT_RECORD), and the press-set
values in force, which cross the pair link under R210: received universes with CID and sequence, RTP timestamps of the
streams, fetched copies, group temperatures, trim values, test levels by instance as stage-5 levels, the pressed
backgrounds, layer registers and palette words, and the press frame. -/
structure CutRecord where
  sacn     : List (Nat × Bytes × Nat)
  rtp      : List (Nat × Nat)
  copies   : List (Nat × Bytes)
  temps    : List (Nat × Int)
  trims    : List (Nat × Int × Int × Nat)
  levels   : List (Nat × List Nat)
  canvases : List (Nat × Nat × Nat × Nat)
  layers   : List (Nat × List Nat)
  palettes : List (Nat × List (Nat × Nat))
  press    : Option Nat
  deriving DecidableEq, Repr

/-- A pair heartbeat (R389). `inTime` tells which side its arbiter grants under R393. -/
structure Heartbeat where
  rx          : RxFrame
  frame       : Nat
  state       : Nat
  claim       : Nat
  unitId      : Nat
  configDig   : Nat
  pendingDig  : Nat
  mirrorSeq   : Nat
  record      : CutRecord
  inputDig    : Nat
  outputDig   : Nat
  outputFrame : Nat
  maintenance : Bool
  gainTime    : Nat
  showState   : Nat
  inTime      : Bool
  deriving DecidableEq, Repr

/-- A mirrored class T command: opcode, request, fixed frame and mirror sequence number (R387), its number in the order in
which the active member accepted its commands, which R138 counts among the frozen inputs, and whether it is in the timed
queue. -/
structure Mirror where
  rx     : RxFrame
  seq    : Nat
  order  : Nat
  timed  : Bool
  opcode : Nat
  frame  : Nat
  req    : Req
  deriving DecidableEq, Repr

/-- A parameter of a carried held set: address, value, key frame, whether it leaves with the step's fades, and its fade
as start, target, class (0 rise, 1 fall, 2 LTP, 3 release) and snapped. -/
structure SyncHeld where
  address : Nat
  value   : Nat
  key     : Nat
  leaving : Bool
  fade    : Option (Nat × Nat × Nat × Bool)
  deriving DecidableEq, Repr

/-- A carried playback (R149-R163): its cue, cues, held set, clocks, rate, level, its last step with the times of that
step (mode, curve, table, SNAP_END, three times, three delays), the follow to come and a release under way. -/
structure SyncPlayback where
  number    : Nat
  cue       : Option Nat
  cues      : List (Nat × Bytes × List (Nat × Nat))
  held      : List SyncHeld
  tclk      : Nat
  fclk      : Nat
  rate      : Nat
  level     : Nat
  stepFrame : Nat
  st        : Nat
  sf        : Nat
  times     : List Nat
  follow    : Option (Bool × Nat)
  release   : Option Nat
  progress  : Nat
  deriving DecidableEq, Repr

/-- A carried generator (R165-R172). -/
structure SyncGen where
  number     : Nat
  running    : Bool
  phi        : Nat
  rate       : Int
  size       : Nat
  ramp       : Option (Nat × Nat × Nat × Nat)
  offset     : Nat
  startFrame : Nat
  deriving DecidableEq, Repr

/-- A carried flow (R320, R325): the next Ixnik sequence number, the last numbers by universe and by synchronization address,
the frame that is issued next, and its switches as (frame, enable, terminate, whether it is a record's own setting). -/
structure SyncFlow where
  number   : Nat
  ixSeq    : Nat
  seqs     : List (Nat × Nat)
  syncs    : List (Nat × Nat)
  next     : Option Nat
  switches : List (Nat × Bool × Bool × Bool)
  deriving DecidableEq, Repr

/-- A part of a sync transfer (R392): the named cut; output, live and received values by parameter address, a live or
received value as (value, priority, frame); playbacks, generators, calibration sets and flows; trim values as (instance, du,
dv, g, frozen); the backgrounds of canvases, the registers in force and the palette words of layers; and the progress. -/
structure SyncPart where
  frame    : Nat
  outs     : List (Nat × Nat)
  live     : List (Nat × Nat × Nat × Nat)
  received : List (Nat × Nat × Nat × Nat)
  pbs      : List SyncPlayback
  gens     : List SyncGen
  calSets  : List (Nat × Bytes)
  flows    : List SyncFlow
  trims    : List (Nat × Int × Int × Nat × Bool)
  canvases : List (Nat × Nat × Nat × Nat)
  layers   : List (Nat × List Nat)
  palettes : List (Nat × List (Nat × Nat))
  permille : Nat
  last     : Bool
  deriving DecidableEq, Repr

/-- A part of a sync transfer as a frame of the pair link brings it. -/
structure SyncFrame where
  rx   : RxFrame
  part : SyncPart
  deriving DecidableEq, Repr

/-- A mirror acknowledgement as a frame of the pair link brings it (R387). -/
structure MirrorAck where
  rx  : RxFrame
  seq : Nat
  deriving DecidableEq, Repr

/-- How the pass of a check channel ended (R447-R450): the uncorrectable word that stopped it, if one did; whether the parity
of EXPECTED held; the bytes that it read of a source whose bytes the model does not hold; and, by place in its range, what
it read of the others before they were written during the pass. -/
structure PassOutcome where
  poisoned : Option Poison
  parityOk : Bool
  read     : Bytes := []
  earlier  : List (Nat × Byte) := []
  deriving DecidableEq, Repr

/-- The readings of one monitor sweep (R479): TS in 1/16 degree, VM in mV, PM in ps, PMBus readback in mV and IOUT in
10 mA, and whether the PMBus transaction succeeded. -/
structure SweepReadings where
  temps  : List Int
  volts  : List Nat
  cycles : List Nat
  vout   : Nat
  iout   : Nat
  pmbus  : Bool
  deriving DecidableEq, Repr

/-- How writing a staged image to flash ended (R468). -/
inductive WriteOutcome where
  | done
  | badReadBack
  | flashTimeout
  deriving DecidableEq, Repr

/-- What the link of the management lane negotiates in SGMII: 0 for 10, 1 for 100 and 2 for 1000 Mb/s, and the comma
alignment measured at link-up in 2^-16 ns (R278, R514). -/
structure MlSpeed where
  code  : Nat
  align : Nat := 0
  deriving DecidableEq, Repr

/-- The commands of the block: one constructor for each row of the table. The docstring of each gives its rule and
its summary. -/
inductive Instr where
  /-- R558. Returns part, variant, grade, firmware slot versions and serial number. -/
  | identify (r : Req)
  /-- R100. Opens a session in a free slot with a new generation and a keepalive time. -/
  | sessionOpen (r : Req)
  /-- R102. Closes the named session, releases what it holds and optionally purges its timed commands. -/
  | sessionClose (r : Req)
  /-- R102. Restarts the keepalive time of the named session. -/
  | sessionKeepalive (r : Req)
  /-- R110. Returns opcode, final status and frame of the latest finished command with a tag. -/
  | tagStatus (r : Req)
  /-- R108. Withdraws queued timed commands that carry the named session and tag. -/
  | timedCancel (r : Req)
  /-- R558. Returns one record per open session with its source and endpoint. -/
  | sessionList (r : Req)
  /-- R60. Starts compiling and checking the staging area, replying ACCEPTED_DEFERRED with the admission id. -/
  | admitConfig (r : Req)
  /-- R58. Opens or restarts the staging area for the session, as a copy of the configuration in force or empty. -/
  | basteBegin (r : Req)
  /-- R61. Discards the open staging area or withdraws the pending configuration. -/
  | basteAbort (r : Req)
  /-- R62. Names the frame at whose cut the pending configuration is pressed. -/
  | pressConfig (r : Req)
  /-- R78. Returns the summary and records of the most recent admission. -/
  | admitReport (r : Req)
  /-- R56. Moves the show from CONFIGURED to RUNNING at a fixed first cut. -/
  | showStart (r : Req)
  /-- R56. Moves the show from RUNNING to ARMED at a cut. -/
  | showArm (r : Req)
  /-- R56. Moves the show from ARMED to RUNNING at a cut. -/
  | showDisarm (r : Req)
  /-- R56. Stops the show at a cut, returning it to CONFIGURED and terminating flows. -/
  | showStop (r : Req)
  /-- R56. Moves the running or armed show into SAFE_HOLD at a cut. -/
  | safeHoldEnter (r : Req)
  /-- R56. Moves the show from SAFE_HOLD to RUNNING at a cut. -/
  | showResume (r : Req)
  /-- R65. Stages the VCORE floor and maximum Tj of the admission envelope. -/
  | setEnvelope (r : Req)
  /-- R246. Stages frame, dispatch, job-size, level and peg records. -/
  | setFrame (r : Req)
  /-- R64. Stages the role of the unit: engine, standby engine or node. -/
  | setRole (r : Req)
  /-- R558. Reads back staged or in-force records of a staged opcode. -/
  | stageRead (r : Req)
  /-- R476. Writes the configuration in force into the older CONFIG copy in flash. -/
  | configSave (r : Req)
  /-- R476. Loads the newest valid saved configuration into the staging area. -/
  | configLoad (r : Req)
  /-- R116. Stages or replaces a fixture type with its parameter and emitter records. -/
  | typeDefine (r : Req)
  /-- R123. Removes a fixture type from the staging area, optionally cascading to its instances. -/
  | typeDelete (r : Req)
  /-- R124. Stages patch records placing fixture instances at destinations. -/
  | patchAdd (r : Req)
  /-- R127. Unpatches instances and removes their dependent records from the staging area. -/
  | patchRemove (r : Req)
  /-- R127. Returns the patch in force from a first instance. -/
  | patchRead (r : Req)
  /-- R137. Sets live values of parameters at a priority, taking effect at a cut. -/
  | paramWrite (r : Req)
  /-- R138. Releases live values of named or all parameters at a cut. -/
  | paramRelease (r : Req)
  /-- R142. Returns merged values and winning sources of a range of parameters from the latest cut. -/
  | paramRead (r : Req)
  /-- R139. Stages maps that make received universes sources for instances. -/
  | sacnRxMap (r : Req)
  /-- R144. Stages a playback with its priority, flags, capacities and times. -/
  | playbackDefine (r : Req)
  /-- R147. Replaces or appends a cue's header and entries at a cut. -/
  | cueStore (r : Req)
  /-- R148. Steps a playback into its next cue at a cut. -/
  | playbackGo (r : Req)
  /-- R148. Steps a playback into its previous cue with BACK_TIME at a cut. -/
  | playbackBack (r : Req)
  /-- R148. Steps a playback into a named cue at a cut. -/
  | playbackGoto (r : Req)
  /-- R161. Starts the release of a playback at a cut. -/
  | playbackRelease (r : Req)
  /-- R160. Sets a playback's master level at a cut. -/
  | playbackLevel (r : Req)
  /-- R155. Sets a playback's fade rate at a cut. -/
  | playbackRate (r : Req)
  /-- R158. Stages a custom 257-point curve table. -/
  | curveTable (r : Req)
  /-- R171. Returns cue, state and progress of a range of playbacks. -/
  | playbackStatus (r : Req)
  /-- R165. Stages an effect generator's waveform, mode, rate, size and spread. -/
  | effectDefine (r : Req)
  /-- R166. Stages assignments of a generator to parameters in groups. -/
  | effectAssign (r : Req)
  /-- R168. Changes a generator's phase increment at a cut. -/
  | effectRate (r : Req)
  /-- R169. Ramps a generator's size to a new value at a cut. -/
  | effectSize (r : Req)
  /-- R168. Starts a generator at a cut, optionally resetting its phase. -/
  | effectStart (r : Req)
  /-- R168. Stops a generator at a cut so its contribution becomes 0. -/
  | effectStop (r : Req)
  /-- R168. Replaces a generator's phase offset at a cut. -/
  | effectPhase (r : Req)
  /-- R172. Returns state, rate, phase and size of a range of generators. -/
  | effectStatus (r : Req)
  /-- R178. Stages the working RGB to XYZ matrix. -/
  | colourSpace (r : Req)
  /-- R181. Stages the mixing strategy and dither setting of fixture types. -/
  | mixStrategy (r : Req)
  /-- R184. Stages a per-emitter dimming curve. -/
  | dimCurve (r : Req)
  /-- R185. Stages calibration sets, bindings and thermal groups. -/
  | calsetLoad (r : Req)
  /-- R188. Stages an I2C light or temperature sensor script. -/
  | sensorScript (r : Req)
  /-- R190. Starts a calibration run measuring an instance's emitters. -/
  | calRun (r : Req)
  /-- R193. Returns the outcome and measured points of a calibration run. -/
  | calResult (r : Req)
  /-- R199. Enables, freezes or resets trim, or sets a group temperature, at a cut. -/
  | trimControl (r : Req)
  /-- R200. Returns trim state and values of a range of trimmed instances. -/
  | trimStatus (r : Req)
  /-- R476. Writes the calibration sets in force to CALSTORE in flash. -/
  | calsetSave (r : Req)
  /-- R205. Stages a canvas with its size, raster and background. -/
  | canvasDefine (r : Req)
  /-- R212. Stages a layer with its source, format and initial registers. -/
  | layerDefine (r : Req)
  /-- R231. Stages segments of a pixel map for a flow or scan port. -/
  | pixmapLoad (r : Req)
  /-- R226. Stages an ST 2110-20 receive stream. -/
  | videoRxDefine (r : Req)
  /-- R233. Stages a frame witness window. -/
  | witnessDefine (r : Req)
  /-- R218. Registers a host memory buffer and returns its id. -/
  | bufferRegister (r : Req)
  /-- R219. Frees a buffer at once, or when it next retires if in use. -/
  | bufferRelease (r : Req)
  /-- R230. Returns state and counters of video streams. -/
  | videoRxStatus (r : Req)
  /-- R312. Stages a SerDes lane's mode and IPv4 settings. -/
  | laneDefine (r : Req)
  /-- R316. Stages a flow's kind, lane, destination, late policy and transit. -/
  | flowDefine (r : Req)
  /-- R316. Removes a flow with its protocol, map, level and peg records. -/
  | flowDelete (r : Req)
  /-- R325. Stages sACN source and flow records. -/
  | sacnOutDefine (r : Req)
  /-- R328. Stages received sACN universes and their lanes. -/
  | sacnRxDefine (r : Req)
  /-- R333. Stages Ixnik transmit and receive records. -/
  | ixnikDefine (r : Req)
  /-- R342. Stages scan port, integrity-group and seam records. -/
  | scanDefine (r : Req)
  /-- R368. Stages DMX port records. -/
  | dmxDefine (r : Req)
  /-- R320. Mutes or unmutes a flow at a cut, optionally with termination. -/
  | flowEnable (r : Req)
  /-- R321. Rinses a flow's output queue of waiting frames. -/
  | flowRinse (r : Req)
  /-- R323. Returns counters of a range of flows. -/
  | flowStats (r : Req)
  /-- R376. Queues one RDM GET or SET transaction on a DMX port. -/
  | rdmRequest (r : Req)
  /-- R378. Starts RDM discovery on a DMX port. -/
  | rdmDiscover (r : Req)
  /-- R289. Stages clock, domain, port, LTC and FSYNC records. -/
  | timeConfig (r : Req)
  /-- R304. Returns the time base and domain servo states from one instant. -/
  | timeStatus (r : Req)
  /-- R303. Selects the source that steers the time counter. -/
  | domainSelect (r : Req)
  /-- R291. Stages time-trigger unit and capture input records. -/
  | triggerDefine (r : Req)
  /-- R300. Starts a transit, node processing or emitter latency measurement. -/
  | latencyMeasure (r : Req)
  /-- R305. Returns the latency model in force for a range of flows. -/
  | latencyTable (r : Req)
  /-- R382. Stages the pair link and claim settings. -/
  | pairDefine (r : Req)
  /-- R402. Returns the pair state, claims and heartbeat counters. -/
  | pairStatus (r : Req)
  /-- R399. Enters or leaves pair maintenance. -/
  | pairMaintenance (r : Req)
  /-- R397. Hands the active duty to the peer at a cut. -/
  | pairHandover (r : Req)
  /-- R406. Stages meter, pulse, night and tamper records. -/
  | meterDefine (r : Req)
  /-- R424. Stages energy-limited feeder records. -/
  | feederDefine (r : Req)
  /-- R416. Returns a meter snapshot or live accumulators. -/
  | meterRead (r : Req)
  /-- R428. Closes or opens a feeder and returns its state. -/
  | feederReset (r : Req)
  /-- R423. Returns night-meter activity records or tamper records. -/
  | nightMeterRead (r : Req)
  /-- R465. Claims the update staging slot for an image of given length. -/
  | updateOpen (r : Req)
  /-- R467. Stores a 4 KiB block of the staged image in DRAM. -/
  | updateBlock (r : Req)
  /-- R468. Starts verifying and writing the staged image to the inactive slot. -/
  | updateClose (r : Req)
  /-- R466. Releases the update staging slot. -/
  | updateAbort (r : Req)
  /-- R469. Activates the verified slot with an activation pause at the next cut. -/
  | updateActivate (r : Req)
  /-- R472. Confirms a trial image, ending the trial. -/
  | healthConfirm (r : Req)
  /-- R457. Reads bytes from flash. -/
  | flashRead (r : Req)
  /-- R457. Programs and verifies bytes in a writable flash region. -/
  | flashWrite (r : Req)
  /-- R457. Erases 64 KiB sectors in a writable flash region. -/
  | flashErase (r : Req)
  /-- R475. Sets or clears the owner lock with a code. -/
  | ownerLock (r : Req)
  /-- R458. Returns the personality record in force. -/
  | personalityRead (r : Req)
  /-- R487. Returns one monitor sweep. -/
  | healthRead (r : Req)
  /-- R492. Sets routes of event sources or subscribes an ML session. -/
  | eventRoute (r : Req)
  /-- R492. Masks or unmasks a range of event sources. -/
  | eventMask (r : Req)
  /-- R499. Returns records of the ledger event log. -/
  | logRead (r : Req)
  /-- R500. Returns device counters by id. -/
  | countersRead (r : Req)
  /-- R486. Returns the AVS request, readback and state. -/
  | avsStatus (r : Req)
  /-- R452. Starts a check channel over a source range or region. -/
  | chkStart (r : Req)
  /-- R452. Returns a check channel's status and result. -/
  | chkResult (r : Req)
  /-- R451. Commits a check channel's expected value. -/
  | chkExpect (r : Req)
  /-- R450. Selects native or TE5100 compare mode for a channel. -/
  | chkMode (r : Req)
  /-- R519. Reads BAR0 words on behalf of a management-lane host. -/
  | regRead (r : Req)
  /-- R519. Writes BAR0 words on behalf of a management-lane host. -/
  | regWrite (r : Req)
  /-- R519. Returns its payload unchanged. -/
  | echo (r : Req)
  /-- R519. Starts a lane loopback test in SERVICE. -/
  | loopback (r : Req)
  /-- R520. Sets the device state to SERVICE when the show is not running. -/
  | serviceEnter (r : Req)
  /-- R520. Returns the device state to operational. -/
  | serviceExit (r : Req)
  /-- R520. Schedules a device reset 10 ms after its reply. -/
  | deviceReset (r : Req)
  /-- R94. Host doorbell write that makes new command entries available for acceptance. -/
  | cmdTailWrite (pair : Nat) (index : Nat)
  /-- R86. Device takes the next command entry from a ring, advancing CMD_HEAD, and reads its packet. -/
  | commandAccept (pair : Nat) (packet : Bytes) (rplSize : Nat)
  /-- R105. Host frees reply ring slots, letting a held reply be written and acceptance resume. -/
  | rplTailWrite (pair : Nat) (index : Nat)
  /-- R105. A reply held for 1 ms sets RPL_STALL and raises RING_STALL. -/
  | replyStallTimeout (pair : Nat)
  /-- R109. A command's TIMEOUT_MS expires before its reply and EXPIRED is sent. -/
  | replyTimeoutExpire (pair : Nat) (position : Nat)
  /-- R95. Setting ENABLE puts a ring pair in service and latches base and size. -/
  | hostqEnableSet (pair : Nat)
  /-- R95. Clearing ENABLE requests the pair out of service. -/
  | hostqEnableClear (pair : Nat)
  /-- R95. The pair leaves service once every accepted command has replied. -/
  | hostqDisableDone (pair : Nat)
  /-- R95. Setting RINSE requests a rinse of a command ring. -/
  | hostqRinse (pair : Nat)
  /-- R512. A DMA read fails or gets no completion in 10 ms. -/
  | dmaReadFail (target : DmaTarget)
  /-- R95. A write of a reply fails and the pair is disabled. -/
  | rplDmaFail (pair : Nat)
  /-- R96. PCIe link loss disables PCIe ring pairs, ends PCIe sessions and the event ring. -/
  | pcieLinkLoss
  /-- R96. Function-level reset disables PCIe ring pairs, sessions and the event ring. -/
  | pcieFlr
  /-- R512. Clearing Bus Master Enable acts as a link loss. -/
  | busMasterClear
  /-- R512. Entering D3hot acts as a link loss. -/
  | d3hotEnter
  /-- R535. PERST_N resets only the PCIe endpoint. -/
  | perstNAssert
  /-- R513. Unmasking a pending MSI-X vector signals it once. -/
  | msixUnmask (mask : MsixMask)
  /-- R98. A command datagram on port 47012 is bound to an ML ring pair, cached or dropped. -/
  | mlDatagramRx (src : Endpoint) (broadcast : Bool) (packet : Bytes)
  /-- R98. An endpoint binding ends 60 s after it has no session or outstanding command. -/
  | mlBindingExpire (pair : Nat)
  /-- R514. An IPv4 fragment on ML enters reassembly. -/
  | mlFragmentRx (src : Endpoint) (id : Nat) (offset : Nat) (more : Bool) (body : Bytes)
  /-- R514. An incomplete datagram 1 s after its first fragment is dropped. -/
  | mlReassemblyTimeout (src : Endpoint) (id : Nat)
  /-- R515. Writing ML_CTRL.APPLY applies the ML address settings. -/
  | mlApply
  /-- R515. A DHCPv4 message gives or renews the ML lease. -/
  | dhcpMessageRx (msg : DhcpMsg)
  /-- R515. With no lease 10 s after link-up, ML takes a link-local address. -/
  | linkLocalTimeout (address : Nat)
  /-- R102. A session's keepalive time expires and the session ends. -/
  | sessionKeepaliveExpire (slot : Nat)
  /-- R23. A host read of a FIFO window removes one item or waits for one. -/
  | fifoWindowRead (addr bytes : Nat)
  /-- R24. The 2 µs wait of an empty FIFO read expires and EMPTY is returned. -/
  | fifoReadWaitExpire (addr bytes : Nat)
  /-- R25. The 2 µs wait of a write to a full FIFO expires and the word is discarded. -/
  | fifoWriteWaitExpire (lane : Nat) (word : Reg)
  /-- R26. At the next packet boundary a pending rinse discards every queued item. -/
  | rinseDiscardPoint (target : RinseTarget)
  /-- R29. A host-written partial packet not completed in 2 µs under a pending rinse is discarded. -/
  | rinsePartialTimeout (lane : Nat)
  /-- R14. A read of an RC register returns and clears its value. -/
  | rcRead (read : BarRead)
  /-- R43. A read of a LO register latches its HI partner from the same instant. -/
  | latchingRead (read : BarRead)
  /-- R267. A read of TIME.NOW_NS latches the sub-ns and seconds registers. -/
  | nowNsRead
  /-- R479. A read of MON.SWEEP latches all monitor registers of its sweep. -/
  | sweepRead
  /-- R415. A read of a meter's SEQ copies its latest snapshot into the read buffer. -/
  | meterSeqRead (meter : Nat)
  /-- R429. A read of RTC_FRAC latches the RTC seconds registers. -/
  | rtcFracRead
  /-- R417. A read of a delta register returns energy since the last read and advances its base. -/
  | deltaRead (meter : Nat) (set : Nat) (exported : Bool)
  /-- R12. A host write to a register that has no behaviour of its own. -/
  | registerWrite (addr : Nat) (data : BarWrite)
  /-- R209. A write to an RWP field lands in the shadow, stalling during a press handshake. -/
  | shadowWrite (addr : Nat) (data : BarWrite)
  /-- R208. Setting CANVASn.COMMIT requests a press at the next press point. -/
  | canvasCommitWrite (canvas : Nat)
  /-- R216. A host write of an entry of the mapped palette's shadow bank. -/
  | paletteWrite (offset : Nat) (word : Reg)
  /-- R216. Mapping a layer's palette page clears the mapping of every other layer. -/
  | palMapWrite (layer : Nat) (word : Reg)
  /-- R236. A host write of a window's expected value. -/
  | witnessExpectedWrite (window : Nat) (word : Reg)
  /-- R268. Writing SET steps the counter to the SET registers when free-running and not running. -/
  | timeSet
  /-- R293. Arming a time-trigger unit latches its timing registers. -/
  | ttuArm (unit : Nat) (mode : Nat)
  /-- R293. Disarming a time-trigger unit. -/
  | ttuDisarm (unit : Nat)
  /-- R294. Setting a TTI RINSE bit requests a rinse of its capture FIFO. -/
  | ttiRinse (input : Nat)
  /-- R336. A host write adds one item of a packet to a lane's launch queue. -/
  | qdataWrite (lane : Nat) (word : Reg)
  /-- R336. Setting QRINSE requests a rinse of a launch queue. -/
  | qrinse (lane : Nat)
  /-- R357. A host write marks or clears dead channels of a scan port. -/
  | faultCtrlWrite (port : Nat) (word : Reg)
  /-- R360. A host write of live seam gains of a tile, taking effect at the next cut. -/
  | seamGainWrite (port : Nat) (vertical : Bool) (word : Reg)
  /-- R365. Setting FULL_WRITE forces the next memory-type frame to be written in full. -/
  | fullWriteRequest (port : Nat)
  /-- R365. Setting RET_RINSE requests a rinse of a scan port's return FIFO. -/
  | retRinse (port : Nat)
  /-- R359. Writing 1 to a GROUP_OFF bit re-arms an integrity group without dead channels. -/
  | groupRearm (port : Nat) (index : Nat) (word : Reg)
  /-- R378. Setting UID_RINSE requests a rinse of a DMX port's UID FIFO. -/
  | uidRinse (port : Nat)
  /-- R448. Setting CTRL.START starts a check channel from its registers. -/
  | chkRegStart (channel : Nat)
  /-- R448. Setting CTRL.ABORT stops a running check channel. -/
  | chkAbort (channel : Nat)
  /-- R451. A write of EXPECTED_HI commits both halves of a channel's expected value. -/
  | chkExpectedCommit (channel : Nat) (word : Reg)
  /-- R502. Setting EVT.CTRL.ENABLE puts the event ring in service and latches base and size. -/
  | evtRingEnable
  /-- R461. Release of reset samples straps, selects a slot, loads and checks firmware and starts the cores. -/
  | boot (inputs : BootInputs)
  /-- R548. Power-on reset input holds the device in reset. -/
  | porstNAssert
  /-- R477. After boot, the saved configuration is loaded and admitted. -/
  | autoload
  /-- R477. Once the time keeper is ready, SHOW_START is sent for an autoloaded show. -/
  | autoStart
  /-- R34. A supervisor core watchdog expires and the core restarts. -/
  | coreWatchdogExpire (core : Nat)
  /-- R34. A restarted supervisor core resumes its duties. -/
  | coreRestartDone (core : Nat)
  /-- R60. Admission finishes and the configuration is refused, pending or in force. -/
  | admissionComplete
  /-- R50. At the cut instant the inputs of a frame are frozen and its jobs become ready. -/
  | cut
  /-- R255. A render lane completes a job segment, possibly pre-empting the job. -/
  | jobSegmentComplete (lane : Nat) (reads : StoreRead)
  /-- R258. A job completes, is released in order to its flows and the lane takes new work. -/
  | jobComplete (lane : Nat) (badParity : List Nat)
  /-- R75. A background item of at most 2 µs completes on a lane. -/
  | backgroundItemComplete (lane : Nat) (kind : BackgroundKind)
  /-- R440. A scrub item reads 8 KiB, correcting or reporting errors. -/
  | scrubItem (item : ScrubResult)
  /-- R295. At a flow's issue instant the frame is launched, repeated or skipped. -/
  | launchInstant (flow : Nat)
  /-- R207. At a canvas press point committed shadows take force and buffer fetches start. -/
  | pressPoint (canvas : Nat)
  /-- R221. A layer's buffer fetch completes or fails. -/
  | bufferFetchComplete (layer : Nat) (data : Bytes)
  /-- R217. The post-swap copy into a palette's new shadow bank completes. -/
  | paletteCopyDone (layer : Nat)
  /-- R237. Firmware reloads a corrupted witness expected value from the ledger. -/
  | witnessReloadDone (window : Nat) (ledgerGood : Bool)
  /-- R236. Firmware copies a written expected value into the ledger. -/
  | expectedLedgerCopy (owner : ExpectOwner)
  /-- R226. An ST 2110-20 RTP packet is received into a stream's frame. -/
  | videoPacketRx (stream : Nat) (packet : VideoPacket)
  /-- R436. Both configuration image copies are rewritten in DRAM. -/
  | imageRewriteDone
  /-- R281. A Sync message updates a domain servo. -/
  | ptpSyncRx (msg : PtpMsg)
  /-- R282. A Follow_Up completes a two-step measurement. -/
  | ptpFollowUpRx (msg : PtpMsg)
  /-- R274. An Announce feeds the best master clock algorithm. -/
  | ptpAnnounceRx (msg : PtpAnnounce)
  /-- R272. A master port answers a Delay_Req with a Delay_Resp. -/
  | ptpDelayReqRx (msg : PtpMsg)
  /-- R282. A Delay_Resp enters the path-delay filter. -/
  | ptpDelayRespRx (msg : PtpMsg)
  /-- R282. The selected master's Announce timeout expires. -/
  | announceReceiptTimeout (dom : Nat)
  /-- R282. No usable Sync for 4 intervals puts the domain in HOLDOVER. -/
  | syncReceiptTimeout (dom : Nat)
  /-- R282. A Follow_Up not received within one Sync interval voids its Sync. -/
  | followUpTimeout (dom : Nat)
  /-- R282. A Delay_Resp not received in time leaves the path delay unchanged. -/
  | delayRespTimeout (dom : Nat)
  /-- R274. A master domain sends Sync at its interval. -/
  | ptpSyncInterval (dom : Nat)
  /-- R276. A master domain sends Announce with its metadata TLV. -/
  | ptpAnnounceInterval (dom : Nat)
  /-- R272. A slave domain sends a Delay_Req. -/
  | delayReqInterval (dom : Nat)
  /-- R286. An LTC codeword is decoded and steers the LTC servo. -/
  | ltcCodeword (code : LtcCode)
  /-- R287. Four missing codewords put LTC in HOLDOVER. -/
  | ltcCodewordMissing
  /-- R288. An FSYNC edge steers the FSYNC servo or is counted stray. -/
  | fsyncEdge (rising : Bool)
  /-- R288. Four missing expected edges put FSYNC in HOLDOVER. -/
  | fsyncEdgeMissing
  /-- R283. A candidate qualified for SWITCH_HOLD_MS becomes the source in force. -/
  | autoSwitch (candidate : Nat)
  /-- R283. The preferred source locked for REVERT_S comes back into force. -/
  | sourceReversion
  /-- R292. An armed time-trigger unit reaches its pulse time and fires. -/
  | ttuPulse (unit : Nat)
  /-- R294. An edge on a TTI input is stamped and captured. -/
  | ttiEdge (input : Nat) (rising : Bool)
  /-- R301. An emitter calibration cycle without capture in 1 s ends the run. -/
  | latencyCaptureTimeout
  /-- R300. A KIND 2 measurement whose show has not started in 60 s ends. -/
  | latencyStartTimeout
  /-- R300. A repeating transit or node measurement starts again at its interval. -/
  | latencyRepeatInterval (flow : Nat)
  /-- R335. A probe is answered with a probe reply within 100 µs. -/
  | ixnikProbeRx (rx : LaneFrame) (src : Endpoint) (header : Bytes) (stamp : Bytes)
  /-- R300. A probe reply contributes to a transit measurement; `stamps` are its TX_STAMP and RX_STAMP. -/
  | probeReplyRx (flow : Nat) (rx : RxFrame) (stamps : Nat × Nat) (locked : Bool) (processNs : Nat) (timing : List Nat)
  /-- R315. A SerDes lane's link comes up. -/
  | laneLinkUp (lane : Nat) (speed : Nat) (align : Nat)
  /-- R315. A SerDes lane's link goes down. -/
  | laneLinkDown (lane : Nat)
  /-- R314. An ARP request or reply is answered or resolves a destination. -/
  | arpPacketRx (rx : LaneFrame) (request : Bool) (ip : Nat) (mac : Bytes) (target : Nat)
  /-- R317. Each ARP entry is refreshed every 60 s. -/
  | arpRefresh (lane : Nat) (ip : Nat) (answered : Bool)
  /-- R314. An ICMP echo request is answered. -/
  | icmpEchoRx (rx : LaneFrame) (src : Nat) (body : Bytes)
  /-- R314. An IGMP query is answered with membership reports. -/
  | igmpQueryRx (rx : LaneFrame) (group : Nat)
  /-- R329. A received sACN data packet is used or dropped. -/
  | sacnDataRx (packet : SacnPacket)
  /-- R331. An sACN synchronization packet completes waiting data. -/
  | sacnSyncRx (rx : LaneFrame) (cid : Bytes) (sync : Nat)
  /-- R330. A source without packets for 2.5 s is lost. -/
  | sacnSourceTimeout (univ : Nat) (cid : Bytes)
  /-- R331. Data waiting 2.5 s for synchronization becomes complete. -/
  | sacnSyncTimeout (univ : Nat) (cid : Bytes)
  /-- R327. Universe discovery packets are sent every 10 s. -/
  | sacnDiscoveryTx (lane : Nat)
  /-- R334. A received Ixnik packet passes the claim rule and fills its frame. -/
  | ixnikPacketRx (rx : LaneFrame) (header : Bytes) (body : Bytes)
  /-- R346. A plain port starts a refresh of visits and any detection slot. -/
  | scanRefreshStart (port : Nat) (detect : List Bool)
  /-- R351. A memory-type port writes one line while TE reads ready. -/
  | scanLineWrite (port : Nat) (waited : Bool) (detect : List Bool)
  /-- R352. TE busy beyond TE_PERIOD_NS is counted. -/
  | teStuckTimeout (port : Nat)
  /-- R375. An RDM request or discovery branch starts in a packet gap. -/
  | rdmTransactionStart (port : Nat)
  /-- R377. An RDM response is received and checked. -/
  | rdmResponseRx (port : Nat) (response : RdmResponse)
  /-- R377. The response timeout expires and RDM_TIMEOUT is replied. -/
  | rdmResponseTimeout (port : Nat)
  /-- R389. A peer heartbeat is used and its digests compared. -/
  | heartbeatRx (beat : Heartbeat)
  /-- R393. A heartbeat timeout counts a miss, possibly causing takeover. -/
  | heartbeatTimeout
  /-- R387. The standby receives and acknowledges a command mirror. -/
  | mirrorRx (mirror : Mirror)
  /-- R387. The active member receives a mirror acknowledgement and sends the reply. -/
  | mirrorAckRx (ack : MirrorAck)
  /-- R392. A joining member receives carried state over the pair link. -/
  | syncTransferRx (frame : SyncFrame)
  /-- R401. No peer heartbeat for JOIN_WAIT_MS moves WAITING to SOLO. -/
  | joinWaitExpire
  /-- R398. After HOLD_OFF_S the primary takes the duty back. -/
  | reversion
  /-- R396. A sentinel packet from the other member may make this member yield. -/
  | sentinelRx (rx : LaneFrame) (cid : Bytes) (ownMac : Bool)
  /-- R408. Each decimated sample updates accumulators, latches, pulses and feeder windows. -/
  | meterSample (bits : List Nat)
  /-- R413. No valid cycle for 100 ms raises a line fault. -/
  | meterLineTimeout (meter : Nat)
  /-- R419. A pulse output emits a pulse at its computed time. -/
  | epoPulse (output : Nat)
  /-- R427. Voltage below V_SAFE_MV for 32 samples completes bleeding. -/
  | feederBleedDone (feeder : Nat)
  /-- R427. BLEED_MS expires before bleeding completes. -/
  | feederBleedTimeout (feeder : Nat)
  /-- R412. The main supply enters hold-up and the ledger hold-up write runs. -/
  | holdupEnter
  /-- R550. HOLDUP_SENSE 50 mV above its limit for 10 ms ends hold-up. -/
  | holdupExit
  /-- R421. On VBAT the night meter samples armed inputs each PERIOD_S. -/
  | nightMeterWindow (samples : List (List Int))
  /-- R430. The backup island samples enabled tamper inputs four times per second. -/
  | tamperSample (levels : List Bool)
  /-- R431. A tamper record is moved to the ledger within 1 ms. -/
  | tamperRecordMove
  /-- R429. Both backup supplies fall below 2.0 V and the RTC is lost. -/
  | backupPowerLoss
  /-- R449. A check channel completes a pass and compares in TE5100 mode. -/
  | chkPassComplete (channel : Nat) (outcome : PassOutcome)
  /-- R450. Firmware reloads a corrupted check expected value. -/
  | chkExpectedReloadDone (channel : Nat) (ledgerGood : Bool)
  /-- R519. A lane loopback test completes. -/
  | loopbackComplete (lane : Nat) (good : Bool)
  /-- R191. A calibration run takes readings after its settle or dark times. -/
  | calRunProgress
  /-- R190. A run whose show has not started in 60 s ends without effect. -/
  | calRunStartTimeout
  /-- R189. A due sensor script starts its I2C transaction. -/
  | sensorScriptRun (script : Nat)
  /-- R196. A sensor transaction completes with a reading and trim may update. -/
  | sensorReadingDone (script : Nat) (read : Bytes)
  /-- R189. A transaction exceeds 25 ms or is NACKed and its reading is discarded. -/
  | sensorTransactionTimeout (failed : SensorFailure)
  /-- R479. Every 1 ms all monitors are read, alarms checked and AVS stepped. -/
  | monitorSweep (readings : SweepReadings)
  /-- R67. The comparator sees VCORE below the floor for 10 µs. -/
  | vcoreUndervoltage (monitor : Nat)
  /-- R497. Waiting subscribed records are sent as a datagram at 64 records or 1 ms. -/
  | eventDatagramSend (slot : Nat)
  /-- R496. A vector's holdoff ends and a covering signal is sent. -/
  | vectorHoldoffExpire (vector : Nat)
  /-- R521. UART1 transmits a text line per logged record or drops it after 1 s. -/
  | uart1LogLine (late : Bool)
  /-- R468. Verification and writing of the staged image complete. -/
  | updateCloseComplete (outcome : WriteOutcome)
  /-- R466. 30 s without an update command releases the staging slot. -/
  | updateSlotIdleTimeout
  /-- R470. The new image runs, skipped frames are applied and the trial begins. -/
  | activationPauseEnd
  /-- R473. 90 s without HEALTH_CONFIRM falls back to the previous image. -/
  | trialTimeout
  /-- R475. The 60 s refusal of clears after 8 wrong codes ends. -/
  | ownerLockLockoutEnd
  /-- R520. 10 ms after the DEVICE_RESET reply the device resets. -/
  | deviceResetTimer
  /-- R523. Lists the Niwin commands. -/
  | niwinHelp
  /-- R523. Prints the IDENTIFY reply. -/
  | niwinId
  /-- R523. Prints decoded state, pair state, trial and boot record. -/
  | niwinState
  /-- R523. Prints the TIME_STATUS reply. -/
  | niwinTime
  /-- R523. Prints one monitor sweep. -/
  | niwinHealth
  /-- R523. Prints the newest n log records. -/
  | niwinLog (count : Nat)
  /-- R523. Prints each logged record until a key is pressed. -/
  | niwinLogFollow
  /-- R523. Prints the device counters. -/
  | niwinCounters
  /-- R523. Prints the management-lane registers. -/
  | niwinMl
  /-- R525. Enters SERVICE as SERVICE_ENTER. -/
  | niwinServiceOn
  /-- R523. Leaves SERVICE as SERVICE_EXIT. -/
  | niwinServiceOff
  /-- R523. Sets ML to DHCP and applies. -/
  | niwinMlDhcp
  /-- R523. Sets a static ML address and applies. -/
  | niwinMlStatic (address : Nat) (prefixLen : Nat) (gateway : Nat)
  /-- R523. Reads BAR0 words as REG_READ. -/
  | niwinRegRd (offset : Nat) (count : Nat)
  /-- R523. Writes a BAR0 word as REG_WRITE. -/
  | niwinRegWr (offset : Nat) (word : Reg)
  /-- R523. Prints OTP key slot state and minimum security version. -/
  | niwinOtp
  /-- R524. Prepares a key hash write and prints its commit code. -/
  | niwinOtpKey (slot : Nat) (hash : Bytes)
  /-- R524. Prepares a key slot revocation and prints its commit code. -/
  | niwinOtpRevoke (slot : Nat)
  /-- R524. Commits the prepared OTP write with its code. -/
  | niwinOtpCommit (code : Reg)
  /-- R523. Resets the device as DEVICE_RESET. -/
  | niwinReset
  /-- R524. A prepared OTP write not committed in 30 s is discarded. -/
  | otpCommitExpire
  /-- R278, R514. The management lane's link comes up or goes down, at a negotiated speed in SGMII. -/
  | mlLinkChange (up : Bool) (speed : MlSpeed)
  /-- R549. After PERST_N is released, the endpoint trains its PCIe link and the link comes up. -/
  | pcieLinkUp
  /-- R429. Power returns to the backup island after both supplies fell below 2.0 V, the RTC restarts from 0, RTC_LOST is set and the tamper inputs take their first-power settings. -/
  | backupPowerReturn
  /-- R483. After a thermal trip the boot ROM checks the sensors every 1 s and releases the reset once every sensor reads below the grade limit. -/
  | thermalHoldStep (temps : List Int)
  /-- R284. SLEW_REMAIN reaches 0 after the slew of a source change and TIME.STATE.SLEWING clears. -/
  | slewComplete
  /-- R439. Firmware completes the restore of the admitted schedule from image copy A or B after an uncorrectable error, after which SHOW_RESUME is accepted. -/
  | scheduleRestoreDone
  /-- R515. An RFC 2131 lease timer of the ML DHCPv4 client runs out, so the client sends a request to renew or obtain a lease, or the lease expires. -/
  | dhcpLeaseTimer (timer : LeaseTimer)
  /-- R523. A key pressed on UART0 ends a running log follow command. -/
  | niwinKeyPress
  /-- R548. The internal detector sees VCORE below 0.55 V or VIO4 below 1.45 V and holds the device in reset until both recover. -/
  | resetDetectorTrip
  deriving DecidableEq, Repr

end Sys2Proof
end

