-- ==== Sys2Proof/Decode.lean ====
section
/-! DEFINITION. The command that a word spells. The opcode table gives its rows no bits: the commands of the block reach it
as command packets (decoded by `Machine.packetReq` and `Machine.checkPacket`, R81-R83), as register accesses and as
events, so that no word spells one. -/

namespace Sys2Proof

/-- The command that a word of `nbits` bits spells by the table's bits: none, since no row gives bits. -/
def decodeTableWord (_nbits _w : Nat) : Option Instr := none

end Sys2Proof
end

