-- ==== Sys2Proof/Machine/Bytes.lean ====
section
/-! DEFINITION. Byte strings read and written in little-endian order (R10), tables keyed by number, bits of words, and
the saturating counters of the device. -/

namespace Sys2Proof

/-- The number that bytes spell, least significant byte first (R10). -/
def leNat : Bytes → Nat
  | [] => 0
  | b :: bs => b.toNat + 256 * leNat bs

/-- A number in `n` bytes, least significant byte first (R10). -/
def leBytes : Nat → Nat → Bytes
  | 0, _ => []
  | n + 1, w => BitVec.ofNat 8 w :: leBytes n (w / 256)

/-- A number in `n` bytes, most significant byte first, as the Ixnik header has it (R332). -/
def beBytes (n w : Nat) : Bytes := (leBytes n w).reverse

/-- The number that bytes spell, most significant byte first. -/
def beNat (b : Bytes) : Nat := leNat b.reverse

/-- `len` bytes from offset `off`. -/
def slice (b : Bytes) (off len : Nat) : Bytes := (b.drop off).take len

/-- An unsigned field of `n` bytes. -/
def uAt (b : Bytes) (off n : Nat) : Nat := leNat (slice b off n)

/-- An unsigned field of one byte. -/
abbrev u8 (b : Bytes) (off : Nat) : Nat := uAt b off 1
/-- An unsigned field of two bytes. -/
abbrev u16 (b : Bytes) (off : Nat) : Nat := uAt b off 2
/-- An unsigned field of four bytes. -/
abbrev u32 (b : Bytes) (off : Nat) : Nat := uAt b off 4
/-- An unsigned field of eight bytes. -/
abbrev u64 (b : Bytes) (off : Nat) : Nat := uAt b off 8

/-- A frame number: bits 47:0 of a field of eight bytes. -/
def u48 (b : Bytes) (off : Nat) : Nat := uAt b off 6

/-- The two's complement reading of a number of `bits` bits. -/
def signed (bits w : Nat) : Int :=
  if w % 2 ^ bits < 2 ^ (bits - 1) then (w % 2 ^ bits : Nat) else (w % 2 ^ bits : Nat) - (2 ^ bits : Nat)

/-- The two's complement encoding of an integer in `bits` bits. -/
def unsigned (bits : Nat) (i : Int) : Nat := (i % (2 ^ bits : Nat)).toNat

/-- A signed field of `n` bytes. -/
def iAt (b : Bytes) (off n : Nat) : Int := signed (8 * n) (uAt b off n)

/-- A signed number in `n` bytes. -/
def leInt (n : Nat) (i : Int) : Bytes := leBytes n (unsigned (8 * n) i)

/-- A byte string with new bytes at an offset. -/
def putAt (b : Bytes) (off : Nat) (new : Bytes) : Bytes := b.take off ++ new ++ b.drop (off + new.length)

/-- `n` bytes of zero. -/
def zeros (n : Nat) : Bytes := List.replicate n 0

/-- A byte string cut or filled with zeros to `n` bytes. -/
def padTo (n : Nat) (b : Bytes) : Bytes := (b ++ zeros (n - b.length)).take n

/-- `count` records of `size` bytes from offset `off`. -/
def records (b : Bytes) (off size count : Nat) : List Bytes :=
  (List.range count).map fun i => slice b (off + size * i) size

/-- Bit `i` of a number. -/
abbrev bit (w i : Nat) : Bool := w.testBit i

/-- Bits `hi` to `lo` of a number. -/
def field (w hi lo : Nat) : Nat := w / 2 ^ lo % 2 ^ (hi + 1 - lo)

/-- The weight of bit `i` where `c` holds. -/
def flag (c : Bool) (i : Nat) : Nat := if c then 2 ^ i else 0

/-- A list of bits as a number, bit 0 first. -/
def packBits (l : List Bool) : Nat := l.foldr (fun b n => (if b then 1 else 0) + 2 * n) 0

/-- A 32-bit register word of a number. -/
def word (n : Nat) : Reg := BitVec.ofNat 32 n

/-- Addition to a 32-bit saturating counter. -/
def satAdd (a b : Nat) : Nat := min (a + b) 0xFFFF_FFFF

/-- One step of a 32-bit saturating counter. -/
def satInc (a : Nat) : Nat := satAdd a 1

/-- The quotient rounded up. -/
def ceilDiv (a b : Nat) : Nat := (a + b - 1) / b

/-- `x` limited to the range `lo` to `hi`. -/
def clampN (lo hi x : Nat) : Nat := max lo (min hi x)

/-- `x` limited to the range `lo` to `hi`. -/
def clampI (lo hi x : Int) : Int := max lo (min hi x)

/-- The entry of a table under a number. -/
def Tab.find {α : Type} (t : Tab α) (k : Nat) : Option α :=
  match t with
  | [] => none
  | (i, a) :: rest => if i = k then some a else Tab.find rest k

/-- The entry of a table under a number, or what stands for an entry that is not listed. -/
def Tab.getD {α : Type} (t : Tab α) (k : Nat) (d : α) : α := (Tab.find t k).getD d

/-- Whether a table lists a number. -/
def Tab.has {α : Type} (t : Tab α) (k : Nat) : Bool := (Tab.find t k).isSome

/-- A table with an entry put under a number; the numbers stay in rising order. -/
def Tab.put {α : Type} (t : Tab α) (k : Nat) (a : α) : Tab α :=
  match t with
  | [] => [(k, a)]
  | (i, b) :: rest => if k < i then (k, a) :: (i, b) :: rest
      else if i = k then (k, a) :: rest else (i, b) :: Tab.put rest k a

/-- A table without the entry under a number. -/
def Tab.del {α : Type} (t : Tab α) (k : Nat) : Tab α := t.filter fun e => e.1 ≠ k

/-- A table whose entry under a number is changed, starting from `d` where none is listed. -/
def Tab.upd {α : Type} (t : Tab α) (k : Nat) (d : α) (f : α → α) : Tab α := Tab.put t k (f (Tab.getD t k d))

/-- A table with every entry changed. -/
def Tab.mapV {α : Type} (t : Tab α) (f : Nat → α → α) : Tab α := t.map fun e => (e.1, f e.1 e.2)

/-- Bytes under a mask given as runs of (bytes, mask); those beyond the mask stay. -/
def maskBytes (m : List (Nat × Nat)) (d : Bytes) : Bytes :=
  let l := m.flatMap fun e => List.replicate e.1 (BitVec.ofNat 8 e.2)
  List.zipWith (fun a b => a &&& b) l d ++ d.drop l.length

end Sys2Proof
end

