-- ==== Sys2Proof/Machine/Float32.lean ====
section
/-! DEFINITION. IEEE 754 binary32 arithmetic with round to nearest, ties to even (R177). A finite value is a sign and a
whole number of units of 2^-149, the spacing of the subnormals, so that sums, products and quotients are exact ratios
of naturals that are rounded once. -/

namespace Sys2Proof

/-- A binary32 value. -/
inductive F32 where
  | nan
  | inf (neg : Bool)
  | fin (neg : Bool) (k : Nat)
  deriving DecidableEq, Repr

namespace F32

/-- A ratio rounded to a whole number, to nearest with ties to even. -/
def roundQuot (num den : Nat) : Nat :=
  let q := num / den
  let r := num % den
  if 2 * r < den then q else if 2 * r = den then (if q % 2 = 0 then q else q + 1) else q + 1

/-- A non-negative ratio of units rounded to a binary32 magnitude: 24 significant bits, or infinity from 2^128 on. -/
def round (neg : Bool) (num den : Nat) : F32 :=
  let q := num / den
  let s := if q < 2 ^ 24 then 0 else Nat.log2 q - 23
  let k := roundQuot num (den * 2 ^ s) * 2 ^ s
  if k ≥ 2 ^ 277 then .inf neg else .fin neg k

/-- The value of a natural number. -/
def ofNat (n : Nat) : F32 := round false (n * 2 ^ 149) 1

/-- The value of an integer. -/
def ofInt (i : Int) : F32 := round (i < 0) (i.natAbs * 2 ^ 149) 1

/-- A non-negative ratio. -/
def ofRat (num den : Nat) : F32 := round false (num * 2 ^ 149) den

/-- Zero and one. -/
def zero : F32 := .fin false 0
def one : F32 := ofNat 1

/-- The value that 32 bits spell. -/
def ofBits (b : Nat) : F32 :=
  let neg := b.testBit 31
  let e := b / 2 ^ 23 % 256
  let f := b % 2 ^ 23
  if e = 255 then (if f = 0 then .inf neg else .nan)
  else if e = 0 then .fin neg f
  else .fin neg ((2 ^ 23 + f) * 2 ^ (e - 1))

/-- The bits of a value; a NaN is the quiet one. -/
def toBits : F32 → Nat
  | .nan => 0x7FC00000
  | .inf neg => (if neg then 2 ^ 31 else 0) + 0x7F800000
  | .fin neg k =>
    (if neg then 2 ^ 31 else 0) +
      (if k < 2 ^ 23 then k else
        let s := Nat.log2 k - 23
        (s + 1) * 2 ^ 23 + k / 2 ^ s % 2 ^ 23)

/-- The opposite value. -/
def neg : F32 → F32
  | .nan => .nan
  | .inf n => .inf (!n)
  | .fin n k => .fin (!n) k

/-- The sum. -/
def add : F32 → F32 → F32
  | .nan, _ => .nan
  | _, .nan => .nan
  | .inf a, .inf b => if a = b then .inf a else .nan
  | .inf a, .fin _ _ => .inf a
  | .fin _ _, .inf b => .inf b
  | .fin a j, .fin b k =>
    if a = b then round a (j + k) 1
    else if j = k then .fin false 0
    else if j > k then round a (j - k) 1 else round b (k - j) 1

/-- The difference. -/
def sub (a b : F32) : F32 := add a (neg b)

/-- The product. -/
def mul : F32 → F32 → F32
  | .nan, _ => .nan
  | _, .nan => .nan
  | .inf a, .inf b => .inf (a != b)
  | .inf a, .fin b k => if k = 0 then .nan else .inf (a != b)
  | .fin a j, .inf b => if j = 0 then .nan else .inf (a != b)
  | .fin a j, .fin b k => round (a != b) (j * k) (2 ^ 149)

/-- The quotient. -/
def div : F32 → F32 → F32
  | .nan, _ => .nan
  | _, .nan => .nan
  | .inf _, .inf _ => .nan
  | .inf a, .fin b _ => .inf (a != b)
  | .fin a _, .inf b => .fin (a != b) 0
  | .fin a j, .fin b k => if k = 0 then (if j = 0 then .nan else .inf (a != b)) else round (a != b) (j * 2 ^ 149) k

/-- A finite value as an integer number of units. -/
def units (neg : Bool) (k : Nat) : Int := if neg then -(k : Int) else k

/-- Less than; false with a NaN. -/
def lt : F32 → F32 → Bool
  | .nan, _ => false
  | _, .nan => false
  | .inf a, .inf b => a && !b
  | .inf a, .fin _ _ => a
  | .fin _ _, .inf b => !b
  | .fin a j, .fin b k => units a j < units b k

/-- Equal; false with a NaN, and the two zeros are equal. -/
def eq : F32 → F32 → Bool
  | .nan, _ => false
  | _, .nan => false
  | .inf a, .inf b => a = b
  | .inf _, .fin _ _ => false
  | .fin _ _, .inf _ => false
  | .fin a j, .fin b k => units a j = units b k

/-- Less or equal. -/
def le (a b : F32) : Bool := lt a b || eq a b

/-- The greater of two, as `a > b ? a : b`. -/
def max (a b : F32) : F32 := if lt b a then a else b

/-- The integer of a finite value, truncated toward zero (R177); `d` where there is none. -/
def trunc (d : Int) : F32 → Int
  | .nan => d
  | .inf _ => d
  | .fin neg k => if neg then -((k / 2 ^ 149 : Nat) : Int) else (k / 2 ^ 149 : Nat)

/-- The value rounded to the nearest integer, halves up: 0.5 is added and the floor taken exactly. -/
def nearest (d : Int) : F32 → Int
  | .nan => d
  | .inf _ => d
  | .fin neg k => (units neg k + 2 ^ 148) / 2 ^ 149

/-- Whether a value is finite. -/
def finite : F32 → Bool
  | .fin _ _ => true
  | _ => false

end F32

end Sys2Proof
end

