-- ==== Sys2Proof/Config.lean ====
section
/-! DEFINITION. What a unit or its surroundings fix and the manual leaves open: constants without a body, so that
nothing can be proved of their values. Each is named in the assumption log. -/

namespace Sys2Proof

/-- DESIGN CHOICE (log entry 3). A fresh word the manual does not state, drawn with the model's counter `fresh`. -/
opaque Config.freeWord : Nat → BitVec 32

/-- DESIGN CHOICE (log entry 8). The lane speed factor in thousandths that the unit computes for a VCORE floor in mV
and a maximum Tj in degrees (R66); the process measurement at boot is the unit's own. -/
opaque Config.laneSpeed : Nat → Int → Nat

/-- DESIGN CHOICE (log entry 8). The rated-corner cycle time in ps of process monitor p for a VCORE floor and a
maximum Tj (R482). -/
opaque Config.pmRef : Nat → Nat → Int → Nat

/-- DESIGN CHOICE (log entry 8). The cycle time in ps that the model predicts for process monitor p at the present
VCORE in mV and Tj in 1/16 degree (R67, R482). -/
opaque Config.pmPredict : Nat → Nat → Int → Nat

/-- DESIGN CHOICE (log entry 4). The die identity, 16 bytes (R458, R508). -/
opaque Config.dieIdentity : Bytes

/-- DESIGN CHOICE (log entry 4). The sACN CID derived from the serial number (R458). -/
opaque Config.defaultCid : Bytes

/-- DESIGN CHOICE (log entry 4). The locally administered MAC base derived from the serial number (R458). -/
opaque Config.defaultMac : Bytes

/-- DESIGN CHOICE (log entry 10). Foreground DRAM traffic of a slot in MB/s, from the frame period in ns, the bytes that
layers fetch in a frame, and the number of elements of each job kind (R72 gives the limit and not the traffic of an
element). -/
opaque Config.dramTraffic : Nat → Nat → List (Nat × Nat) → Nat

/-- DESIGN CHOICE (log entry 10). On-wire bytes of a frame of heartbeats and of buffer copies of a number of bytes on the
pair-link lane (R223, R383 count them and give no packet format). -/
opaque Config.pairBytes : Nat → Nat

/-- DESIGN CHOICE (log entry 10). On-wire bytes of a received video frame of a number of pixels, the sender's packing being
its own (R226). -/
opaque Config.videoBytes : Nat → Nat

/-- DESIGN CHOICE (log entry 10). On-wire bytes per second that the senders of a received universe send (R328 states no
rate). -/
opaque Config.universeRate : Nat → Nat

/-- DESIGN CHOICE (log entry 10). On-wire bytes of a received node feed's frame of a number of payload bytes, the
sender's packing being its own (R333). -/
opaque Config.feedBytes : Nat → Nat

/-- DESIGN CHOICE (log entry 10). State SRAM in bytes that the admitted schedule of a number of jobs takes (R36, R72). -/
opaque Config.scheduleBytes : Nat → Nat

/-- DESIGN CHOICE (log entry 10). Bytes of DRAM that the encoded output frames take (R36, R72). -/
opaque Config.encodedBytes : Nat → Nat

/-- DESIGN CHOICE (log entry 11). The part of a measured offset, in 2^-16 ns, that one servo update of a loop
bandwidth in mHz removes (R281 gives the bandwidth and not the gains). -/
opaque Config.servoPhase : Nat → Int → Int

/-- DESIGN CHOICE (log entry 11). The frequency estimate in 2^-8 ppb after a servo update, from the bandwidth, the
estimate before and the offset (R281). -/
opaque Config.servoFreq : Nat → Int → Int → Int

/-- DESIGN CHOICE (log entry 11). The clockAccuracy that the unit announces as a master (R272 names the algorithm). -/
opaque Config.clockAccuracy : Nat

/-- DESIGN CHOICE (log entry 11). The offsetScaledLogVariance that the unit announces as a master. -/
opaque Config.clockVariance : Nat

/-- DESIGN CHOICE (log entry 11). The unit's clockIdentity. -/
opaque Config.clockIdentity : Nat

/-- DESIGN CHOICE (log entry 12). Where a scan region starts in its source before it is brought into its range: from the
region and a number of its content (R447). -/
opaque Config.regionStart : Nat → Nat → Nat

/-- DESIGN CHOICE (log entry 12). The length of a scan region, as for its start. -/
opaque Config.regionLength : Nat → Nat → Nat

/-- DESIGN CHOICE (log entry 12). A word of a ledger region whose layout the manual does not give, as the window shows it:
from the region's offset, what the region holds, and the word's offset (R443, R445). -/
opaque Config.ledgerWord : Nat → List Nat → Nat → BitVec 32

/-- DESIGN CHOICE (log entry 12). A byte of a saved copy of the configuration or the calibration sets, whose layout the
manual does not give: from the address and the copy's sequence number (R476). -/
opaque Config.savedByte : Nat → Nat → Byte

/-- DESIGN CHOICE (log entry 12). What a byte of flash holds after an operation on it that did not complete: from the
draw and the address (R457, R468). -/
opaque Config.flashByte : Nat → Nat → Byte

/-- DESIGN CHOICE (log entry 12). Whether the flash part completes an operation within its time (R457), from the draw. -/
opaque Config.flashDone : Nat → Bool

/-- DESIGN CHOICE (log entry 4). The version that the recovery loader in the boot ROM reports (R462, R558). -/
opaque Config.loaderVersion : Nat

/-- DESIGN CHOICE (log entry 13). The byte image of a configuration over which the members of a pair take their
digest (R381 names its content and not its layout). -/
opaque Config.digestImage : Bytes → Bytes

/-- DESIGN CHOICE (log entry 267). VOUT_COMMAND for a number of mV in a format of VOUT_MODE that is not linear (R485). -/
opaque Config.voutWord : Nat → Nat → Nat

/-- DESIGN CHOICE (log entry 198). Whether UART0 keeps up with the records of `log follow`, by the entry number and the time (R523). -/
opaque Config.uart0KeepsUp : Nat → Nat → Bool

/-- DESIGN CHOICE (log entry 135). The level of a scan port's TE input, 1 for ready, at a time since reset (R365). -/
opaque Config.teLevel : Nat → Nat → BitVec 1

end Sys2Proof
end

