-- ==== Sys2Proof/Machine/State.lean ====
section
/-! DEFINITION. The state of the frame engine as plain data, by chapter of the manual, the reasons a step can stop, and
the state right after reset. -/

namespace Sys2Proof.Machine

/-- Why the machine stops with a fault: nothing does. The manual has no rule by which the block stops, and a command or
event that names nothing the device has changes nothing (R6, R11; log entry 14). Safe: no behaviour is cut off. -/
inductive Fault where
  deriving DecidableEq, Repr

/-- Why a command is refused by the model itself. -/
inductive Refusal where
  /-- The model has no meaning for the command yet; raised by the dispatch only. Safe: nothing is claimed of it. -/
  | notModelled (mnemonic : String)
  deriving DecidableEq, Repr

/-! ## Replies, outputs and events -/

/-- What a command answers: status, DETAIL, frame if valid, and payload (R84). -/
structure Ans where
  status  : Nat := 0
  detail  : Nat := 0
  frame   : Option Nat := none
  payload : Bytes := []
  deriving DecidableEq, Repr

/-- A reply as it leaves the block (R84): `length` is the full payload length, the payload is as truncated. -/
structure Reply where
  op        : Nat
  session   : Nat
  tag       : Nat
  ans       : Ans
  length    : Nat
  truncated : Bool
  dup       : Bool := false
  deriving DecidableEq, Repr

/-- An event record (R490); `inst` and `value` are bytes 24-27 and 28-31 as words, also where R491 lays them out
otherwise. -/
structure EventRec where
  src        : Nat
  cls        : Nat
  overrun    : Bool := false
  corrupt    : Bool := false
  frameNamed : Bool
  seq        : Nat
  ns         : Nat
  sec        : Nat
  frame      : Nat
  inst       : Nat
  value      : Nat
  deriving DecidableEq, Repr

/-- The link, IPv4 and UDP fields of a packet on a lane: the counter time of its time-stamp point, MAC addresses, the VLAN
tag with PCP (0 untagged), DSCP, IPv4 addresses, and the UDP ports as (source, destination) (R277, R312, R316). -/
structure Header where
  start  : Nat
  dest   : Bytes
  source : Bytes
  tag    : Nat
  dscp   : Nat
  ipFrom : Nat
  ipTo   : Nat
  ports  : Option (Nat × Nat)
  deriving DecidableEq, Repr

/-- A line or key of Niwin (R522, R523). -/
inductive Line where
  | help | id | state | time | health
  | log (count : Nat)
  | follow | counters | ml | serviceOn | serviceOff | mlDhcp
  | mlStatic (address prefixLen gateway : Nat)
  | regRd (offset count : Nat)
  | regWr (offset : Nat) (word : Reg)
  | otp
  | otpKey (slot : Nat) (hash : Bytes)
  | otpRevoke (slot : Nat)
  | otpCommit (code : Reg)
  | reset | key
  deriving DecidableEq, Repr

/-- What leaves the block. The list of these is the model's own field: it is how statements speak of what the outside
sees. -/
inductive Output where
  /-- A reply ring entry of a PCIe pair, with its index and PHASE (R93). -/
  | replyEntry (pair index : Nat) (phase : Bool) (reply : Reply)
  /-- A reply datagram of the management lane, from the address to which its command was sent, and the fragments in which it
  leaves: offset and bytes of each in the IP payload (R97, R514, R515). -/
  | replyDatagram (source : Nat) (dest : Endpoint) (reply : Reply) (parts : List (Nat × Nat))
  /-- An event ring entry with its index and PHASE (R495). -/
  | eventEntry (index : Nat) (phase : Bool) (event : EventRec)
  /-- An event datagram of a subscription, from the address in use and a port: its reply header, its records as the payload,
  and its fragments (R497, R514, R515). -/
  | eventDatagram (source : Endpoint) (dest : Endpoint) (reply : Reply) (parts : List (Nat × Nat))
  /-- An MSI-X message: its vector, with the address and the data of the vector's table entry (R496, R509, R513). -/
  | msix (vector address data : Nat)
  /-- A BAR0 read completion: the words returned (R511). -/
  | readData (words : List Reg)
  /-- A text line of Niwin on UART0 (R522). -/
  | uart0 (line : String) (values : List Nat)
  /-- The echo of a line or key on UART0 (R522). -/
  | uart0Echo (line : Line)
  /-- A log line on UART1, with the number of lines dropped before it (R521). -/
  | uart1 (dropped entry : Nat) (event : EventRec)
  /-- A packet on a SerDes lane, or on ML as lane 16: what it is, its header, and the bytes after it. -/
  | lanePacket (lane : Nat) (kind : String) (head : Header) (body : Bytes)
  /-- What a node reports of a receive record with a probe reply (R300, R372): its lane and flow, whether the node is LOCKED,
  the processing time in ns, and for each DMX port of the record BREAK_US, MAB_US, slot time and LEAD_US. -/
  | nodeReport (lane flow : Nat) (locked : Bool) (processNs : Nat) (timing : List Nat)
  /-- An Ethernet frame of a launch queue, as the host built it, and its start (R336, R337). -/
  | queuePacket (lane start : Nat) (frame : Bytes)
  /-- The link of a lane went down while it carried packets: what had not left at a counter time is discarded (R315). -/
  | laneCut (lane time : Nat)
  /-- A packet on the management lane. -/
  | mlPacket (kind : String) (body : Bytes)
  /-- A frame of a flow issued at its launch instant: the frame, whether it is a repeat, sequence number, universes or
  pixel bytes (R48, R53). -/
  | launch (flow frame : Nat) (repeated : Bool) (seqs : List Nat) (body : List Bytes)
  /-- A pulse of a time-trigger unit on a pin TTOn: the counter times of its start and of its end, WIDTH_NS later, and whether the
  pin is active low (R291, R292). -/
  | pulse (unit pin start stop : Nat) (activeLow : Bool)
  /-- A refresh or fault action of a scan port. -/
  | scan (port : Nat) (kind : String) (values : List Nat)
  /-- A DMX line frame or request, and whether DE is active low (R366, R368). -/
  | dmx (port : Nat) (kind : String) (deLow : Bool) (body : Bytes)
  /-- A message on the pair link. -/
  | pairLink (kind : String) (values : List Nat) (body : Bytes)
  /-- A sync transfer on the pair link (R392). -/
  | syncTransfer (part : SyncPart)
  /-- An I2C script, a PMBus write or an xSPI action. -/
  | bus (kind : String) (values : List Nat)
  /-- An energy output or a feeder output that goes active or inactive, or MCLK1 as the night meter drives it: whether the
  ball is active low, and the time since reset (R418, R419, R421, R424, R427). -/
  | power (kind : String) (index : Nat) (on activeLow : Bool) (time : Nat)
  /-- The balls of an I/O bank, or of every bank, go to the reset states of R535 at a time: packets, pulses and refreshes
  under way end (R362, R427, R535, R551). -/
  | ballsReset (bank : Option Nat) (time : Nat)
  deriving DecidableEq, Repr

/-! ## Global (01) -/

/-- The show states of R42 and R56. -/
inductive ShowState where
  | idle | configured | running | armed | safeHold
  deriving DecidableEq, Repr

/-- The device states of R42. -/
inductive DeviceState where
  | operational | boot | service | updatePause
  deriving DecidableEq, Repr

/-- Unit identity and what the board fits: variant (false TE8200, true TE8220), grade (false -C, true -I), stepping, flash
size in MiB, DRAM installed in GiB and its transfer rate in MT/s (R7, R41, R435, R455). -/
structure Fuses where
  te8220   : Bool := false
  gradeI   : Bool := false
  stepping : Nat := 0
  flashMiB : Nat := 64
  dramGiB  : Nat := 8
  dramRate : Nat := 6400
  deriving DecidableEq, Repr

/-- The GLOBAL block and the show (R40-R43, R56), the frame of the most recent cut (`none` before the first) and the
frame whose cut is the first of a started show, when it is not yet made, and the watchdog history of the supervisor
cores (R34). -/
structure Global where
  show_     : ShowState := .idle
  device    : DeviceState := .boot
  frame     : Option Nat := none
  frameHi   : Nat := 0
  scratch   : Reg := 0
  firstCut  : Option Nat := none
  /-- The time of the last watchdog expiry of each core, where there is one. -/
  coreLast  : Tab Nat := []
  /-- The cores that are restarting. -/
  restarting : List Nat := []
  /-- The balls that changed owner at a press, with the instant from which the new owner drives them (R539). -/
  freed     : Tab Nat := []
  /-- The frame of the most recent cut, as events carry it (R490). -/
  lastCut   : Nat := 0
  deriving DecidableEq, Repr

/-! ## Host queues and sessions (03) -/

/-- Where a command or a session comes from (R101). -/
inductive Source where
  | pcie
  | ml (e : Endpoint)
  /-- The firmware itself, for the session of AUTOLOAD (R477). -/
  | firmware
  deriving DecidableEq, Repr

/-- What an accepted command that has not answered waits for. -/
inductive Wait where
  /-- Nothing: its reply is ready, or its pair is about to send it. -/
  | nothing
  /-- Nothing: it executes in the present step. -/
  | executing
  /-- A fence: every earlier command of the pair has replied and every earlier deferred command has completed; `inTurn` for
  a command of class I, S or X (R103, R104). -/
  | fence (req : Req) (inTurn : Bool)
  /-- Its turn: the commands of classes I, S and X of a pair run one at a time (R103). -/
  | turn (req : Req)
  /-- The RDM transaction of a port (R377). -/
  | rdm (port : Nat)
  /-- The discard point of a flow's rinse (R320). -/
  | rinse (flow : Nat)
  /-- The mirror acknowledgement of a class T command, with the answer that then goes out (R387). -/
  | mirror (seq : Nat) (ans : Ans)
  /-- The end of the activation pause (R470). -/
  | activation
  deriving DecidableEq, Repr

/-- An accepted command in ring order, until its reply is written (R86, R103, R109). -/
structure Slot where
  op       : Nat
  session  : Nat
  tag      : Nat
  rplSize  : Nat
  deadline : Option Nat
  wait     : Wait := .nothing
  /-- The command carries an at-frame field. -/
  af       : Bool := false
  ans      : Option Ans := none
  /-- Its session was open at acceptance and belongs to the source of the pair (R83). -/
  own      : Bool := false
  /-- The jobs of the class D commands accepted before it that had not completed (R104). -/
  jobs     : List Nat := []
  /-- The job id of a command that waits and can answer ACCEPTED_DEFERRED (R558). -/
  job      : Option Nat := none
  /-- The address of ML that it was sent to, or that was in use at acceptance (R515). -/
  sentTo   : Nat := 0
  /-- Its number in the order in which the device accepted its commands (R86, R138). -/
  order    : Nat := 0
  deriving DecidableEq, Repr

/-- The HOSTQ registers and the queue of one ring pair (R94-R99). -/
structure RingPair where
  enable    : Bool := false
  ml        : Bool := false
  rinse     : Bool := false
  running   : Bool := false
  cmdBase   : Nat := 0
  rplBase   : Nat := 0
  kCmd      : Nat := 4
  kRpl      : Nat := 4
  /-- Base and size registers as ENABLE latched them. -/
  latched   : Nat × Nat × Nat × Nat := (0, 0, 4, 4)
  cmdTail   : Nat := 0
  cmdHead   : Nat := 0
  rplHead   : Nat := 0
  rplTail   : Nat := 0
  vector    : Reg := 0
  lateReply : Nat := 0
  mlDrop    : Nat := 0
  error     : Nat := 0
  rinsed    : Nat := 0
  slots     : List Slot := []
  /-- Commands that run on after their EXPIRED reply (R109). -/
  late      : List Slot := []
  /-- The instant at which the front reply found its ring full. -/
  heldSince : Option Nat := none
  /-- That reply has been held for 1 ms and was reported (R105). -/
  stalled   : Bool := false
  bound     : Option Endpoint := none
  /-- The instant since when the endpoint of a binding has had no session and no command. -/
  idleSince : Option Nat := none
  /-- Datagrams in the command ring of an ML pair, oldest first, with the addresses of ML they were sent to (R97, R515). -/
  ring      : List (Nat × Bytes) := []
  /-- The most recent replies of an ML pair, newest last (R99). -/
  cache     : List Reply := []
  deriving DecidableEq, Repr

/-- The HOSTQ block (R94). -/
structure HostQ where
  pairs     : Tab RingPair := []
  mlUnbound : Nat := 0
  mlDup     : Nat := 0
  /-- The number of commands accepted: the place of the next one in the order of acceptance (R86, R138). -/
  accepted  : Nat := 0
  deriving DecidableEq, Repr

/-- A finished command of a session (R110). -/
structure Finished where
  tag    : Nat
  op     : Nat
  status : Nat
  detail : Nat
  frame  : Option Nat
  /-- The command carried an at-frame field. -/
  af     : Bool := false
  deriving DecidableEq, Repr

/-- A session slot (R100-R102). -/
structure Session where
  isOpen    : Bool := false
  gen       : Nat := 0
  source    : Source := .pcie
  keepalive : Nat := 0
  lastUse   : Nat := 0
  finished  : List Finished := []
  deriving DecidableEq, Repr

/-- A deferred command that runs in the background (R90). -/
structure Job where
  id      : Nat
  op      : Nat
  session : Nat
  tag     : Nat
  deriving DecidableEq, Repr

/-- Deferred commands and the counter of job ids (R558). -/
structure Jobs where
  next     : Nat := 1
  active   : List Job := []
  /-- The ids of class D commands that wait behind their fences. -/
  waiting  : List Nat := []
  /-- The id of the fenced class D command that executes in the present step. -/
  reserved : Option Nat := none
  /-- The loopback tests that run, oldest first: lane and job id (R519). -/
  loops  : List (Nat × Nat × Nat) := []
  deriving DecidableEq, Repr

/-- A class T command that waits for its cut: opcode, request and, in the timed queue, its frame (R88, R106). A command
without a frame is in the cut queue; `fixed` is the frame of its reply, where that was known (R87), and `order` its number
in the order of acceptance (R103, R138). -/
structure Queued where
  op    : Nat
  req   : Req
  frame : Option Nat
  /-- Its mirror sequence number, once mirrored (R387). -/
  seq   : Option Nat := none
  fixed : Option Nat := none
  order : Nat := 0
  deriving DecidableEq, Repr

/-- The cut queue and the timed queue (R88, R106), as one list in the order of acceptance, in which the commands of one
frame take effect (R103, R138). -/
structure RealTime where
  queue : List Queued := []
  deriving DecidableEq, Repr

/-! ## Configuration, staging and admission (02) -/

/-- The kinds of record a configuration is made of, one for each layout of the staged opcodes. -/
inductive RecKind where
  | frame | dispatch | jobSize | level | peg | envelope | role | ftype | patch | rxMap | playback | curve | effect
  | assign | space | mix | dimCurve | calSet | binding | group | script | canvas | layer | pixmap | pixseg | video
  | witness | lane | flow | sacnSource | sacnFlow | sacnRx | ixTx | ixRx | scan | scanGroup | seam | dmx | clock
  | domain | port | ltc | fsync | trigger | capture | pair | meter | pulse | night | tamper | feeder
  deriving DecidableEq, Repr

/-- One record of a configuration: its kind, the number of its object, and its bytes in the opcode's layout. -/
structure Rec where
  kind : RecKind
  num  : Nat
  data : Bytes
  deriving DecidableEq, Repr

/-- A configuration: its records; the generators whose EFFECT_DEFINE carried APPLY (R173); the calibration sets that
CALSET_LOAD staged (R192); the flows that FLOW_DELETE removed from the area (R316). -/
structure Cfg where
  recs   : List Rec := []
  apply  : List Nat := []
  loaded : List Nat := []
  deleted : List Nat := []
  deriving DecidableEq, Repr

/-- A job of the admitted schedule (R69, R241-R248): number, kind code, elements, cost in eighths of an eu, level, the
lane it is pegged to, the flows it feeds, the jobs whose results it reads, and the witness windows it covers. -/
structure SchedJob where
  num      : Nat
  kind     : Nat
  elements : Nat
  cost     : Nat
  level    : Nat := 8
  peg      : Option Nat := none
  feeds    : List Nat := []
  reads    : List Nat := []
  wins     : List Nat := []
  deriving DecidableEq, Repr

/-- An admitted schedule (R60, R70): jobs, P rounded down, applied f_c, slot bound, budget, W in eighths. -/
structure Sched where
  jobs   : List SchedJob := []
  period : Nat := 0
  speed  : Nat := 0
  slotNs : Nat := 0
  budget : Int := 0
  work   : Nat := 0
  deriving DecidableEq, Repr

/-- A failed check or a margin of the admission report (R79). -/
structure AdmitRec where
  check  : Nat
  ruleNo : Nat := 0
  ownerA : Nat
  ownerB : Option Nat := none
  slack  : Int := 0
  demand : Nat := 0
  limit  : Nat := 0
  deriving DecidableEq, Repr

/-- The admission report (R78). -/
structure Report where
  id      : Nat
  status  : Nat
  recs    : List AdmitRec
  period  : Nat
  speed   : Nat
  depth   : Nat
  flags   : Nat
  slotNs  : Nat
  budget  : Int
  work    : Nat
  floor   : Nat
  tjMax   : Int
  deriving DecidableEq, Repr

/-- A configuration that is admitted and waits for its press (R61, R62). -/
structure Pending where
  cfg   : Cfg
  sched : Sched
  frame : Option Nat
  id    : Nat
  deriving DecidableEq, Repr

/-- The admission under way (R60). -/
structure Admitting where
  job   : Job
  flags : Nat
  frame : Option Nat
  area  : Cfg
  deriving DecidableEq, Repr

/-- The staging area and what admission holds (R58-R62, R78). -/
structure Stage where
  holder    : Option Nat := none
  area      : Cfg := {}
  admitting : Option Admitting := none
  pending   : Option Pending := none
  report    : Option Report := none
  deriving DecidableEq, Repr

/-- The configuration in force and its schedule; `none` before the first admission. -/
structure InForce where
  cfg   : Cfg
  sched : Sched
  deriving DecidableEq, Repr

/-! ## Parameters, playbacks and effects (04, 05) -/

/-- A value with its priority and the frame of its key (R131). -/
structure Valued where
  value : Nat
  pri   : Nat
  frame : Nat
  deriving DecidableEq, Repr

/-- The state of one patched parameter (R129): outputs of the last two cuts, the source that won (R142), the live
value, and the received value, which is present while its map is (R140). -/
structure Par where
  out     : Nat
  prev    : Nat
  cls     : Nat := 0
  index   : Nat := 0
  live    : Option Valued := none
  rx      : Option Valued := none
  rxHere  : Bool := false
  deriving DecidableEq, Repr

/-- Parameters and whether a cut was made under the configuration in force (R142). -/
structure Params where
  tab : Tab Par := []
  cut : Bool := false
  deriving DecidableEq, Repr

/-- A stored cue (R146): its 48-byte header and its entries by parameter address. -/
structure Cue where
  header  : Bytes := []
  entries : Tab Nat := []
  deriving DecidableEq, Repr

/-- The class of a fade (R151). -/
inductive FadeClass where
  | rise | fall | ltp | release
  deriving DecidableEq, Repr

/-- A fade in progress: start, target, class, whether the parameter is snapped, and whether it leaves the held set when
every fade of the step is complete (R149-R152). -/
structure Fade where
  start   : Nat
  target  : Nat
  cls     : FadeClass
  snapped : Bool
  deriving DecidableEq, Repr

/-- A parameter of a held set (R149): output, key frame, fade, and whether it leaves when the step's fades are
complete. -/
structure Held where
  v       : Nat
  key     : Nat
  fade    : Option Fade := none
  leaving : Bool := false
  deriving DecidableEq, Repr

/-- The times and curve of a step (R146, R148): mode (true: frames for the fades), curve and table, SNAP_END, and the
three times and delays. -/
structure StepTimes where
  frames   : Bool := false
  curve    : Nat := 0
  table    : Nat := 0
  snapEnd  : Bool := false
  inTime   : Nat := 0
  outTime  : Nat := 0
  ltpTime  : Nat := 0
  inDelay  : Nat := 0
  outDelay : Nat := 0
  ltpDelay : Nat := 0
  deriving DecidableEq, Repr

/-- The request that a playback has taken in the frame being cut, whose fades or release start at step 3 of R155: a step
with its times, the entered cue's header and its entries as the step saw them (R153), or a release with its time. -/
inductive PbRequest where
  | step (times : StepTimes) (header : Bytes) (entries : Tab Nat)
  | release (time : Nat)
  deriving DecidableEq, Repr

/-- A follow still to come (R162): the clock it is measured on (true: frames) and its wait. -/
structure Follow where
  frames : Bool
  wait   : Nat
  deriving DecidableEq, Repr

/-- A playback (R144-R163): current cue, cues, held set, clocks, rate, level, the last step with its start clocks, the
follow still to come, a release under way with its time, and, within a cut, the request taken and whether a command
asked for a step or release. A new playback has the nominal rate (log entry 244), and PROGRESS 0x10_0000 (log entry 249). -/
structure Playback where
  cue       : Option Nat := none
  cues      : Tab Cue := []
  held      : Tab Held := []
  tclk      : Nat := 0
  fclk      : Nat := 0
  rate      : Nat := 0x10000
  level     : Nat := 0
  stepFrame : Nat := 0
  st        : Nat := 0
  sf        : Nat := 0
  times     : StepTimes := {}
  follow    : Option Follow := none
  release   : Option Nat := none
  progress  : Nat := 0x100000
  ignored   : Nat := 0
  request   : Option PbRequest := none
  asked     : Bool := false
  deriving DecidableEq, Repr

/-- An effect generator (R165-R172): running, phase, rate, size with its ramp (start size, target, start frame,
frames), offset, size of the last cut, and the frame of the last start. -/
structure Gen where
  running    : Bool := false
  phi        : Nat := 0
  rate       : Int := 0
  size       : Nat := 0
  ramp       : Option (Nat × Nat × Nat × Nat) := none
  offset     : Nat := 0
  startFrame : Nat := 0
  /-- The phase was set or the generator started at this frame, so that it does not advance in it. -/
  still      : Bool := false
  deriving DecidableEq, Repr

/-! ## Colour and sensors (06) -/

/-- An untrimmed target as the cuts froze it (R196): from this frame on, as the bits of x, y and s, and whether the
intensity is high enough to trim. -/
structure Shown where
  frame  : Nat
  x      : Nat
  y      : Nat
  s      : Nat
  bright : Bool
  deriving DecidableEq, Repr

/-- The trim of an instance (R180, R196-R200): values in force, values that wait for a press point (R194), whether it is
frozen, its state for TRIM_STATUS, the last error, counters, the readings of the measurement under way as XYZ bits with
the counter time at which the first began, and the untrimmed targets of the last frames, a new entry where one changes. -/
structure Trim where
  du      : Int := 0
  dv      : Int := 0
  g       : Nat := 0x10000
  next    : Option (Int × Int × Nat) := none
  frozen  : Bool := false
  /-- A freeze or reset took effect in the frame cut last: a measurement that completes in it is discarded (R199). -/
  mute    : Bool := false
  conv    : Bool := false
  limit   : Bool := false
  eu      : Int := 0
  ev      : Int := 0
  updates : Nat := 0
  skipped : Nat := 0
  reads   : List (Nat × Nat × Nat) := []
  first   : Option (Nat × Nat × Nat) := none
  since   : Nat := 0
  shown   : List Shown := []
  deriving DecidableEq, Repr

/-- Where a calibration run stands (R191): it waits for a cut, for its settle or dark time, or takes readings. -/
inductive CalPhase where
  | waitDark | settleDark | readDark | waitA | settleA | readA | waitOff | darkTime | waitB | settleB | readB | finish
  deriving DecidableEq, Repr

/-- The measured mean of an emitter: CIE x, CIE y, flux, and the distance of its repeats (R192, R193). -/
structure CalRow where
  x    : Nat
  y    : Nat
  flux : Nat
  duv  : Nat
  deriving DecidableEq, Repr

/-- A calibration run (R190-R194): its payload, where it stands, the emitter being measured, readings under way and
averages as XYZ bits, group temperature, outcome, result rows, and the frame that first uses the result. -/
structure CalRun where
  job     : Job
  payload : Bytes
  since   : Nat
  /-- The set of the instance and the emitters of its type at acceptance. -/
  set     : Nat := 0xFFFF
  count   : Nat := 0
  phase   : CalPhase := .waitDark
  /-- The counter time at which its settle or dark time ends (R191). -/
  due     : Nat := 0
  emitter : Nat := 0
  reads   : List (Nat × Nat × Nat) := []
  dark    : Nat × Nat × Nat := (0, 0, 0)
  a       : Nat × Nat × Nat := (0, 0, 0)
  temp    : Option Int := none
  outcome : Nat := 4
  failed  : Nat := 0xFF
  point   : Nat := 0xFFFF
  frame   : Nat := 0
  rows    : List CalRow := []
  /-- An accepted result waits for its press point (R194). -/
  waiting : Bool := false
  /-- An applied result waits for the next cut to name its frame (R194). -/
  applied : Bool := false
  deriving DecidableEq, Repr

/-- An I2C bus (R189): the script that runs, whether for a calibration run, when it started, as time since reset and as
counter time, and the timeout counter. -/
structure I2c where
  running  : Option Nat := none
  forRun   : Bool := false
  since    : Nat := 0
  startAt  : Nat := 0
  timeouts : Nat := 0
  deriving DecidableEq, Repr

/-- The colour pipeline's state: calibration sets in force, trim, group temperatures, runs, buses. -/
structure Colour where
  sets  : Tab Bytes := []
  trim  : Tab Trim := []
  /-- The trims as the most recent cut found them (R200). -/
  trimCut : Tab Trim := []
  temps : Tab Int := []
  /-- Group temperatures as frozen at the last cut (R187). -/
  held  : Tab Int := []
  /-- Test levels frozen at the last cut, by target as in LATENCY_MEASURE: by emitter before stage 6, or one value
  (R190, R301). -/
  tests : Tab (List Nat) := []
  runs  : List CalRun := []
  buses : Tab I2c := []
  /-- The time at which each script is due next (R189). -/
  due   : Tab Nat := []
  deriving DecidableEq, Repr

/-! ## Network (10) -/

/-- A fall-through FIFO behind a window (R20-R29): its items with their LAST flags, oldest first, the latched high half
of its window, a pending rinse, and its counters. `mid` says that the consumer has begun a packet. -/
structure Fifo where
  items  : List (Nat × Bool) := []
  latch  : Reg := 0x80000000
  mid    : Bool := false
  rinse  : Bool := false
  drops  : Nat := 0
  rinsed : Nat := 0
  deriving DecidableEq, Repr

/-- An ARP entry of a lane: MAC address and refreshes failed in a row (R317). -/
structure Arp where
  mac   : Bytes
  fails : Nat := 0
  deriving DecidableEq, Repr

/-- A SerDes lane (R311-R317, R336-R339): link state, the launch queue with its partial packet and the writes that wait
on a full queue, and the stamp FIFO. -/
structure Lane where
  link       : Bool := false
  speed      : Nat := 0
  align      : Nat := 0
  rxDrop     : Nat := 0
  rxFcs      : Nat := 0
  linkDowns  : Nat := 0
  unresolved : Nat := 0
  arp        : Tab Arp := []
  queue      : List Bytes := []
  /-- A packet of which not every item has arrived: its length and the bytes so far. -/
  part       : Option (Nat × Bytes) := none
  stalled    : List Reg := []
  rinse      : Bool := false
  /-- The items still to come of a packet that a rinse discarded in part (R28). -/
  skip       : Nat := 0
  /-- The counter values until which a launched packet is on the wire, a packet of the launch queue, and one without a launch
  time (R26, R296). -/
  busyUntil  : Nat := 0
  queueUntil : Nat := 0
  otherUntil : Nat := 0
  stamps     : Fifo := {}
  qempty     : Nat := 0
  qdrop      : Nat := 0
  qrinsed    : Nat := 0
  slip       : Nat := 0
  deriving DecidableEq, Repr

/-- An encoded frame of a flow: frame number and its universes, feed, pixels or slots. -/
structure Encoded where
  frame : Nat
  body  : List Bytes
  deriving DecidableEq, Repr

/-- A switch of FLOW_ENABLE: from a frame on, enabled or not, with or without termination (R320); or the press of a changed
record, which puts the record's own setting in its place (R316). -/
structure Switch where
  frame     : Nat
  enable    : Bool
  terminate : Bool
  reset     : Bool := false
  deriving DecidableEq, Repr

/-- A flow (R48-R55, R315-R326): switches, the last launched frame and whether it is one of an earlier configuration, which no repeat uses (R54), encoded frames that wait for
their issue instants, the frame whose issue instant comes next, frames discarded by a rinse, the first frame after the
flow's end by a stop or a deleting press, the first frame of a newly pressed configuration while its issue instant is still
to come and whether its record then has another kind or other universes, sequence numbers last sent by universe and by synchronization address, the one to be sent next for Ixnik, and the
counters of FLOW_STATS. -/
structure Flow where
  switches  : List Switch := []
  last      : Option Encoded := none
  stale     : Bool := false
  ready     : List Encoded := []
  next      : Option Nat := none
  dropped   : List Nat := []
  ended     : Option Nat := none
  restart   : Option Nat := none
  renew     : Bool := false
  seqs      : Tab Nat := []
  ixSeq     : Nat := 1
  syncs     : Tab Nat := []
  busyUntil : Nat := 0
  rinsing   : Bool := false
  clamped   : Bool := false
  launched  : Nat := 0
  late      : Nat := 0
  repeats   : Nat := 0
  slips     : Nat := 0
  rinsedN   : Nat := 0
  withheldN : Nat := 0
  unsent    : Nat := 0
  /-- FRAME_LATE: when it was last raised, the first late frame since, and their number (R55). -/
  lateAt    : Option Nat := none
  lateFirst : Option Nat := none
  lateSince : Nat := 0
  unresAt   : Option Nat := none
  slipAt    : Option Nat := none
  deriving DecidableEq, Repr

/-- A source of a received universe (R329-R331). -/
structure RxSource where
  cid      : Bytes
  priority : Nat
  seq      : Nat
  last     : Nat
  complete : Option Bytes := none
  /-- Data that awaits synchronization: its address, its slots, and the instant from which it waits (R331). -/
  waiting  : Option (Nat × Bytes × Nat) := none
  deriving DecidableEq, Repr

/-- A received universe: its sources in the order in which they became present, the last sequence number used of every
CID (R329), whether it has had a current source, and the packets dropped. -/
structure Rx where
  sources : List RxSource := []
  seqs    : List (Bytes × Nat) := []
  current : Option Bytes := none
  had     : Bool := false
  dropped : Nat := 0
  /-- The source that an expiry lost last, and the instant: a packet of that instant lost the race (R330). -/
  lost    : Option (Bytes × Nat) := none
  deriving DecidableEq, Repr

/-- An entry of a claim table: the claim of a unit id, and the cuts made since it was written (R386). -/
structure ClaimEntry where
  claim : Nat
  cuts  : Nat := 0
  deriving DecidableEq, Repr

/-- An Ixnik receive record (R300, R332, R334, R386): claim table, parts of frames by frame and offset, complete frames, the
show instants of frames as counter values, the last frame used, counters, the ingress of each frame's first packet, and the
times from there to the output of the last 1,024 frames used, in 2^-16 ns. -/
structure IxRx where
  claims     : Tab ClaimEntry := []
  holder     : Option Nat := none
  changedAt  : Option Nat := none
  parts      : Tab (Tab Bytes) := []
  ready      : Tab Bytes := []
  shows      : Tab Nat := []
  lastUsed   : Option Nat := none
  terminated : Bool := false
  claimDrops : Nat := 0
  dropped    : Nat := 0
  late       : Nat := 0
  begun      : Tab Nat := []
  took       : List Nat := []
  deriving DecidableEq, Repr
/-! ## Canvases, layers, buffers, video and witness (07) -/

/-- The press-set registers of a layer (R239): CTRL, POS, CROP_XY, CROP_WH, OPACITY and BUFFER. -/
structure LayerRegs where
  ctrl    : Nat := 0
  pos     : Nat := 0
  cropXy  : Nat := 0
  cropWh  : Nat := 0
  opacity : Nat := 0
  buffer  : Nat := 0x80000000
  deriving DecidableEq, Repr

/-- A fetch under way (R221): the buffer, and the frame it serves. -/
structure Fetch where
  buffer : Nat
  frame  : Nat
  deriving DecidableEq, Repr

/-- A layer (R212-R222, R239): registers in force and shadow, palette banks as words (entry 4e + component), the
entries written since the last swap while the copy runs, the newest complete fetched copy and the fetch under way. -/
structure Layer where
  force      : LayerRegs := {}
  shadow     : LayerRegs := {}
  mapped     : Bool := false
  page       : Nat := 0
  fetchFrame : Nat := 0
  fetchLate  : Nat := 0
  error      : Nat := 0
  pal        : Tab Nat := []
  palShadow  : Tab Nat := []
  copying    : Bool := false
  written    : List Nat := []
  copy       : Option Bytes := none
  fetching   : Option Fetch := none
  /-- Counter time at which LAYER_FETCH_LATE was last raised. -/
  lateAt     : Option Nat := none
  deriving DecidableEq, Repr

/-- A canvas (R207-R211, R238): COMMIT, PRESS_FRAME and its latch, PRESS_COUNT, background in force and shadow, and
the last raster period whose press point has passed. -/
structure Canvas where
  commit     : Bool := false
  pressFrame : Nat := 0
  pressHi    : Nat := 0
  pressCount : Nat := 0
  bg         : Nat × Nat × Nat := (0, 0, 0)
  bgShadow   : Nat × Nat × Nat := (0, 0, 0)
  period     : Option Nat := none
  deriving DecidableEq, Repr

/-- A registered buffer (R218, R219): address, size, owner, and the deferred release that waits for it to retire. -/
structure Buffer where
  address : Nat
  size    : Nat
  owner   : Nat
  release : Bool := false
  jobs    : List Job := []
  deriving DecidableEq, Repr

/-- A video frame being received or received: its RTP timestamp and its pixel words by pixel index (R228). -/
structure VideoFrame where
  rtp    : Nat
  pixels : Tab (Nat × Nat × Nat) := []
  deriving DecidableEq, Repr

/-- A video stream (R226-R230): SSRC, frames held oldest first, the frozen frame, the counters, and the instant since
when no frame has completed. -/
structure Video where
  ssrc       : Option Nat := none
  frames     : List VideoFrame := []
  frozen     : Option VideoFrame := none
  lost       : Bool := false
  since      : Nat := 0
  complete   : Nat := 0
  incomplete : Nat := 0
  dropped    : Nat := 0
  rtp        : Nat := 0
  diverge    : Nat := 0
  deriving DecidableEq, Repr

/-- A witness window (R233-R240); `prev` is the previous value kept for STABLE mode, `ledger` the copy of EXPECTED in
the ledger and `armed` says that a mismatch now raises the event. -/
structure Wit where
  enable     : Bool := false
  expected   : Nat := 0
  result     : Nat := 0
  frame      : Nat := 0
  matched    : Bool := false
  valid      : Bool := false
  reloading  : Bool := false
  mismatches : Nat := 0
  corrupts   : Nat := 0
  prev       : Option Nat := none
  armed      : Bool := true
  deriving DecidableEq, Repr

/-- The WIT block (R240): windows, and the MISMATCH and CORRUPT bits. -/
structure WitBlock where
  wins     : Tab Wit := []
  mismatch : BitVec 64 := 0
  corrupt  : BitVec 64 := 0
  deriving DecidableEq, Repr


/-! ## Frames and render lanes (02, 08) -/

/-- A job of a frame on its way through the scheduler (R241, R249-R255): its segments, those completed, the jobs of its
frame that it still waits for, and whether it was pre-empted in its frame. -/
structure JobRun where
  frame     : Nat
  num       : Nat
  level     : Nat
  peg       : Option Nat
  segments  : Nat
  done      : Nat := 0
  waits     : List Nat := []
  preempted : Bool := false
  /-- It became ready at its level, and has looked for a victim (R255). -/
  asked     : Bool := false
  /-- The time at which its segment began. -/
  segAt     : Nat := 0
  deriving DecidableEq, Repr

/-- A frame that has been cut (R47, R50): whether it was cut in SAFE_HOLD, the configuration and schedule it is made
under, its encoded bodies by flow and witness values by window as its frozen inputs give them (R35), its jobs that
have not completed, the windows whose compare of it found a mismatch (R235), and the windows, each with whether its
stored reference fails its parity, whose jobs are done while the frame that a receive record brings is not there. -/
structure FrameRec where
  frame  : Nat
  held   : Bool := false
  force  : InForce
  bodies : Tab (List Bytes) := []
  wits   : Tab Nat := []
  left   : List Nat := []
  mismatched : List Nat := []
  owed   : List (Nat × Bool) := []
  deriving DecidableEq, Repr

/-- The inputs of rendering as the last cut outside SAFE_HOLD froze them (R50, R57). -/
structure Frozen where
  par    : Params := {}
  col    : Colour := {}
  canvas : Tab Canvas := []
  layer  : Tab Layer := []
  video  : Tab Video := []
  deriving DecidableEq, Repr

/-- An entry of a delay list (R163, R260): the playback that owns it, whether a release completes or a follow acts, and
its due frame. -/
structure Delay where
  playback : Nat
  release  : Bool
  due      : Nat
  deriving DecidableEq, Repr

/-- What a render lane holds beside its job (R75, R76, R262, R263, R441): the job whose data its state store keeps, the
single-bit errors corrected in the store, the background item in its 8 KiB buffer, its background time in the slot in
2^-16 ns, and its places in the rotations of the reserve and of slack. -/
structure RenderLane where
  data      : Option Nat := none
  corrected : Nat := 0
  item      : Option BackgroundKind := none
  share     : Nat := 0
  reserveAt : Nat := 0
  slackAt   : Nat := 0
  deriving DecidableEq, Repr

/-- The frame scheduler (R241-R265): frames cut, oldest first; jobs that wait for results or their slot; the ready lists
as one list, each level's jobs in its order; the job that each lane runs; the lanes marked for pre-emption with the job
that caused the mark; the lane that last completed a segment of each job; what the lanes hold beside their jobs; the
delay lists by level; and the inputs of the last cut outside SAFE_HOLD. -/
structure Scheduler where
  frames   : List FrameRec := []
  waiting  : List JobRun := []
  ready    : List JobRun := []
  running  : Tab JobRun := []
  marks    : Tab (Nat × Nat) := []
  affinity : Tab Nat := []
  lanes    : Tab RenderLane := []
  delays   : Tab (List Delay) := []
  frozen   : Frozen := {}
  deriving DecidableEq, Repr

/-! ## Time (09) -/

/-- The sources of the counter, coded in this order (R307). -/
inductive Src where
  | domA | domB | ltc | fsync | free
  deriving DecidableEq, Repr

/-- The states of a source, coded in this order (R280). -/
inductive SrcState where
  | disabled | listening | acquiring | locked | holdover | master | faulty
  deriving DecidableEq, Repr

/-- The servo of a source (R280, R281): state, source time less counter in 2^-16 ns, frequency in 2^-8 ppb, samples in a
row within 100 ns, samples in a row beyond 1 us, samples since the master returned, whether it has an estimate, and the
times since when it has been LOCKED and since when it has been in ACQUIRING or HOLDOVER. -/
structure Servo where
  st          : SrcState := .disabled
  offset      : Int := 0
  freq        : Int := 0
  good        : Nat := 0
  bad         : Nat := 0
  back        : Nat := 0
  known       : Bool := false
  /-- A press restarted the source, and it has not been LOCKED since: it does not steer (R290). -/
  restarted   : Bool := false
  lockedSince : Option Nat := none
  downSince   : Option Nat := none
  deriving DecidableEq, Repr

/-- A foreign master of a domain (R272): its last Announce, and the times of its Announces within the window. -/
structure Foreign where
  ann   : PtpAnnounce
  times : List Nat
  deriving DecidableEq, Repr

/-- A PTP domain (R271-R282, R304): servo, selected master, foreign masters, times of the last Announce and Sync, the
two-step Syncs and the delay exchanges that wait, oldest first, as (sequence id, stamp, since), sequence ids whose wait
expired and whose message has not come, path delays, the last Sync as (origin, ingress), the port of the master, and counters. -/
structure PtpDomain where
  servo      : Servo := {}
  master     : Option PtpAnnounce := none
  /-- The grandmaster last selected (R280 HOLDOVER). -/
  last       : Option Nat := none
  foreign    : List Foreign := []
  annAt      : Nat := 0
  syncAt     : Nat := 0
  /-- The master whose Announce timed out, with its lane, and when: an Announce of it at that time lost the race. -/
  lostAnn    : Option (Nat × Nat × Nat) := none
  /-- The time at which Sync timed out: a Sync of that time lost the race. -/
  lostSync   : Option Nat := none
  twoStep    : List (Nat × Nat × Nat) := []
  lateFollow : List Nat := []
  delayReq   : List (Nat × Nat × Nat) := []
  lateDelay  : List Nat := []
  delays     : List Int := []
  lastSync   : Option (Int × Int) := none
  slavePort  : Nat := 0xFF
  syncSeq    : Nat := 0
  annSeq     : Nat := 0
  delaySeq   : Nat := 0
  rxLate     : Nat := 0
  syncs      : Nat := 0
  steps      : Nat := 0
  deriving DecidableEq, Repr

/-- The LTC input (R286, R287): servo, frame count of the day of the last codeword, days passed, missing codewords in a
row. -/
structure LtcIn where
  servo   : Servo := {}
  last    : Option Nat := none
  days    : Nat := 0
  missing : Nat := 0
  deriving DecidableEq, Repr

/-- The FSYNC input (R288). -/
structure FsyncIn where
  servo   : Servo := {}
  missing : Nat := 0
  deriving DecidableEq, Repr

/-- The timing registers of a time-trigger unit (R306). -/
structure TtuRegs where
  startNs    : Nat := 0
  startSecLo : Nat := 0
  startSecHi : Nat := 0
  periodNs   : Nat := 0
  periodFrac : Nat := 0
  widthNs    : Nat := 8
  frame      : Nat := 1
  offsetNs   : Nat := 0
  count      : Nat := 0
  deriving DecidableEq, Repr

/-- A time-trigger unit (R291-R293): registers, MODE, the latched copy while armed, the number of its next pulse (a
frame number in FRAME mode), counters, when TRIGGER_FIRED was last raised, and when its last pulse ends (R539). -/
structure Ttu where
  regs    : TtuRegs := {}
  mode    : Nat := 0
  armed   : Bool := false
  latched : TtuRegs := {}
  next    : Nat := 0
  fired   : Nat := 0
  status  : Nat := 0
  evtAt   : Option Nat := none
  high    : Nat := 0
  deriving DecidableEq, Repr

/-- A TTI input (R294): capture FIFO, ENABLE, the last captured edge, glitches. -/
structure Tti where
  fifo   : Fifo := {}
  enable : Bool := false
  last   : Option Nat := none
  glitch : Nat := 0
  deriving DecidableEq, Repr

/-- The time keeper (R266-R310): counter in 2^-16 ns, its frequency offset in 2^-8 ppb, the fraction not yet added to the
counter, the slew that remains and the steering under way in units of 10^-9 x 2^-16 ns with the fraction by which the
offsets have not yet followed, the ns per second by which the last sample of a running show moved the frequency, latches
and SET registers, source in force, source named by DOMAIN_SELECT and when, sources, units and inputs. -/
structure TimeKeeper where
  counter  : Nat := 0
  freq     : Int := 0
  acc      : Int := 0
  slew     : Int := 0
  steer    : Int := 0
  slewAcc  : Int := 0
  moved    : Nat := 0
  latch    : Nat := 0
  offAHi   : Nat := 0
  offBHi   : Nat := 0
  setNs    : Nat := 0
  setLo    : Nat := 0
  setHi    : Nat := 0
  refused  : Bool := false
  source   : Src := .free
  selected : Option Src := none
  autoFrom : Nat := 0
  domA     : PtpDomain := {}
  domB     : PtpDomain := {}
  ltc      : LtcIn := {}
  fsync    : FsyncIn := {}
  rxLate   : Nat := 0
  stray    : Nat := 0
  units    : Tab Ttu := []
  inputs   : Tab Tti := []
  deriving DecidableEq, Repr

/-- A latency value that comes into force at the next cut (R302). -/
inductive LatUpdate where
  | net (flow ns jitter : Nat)
  | rx (flow ns : Nat) (timing : List Nat)
  | emit (dest ns : Nat)
  deriving DecidableEq, Repr

/-- Where a measurement stands (R300, R301): probes are out; it waits for the first cut; dark frames are left; the step
frame is out. -/
inductive LatPhase where
  | probing | waiting | dark (left : Nat) | lit (frame : Nat)
  deriving DecidableEq, Repr

/-- A latency measurement under way (R300, R301). -/
structure LatRun where
  job     : Job
  payload : Bytes
  since   : Nat
  phase   : LatPhase
  results : List Int := []
  deriving DecidableEq, Repr

/-- The latency model (R298-R302): measured NET with jitter, reported RX and the DMX timing reported with it (BREAK_US,
MAB_US, slot time in us, LEAD_US), calibrated EMIT by destination, the leads of
the flows as (first frame, lead), newest first, the values of LATENCY_TABLE of the flows with the first frame that uses
them, updates that wait for a cut, runs, and repeated measurements with the time they started last. -/
structure Latency where
  net     : Tab (Nat × Nat) := []
  rx      : Tab Nat := []
  timing  : Tab (List Nat) := []
  emit    : Tab Nat := []
  leads   : Tab (List (Nat × Nat)) := []
  rows    : Tab (Nat × List Nat) := []
  updates : List LatUpdate := []
  runs    : List LatRun := []
  repeats : Tab (Nat × Bytes) := []
  /-- The time that a frame of a flow takes on the wire, in 2^-16 ns (R296, R318). -/
  wire    : Tab Nat := []
  /-- The destinations for which a press has discarded the measured NET, or RX and timing, of their flow: flow and
  destination (R302). -/
  noNet   : List (Nat × Nat) := []
  noRx    : List (Nat × Nat) := []
  deriving DecidableEq, Repr

/-! ## Scan ports (11) -/

/-- The fault marks, group states and seam gains that a cut freezes for a frame, and the test level that an emitter
calibration drives it with (R301, R354, R358). -/
structure ScanMarks where
  dead  : List Nat := []
  off   : List Nat := []
  gains : Tab (Nat × Nat) := []
  test  : Option Nat := none
  deriving DecidableEq, Repr

/-- A scan port (R340-R365): CTRL bits, the frame put in force with its prepared codes, its static key and the marks it
was prepared with, the frame whose issue instant passed last and the refresh of it that comes next, static frames in a
row and static mode, the frame being written and the lines of it that are written, a full write owed, TE, counters, the
marks frozen by frame for frames not yet issued, the channels latched dead (pixel × 4 + component), the channels that
reported a fault in the last slot that tested them, groups off, live seam gains by tile, the FIFOs, and the last
detection slot. -/
structure ScanPort where
  noStatic  : Bool := false
  fullWrite : Bool := false
  frame     : Nat := 0
  frameHi   : Nat := 0
  codes     : Option Bytes := none
  key       : Bytes := []
  used      : ScanMarks := {}
  period    : Option Nat := none
  /-- The frame at whose issue instant the port restarts after a press (R363). -/
  restart   : Option Nat := none
  refresh   : Nat := 0
  still     : Nat := 0
  static    : Bool := false
  writing   : Option Nat := none
  lines     : Nat := 0
  owed      : Bool := true
  /-- The time since reset at which a command last saw the TE level, and whether it was ready (R351, R352). -/
  te        : Option (Nat × Bool) := none
  /-- The frame of code 0 that a muted memory-type port writes is in force (R361). -/
  dark      : Bool := false
  late      : Bool := false
  tripped   : Bool := false
  teStalls  : Nat := 0
  teStuck   : Nat := 0
  stuckAt   : Option Nat := none
  marks     : Tab ScanMarks := []
  latched   : List Nat := []
  seen      : Tab (List Nat) := []
  faultAt   : Option Nat := none
  faults    : Fifo := {}
  ret       : List (Nat × List Bool) := []
  retDrop   : Nat := 0
  retRinsed : Nat := 0
  darned    : Nat := 0
  groupsOff : List Nat := []
  seamIdx   : Nat := 0
  /-- SEAM_LR and SEAM_TB as last written, clamped (R12, R360). -/
  seamLr    : Nat := 0x10001000
  seamTb    : Nat := 0x10001000
  gains     : Tab (Nat × Nat) := []
  trips     : Nat := 0
  deriving DecidableEq, Repr

/-! ## DMX ports (12) -/

/-- An RDM_REQUEST outstanding on a port (R376): the ring pair that waits, its session and payload, whether the
transaction has started, with its transaction number. -/
structure RdmReq where
  session : Nat
  payload : Bytes
  started : Option Nat := none
  deriving DecidableEq, Repr

/-- A step of discovery (R378). -/
inductive DiscStep where
  | unMute
  | branch (lo hi : Nat)
  | mute (uid lo hi : Nat)
  deriving DecidableEq, Repr

/-- A discovery under way (R378): its step, whether that has started, branches still to search, collisions in a row at a
single UID, UIDs found. -/
structure Discovery where
  job     : Job
  step    : DiscStep
  started : Option Nat := none
  rest    : List (Nat × Nat) := []
  hits    : Nat := 0
  found   : Nat := 0
  deriving DecidableEq, Repr

/-- A DMX port (R366-R380). -/
structure DmxPort where
  frame      : Nat := 0
  frameHi    : Nat := 0
  late       : Bool := false
  packets    : Nat := 0
  txns       : Nat := 0
  rdmLate    : Nat := 0
  rdmBad     : Nat := 0
  collisions : Nat := 0
  txn        : Nat := 0
  uids       : Fifo := {}
  found      : Nat := 0
  request    : Option RdmReq := none
  disc       : Option Discovery := none
  /-- Counter time at which the last packet started. -/
  packetAt   : Option Nat := none
  /-- Time since reset at which the last stop bit of the last packet ends (R539). -/
  busyUntil  : Nat := 0
  /-- Time since reset at which the response timeout of the transaction expires (R377). -/
  expires    : Nat := 0
  deriving DecidableEq, Repr


/-! ## Pair (13) -/

/-- The pair states of R401. -/
inductive PairState where
  | unpaired | waiting | syncing | standby | active | solo | isolated
  deriving DecidableEq, Repr

/-- The code of a pair state (R401). -/
def PairState.code : PairState → Nat
  | .unpaired => 0
  | .waiting => 1
  | .syncing => 2
  | .standby => 3
  | .active => 4
  | .solo => 5
  | .isolated => 6

/-- The pair (R381-R402). -/
structure Pair where
  st          : PairState := .unpaired
  peerState   : Option Nat := none
  peerClaim   : Nat := 0
  misses      : Nat := 0
  maintenance : Bool := false
  /-- The peer's maintenance flag in the last heartbeat used. -/
  peerMaint   : Bool := false
  unsynced    : Bool := false
  slow        : Bool := false
  linkDelay   : Nat := 0
  hbLate      : Nat := 0
  hbMissed    : Nat := 0
  dutyChanges : Nat := 0
  dutyFrame   : Nat := 0
  hbFrame     : Option Nat := none
  hbOutcome   : Nat := 0
  permille    : Nat := 0
  /-- The named cut of the carried state that was taken over since the member entered SYNCING (R392). -/
  syncFrom    : Option Nat := none
  /-- The output digests of the peer that could not be compared yet, by frame (R391). -/
  peerOuts    : Tab Nat := []
  /-- The last frames whose heartbeat was counted in HB_MISSED, while it may still arrive (R393). -/
  missing     : List Nat := []
  /-- The sequence number of the last mirror sent or received, and the last one acknowledged (R387). -/
  mirrorSeq   : Nat := 0
  mirrorAck   : Nat := 0
  /-- The last mirror of which the command has taken effect (R389). -/
  mirrorDone  : Nat := 0
  /-- Counter time at which the duty was last gained (R389). -/
  gainTime    : Nat := 0
  /-- The member reached SOLO by takeover (R394), and whether it has been in a pair since it started (R396). -/
  byTakeover  : Bool := false
  /-- The member reached SOLO by the loss of its peer's heartbeats (R395). -/
  byLoss      : Bool := false
  joined      : Bool := false
  /-- The frames launched on each flow since the active duty was gained, up to 3 (R385). -/
  raised      : Tab Nat := []
  /-- The frame a handover or a reversion is fixed to, and whether it is a reversion (R397, R398). -/
  handover    : Option (Nat × Bool) := none
  /-- The instant since when heartbeats and digests have held without a break (R398). -/
  holdSince   : Option Nat := none
  /-- The frame of the member's own last cut was cut provisionally (R390). -/
  provisional : Bool := false
  /-- The frame cut whose heartbeat is not yet decided, with received universes and streams as the cut froze them (R390). -/
  awaits      : Option Nat := none
  cutRx       : Tab Rx := []
  cutVideo    : Tab Video := []
  /-- Digests of the cut records of the last two cuts, newest first (R389). -/
  inDigest    : Nat × Nat := (0, 0)
  /-- The peer's PENDING_DIGEST in the last heartbeat used (R390). -/
  peerPending : Nat := 0
  waitSince   : Nat := 0
  deriving DecidableEq, Repr

/-! ## Energy metering, feeders and the backup island (14) -/

/-- One set of a meter (R408, R417): import and export registers of 104 bits, the bases of the delta registers, and the
accumulators at the start of the interval. -/
structure MeterSet where
  imp      : Nat := 0
  exp      : Nat := 0
  baseImp  : Nat := 0
  baseExp  : Nat := 0
  startImp : Nat := 0
  startExp : Nat := 0
  deriving DecidableEq, Repr

/-- A set of a snapshot (R414): accumulators, interval import and export, RMS voltage and current. -/
structure SnapSet where
  imp    : Nat := 0
  exp    : Nat := 0
  intImp : Nat := 0
  intExp : Nat := 0
  vRms   : Nat := 0
  iRms   : Nat := 0
  deriving DecidableEq, Repr

/-- A snapshot (R414, R434); `stamp` is the counter at the latch sample. -/
structure Snap where
  seq     : Nat := 0
  flags   : Nat := 0
  samples : Nat := 0
  freq    : Nat := 0
  stamp   : Nat := 0
  sets    : List SnapSet := []
  deriving DecidableEq, Repr

/-- The filter of one input of a meter (R404, R406): the last 2,047 bits of its bitstream, the oldest as bit 0, three
integrators that run on its MCLK, and the values that its three combs keep from the sample before. -/
structure Decimator where
  past : Nat := 0
  sum1 : BitVec 32 := 0
  sum2 : BitVec 32 := 0
  sum3 : BitVec 32 := 0
  old1 : BitVec 32 := 0
  old2 : BitVec 32 := 0
  old3 : BitVec 32 := 0
  deriving DecidableEq, Repr

/-- A meter at work (R404-R415): the filters and the high-pass states of its inputs, its sets, and the interval under way: its samples,
the sums of squares by input, valid cycles, whether the voltage has read low since the last crossing, the sample before,
samples since the last crossing, the crossing that began the interval as samples since with the fraction left of its
sample, NO_LINE, valid cycles in a row under NO_LINE, whether the line is valid, GAP, clipping, CLEARED, and the read
buffer. -/
structure Meter where
  filters   : List Decimator := []
  dc        : List Int := []
  sets      : List MeterSet := []
  seq       : Nat := 0
  samples   : Nat := 0
  squares   : List Nat := []
  cycles    : Nat := 0
  low       : Bool := false
  prev      : Int := 0
  since     : Option Nat := none
  crossing  : Option (Nat × Nat × Nat) := none
  noLine    : Bool := false
  good      : Nat := 0
  line      : Bool := false
  gap       : Bool := true
  clip      : Bool := false
  cleared   : Bool := false
  buffer    : Snap := {}
  /-- Time at which the last valid cycle completed. -/
  validAt   : Nat := 0
  deriving DecidableEq, Repr

/-- A pulse output (R419): its residue, its count, the times of the pulses still to come, and when its last pulse ends
(R539). -/
structure Epo where
  residue : Nat := 0
  count   : Nat := 0
  due     : List Nat := []
  high    : Nat := 0
  deriving DecidableEq, Repr

/-- The states of a feeder (R433), coded from 1 in this order. -/
inductive FeederState where
  | open_ | closed | tripped | bleedFault
  deriving DecidableEq, Repr

/-- A feeder (R425-R428): state, magnitudes of its last samples, newest first, samples in a row below V_SAFE_MV
since it opened, whether the last sample was below it, the instant since when it bleeds, and counters. -/
structure Feeder where
  st     : FeederState := .open_
  window : List Nat := []
  safe   : Nat := 0
  below  : Bool := false
  bleed  : Option Nat := none
  trips  : Nat := 0
  faults : Nat := 0
  deriving DecidableEq, Repr

/-- The metering island (R403-R434): meters, pulse outputs, feeders, DELTA_SAT, CLIP and when METER_CLIP was last raised,
the RTC latches, and the time of the last sample. -/
structure Metering where
  meters   : Tab Meter := []
  epos     : Tab Epo := []
  feeders  : Tab Feeder := []
  deltaSat : BitVec 64 := 0
  clip     : Nat := 0
  clipAt   : Option Nat := none
  rtcSec   : Nat := 0
  sampleAt : Option Nat := none
  deriving DecidableEq, Repr

/-- An input of the night meter's activity: peak and charge. -/
structure NightIn where
  peak   : Nat := 0
  charge : Nat := 0
  deriving DecidableEq, Repr

/-- A tamper input (R430): its debounced state and the samples in a row at the other level. -/
structure TamperIn where
  tampered : Bool := false
  count    : Nat := 0
  deriving DecidableEq, Repr

/-- The backup island (R421-R432): whether it has power, the instant at which its RTC was 0, RTC_LOST, the night record
latched with the meter settings it uses, the activity under way as RTC start and inputs, windows in a row at or above
and below THRESH_MA, the tamper settings, inputs, the records held in its latches, and DROPPED. -/
structure Backup where
  powered   : Bool := true
  rtcZero   : Nat := 0
  rtcLost   : Bool := false
  night     : Option Bytes := none
  /-- I_FS_MA and GAIN of MDAT12 to MDAT15 (R421). -/
  nightIn   : List (Nat × Nat) := []
  activity  : Option (Nat × List NightIn) := none
  above     : Nat := 0
  below     : Nat := 0
  tampOn    : Nat := 3
  tampPol   : Nat := 0
  debounce  : Nat := 2
  tampIn    : Tab TamperIn := []
  held      : List Bytes := []
  dropped   : Nat := 0
  deriving DecidableEq, Repr

/-! ## Memories, check channels (15), flash, boot and update (16) -/

/-- The external flash as cells in rising address order, none equal to an erased byte (R455-R457). -/
abbrev Memory := List Host.Cell

/-- The state of a check channel (R454). -/
inductive ChkState where
  | idle | running | done | aborted | dataError | disabled
  deriving DecidableEq, Repr

/-- A check channel (R446-R454). -/
structure Chk where
  config     : Nat := 0
  start      : Nat := 0
  length     : Nat := 0
  st         : ChkState := .idle
  valid      : Bool := false
  match_     : Bool := false
  reloading  : Bool := false
  /-- START and LENGTH of the scan in progress or last made, latched at its start (R448). -/
  scanStart  : Nat := 0
  scanLength : Nat := 0
  expectLo   : Nat := 0
  expected   : Nat := 0
  /-- The holding copy of EXPECTED until its ledger copy is written (R450, R451). -/
  holding    : Option Nat := none
  result     : Nat := 0
  resultHi   : Nat := 0
  passes     : Nat := 0
  mismatches : Nat := 0
  corrupts   : Nat := 0
  error      : Nat := 0
  /-- A mismatch may be raised: a match came before, or it is the first compare after a start (R450). -/
  arm        : Bool := true
  starter    : Nat := 0
  /-- The time at which the pass under way began. -/
  passAt     : Nat := 0
  deriving DecidableEq, Repr

/-- The global registers of the CHK block (R453), with the pass positions of the scrubber in items of 8 KiB, and for
each memory the time of the last MEM_CORRECTED (R438). -/
structure ChkGlobal where
  period     : Nat := 3600
  dramPasses : Nat := 0
  dramCe     : Nat := 0
  dramUe     : Nat := 0
  sramPasses : Nat := 0
  sramCe     : Nat := 0
  sramUe     : Nat := 0
  ledgerCe   : Nat := 0
  ledgerUe   : Nat := 0
  ueAddr     : Nat := 0
  ueMem      : Nat := 0
  ueHi       : Nat := 0
  /-- Items done in the passes under way, and the times of the last ones (R440). -/
  dramItem   : Nat := 0
  sramItem   : Nat := 0
  dramAt     : Nat := 0
  sramAt     : Nat := 0
  corrected  : Tab Nat := []
  /-- What was poisoned in memory and is still to be handled, by the next cut (R439). -/
  repairs    : List PoisonRow := []
  deriving DecidableEq, Repr

/-- The content of the configuration image (R436): the configuration in force with its schedule, the calibration sets in
force and the palette banks in force by layer. -/
structure ImageCopy where
  force    : InForce
  sets     : Tab Bytes
  palettes : Tab (Tab Nat)
  deriving DecidableEq, Repr

/-- The two copies of the configuration image (R436), each as last written, with the addresses at which it has uncorrectable
words; whether both are bad at one address, so that the image is lost (R439); whether a rewrite is under way; and the number
of rewrites. -/
structure Image where
  copyA     : Option ImageCopy := none
  copyB     : Option ImageCopy := none
  badA      : List Nat := []
  badB      : List Nat := []
  lost      : Bool := false
  rewriting : Bool := false
  version   : Nat := 0
  /-- The admitted schedule is lost and being restored (R439). -/
  restoring : Bool := false
  deriving DecidableEq, Repr

/-- The causes of a fallback (R460, R473), coded in this order. -/
inductive FallbackCause where
  | timeout | coreStall | reset | badSlot
  deriving DecidableEq, Repr

/-- The boot record of the ledger (R460): slots are false for A and true for B. -/
structure BootRecord where
  active   : Bool := false
  previous : Bool := true
  trial    : Bool := false
  cause    : Option FallbackCause := none
  deriving DecidableEq, Repr

/-- An OTP key slot: its hash once programmed, and its revocation bit (R464). -/
structure KeySlot where
  hash    : Option Bytes := none
  revoked : Bool := false
  deriving DecidableEq, Repr

/-- A saved configuration or calibration store copy: sequence number and content (R476). -/
structure Saved where
  seq  : Nat
  recs : List Rec
  deriving DecidableEq, Repr

/-- What survives reset and power loss: flash, OTP, and the ledger regions BOOT, IDENT, COUNTERS and LOG, with the
owner lock (R443, R475), the claim epoch (R384) and the saved copies of R476. -/
structure NonVolatile where
  flash      : Memory := []
  keys       : Tab KeySlot := []
  minVersion : Nat := 0
  /-- Copies A and B of the boot record, each with its sequence number; `none` where its CRC is not valid (R444, R460). -/
  bootA      : Option (Nat × BootRecord) := none
  bootB      : Option (Nat × BootRecord) := none
  ownerHash  : Option Bytes := none
  epoch      : Nat := 0
  /-- SEQUENCE of the last event raised, `none` on a unit that has raised none (R490). -/
  seq        : Option Nat := none
  counters   : Tab Nat := []
  log        : List EventRec := []
  logNext    : Nat := 0
  configA    : Option Saved := none
  configB    : Option Saved := none
  calA       : Option Saved := none
  calB       : Option Saved := none
  /-- Accumulators with residues and delta bases by meter (R411, R412, R443), pulse residues by output, clears as
  (counter, frame of the last), the snapshots of each meter, newest first (R414). -/
  meterAcc   : Tab (List MeterSet) := []
  /-- The older copy of each energy record (R444). -/
  meterOld   : Tab (List MeterSet) := []
  /-- The meters whose next interval carries GAP, after their energy record failed in both copies (R444). -/
  gapNext    : List Nat := []
  epoResidue : Tab Nat := []
  meterClear : Tab (Nat × Nat) := []
  snaps      : Tab (List Snap) := []
  /-- Activity records and the count of those dropped, the counter and RTC at hold-up, whether records were added since
  the last boot (R423), and the tamper records, oldest first (R431). -/
  nightLog   : List Bytes := []
  nightDrop  : Nat := 0
  nightPair  : Nat × Nat := (0, 0)
  nightAdded : Bool := false
  tamperLog  : List Bytes := []
  /-- Expected values of witness windows 0-63 and, at 64 and above, of check channels (R236, R451). -/
  expects    : Tab Nat := []
  deriving DecidableEq, Repr

/-- Boot and the running image (R459-R462, R470-R474). `running` is the slot of the running image. -/
structure Boot where
  strap0    : Bool := false
  strap1    : Bool := false
  strap2    : Bool := false
  recovery  : Bool := false
  /-- The personality record read at boot; `none` when both copies are invalid and the defaults are in use (R458). -/
  pers      : Option Bytes := none
  running   : Bool := false
  /-- The levels of I/O banks 0-4 in mV, 0 for a bank outside both classes, whose balls stay in their reset states (R534). -/
  banks     : List Nat := []
  /-- PORST_N, the detector or the thermal hold keeps the device in reset (R483, R548). -/
  hold      : Bool := false
  thermal   : Bool := false
  /-- The main supply is lost (R421). -/
  supplyLost : Bool := false
  /-- A trial runs since this time (R472). -/
  trialSince : Option Nat := none
  /-- A DEVICE_RESET is due at this time (R520). -/
  resetAt   : Option Nat := none
  /-- The admission of AUTOLOAD, unless it has failed (R477), and whether SHOW_START was sent. -/
  autoload  : Option Nat := none
  autoStart : Bool := false
  started   : Bool := false
  deriving DecidableEq, Repr

/-- The update staging slot (R465-R470). -/
structure Update where
  holder   : Option Nat := none
  source   : Source := .pcie
  bodyLen  : Nat := 0
  header   : Option Bytes := none
  blocks   : Tab Bytes := []
  /-- The UPDATE_CLOSE that runs, with the image it verifies and writes. -/
  closing  : Option (Job × Bytes) := none
  verified : Bool := false
  last     : Nat := 0
  /-- An activation or a fallback begins at the next cut: the slot it activates, and its cause for a fallback. -/
  activate : Option (Bool × Option FallbackCause) := none
  /-- The activation pause is under way; frames cut in it are skipped (R470). -/
  pausing  : Option (Bool × Option FallbackCause) := none
  skipped  : List Nat := []
  /-- The device state that the pause interrupted was SERVICE. -/
  service  : Bool := false
  deriving DecidableEq, Repr

/-- The owner lock's wrong codes in a row, and the instant its lockout began (R475). -/
structure Lock where
  wrong   : Nat := 0
  lockout : Option Nat := none
  deriving DecidableEq, Repr

/-! ## Monitors and events (17), PCIe, management lane and Niwin (18) -/

/-- A subscription of a management-lane session (R497). -/
structure Sub where
  sources : BitVec 512 := 0
  waiting : List EventRec := []
  /-- The time since which the first of the waiting records waits. -/
  since   : Nat := 0
  deriving DecidableEq, Repr

/-- The holdoff of a vector: when it ends, and whether a signal is due at its end (R496). -/
structure Holdoff where
  ends : Nat
  due  : Bool
  deriving DecidableEq, Repr

/-- A line that UART1 has not yet sent: the entry number, the time of the record, and the record (R521). -/
structure LogLine where
  entry : Nat
  since : Nat
  event : EventRec
  deriving DecidableEq, Repr

/-- The EVT block, the ledger log and the subscriptions (R490-R503). -/
structure Evt where
  /-- SEQUENCE of the last event raised, or what stands in its place before the first (R490, R502). -/
  seq        : Nat := 0
  pending    : BitVec 512 := 0
  mask       : BitVec 512 := BitVec.allOnes 512
  /-- Routes that differ from the reset value, as their register reads less the forced LOG bit. -/
  routes     : Tab Reg := []
  holdoff    : Tab Nat := []
  enable     : Bool := false
  base       : Nat := 0
  k          : Nat := 6
  latched    : Nat × Nat := (0, 6)
  head       : Nat := 0
  tail       : Nat := 0
  drop       : Nat := 0
  overrun    : Bool := false
  logHi      : Nat := 0
  logOverrun : Nat := 0
  mlDrop     : Nat := 0
  subs       : Tab Sub := []
  /-- The vectors in their holdoff (R496). -/
  holding    : Tab Holdoff := []
  /-- Lines that UART1 has not yet sent, oldest first, and the lines dropped (R521). -/
  uart1      : List LogLine := []
  uart1Drops : Nat := 0
  deriving DecidableEq, Repr

/-- The readings of one sweep (R479). -/
structure Readings where
  temps  : List Int := []
  volts  : List Nat := []
  cycles : List Nat := []
  preds  : List Nat := []
  refs   : List Nat := []
  vout   : Nat := 0
  iout   : Nat := 0
  deriving DecidableEq, Repr

/-- The MON block and adaptive voltage (R478-R487, R501). -/
structure Mon where
  sweep     : Nat := 0
  raw       : Readings := {}
  latched   : Nat × Readings := (0, {})
  tsLimit   : Tab Reg := []
  vmLo      : Tab Reg := []
  vmHi      : Tab Reg := []
  alarmTs   : Nat := 0
  alarmLo   : Nat := 0
  alarmHi   : Nat := 0
  /-- The sensors and monitors whose alarm event may not be raised again yet. -/
  tsHeld    : List Nat := []
  loHeld    : List Nat := []
  hiHeld    : List Nat := []
  /-- The sensors that read at or above the trip threshold in the last sweep (R483). -/
  hot       : List Nat := []
  /-- The time of the last sweep. -/
  sweepAt   : Nat := 0
  /-- The first monitor outside the envelope, while outside (R67). -/
  outside   : Option Nat := none
  /-- Sweeps in a row with every monitor inside the envelope (R68). -/
  inside    : Nat := 0
  avsReq    : Nat := 750
  /-- VOUT_MODE of the regulator, which gives the format of VOUT_COMMAND (R485). -/
  voutMode  : Nat := 0
  avsFaults : Nat := 0
  /-- Bad and good sweeps in a row of the PMBus readback (R485). -/
  avsBad    : Nat := 0
  avsGood   : Nat := 0
  avsFault  : Bool := false
  /-- The main supply is in hold-up (R481). -/
  holdup    : Bool := false
  /-- The I/O banks whose supply reads below the level at which their outputs are driven (R551). -/
  lowBanks  : List Nat := []
  deriving DecidableEq, Repr

/-- The PCIe function (R507-R513): link, Bus Master Enable, D3hot, MSI-X masks and pending bits, and reads that wait. -/
structure Pcie where
  link      : Bool := false
  master    : Bool := false
  d3hot     : Bool := false
  vecMask   : BitVec 64 := BitVec.allOnes 64
  /-- The function mask (R513). -/
  fnMask    : Bool := false
  pba       : BitVec 64 := 0
  /-- The address and data words of the MSI-X table: three of each vector, by 4 times the vector and the word (R509). -/
  table     : Tab Reg := []
  /-- Uncorrectable Error Status of Advanced Error Reporting (R508). -/
  aer       : BitVec 32 := 0
  /-- Host reads of empty FIFO windows that wait for an item: offset, and bytes (R24). -/
  waits     : List (Nat × Nat) := []
  deriving DecidableEq, Repr

/-- The device may issue DMA and messages: the link is up, in D0 with Bus Master Enable set (R96, R512). -/
def Pcie.canDma (p : Pcie) : Bool := p.link && p.master && !p.d3hot

/-- A vector is masked in its table entry or under the function mask (R513). -/
def Pcie.masks (p : Pcie) (v : Nat) : Bool := p.fnMask || p.vecMask.getLsbD v

/-- The address and the data of a vector's message, from its table entry (R509). -/
def Pcie.message (p : Pcie) (v : Nat) : Nat × Nat :=
  ((Tab.getD p.table (4 * v) 0).toNat + 2 ^ 32 * (Tab.getD p.table (4 * v + 1) 0).toNat, (Tab.getD p.table (4 * v + 2) 0).toNat)

/-- A datagram that is being put together from fragments (R514). -/
structure Reasm where
  src   : Endpoint
  id    : Nat
  parts : List (Nat × Bytes)
  total : Option Nat
  since : Nat
  deriving DecidableEq, Repr

/-- A datagram that reassembly has dropped (R514). -/
structure ReasmDrop where
  src : Endpoint
  id  : Nat
  at_ : Nat
  deriving DecidableEq, Repr

/-- The source of the management lane's address (R517). -/
inductive AddrSrc where
  | none | dhcp | static | linkLocal
  deriving DecidableEq, Repr

/-- The management lane (R514-R517). -/
structure Ml where
  dhcp      : Bool := true
  /-- DHCP as the last APPLY put it in use. -/
  dhcpOn    : Bool := true
  /-- The comma alignment measured at the last link-up, in 2^-16 ns (R278). -/
  align     : Nat := 0
  ipv4      : Nat := 0
  plen      : Nat := 24
  gateway   : Nat := 0
  addr      : Nat := 0
  addrSrc   : AddrSrc := .none
  /-- Prefix length and next hop in use. -/
  inUse     : Nat × Nat := (24, 0)
  /-- The DHCP state is under way: requesting an offered address. -/
  offered   : Option Nat := none
  link      : Bool := false
  /-- The instant of the last link-up (R515). -/
  upAt      : Nat := 0
  speed     : Nat := 0
  reasm     : List Reasm := []
  /-- Datagrams dropped in reassembly, and when: their further fragments count no more (R514). -/
  dropped   : List ReasmDrop := []
  reasmDrop : Nat := 0
  deriving DecidableEq, Repr

/-- A prepared OTP write: slot, hash (`none` for a revocation), commit code, instant prepared (R524). -/
structure OtpPrep where
  slot  : Nat
  hash  : Option Bytes
  code  : Reg
  since : Nat
  deriving DecidableEq, Repr

/-- The Niwin monitor (R522-R524): whether the prompt is out, whether it follows the log, a prepared OTP write, and lines that wait. -/
structure Niwin where
  started : Bool := false
  follow  : Bool := false
  prep    : Option OtpPrep := none
  /-- Lines that came during UPDATE_PAUSE, oldest first; none for a line glued to characters of a cut one (R522). -/
  held    : List (Option Line) := []
  /-- The first characters of a line were kept in UPDATE_PAUSE and the rest of it discarded (R522). -/
  cut     : Bool := false
  /-- Records that `log follow` dropped (R523). -/
  drops   : Nat := 0
  deriving DecidableEq, Repr

/-- The state of the block. `pending` is the queue of commands that wait, first in first out; `out`, `now` and `fresh`
are the model's own fields: what has left the block, the time since reset in units of 2^-16 ns, and the counter that
free values are drawn with. -/
structure State where
  fuses   : Fuses := {}
  gl      : Global := {}
  hq      : HostQ := {}
  ses     : Tab Session := []
  jobs    : Jobs := {}
  rt      : RealTime := {}
  stage   : Stage := {}
  force   : Option InForce := none
  par     : Params := {}
  pb      : Tab Playback := []
  gen     : Tab Gen := []
  sch     : Scheduler := {}
  tk      : TimeKeeper := {}
  pair    : Pair := {}
  lane    : Tab Lane := []
  flow    : Tab Flow := []
  rx      : Tab Rx := []
  ixrx    : Tab IxRx := []
  col     : Colour := {}
  canvas  : Tab Canvas := []
  layer   : Tab Layer := []
  buf     : Tab Buffer := []
  video   : Tab Video := []
  wit     : WitBlock := {}
  lat     : Latency := {}
  scan    : Tab ScanPort := []
  dmx     : Tab DmxPort := []
  met     : Metering := {}
  bak     : Backup := {}
  nv      : NonVolatile := {}
  boot    : Boot := {}
  upd     : Update := {}
  lock    : Lock := {}
  chkg    : ChkGlobal := {}
  chk     : Tab Chk := []
  img     : Image := {}
  ledgerPage : Nat := 0
  mon     : Mon := {}
  evt     : Evt := {}
  pcie    : Pcie := {}
  ml      : Ml := {}
  nw      : Niwin := {}
  pending : List Instr := []
  out     : List Output := []
  now     : Nat := 0
  fresh   : Nat := 0
  deriving DecidableEq, Repr

/-- The machine right after reset: every field at the value its chapter states, and where it states none at the value
that the assumption log names (entries 4 to 7). -/
def State.reset : State := {}

end Sys2Proof.Machine
end

