-- ==== Sys2Proof/Machine/Ops.lean ====
section
/-! DEFINITION. The shared operations: what leaves the block, events and their delivery (R490-R498), MSI-X signals
(R496, R513), configuration records, sessions, and replies of ring pairs (R84-R99, R103-R110). -/

namespace Sys2Proof.Machine

/-- The outcome of a meaning. -/
abbrev Outcome := Host.Outcome State Fault Refusal

/-! ## Units of time -/

/-- Nanoseconds in the model's unit of 2^-16 ns. -/
abbrev nsT (n : Nat) : Nat := n * 65536
/-- Microseconds in 2^-16 ns. -/
abbrev usT (n : Nat) : Nat := n * 65536000
/-- Milliseconds in 2^-16 ns. -/
abbrev msT (n : Nat) : Nat := n * 65536000000
/-- Seconds in 2^-16 ns. -/
abbrev secT (n : Nat) : Nat := n * 65536000000000

/-- The frame of the most recent cut, on a member that follows also of its own cut that waits for its heartbeat (R43,
R390); none until the first cut after admission. -/
def State.cutFrame (s : State) : Option Nat := s.pair.awaits.or s.gl.frame

/-- The frame of the most recent cut, 0 before the first (R43). -/
def State.frameNow (s : State) : Nat := s.cutFrame.getD 0

/-- Something leaves the block. -/
def State.emit (o : Output) (s : State) : State := { s with out := s.out ++ [o] }

/-- The balls of I/O bank b are in their reset states: its level was in neither range at the release of reset (R534), or its
supply has fallen too low since (R551). -/
def State.bankDead (s : State) (b : Nat) : Bool := s.boot.banks.getD b 1800 = 0 || s.mon.lowBanks.contains b

/-- A ball of I/O bank b is driven, unless the bank's balls are in their reset states (R533, R534, R551). -/
def State.drive (b : Nat) (o : Output) (s : State) : State := if s.bankDead b then s else s.emit o

/-- A free word, and the state with the next draw (log entry 3). -/
def State.draw (s : State) : BitVec 32 × State := (Config.freeWord s.fresh, { s with fresh := s.fresh + 1 })

/-! ## Statuses of R111 -/

namespace Status
def ok : Nat := 0x0000
def acceptedDeferred : Nat := 0x0001
def badOpcode : Nat := 0x0101
def badLength : Nat := 0x0102
def badVersion : Nat := 0x0103
def unitAbsent : Nat := 0x0104
def outOfRange : Nat := 0x0105
def badAtFrame : Nat := 0x0106
def badFlags : Nat := 0x0107
def badSession : Nat := 0x0108
def badReference : Nat := 0x0109
def busy : Nat := 0x0201
def busyOtherSource : Nat := 0x0202
def showArmed : Nat := 0x0203
def ownerLocked : Nat := 0x0204
def supplyLow : Nat := 0x0205
def notBasting : Nat := 0x0206
def pressPending : Nat := 0x0207
def rateLocked : Nat := 0x0208
def timeNotReady : Nat := 0x0209
def wrongState : Nat := 0x020A
def queueFull : Nat := 0x020B
def framePassed : Nat := 0x020C
def sessionLimit : Nat := 0x020D
def pairActiveUnit : Nat := 0x020E
def admitDeadline : Nat := 0x0301
def admitConflict : Nat := 0x0302
def admitBandwidth : Nat := 0x0303
def admitMemory : Nat := 0x0304
def headerBad : Nat := 0x0401
def signatureBad : Nat := 0x0402
def crcBad : Nat := 0x0403
def expectedCorrupt : Nat := 0x0404
def dataUncorrectable : Nat := 0x0405
def expired : Nat := 0x0501
def rdmTimeout : Nat := 0x0502
def sensorTimeout : Nat := 0x0503
def flashTimeout : Nat := 0x0504
end Status

/-! ## Event sources of R488 -/

namespace Ev
def admitDone : Nat := 0x000
def configPressed : Nat := 0x001
def pressMissed : Nat := 0x002
def frameLate : Nat := 0x003
def leadClamped : Nat := 0x004
def envelopeExit : Nat := 0x005
def envelopeReturn : Nat := 0x006
def autostartFailed : Nat := 0x007
def commandDone : Nat := 0x020
def sessionEnded : Nat := 0x021
def timedWithdrawn : Nat := 0x022
def hostqFault : Nat := 0x023
def ringStall : Nat := 0x024
def fifoWriteDrop : Nat := 0x025
def coreStall : Nat := 0x026
def laneStoreError : Nat := 0x027
def sensorFault : Nat := 0x040
def trimLimit : Nat := 0x041
def calApplied : Nat := 0x042
def canvasPressed : Nat := 0x060
def bufferRetired : Nat := 0x061
def layerFault : Nat := 0x062
def layerFetchLate : Nat := 0x063
def videoLost : Nat := 0x064
def videoDiverge : Nat := 0x065
def witnessMismatch : Nat := 0x066
def witnessFault : Nat := 0x067
def expectedCorrupt : Nat := 0x068
def timeStepped : Nat := 0x080
def timeState : Nat := 0x081
def timeSource : Nat := 0x082
def ltcDiscontinuity : Nat := 0x083
def triggerFired : Nat := 0x084
def triggerMissed : Nat := 0x085
def launchSlip : Nat := 0x086
def latencyUpdated : Nat := 0x087
def linkUp : Nat := 0x0A0
def linkDown : Nat := 0x0A1
def destUnresolved : Nat := 0x0A2
def sacnLost : Nat := 0x0A3
def sacnRestored : Nat := 0x0A4
def claimChanged : Nat := 0x0A5
def teStuck : Nat := 0x0C0
def scanFault : Nat := 0x0C1
def integrityOff : Nat := 0x0C2
def scanTripped : Nat := 0x0C3
def pairLinkSlow : Nat := 0x0E0
def pairFault : Nat := 0x0E1
def pairDiverged : Nat := 0x0E2
def pairSynced : Nat := 0x0E3
def pairTakeover : Nat := 0x0E4
def pairLost : Nat := 0x0E5
def pairDualActive : Nat := 0x0E6
def pairDuty : Nat := 0x0E7
def meterLineFault : Nat := 0x100
def meterLineRestored : Nat := 0x101
def meterDeltaSat : Nat := 0x102
def meterClip : Nat := 0x103
def nightActivity : Nat := 0x104
def feederTrip : Nat := 0x105
def feederBleedFault : Nat := 0x106
def memCorrected : Nat := 0x120
def memUncorrectable : Nat := 0x121
def chkDone : Nat := 0x122
def chkMismatch : Nat := 0x123
def chkFault : Nat := 0x124
def personalityBad : Nat := 0x140
def updateAborted : Nat := 0x141
def updateActivated : Nat := 0x142
def updateConfirmed : Nat := 0x143
def updateFallback : Nat := 0x144
def tempHigh : Nat := 0x160
def voltageAlarm : Nat := 0x161
def avsFault : Nat := 0x162
def thermalTrip : Nat := 0x163
def tamper : Nat := 0x164

/-- The sources of fault class (R489). -/
def faults : List Nat := [coreStall, hostqFault, witnessFault, pairDualActive, feederBleedFault, memUncorrectable,
  chkFault, avsFault, thermalTrip, tamper]

/-- The sources of notice class (R489). -/
def notices : List Nat := [admitDone, configPressed, envelopeReturn, commandDone, sessionEnded, calApplied,
  canvasPressed, bufferRetired, timeState, timeSource, triggerFired, latencyUpdated, linkUp, sacnRestored, pairSynced,
  meterLineRestored, chkDone, updateActivated, updateConfirmed]

/-- The class of a source (R489, R490): 0 notice, 1 warning, 2 fault. -/
def cls (src : Nat) : Nat := if src ∈ faults then 2 else if src ∈ notices then 0 else 1
end Ev

/-! ## MSI-X vectors (R496, R513) -/

/-- The message of a vector leaves (R496, R509). -/
def State.msixEmit (v : Nat) (s : State) : State := s.emit (.msix v (s.pcie.message v).1 (s.pcie.message v).2)

/-- The vectors that are pending and no longer masked signal, once each, as soon as the function can (R513). -/
def State.flushMsix (s : State) : State :=
  if !s.pcie.canDma then s
  else
    ((List.range 64).filter fun v => s.pcie.pba.getLsbD v && !s.pcie.masks v).foldl (fun (s : State) v =>
      ({ s with pcie := { s.pcie with pba := s.pcie.pba &&& ~~~(1#64 <<< v) } } : State).msixEmit v) s

/-- The host writes that enable a ring come with Bus Master Enable and D0 set (R512, log entry 31). -/
def State.busMaster (s : State) : State :=
  ({ s with pcie := { s.pcie with master := true, d3hot := false } } : State).flushMsix

/-- A vector is signalled on PCIe, or its pending bit is set while it is masked (R513); a function that may not write
sends nothing (R96). -/
def State.msixSend (v : Nat) (s : State) : State :=
  if s.pcie.masks v then { s with pcie := { s.pcie with pba := s.pcie.pba ||| (1#64 <<< v) } }
  else if s.pcie.canDma then s.msixEmit v
  else s

/-- A vector is to be signalled, at most once in its holdoff (R496). -/
def State.signal (v : Nat) (s : State) : State :=
  match Tab.find s.evt.holding v with
  | some h => { s with evt := { s.evt with holding := Tab.put s.evt.holding v { h with due := true } } }
  | none =>
    let s := s.msixSend v
    if Tab.getD s.evt.holdoff v 0 = 0 then s
    else { s with evt := { s.evt with
      holding := Tab.put s.evt.holding v { ends := s.now + usT (Tab.getD s.evt.holdoff v 0), due := false } } }

/-! ## Events (R490-R498) -/

/-- The route of a source as its register reads (R503). -/
def Evt.route (e : Evt) (src : Nat) : Nat :=
  (Tab.getD e.routes src 0).toNat % 1024 + (if Ev.cls src ≠ 0 then 1024 else flag ((Tab.getD e.routes src 0).toNat.testBit 10) 10)

/-- Whether a source is masked (R492). -/
def Evt.masked (e : Evt) (src : Nat) : Bool := e.mask.getLsbD src

/-- The record of an event raised now (R490). `frame` is the frame that it names. -/
def State.eventRec (s : State) (src inst value : Nat) (frame : Option Nat) : EventRec :=
  { src, cls := Ev.cls src, frameNamed := frame.isSome, seq := (s.evt.seq + 1) % 2 ^ 32,
    ns := s.tk.counter / 65536 % 1000000000, sec := s.tk.counter / 65536 / 1000000000 % 2 ^ 48,
    frame := frame.getD (s.pair.awaits.getD s.gl.lastCut), inst := inst % 2 ^ 32, value := value % 2 ^ 32 }

/-- A record is written to the ledger log (R498): it takes the next entry number, and overwrites the oldest of 65,536.
UART1 gets a line for it (R521), and Niwin prints it while it follows, or drops and counts it (R523). -/
def State.logWrite (r : EventRec) (s : State) : State :=
  let full := s.nv.log.length ≥ 65536
  let s := { s with
    nv := { s.nv with
      log := (if full then s.nv.log.drop 1 else s.nv.log) ++ [r]
      logNext := s.nv.logNext + 1 }
    evt := { s.evt with
      uart1 := s.evt.uart1 ++ [LogLine.mk s.nv.logNext s.now r]
      logOverrun := if full then satInc s.evt.logOverrun else s.evt.logOverrun } }
  if !s.nw.follow then s
  else if Config.uart0KeepsUp (s.nv.logNext - 1) s.now then s.drive 4 (.uart0 "log" [s.nv.logNext - 1, r.seq, r.src, r.inst, r.value])
  else { s with nw := { s.nw with drops := satInc s.nw.drops } }

/-- The number of entries between two 16-bit ring indices (R91). -/
def ringUsed (head tail : Nat) : Nat := (head + 65536 - tail) % 65536

/-- The PHASE of the entry at an index of a ring of 2^k entries (R93, R495). -/
def phaseOf (index k : Nat) : Bool := index / 2 ^ k % 2 = 0

/-- A record goes to the event ring (R495): dropped and counted with the ring full. -/
def State.ringWrite (r : EventRec) (s : State) : State :=
  if !s.evt.enable then s
  else if ringUsed s.evt.head s.evt.tail ≥ 2 ^ s.evt.latched.2 then
    { s with evt := { s.evt with drop := satInc s.evt.drop, overrun := true } }
  else
    let s' := s.emit (.eventEntry s.evt.head (phaseOf s.evt.head s.evt.latched.2) { r with overrun := s.evt.overrun })
    { s' with evt := { s'.evt with head := (s'.evt.head + 1) % 65536, overrun := false } }

/-- The endpoint of a session of the management lane. -/
def Session.endpoint (x : Session) : Option Endpoint :=
  match x.source with
  | .ml e => some e
  | .pcie => none
  | .firmware => none

/-- The session id of a slot (R100). -/
def Session.id (x : Session) (slot : Nat) : Nat := slot + 64 * x.gen

/-- The reply header of R84 in bytes. -/
def Reply.header (r : Reply) : Bytes :=
  leBytes 2 r.op ++ leBytes 1 1 ++ leBytes 1 6 ++ leBytes 2 r.ans.status ++ leBytes 2 r.session ++ leBytes 2 r.tag ++
  leBytes 2 r.ans.detail ++ leBytes 4 r.length ++ leBytes 6 (r.ans.frame.getD 0) ++
  leBytes 1 (flag r.truncated 0 + flag r.dup 1 + flag r.ans.frame.isSome 2) ++ leBytes 1 0

/-- The fragments of a UDP datagram with a number of payload bytes on a lane with an MTU of 1,500: offset and bytes of each in
the IP payload (R514). -/
def fragments (n : Nat) : List (Nat × Nat) :=
  (List.range ((n + 8 + 1479) / 1480)).map fun i => (1480 * i, min 1480 (n + 8 - 1480 * i))

/-- A reply leaves as a datagram of the management lane (R97, R514). -/
def State.sendDatagram (source : Nat) (dest : Endpoint) (r : Reply) (s : State) : State :=
  s.emit (.replyDatagram source dest r (fragments (24 + r.ans.payload.length)))

/-- The 32 bytes of an event record; `phase` is the PHASE of the event ring. -/
def EventRec.bytes (r : EventRec) (phase : Bool) : Bytes :=
  leBytes 2 r.src ++ leBytes 1 r.cls ++ leBytes 1 (flag r.overrun 0 + flag r.corrupt 1 + flag r.frameNamed 2 + flag phase 7) ++
  leBytes 4 r.seq ++ leBytes 4 r.ns ++ leBytes 6 r.sec ++ leBytes 6 r.frame ++ leBytes 4 r.inst ++ leBytes 4 r.value

/-- The reply header of event records of a session, with the records (R497). -/
def eventReply (session : Nat) (l : List EventRec) : Reply :=
  { op := 0x0D00, session, tag := 0, ans := { payload := l.flatMap fun r => r.bytes false }, length := 32 * l.length, truncated := false }

/-- The waiting records of a subscription leave as one datagram of at most 64 (R497). -/
def State.sendEvents (slot : Nat) (s : State) : State :=
  match Tab.find s.evt.subs slot, Tab.find s.ses slot with
  | some sub, some x =>
    match sub.waiting, x.endpoint with
    | [], _ => s
    | _, none => s
    | w, some e =>
      let r := eventReply (x.id slot) (w.take 64)
      let s := s.emit (.eventDatagram { ip := s.ml.addr, port := 47012 } e r (fragments (24 + r.ans.payload.length)))
      { s with evt := { s.evt with subs := Tab.put s.evt.subs slot { sub with waiting := w.drop 64, since := s.now } } }
  | _, _ => s

/-- A record joins the waiting records of a subscription: more than 2,048 drop the oldest, and 64 are sent (R497). -/
def State.subWrite (r : EventRec) (slot : Nat) (s : State) : State :=
  match Tab.find s.evt.subs slot with
  | none => s
  | some sub =>
    if !sub.sources.getLsbD r.src then s
    else
      let w := sub.waiting ++ [r]
      let sub := { sub with since := if sub.waiting.isEmpty then s.now else sub.since }
      let s := if w.length > 2048 then
          { s with evt := { s.evt with
            mlDrop := satInc s.evt.mlDrop
            subs := Tab.put s.evt.subs slot { sub with waiting := match w.drop 1 with
              | [] => []
              | x :: rest => { x with overrun := true } :: rest } } }
        else { s with evt := { s.evt with subs := Tab.put s.evt.subs slot { sub with waiting := w } } }
      if w.length ≥ 64 then s.sendEvents slot else s

/-- An event is raised (R490-R498): SEQUENCE advances, the pending bit is set, the record is logged where its class or
route says so, and, unmasked, goes to the ring, to the subscriptions and to its vector. -/
def State.raiseRec (r : EventRec) (s : State) : State :=
  let s := { s with
    evt := { s.evt with seq := r.seq, pending := s.evt.pending ||| (1#512 <<< r.src) }
    nv := { s.nv with seq := some r.seq } }
  let route := s.evt.route r.src
  let s := if route.testBit 10 then s.logWrite r else s
  if s.evt.masked r.src then s
  else
    let s := if route.testBit 9 then s.ringWrite r else s
    let s := (s.evt.subs.map Prod.fst).foldl (fun s slot => s.subWrite r slot) s
    if route.testBit 8 then s.signal (route % 64) else s

/-- An event with its instance and value. -/
def State.raise (src inst value : Nat) (s : State) : State := s.raiseRec (s.eventRec src inst value none)

/-- An event that names a frame (R490 FRAME_NAMED). -/
def State.raiseFrame (src inst value frame : Nat) (s : State) : State :=
  s.raiseRec (s.eventRec src inst value (some frame))

/-- A counter of R500 kept in the ledger advances by one. -/
def State.count (id : Nat) (s : State) : State :=
  { s with nv := { s.nv with counters := Tab.upd s.nv.counters id 0 satInc } }

/-! ## Uncorrectable errors of memory (R439) -/

/-- The code of a memory (R453). -/
def memCode : MemKind → Nat
  | .dram => 0
  | .sram => 1
  | .ledger => 2

/-- The row of R439 that a poisoned word falls in, from 0 (R491). A word that is bad in one copy of the image only has the
row of both (log entry 264). -/
def rowCode : PoisonRow → Nat
  | .schedule => 0
  | .image => 1
  | .bothCopies => 2
  | .imageCopy _ _ => 2
  | .parameter _ => 3
  | .fade _ _ => 4
  | .playbackState _ => 4
  | .generatorState _ => 4
  | .cueEntry _ _ _ => 5
  | .assignment _ _ => 5
  | .transient => 6
  | .coreData _ => 7

/-- With a poisoned word both copies of the image are bad at one address (R439). -/
def Image.losesTo (x : Image) : PoisonRow → Bool
  | .bothCopies => true
  | .imageCopy false a => x.badB.contains a
  | .imageCopy true a => x.badA.contains a
  | _ => false

/-- An uncorrectable error is found: MEM_UNCORRECTABLE, the counter and the latched address (R439, R491). What the word held
is still to be handled. -/
def State.foundPoison (p : Poison) (s : State) : State :=
  let g := { s.chkg with ueAddr := p.address % 2 ^ 40, ueMem := memCode p.mem, repairs := s.chkg.repairs ++ [p.row] }
  let g := match p.mem with
    | .dram => { g with dramUe := satInc g.dramUe }
    | .sram => { g with sramUe := satInc g.sramUe }
    | .ledger => { g with ledgerUe := satInc g.ledgerUe }
  { s with chkg := g }.raise Ev.memUncorrectable p.address
    (p.address / 2 ^ 32 % 256 + memCode p.mem * 256 + flag (s.img.losesTo p.row) 16 + rowCode p.row * 2 ^ 24)

/-- A palette swap or a calibration result starts a rewrite of the image, which does not restore one that is lost (R436,
R439). -/
def State.renewImage (s : State) : State :=
  { s with img := { s.img with rewriting := s.img.rewriting || !s.img.lost, version := s.img.version + 1 } }

/-! ## Configuration records -/

/-- The record of an object. -/
def Cfg.get (c : Cfg) (k : RecKind) (n : Nat) : Option Bytes :=
  (c.recs.find? fun r => r.kind = k ∧ r.num = n).map Rec.data

/-- Whether an object has a record. -/
def Cfg.has (c : Cfg) (k : RecKind) (n : Nat) : Bool := (c.get k n).isSome

/-- A record put among the records, in rising object number within its kind. -/
def putRec (r : Rec) : List Rec → List Rec
  | [] => [r]
  | x :: rest =>
    if x.kind = r.kind ∧ r.num < x.num then r :: x :: rest
    else if x.kind = r.kind ∧ r.num = x.num then r :: rest
    else x :: putRec r rest

/-- The bits of three 20-bit values of four bytes each. -/
abbrev value20 (n : Nat) : List (Nat × Nat) := (List.replicate n [(2, 0xFF), (1, 0x0F), (1, 0)]).flatten

/-- The layout of a table of 257 entries of 21 bits (R158, R184). -/
abbrev tableBits : List (Nat × Nat) := [(1, 0xFF), (3, 0)] ++ (List.replicate 257 [(2, 0xFF), (1, 0x1F), (1, 0)]).flatten

/-- The bits of a record that its layout gives a field, as runs of (bytes, mask): the others are reserved (R11, R557). Of the
layouts of R64, R65, R116-R118, R124, R139, R144, R158, R165, R166, R178, R181, R184, R185, R188, R205, R212, R226, R231, R233,
R246, R289, R291, R312, R316, R325, R328, R333, R342, R359, R360, R368, R382, R406, R418, R422, R424 and R430. -/
def recBits (k : RecKind) (d : Bytes) : List (Nat × Nat) :=
  match k with
  | .frame => [(2, 0xFF), (2, 0), (12, 0xFF)]
  | .dispatch => [(2, 0xFF), (14, 0)]
  | .jobSize => [(4, 0xFF), (12, 0)]
  | .level => [(4, 0xFF), (12, 0)]
  | .peg => [(4, 0xFF), (12, 0)]
  | .envelope => [(3, 0xFF), (1, 0)]
  | .role => [(1, 0xFF), (3, 0)]
  | .ftype => [(6, 0xFF), (2, 0), (8, 0xFF), (16, 0), (32, 0xFF)] ++
      (List.replicate (u8 d 2) ([(1, 0xFF), (1, 0x0F), (2, 0xFF)] ++ value20 3)).flatten ++
      (List.replicate (u8 d 3) (value20 2 ++ [(6, 0xFF), (1, 3), (1, 0xFF)])).flatten
  | .patch => [(7, 0xFF), (1, 0), (6, 0xFF), (2, 0)]
  | .rxMap => [(8, 0xFF), (1, 3), (1, 0xFF), (2, 0)]
  | .playback => [(3, 0xFF), (1, 3), (2, 0xFF), (2, 0), (20, 0xFF), (4, 0)]
  | .curve => tableBits
  | .effect => [(3, 0xFF), (1, 0x1F), (1, 0xFF), (1, 0), (16, 0xFF), (2, 0), (8, 0xFF)]
  | .assign => [(3, 0xFF), (1, 0), (2, 0xFF), (2, 0)]
  | .space => [(1, 0xFF), (3, 0), (36, 0xFF)]
  | .mix => [(3, 0xFF), (1, 1), (2, 0xFF), (2, 0)]
  | .dimCurve => tableBits
  | .calSet => [(1, 0xFF), (1, 0), (5, 0xFF), (1, 0)] ++
      (List.replicate (u8 d 6) ([(2, 0xFF), (2, 0)] ++
        (List.replicate (((d.length - 8) / max 1 (u8 d 6) - 4) / 12) (value20 2 ++ [(4, 0xFF)])).flatten)).flatten
  | .binding => [(7, 0xFF), (1, 1), (2, 0xFF), (2, 0), (4, 0xFF)]
  | .group => [(1, 0xFF), (1, 0), (3, 0xFF), (1, 0), (2, 0xFF)]
  | .script => [(2, 0xFF), (1, 0x7F), (3, 0xFF), (1, 3), (1, 0), (5, 0xFF), (3, 0), (36, 0xFF)] ++
      (List.replicate (u8 d 5) [(2, 0xFF), (2, 0), (4, 0xFF)]).flatten
  | .canvas => [(1, 0xFF), (1, 0), (4, 0xFF), (2, 0), (4, 0xFF), (4, 0)] ++ value20 3 ++ [(4, 0)]
  | .layer => [(13, 0xFF), (1, 0x9F), (1, 1), (1, 0), (1, 7), (1, 0x1F), (2, 0), (6, 0xFF), (1, 0x1F), (1, 0), (1, 0xFF), (1, 0x0F), (1, 0),
      (1, 0x80)]
  | .pixmap => [(9, 0xFF), (3, 0), (12, 0xFF)]
  | .pixseg => [(2, 0xFF), (1, 0x3F), (1, 0), (2, 0xFF), (1, 0x3F), (1, 0), (6, 0xFF), (2, 0)]
  | .video => [(28, 0xFF), (4, 0)]
  | .witness =>
    let rect := if u8 d 1 = 0 then 0xFF else 0
    [(3, 0xFF), (1, 3), (8, 0xFF), (4, rect), (4, 0xFF), (4, rect), (4, 0xFF), (4, 0)]
  | .lane => [(2, 0xFF), (1, if u8 d 1 = 2 then 0xFF else 0), (1, 3), (3, 0xFF), (1, 0xEF), (7, 0xFF), (1, 0), (8, 0xFF), (8, 0)]
  | .flow => [(6, 0xFF), (1, 1), (1, 0), (10, 0xFF), (2, 0), (12, 0xFF)]
  | .sacnSource => [(1, 0xFF), (1, 1), (14, 0), (80, 0xFF)]
  | .sacnFlow => [(1, 0xFF), (1, 0), (10, 0xFF), (1, 3), (83, 0)]
  | .sacnRx => [(3, 0xFF), (1, 1), (4, 0)]
  | .ixTx => [(4, 0xFF), (2, 0), (10, 0xFF), (16, 0)]
  | .ixRx => [(5, 0xFF), (3, 0), (4, 0xFF), (4, 0), (5, 0xFF), (3, 0), (4, 0xFF), (4, 0)]
  | .scan => [(26, 0xFF), (1, 0x7F), (1, 0), (3, 0xFF), (1, 0), (27, 0xFF), (5, 0)]
  | .scanGroup => [(3, 0xFF), (5, 0), (56, 0xFF)]
  | .seam => [(2, 0xFF), (2, 0), (10, 0xFF), (50, 0)]
  | .dmx => [(1, 0xFF), (1, 3), (14, 0xFF)]
  | .clock => [(2, 0xFF), (1, 7), (1, 0), (14, 0xFF), (14, 0)]
  | .domain => [(12, 0xFF), (1, 3), (1, 0), (4, 0xFF), (14, 0)]
  | .port => [(2, 0xFF), (1, 3), (1, 0), (12, 0xFF), (16, 0)]
  | .ltc => [(2, 0xFF), (2, 0), (6, 0xFF), (2, 0), (4, 0xFF), (16, 0)]
  | .fsync => [(8, 0xFF), (24, 0)]
  | .trigger => [(6, 0xFF), (1, 1), (64, 0)]
  | .capture => [(8, 0xFF), (64, 0)]
  | .pair => [(15, 0xFF), (17, 0)]
  | .meter => [(6, 0xFF), (1, 3), (1, 0), (15, 0xFF), (1, 0x0F), (34, 0xFF), (64, 0)]
  | .pulse => [(5, 0xFF), (1, 1), (6, 0xFF), (64, 0)]
  | .night => [(1, 0xFF), (1, 0x0F), (1, 0xFF), (1, 0), (4, 0xFF), (64, 0)]
  | .tamper => [(1, 0xFF), (1, 3), (1, 3), (1, 0xFF), (64, 0)]
  | .feeder => [(2, 0xFF), (1, 7), (9, 0xFF), (4, 0)]

/-- A record as the device keeps it: its reserved bytes and bits are ignored, and read as 0 (R11, R557). -/
def cleanRec (k : RecKind) (d : Bytes) : Bytes := maskBytes (recBits k d) d

/-- A configuration with an object's record replaced or added. -/
def Cfg.put (c : Cfg) (k : RecKind) (n : Nat) (d : Bytes) : Cfg := { c with recs := putRec ⟨k, n, cleanRec k d⟩ c.recs }

/-- A configuration without an object's record. -/
def Cfg.del (c : Cfg) (k : RecKind) (n : Nat) : Cfg := { c with recs := c.recs.filter fun r => ¬(r.kind = k ∧ r.num = n) }

/-- A configuration without the records of a kind that a test picks. -/
def Cfg.delIf (c : Cfg) (k : RecKind) (p : Nat → Bytes → Bool) : Cfg :=
  { c with recs := c.recs.filter fun r => ¬(r.kind = k ∧ p r.num r.data) }

/-- The records of a kind, in rising object number. -/
def Cfg.all (c : Cfg) (k : RecKind) : Tab Bytes := (c.recs.filter fun r => r.kind = k).map fun r => (r.num, r.data)

/-- The configuration in force, empty before the first admission. -/
def State.cfg (s : State) : Cfg := (s.force.map InForce.cfg).getD {}

/-- The schedule in force. -/
def State.sched (s : State) : Sched := (s.force.map InForce.sched).getD {}

/-! ## Sessions (R100-R102) -/

/-- The open session with an id, and its slot. -/
def State.session (s : State) (id : Nat) : Option (Nat × Session) :=
  match Tab.find s.ses (id % 64) with
  | some x => if x.isOpen ∧ x.gen = id / 64 ∧ id ≠ 0 then some (id % 64, x) else none
  | none => none

/-- The finished command joins the last 256 of its session (R110). -/
def State.finish (session : Nat) (f : Finished) (s : State) : State :=
  match s.session session with
  | none => s
  | some (slot, x) =>
    let l := x.finished ++ [f]
    { s with ses := Tab.put s.ses slot { x with finished := l.drop (l.length - 256) } }

/-- The causes of SESSION_ENDED, coded in the order of R102. -/
inductive EndCause where
  | close | keepalive | sourceLost | reset
  deriving DecidableEq, Repr

/-- The code of a session's end. -/
def EndCause.code : EndCause → Nat
  | .close => 0
  | .keepalive => 1
  | .sourceLost => 2
  | .reset => 3

/-- The update staging slot is released (R466); an UPDATE_CLOSE that runs completes (R102). -/
def State.freeUpdate (s : State) : State :=
  { s with upd := { s.upd with holder := none, source := .pcie, bodyLen := 0, header := none, blocks := [], verified := false } }

/-! ## Buffers (R218, R219) -/

/-- A buffer is in use: it is the value in force of a layer's BUFFER, or a fetch from it is in progress (R219). -/
def State.bufInUse (s : State) (id : Nat) : Bool :=
  s.layer.any fun e => (!bit e.2.force.buffer 31 && e.2.force.buffer % 4096 = id) ||
    (match e.2.fetching with
      | some f => f.buffer = id
      | none => false)

/-- The buffers in use. -/
def State.bufsInUse (s : State) : List Nat := (s.buf.map Prod.fst).filter s.bufInUse

/-- A buffer that is not in use is freed, and BUFFER_RETIRED carries RELEASED (R219). -/
def State.freeBuffer (id : Nat) (s : State) : State :=
  let l := ((Tab.find s.buf id).map Buffer.jobs).getD []
  let s := { s with buf := Tab.del s.buf id }
  let s := l.foldl (fun s j => s.finish j.session { tag := j.tag, op := j.op, status := Status.ok, detail := 0, frame := none }) s
  s.raise Ev.bufferRetired id 1

/-- The buffers that were in use before and no longer are retire: BUFFER_RETIRED carries the id and whether it is
released, and a pending release frees it (R219). -/
def State.retire (before : List Nat) (s : State) : State :=
  before.foldl (fun s id =>
    if s.bufInUse id then s
    else match Tab.find s.buf id with
      | none => s
      | some b => if b.release then s.freeBuffer id else s.raise Ev.bufferRetired id 0) s

/-- The device releases a buffer: at once, or when it next retires (R218, R219). -/
def State.releaseBuffer (id : Nat) (s : State) : State :=
  if s.bufInUse id then { s with buf := Tab.upd s.buf id { address := 0, size := 0, owner := 0 } fun b => { b with release := true } }
  else s.freeBuffer id

/-- A session ends (R102): its staging area, its update slot and its buffers are
released (R58, R218, R466), its subscription ends, and SESSION_ENDED
carries the id and the cause. -/
def State.endSession (slot : Nat) (cause : EndCause) (s : State) : State :=
  match Tab.find s.ses slot with
  | none => s
  | some x =>
    if !x.isOpen then s
    else
      let id := x.id slot
      let s := { s with ses := Tab.put s.ses slot { x with isOpen := false, finished := [] } }
      let s := if s.stage.holder = some id then { s with stage := { s.stage with holder := none, area := {} } } else s
      let s := if s.upd.holder = some id then s.freeUpdate.raise Ev.updateAborted 0 0 else s
      let s := { s with evt := { s.evt with subs := Tab.del s.evt.subs slot } }
      let s := ((s.buf.filter fun (e : Nat × Buffer) => e.2.owner = id).map Prod.fst).foldl (fun s b => s.releaseBuffer b) s
      s.raise Ev.sessionEnded id cause.code

/-! ## Ring pairs and replies (R84-R110) -/

/-- A ring pair right after reset (R94, R95): pairs 56-63 are enabled on the management lane, and RUNNING reads 0 until the
device has booted. -/
def RingPair.atReset (n : Nat) : RingPair :=
  if n < 56 then {} else { enable := true, ml := true }

/-- Ring pair n. -/
def State.ring (s : State) (n : Nat) : RingPair := Tab.getD s.hq.pairs n (RingPair.atReset n)

/-- A ring pair replaced. -/
def State.setRing (n : Nat) (p : RingPair) (s : State) : State := { s with hq := { s.hq with pairs := Tab.put s.hq.pairs n p } }

/-- Where the commands of a pair come from (R98, R101); none for a management-lane pair without a bound endpoint. -/
def RingPair.source (p : RingPair) : Option Source :=
  if p.ml then p.bound.map Source.ml else some .pcie

/-- The reply ring of a pair is full (R91); the replies of a management-lane pair never wait. -/
def RingPair.full (p : RingPair) : Bool := !p.ml && (ringUsed p.rplHead p.rplTail ≥ 2 ^ p.latched.2.2.2)

/-- A command of class I, S or X that executes or waits: the later ones of its pair wait for it (R103). -/
def Wait.inTurn : Wait → Bool
  | .nothing => false
  | .executing => false
  | .fence _ inTurn => inTurn
  | .turn _ => true
  | .rdm _ => true
  | .rinse _ => true
  | .mirror _ _ => false
  | .activation => true

/-- It is the turn of a command of class I, S or X of the pair, with the accepted commands before it (R103). -/
def RingPair.turn (p : RingPair) (before : List Slot) : Bool :=
  !((before.any fun x => x.ans.isNone && x.wait.inTurn) || p.late.any fun x => x.wait.inTurn)

/-- Whether the replies of a pair can be written (R96): PCIe DMA needs link, Bus Master Enable and D0, and a pair that
RPL_DMA_FAULT has disabled discards until it is in service again. -/
def State.canWrite (s : State) (p : RingPair) : Bool :=
  p.ml || (s.pcie.canDma && (p.running || !p.error.testBit 1))

/-- The reply of a slot, cut to its buffer or to a datagram (R84, R92, R97). -/
def Slot.reply (x : Slot) (ml : Bool) (a : Ans) : Reply :=
  let room := if ml then 65483 else x.rplSize
  { op := x.op, session := x.session, tag := x.tag, ans := { a with payload := a.payload.take room }
    length := a.payload.length, truncated := a.payload.length > room }

/-- The reply of DEVICE_RESET leaves: the device resets 10 ms later (R520). -/
def State.armReset (x : Slot) (a : Ans) (s : State) : State :=
  if x.op = 0x0F07 ∧ a.status = Status.ok then { s with boot := { s.boot with resetAt := some (s.now + msT 10) } } else s

/-- The front reply of a pair leaves: into its reply ring with the vector after it (R93, R94), or as a datagram that
the reply cache keeps (R97, R99); where it cannot be written it is discarded (R96). -/
def State.sendReply (n : Nat) (x : Slot) (a : Ans) (rest : List Slot) (s : State) : State :=
  let s := s.armReset x a
  let p := s.ring n
  let r := x.reply p.ml a
  let p := { p with slots := rest, heldSince := none, stalled := false }
  if !s.canWrite p then s.setRing n p
  else if p.ml then
    let l := p.cache ++ [r]
    let s := s.setRing n { p with cache := l.drop (l.length - 64) }
    match p.bound with
    | none => s
    | some e => s.sendDatagram x.sentTo e r
  else
    let s := s.emit (.replyEntry n p.rplHead (phaseOf p.rplHead p.latched.2.2.2) r)
    let s := s.setRing n { p with rplHead := (p.rplHead + 1) % 65536 }
    if p.vector.getLsbD 31 then s.signal (p.vector.toNat % 64) else s

/-- The replies of a pair that are ready leave in ring order, as far as there is room (R103, R105). -/
def State.flushFuel : Nat → Nat → State → State
  | 0, _, s => s
  | k + 1, n, s =>
    match (s.ring n).slots with
    | [] => s
    | x :: rest =>
      match x.ans with
      | none => s
      | some a =>
        if (s.ring n).full && s.canWrite (s.ring n) then
          match (s.ring n).heldSince with
          | some _ => s
          | none => s.setRing n { s.ring n with heldSince := some s.now }
        else flushFuel k n (s.sendReply n x a rest)

/-- The replies of a pair that are ready leave. -/
def State.flush (n : Nat) (s : State) : State := s.flushFuel (s.ring n).slots.length n

/-- A reply is held because the reply ring is full (R95 RPL_FULL, R105). -/
def RingPair.held (p : RingPair) : Bool :=
  p.full && (match p.slots with
    | x :: _ => x.ans.isSome
    | [] => false)

/-- The final status of a finished command is recorded for TAG_STATUS (R110); ACCEPTED_DEFERRED is not final (R90), and a
session that is not the sender's takes no part (R83). -/
def State.record (x : Slot) (a : Ans) (s : State) : State :=
  if a.status = Status.acceptedDeferred ∨ !x.own then s
  else s.finish x.session { tag := x.tag, op := x.op, status := a.status, detail := a.detail, frame := a.frame, af := x.af }

/-- The command of pair `n` that waits for `w` completes with an answer: its reply is ready, or, where its timeout has
expired, is discarded and counted (R109). -/
def State.complete (n : Nat) (w : Wait) (a : Ans) (s : State) : State :=
  let p := s.ring n
  match p.late.find? fun x => x.wait = w with
  | some x =>
    (s.record x a).setRing n { p with late := p.late.filter fun y => y.wait ≠ w, lateReply := satInc p.lateReply }
  | none =>
    match p.slots.find? fun x => x.wait = w with
    | none => s
    | some x =>
      let p := { p with slots := p.slots.map fun y => if y.wait = w then { y with wait := .nothing, ans := some a } else y }
      ((s.record x a).setRing n p).flush n

/-- The command that waits for `w`, on whichever pair it was accepted, completes. -/
def State.completeAny (w : Wait) (a : Ans) (s : State) : State :=
  (s.hq.pairs.map Prod.fst).foldl (fun s n => s.complete n w a) s

/-- A pair is taken out of service by a fault, a link loss or a reset of the function (R96). -/
def State.disablePair (n : Nat) (s : State) : State := s.setRing n { s.ring n with enable := false, running := false }

/-- An ERROR bit of a pair is set, and HOSTQ_FAULT names the pair (R95, R96). -/
def State.pairError (n b : Nat) (s : State) : State :=
  (s.setRing n { s.ring n with error := (s.ring n).error ||| 2 ^ b }).raise Ev.hostqFault n 0

/-! ## Deferred commands (R90, R558) -/

/-- The job id after one (R558). -/
def Jobs.after (id : Nat) : Nat := if id = 0xFFFF_FFFF then 1 else id + 1

/-- The job id of the deferred command that starts: the one that it took when it was accepted behind a fence, or the next
(R558). -/
def State.jobId (s : State) : Nat := s.jobs.reserved.getD s.jobs.next

/-- A deferred command starts (R558). -/
def State.startJob (op session tag : Nat) (s : State) : Job × State :=
  let j : Job := { id := s.jobId, op, session, tag }
  (j, { s with jobs := { s.jobs with
    next := if s.jobs.reserved.isSome then s.jobs.next else Jobs.after s.jobs.next
    reserved := none, active := s.jobs.active ++ [j] } })

/-- A command that is not of class D but answers ACCEPTED_DEFERRED has its job id: the one that it took when it was accepted
and had to wait, or the next (R219, R558). -/
def State.takeJobId (op session tag : Nat) (s : State) : Job × State :=
  ({ id := s.jobId, op, session, tag }, { s with jobs := { s.jobs with
    next := if s.jobs.reserved.isSome then s.jobs.next else Jobs.after s.jobs.next, reserved := none } })

/-- The deferred command is over: its final status is recorded, and COMMAND_DONE carries session, tag, opcode and status
(R90, R491). -/
def State.endJob (j : Job) (status detail : Nat) (s : State) : State :=
  let s := { s with jobs := { s.jobs with active := s.jobs.active.filter fun x => x.id ≠ j.id } }
  let s := s.finish j.session { tag := j.tag, op := j.op, status, detail, frame := none }
  s.raise Ev.commandDone (j.session + 65536 * j.tag) (j.op + 65536 * status)

/-! ## Identity -/

/-- GLOBAL.ID (R41). -/
def State.globalId (s : State) : Nat :=
  0x8200 * 65536 + s.fuses.stepping % 256 * 256 + (if s.fuses.gradeI then 16 else 0) + (if s.fuses.te8220 then 1 else 0)

/-- The upper limit of Tj of the grade, in degrees (R4): 95 for -C, 105 for -I. -/
def Fuses.tjHi (f : Fuses) : Int := if f.gradeI then 105 else 95

/-- The lower limit of Tj of the grade, in degrees (R4): 0 for -C, -40 for -I. -/
def Fuses.tjLo (f : Fuses) : Int := if f.gradeI then -40 else 0

end Sys2Proof.Machine
end

