-- ==== Sys2Proof/Machine/Flags.lean ====
section
/-! DEFINITION. Every status word that the block computes from its state: GLOBAL.STATE (R42), HOSTQ CTRL and STATUS
(R95), session bits (R94), ML_STATUS (R517), the flags of a FIFO window (R23), MON.ENVELOPE (R501) and check channel
STATUS (R454). -/

namespace Sys2Proof.Machine

/-- The code of the show state (R42). -/
def ShowState.code : ShowState → Nat
  | .idle => 0
  | .configured => 1
  | .running => 2
  | .armed => 3
  | .safeHold => 4

/-- The code of the device state (R42). -/
def DeviceState.code : DeviceState → Nat
  | .operational => 0
  | .boot => 1
  | .service => 2
  | .updatePause => 3

/-- The role of a configuration: engine unless it holds a SET_ROLE record (R64). -/
def Cfg.role (c : Cfg) : Nat :=
  match c.get .role 0 with
  | some d => u8 d 0
  | none => 1

/-- GLOBAL.STATE.ROLE: 0 with no configuration admitted (R42). -/
def State.role (s : State) : Nat :=
  match s.force with
  | some f => f.cfg.role
  | none => 0

/-- The unit holds the active duty of its pair (R38, R42, R401). -/
def State.pairActive (s : State) : Bool := s.pair.st = .active ∨ s.pair.st = .solo

/-- GLOBAL.STATE.ENVELOPE_OK (R42). -/
def State.envelopeOk (s : State) : Bool := s.force.isSome && s.mon.outside.isNone

/-- GLOBAL.STATE (R42). -/
def State.globalState (s : State) : Nat :=
  s.gl.show_.code + 16 * s.gl.device.code + 256 * s.role + flag s.pairActive 10 + flag s.envelopeOk 11

/-- The DETAIL of WRONG_STATE (R111): bits 15:0 of GLOBAL.STATE. -/
def State.wrongDetail (s : State) : Nat := s.globalState % 65536

/-- HOSTQn.CTRL (R95). -/
def RingPair.ctrlWord (p : RingPair) : Nat := flag p.enable 0 + flag p.ml 1 + flag p.rinse 2

/-- A class X command of the pair is executing (R95 HELD). -/
def RingPair.holdsX (p : RingPair) : Bool := (p.slots ++ p.late).any fun x => x.ans.isNone && (x.wait = .activation)

/-- HOSTQn.STATUS (R95). -/
def RingPair.statusWord (p : RingPair) : Nat :=
  flag p.running 0 + flag p.slots.isEmpty 1 + flag p.held 2 + flag p.holdsX 3

/-- HOSTQ.SESS_LO and SESS_HI as one number (R94): bit s for an open slot s. -/
def State.sessBits (s : State) : Nat := packBits ((List.range 64).map fun i => (Tab.getD s.ses i {}).isOpen)

/-- HOSTQ.ML_STATUS (R517). -/
def State.mlStatus (s : State) : Nat :=
  flag s.ml.link 0 + 2 * (match s.ml.addrSrc with
    | .none => 0
    | .dhcp => 1
    | .static => 2
    | .linkLocal => 3) + flag s.boot.strap2 3 + 16 * s.ml.speed

/-- The word of a FIFO window (R23): EMPTY, LAST, LEVEL and DATA. -/
def fifoWord (empty last : Bool) (level data : Nat) : Nat :=
  flag empty 63 + flag last 62 + min level 0xFFFF * 2 ^ 32 + data % 2 ^ 32

/-- MON.ENVELOPE (R501). -/
def State.monEnvelope (s : State) : Nat :=
  match s.mon.outside with
  | some m => 2 ^ 31 + m
  | none => 0

/-- The code of a check channel's state (R454). -/
def ChkState.code : ChkState → Nat
  | .idle => 0
  | .running => 1
  | .done => 2
  | .aborted => 3
  | .dataError => 4
  | .disabled => 5

/-- CHKc.STATUS (R454). -/
def Chk.statusWord (c : Chk) : Nat := c.st.code + flag c.valid 8 + flag c.match_ 9 + flag c.reloading 10

end Sys2Proof.Machine
end

