-- ==== Sys2Proof/Machine/Instants.lean ====
section
/-! DEFINITION. Frame rates, show instants and the frame period (R44-R47), and time moving forward. -/

namespace Sys2Proof.Machine

/-- The frame record in effect: the defaults are rate 60/1, offset 0 and depth 3 (R246, R247). -/
def Cfg.frameRec (c : Cfg) : Bytes :=
  (c.get .frame 0).getD ([0, 3, 0, 0] ++ leBytes 4 60 ++ leBytes 4 1 ++ leBytes 4 0)

/-- The numerator of the rate (R246). -/
def Cfg.rateN (c : Cfg) : Nat := u32 c.frameRec 4
/-- The denominator of the rate (R246). -/
def Cfg.rateD (c : Cfg) : Nat := u32 c.frameRec 8
/-- The show offset in ns (R45). -/
def Cfg.offsetNs (c : Cfg) : Int := iAt c.frameRec 12 4
/-- The pipeline depth (R47). -/
def Cfg.depth (c : Cfg) : Nat := u8 c.frameRec 1

/-- The named rates that exceed the limits of a custom rate, and those that do not, as exact fractions (R44). -/
def namedRates : List (Nat × Nat) :=
  [(24, 1), (25, 1), (30000, 1001), (30, 1), (48000, 1001), (48, 1), (50, 1), (60000, 1001), (60, 1), (90, 1), (100, 1),
   (120000, 1001), (120, 1), (240, 1)]

/-- The rate is a named rate or a custom rate within its limits (R44). -/
def rateOk (n d : Nat) : Bool :=
  namedRates.contains (n, d) ||
  (1 ≤ n && n ≤ 65535 && 1 ≤ d && d ≤ 65535 && 10 * d ≤ n && n ≤ 240 * d)

/-- The frame period in ns, rounded down (R46). -/
def Cfg.periodNs (c : Cfg) : Nat := 1000000000 * c.rateD / c.rateN

/-- The show instant T_n in units of 2^-16 ns (R45). -/
def Cfg.instant (c : Cfg) (n : Nat) : Int :=
  ((n * c.rateD * 1000000000 * 65536 / c.rateN : Nat) : Int) + c.offsetNs * 65536

/-- The show instant as a counter value. -/
def Cfg.instantN (c : Cfg) (n : Nat) : Nat := (c.instant n).toNat

/-- The frame whose slot holds a counter value: the greatest n whose show instant is not later, from the quotient and
its neighbours (R47, R89). -/
def Cfg.slotAt (c : Cfg) (t : Nat) : Nat :=
  let guess := ((t : Int) - c.offsetNs * 65536).toNat * c.rateN / (c.rateD * 1000000000 * 65536)
  if c.instant (guess + 1) ≤ t then guess + 1 else guess

/-- The first frame whose show instant is not before a counter time. -/
def Cfg.frameFrom (c : Cfg) (t : Nat) : Nat := if (t : Int) ≤ c.instant (c.slotAt t) then c.slotAt t else c.slotAt t + 1

/-- The instant of the cut of frame n: the start of slot n - d (R47). -/
def Cfg.cutInstant (c : Cfg) (n : Nat) : Nat := c.instantN (n - c.depth)

/-- The frame of the next cut: the one after the most recent cut or the last skipped frame (R470), or the fixed first cut
of a started show. -/
def State.nextCut (s : State) : Option Nat :=
  let next := s.cutFrame.map fun f => max f (s.upd.skipped.getLast?.getD f) + 1
  match s.pair.awaits, s.gl.firstCut with
  | some m, _ => some (m + 1)
  | none, some f => some f
  | none, none => match s.gl.show_ with
    | .running => next
    | .armed => next
    | .safeHold => next
    | .idle => none
    | .configured => none

/-- Bit exactness aside, the show runs: its cuts are made (R56, R57). -/
def State.showRuns (s : State) : Bool :=
  s.gl.show_ = .running ∨ s.gl.show_ = .armed ∨ s.gl.show_ = .safeHold

/-- Units of 10^-9 in which slews are held. -/
abbrev nano : Nat := 1000000000

/-- RUN_SLEW_NS in force; its default is 1,000 (R289). -/
def State.runSlew (s : State) : Nat :=
  match s.cfg.get .clock 0 with
  | some d => if u32 d 8 = 0 then 1000 else u32 d 8
  | none => 1000

/-- The rate of the servo's steering in ns per second (R281). While the show runs it is what RUN_SLEW_NS leaves beside the
last move of the frequency; otherwise frequency and steering together stay within 100 ppm. -/
def State.steerRate (s : State) : Nat :=
  if s.showRuns then s.runSlew - s.tk.moved
  else ((if s.tk.steer ≥ 0 then 25600000 - s.tk.freq else 25600000 + s.tk.freq) / 256).toNat

/-- A part of a slew, in its direction and of at most a size. -/
def slewPart (x : Int) (most : Nat) : Int := clampI (-(most : Int)) most x

/-- The offset of a source follows a move of the counter; that of a domain in MASTER stays 0 (R271). -/
def Servo.shift (v : Servo) (d : Int) : Servo := if v.st = .master then v else { v with offset := v.offset - d }

/-- The offsets of the sources follow a move of the counter (R271). -/
def TimeKeeper.shift (t : TimeKeeper) (d : Int) : TimeKeeper :=
  { t with
    domA := { t.domA with servo := t.domA.servo.shift d }
    domB := { t.domB with servo := t.domB.servo.shift d }
    ltc := { t.ltc with servo := t.ltc.servo.shift d }
    fsync := { t.fsync with servo := t.fsync.servo.shift d } }

/-- The counter is advanced over `d` units of 2^-16 ns by the steered increment (R266, R281, R284): its frequency offset,
the removal of a change of source at 10 ns per second, and the steering of the source in force, as one sum whose fraction
is kept, so that the counter never moves backwards. -/
def TimeKeeper.run (t : TimeKeeper) (d rate : Nat) : TimeKeeper :=
  let a := slewPart t.slew (10 * d)
  let b := slewPart t.steer (rate * d)
  let x := t.acc + t.freq * d + 256 * (a + b)
  let y := t.slewAcc + a + b
  let t := t.shift (y / nano)
  { t with
    counter := ((t.counter + d : Nat) + x / 256000000000).toNat
    acc := x % 256000000000, slew := t.slew - a, steer := t.steer - b, slewAcc := y % nano }

/-- Time passes by `d` units of 2^-16 ns (log entry 2). -/
def State.elapse (d : Nat) (s : State) : State :=
  { s with now := s.now + d, tk := s.tk.run d s.steerRate }

/-- An event that the manual places at a counter time happens at that time, or now where it has passed (log entry 2). -/
def State.advanceTo (t : Nat) (s : State) : State :=
  if t ≤ s.tk.counter then s
  else
    let s := s.elapse (t - s.tk.counter)
    { s with tk := { s.tk with counter := t } }

/-- A timeout expires at its time since reset, or now where that has passed (log entry 2). -/
def State.advanceNow (t : Nat) (s : State) : State := s.elapse (t - s.now)

end Sys2Proof.Machine
end

