-- ==== Sys2Proof/Machine/Operands.lean ====
section
/-! DEFINITION. The operand forms of the commands: header checks (R83), payload layout (R557), field and record checks,
command classes (R86-R89), frames of class T commands (R51, R106, R107), staged commands (R59) and the whole course of
a host command from acceptance to its reply. -/

namespace Sys2Proof

/-- A bit of FLAGS (R82) of a request is set. -/
def Req.opFlag (r : Req) (b : Nat) : Bool := r.flags.testBit b

end Sys2Proof

namespace Sys2Proof.Machine

/-- A refusal: status and DETAIL (R111). -/
structure Bad where
  status : Nat
  detail : Nat := 0
  deriving DecidableEq, Repr

/-- A check that may refuse. -/
abbrev Chk? (α : Type) := Except Bad α

/-- The command is refused unless the condition holds. -/
def need (c : Bool) (status detail : Nat) : Chk? Unit := if c then .ok () else .error ⟨status, detail⟩

/-- A field at a payload offset is in its range, or OUT_OF_RANGE with DETAIL at the field (R557). -/
def inRange (c : Bool) (off : Nat) : Chk? Unit := need c Status.outOfRange off

/-- A check of every element of a list with its position, in order; the first failure counts. -/
def eachIdx {α : Type} (l : List α) (i : Nat) (f : Nat → α → Chk? Unit) : Chk? Unit :=
  match l with
  | [] => .ok ()
  | x :: rest => match f i x with
    | .error b => .error b
    | .ok _ => eachIdx rest (i + 1) f

/-- A state passed through every element of a list with its position, in order; the first failure counts. -/
def foldIdx {α β : Type} (l : List α) (i : Nat) (b : β) (f : Nat → β → α → Chk? β) : Chk? β :=
  match l with
  | [] => .ok b
  | x :: rest => match f i b x with
    | .error e => .error e
    | .ok b' => foldIdx rest (i + 1) b' f

/-! ## Payload layout (R557) -/

/-- The offset of the first fixed field that is missing in whole or in part, for fields of the given sizes in order. -/
def firstMissing (sizes : List Nat) (off len : Nat) : Option Nat :=
  match sizes with
  | [] => none
  | n :: rest => if len < off + n then some off else firstMissing rest (off + n) len

/-- The length check of R557: the sizes of the fixed fields in order, and where a field gives the length of what
follows, its offset and that length. The answer is the DETAIL of a refusal. -/
def layout (sizes : List Nat) (var : Option (Nat × (Bytes → Nat))) (b : Bytes) : Option Nat :=
  match firstMissing sizes 0 b.length with
  | some d => some d
  | none =>
    match var with
    | none => if b.length > sizes.foldl (· + ·) 0 then some (sizes.foldl (· + ·) 0) else none
    | some (off, f) => if b.length = sizes.foldl (· + ·) 0 + f b then none else some off

/-- A payload of fixed fields only. -/
def fixedLayout (sizes : List Nat) : Bytes → Option Nat := layout sizes none

/-- A payload of an 8-byte header with COUNT at offset 0, and COUNT records of a size. -/
def countLayout (size : Nat) : Bytes → Option Nat := layout [4, 4] (some (0, fun b => size * u32 b 0))

/-- A payload of no bytes. -/
def noPayload : Bytes → Option Nat := layout [] none

/-! ## Commands -/

/-- The classes of R86. -/
inductive Cls where
  | immediate | staged | timed | deferred | exempt
  deriving DecidableEq, Repr

/-- What a command does next: it answers, or it waits for an event of the block. -/
inductive Res where
  | done (a : Ans)
  | wait (w : Wait)
  deriving DecidableEq, Repr

/-- An answer OK with a payload. -/
def Res.ok (payload : Bytes := []) : Res := .done { payload }

/-- How a command runs: at once; in the staging area; or at a cut, after validation. -/
inductive Body where
  | run (f : Req → State → Chk? (State × Res))
  | staged (f : Req → Cfg → State → Chk? Cfg)
  | timed (check : Req → State → Chk? Unit) (apply : Req → Nat → State → State)

/-- An opcode of R112: its code, class, whether it accepts an at-frame field, its opcode flags (bits 15:8 of FLAGS as a
mask), whether SESSION may be 0 (R100), its payload layout and its body. -/
structure Op where
  code      : Nat
  cls       : Cls
  af        : Bool := false
  flags     : Nat := 0
  noSession : Bool := false
  layout    : Bytes → Option Nat
  body      : Body

/-- The device accepts commands (R113), and the pair is in service and its source known (R95). Clearing ENABLE takes
effect once every accepted command has replied, and the pair accepts commands until then (log entry 201). -/
def State.serves (s : State) (n : Nat) : Bool :=
  (s.gl.device = .operational || s.gl.device = .service) && (s.ring n).running && (s.ring n).source.isSome

/-- The pair can accept its next command: no reply is held for want of room (R105). -/
def State.accepts (s : State) (n : Nat) : Bool := s.serves n && !(s.ring n).held

/-- The 90 s expiry of a trial won against HEALTH_CONFIRM: until the pause of the fallback ends, the command waits in its ring
(R474). -/
def State.confirmWaits (s : State) (code : Nat) : Bool := decide (code = 0x0C06) && s.upd.activate.any fun a => a.2.isSome

/-- Check 5 of R83: the session is open and belongs to the source of the pair, or is 0 where the opcode allows it. -/
def State.sessionOk (s : State) (op : Op) (r : Req) : Bool :=
  if r.session = 0 then op.noSession
  else match s.session r.session with
    | some (_, x) => (s.ring r.pair).source = some x.source
    | none => false

/-- Checks 2 and 4-6 of R83 on the header fields of a request: FLAGS.AT_FRAME agrees with the field, reserved FLAGS
bits are 0, the session, the at-frame field. -/
def headerCheck (op : Op) (r : Req) (s : State) : Chk? Unit :=
  if r.opFlag 0 ≠ r.atFrame.isSome then .error ⟨Status.badLength, if r.opFlag 0 then 24 else 16⟩
  else if field r.flags 7 3 ≠ 0 ∨ (r.flags / 256) &&& (0xFF - op.flags) ≠ 0 ∨ r.flags ≥ 65536 then .error ⟨Status.badFlags, 0⟩
  else if !s.sessionOk op r then .error ⟨Status.badSession, 0⟩
  else if r.atFrame.isSome && !op.af then .error ⟨Status.badAtFrame, 0⟩
  else .ok ()

/-- The restriction of SERVICE and of the recovery loader (R113, R462). -/
def serviceCheck (op : Op) (s : State) : Chk? Unit :=
  if s.gl.device ≠ .service then .ok ()
  else
    let allowed := if s.boot.recovery then [0x0101, 0x0102, 0x0103, 0x0C01, 0x0C02, 0x0C03, 0x0C04, 0x0C05, 0x0C06].contains op.code
      else [0x01, 0x0C, 0x0D, 0x0E, 0x0F].contains (op.code / 256)
    need allowed Status.wrongState s.wrongDetail

/-- The state refusals of R113: those of SERVICE, and REG_WRITE to the GLOBAL and HOSTQ blocks. -/
def stateCheck (op : Op) (r : Req) (s : State) : Chk? Unit := do
  serviceCheck op s
  need (op.code ≠ 0x0F02 || r.payload.length < 4 || u32 r.payload 0 ≥ 0x20000) Status.wrongState s.wrongDetail

/-- The show-state commands SHOW_START to SHOW_RESUME (R56). -/
def isShowState (code : Nat) : Bool := 0x0206 ≤ code && code ≤ 0x020B

/-- The commands without and with a frame that wait for a cut. -/
def RealTime.cutCount (t : RealTime) : Nat := (t.queue.filter fun q => q.frame.isNone).length
/-- The bytes of payload in the cut queue. -/
def RealTime.cutBytes (t : RealTime) : Nat :=
  ((t.queue.filter fun q => q.frame.isNone).map fun q => q.req.payload.length).foldl (· + ·) 0
/-- The commands of the timed queue. -/
def RealTime.timedCount (t : RealTime) : Nat := (t.queue.filter fun q => q.frame.isSome).length
/-- The bytes of payload in the timed queue. -/
def RealTime.timedBytes (t : RealTime) : Nat :=
  ((t.queue.filter fun q => q.frame.isSome).map fun q => q.req.payload.length).foldl (· + ·) 0

/-- Class T is refused by the show state or the pair state (R89, R388): in IDLE, in SAFE_HOLD but for SHOW_RESUME and
SHOW_STOP, and in a member that is neither ACTIVE nor SOLO. -/
def timedState (op : Nat) (s : State) : Chk? Unit :=
  let bad := Except.error ⟨Status.wrongState, s.wrongDetail⟩
  if s.pair.st ≠ .unpaired && !s.pairActive then bad
  else match s.gl.show_ with
    | .idle => bad
    | .safeHold => if op = 0x020B ∨ op = 0x0209 then .ok () else bad
    | .configured => .ok ()
    | .running => .ok ()
    | .armed => .ok ()

/-- Where a class T command goes: to the cut queue with the frame of the next cut, if it is known, or to the timed queue
with its named frame (R88, R89, R106, R107). While no show runs, a frame whose slot of the cut has begun falls before any
first cut the show can have (log entry 42). The manual does not order the refusals of a named frame; the model takes
QUEUE_FULL, BAD_AT_FRAME, FRAME_PASSED (log entry 202). -/
def fixFrame (r : Req) (s : State) : Chk? (Option Nat × Option Nat) :=
  let size := r.payload.length
  let cut : Chk? (Option Nat × Option Nat) :=
    if s.rt.cutCount ≥ 65536 ∨ s.rt.cutBytes + size > 16777216 then .error ⟨Status.queueFull, 0⟩
    else .ok (none, if s.showRuns ∨ r.atFrame.isSome then s.nextCut else none)
  match r.atFrame with
  | none => cut
  | some f =>
    let base := if s.showRuns then s.frameNow else s.cfg.slotAt s.tk.counter
    let passed : Bool := if s.showRuns then (match s.cutFrame with
        | some n => f ≤ n
        | none => false)
      else s.cfg.cutInstant f ≤ s.tk.counter || (match s.gl.firstCut with
        | some n => f < n
        | none => false)
    if s.rt.timedCount ≥ 16384 ∨ s.rt.timedBytes + size > 8388608 then .error ⟨Status.queueFull, 1⟩
    else if f > base + 16777216 then .error ⟨Status.badAtFrame, 0⟩
    else if passed then (if r.opFlag 1 then cut else .error ⟨Status.framePassed, 0⟩)
    else .ok (some f, some f)

/-- A command put among those that wait, in the order of acceptance (R103, R138). -/
def putQueued (q : Queued) : List Queued → List Queued
  | [] => [q]
  | x :: rest => if q.order < x.order then q :: x :: rest else x :: putQueued q rest

/-- A command joins those that wait for their cut. -/
def State.enqueue (q : Queued) (s : State) : State := { s with rt := { queue := putQueued q s.rt.queue } }

/-- The number, in the order of acceptance, of the command of a pair that executes. -/
def State.acceptedAt (s : State) (n : Nat) : Nat :=
  match (s.ring n).slots.find? fun x => x.wait = .executing with
  | some x => x.order
  | none => s.hq.accepted

/-- Whether class T commands are mirrored: in ACTIVE, and in SOLO to a peer that is in SYNCING (R387, R392). -/
def State.mirrors (s : State) : Bool := s.pair.st = .active || (s.pair.st = .solo && s.pair.peerState = some 2)

/-- An accepted class T command, with its frame where it is fixed, answers with it; in ACTIVE it is mirrored first, with its
place in the order of acceptance and whether it is in the timed queue, and the answer waits for the acknowledgement (R138, R387). -/
def State.mirrored (op : Nat) (r : Req) (known : Option Nat) (s : State) : State × Res :=
  let a : Ans := { frame := known }
  if !s.mirrors then (s, .done a)
  else
    let seq := s.pair.mirrorSeq + 1
    let s := { s with pair := { s.pair with mirrorSeq := seq } }
    (s.emit (.pairLink "mirror" [seq, op, known.getD 0, s.acceptedAt r.pair, flag (r.atFrame.isSome && decide (r.atFrame = known)) 0] r.payload), if s.pair.st = .active then .wait (.mirror seq a) else .done a)

/-- A validated class T command is queued (R87-R89, R106). -/
def queueTimed (op : Nat) (r : Req) (s : State) : Chk? (State × Res) :=
  match fixFrame r s with
  | .error b => .error b
  | .ok (slotFrame, known) =>
    let seq := if s.mirrors then some (s.pair.mirrorSeq + 1) else none
    .ok ((s.enqueue { op, req := r, frame := slotFrame, seq, fixed := known, order := s.acceptedAt r.pair }).mirrored op r known)

/-- A staged command needs the staging area (R59), and replaces it with what its body makes of it. -/
def runStaged (f : Req → Cfg → State → Chk? Cfg) (r : Req) (s : State) : Chk? (State × Res) :=
  if s.stage.holder ≠ some r.session then .error ⟨Status.notBasting, s.stage.holder.getD 0⟩
  else match f r s.stage.area s with
    | .error b => .error b
    | .ok c => .ok ({ s with stage := { s.stage with area := c } }, .ok)

/-- The execution of a command after its header checks: the state refusals of R113, the length check of R557, then its
body. -/
def Op.execute (op : Op) (r : Req) (s : State) : Chk? (State × Res) :=
  match stateCheck op r s with
  | .error b => .error b
  | .ok _ =>
    match op.layout r.payload with
    | some d => .error ⟨Status.outOfRange, d⟩
    | none =>
      match op.body with
      | .run f => f r s
      | .staged f => runStaged f r s
      | .timed check _ =>
        match timedState op.code s with
        | .error b => .error b
        | .ok _ =>
          match check r s with
          | .error b => .error b
          | .ok _ => queueTimed op.code r s

/-- The reply of a command carries data read from memory, and the read met an uncorrectable word (R439). -/
def repliesPoison (r : Req) : Chk? (State × Res) → Bool
  | .ok (_, .done a) => r.poison.isSome && decide (a.status = Status.ok) && !a.payload.isEmpty
  | _ => false

/-- The slots of a pair with the executing one changed. -/
def onExecuting (f : Slot → Slot) (l : List Slot) : List Slot := l.map fun x => if x.wait = .executing then f x else x

/-- The executing command of a pair answers, and the replies that are ready leave. -/
def State.answer (n : Nat) (a : Ans) (s : State) : State :=
  let p := s.ring n
  match p.slots.find? fun x => x.wait = .executing with
  | none => s
  | some x => ((s.record x a).setRing n { p with slots := onExecuting (fun y => { y with ans := some a, wait := .nothing }) p.slots }).flush n

/-- The executing command of a pair waits. -/
def State.waitFor (n : Nat) (w : Wait) (s : State) : State :=
  let p := s.ring n
  s.setRing n { p with slots := onExecuting (fun y => { y with wait := w }) p.slots }

/-- A refused command answers its status and changes no state (R83, R85). -/
def Bad.ans (b : Bad) : Ans := { status := b.status, detail := b.detail }

/-- The command of a pair has executed. -/
def State.conclude (n : Nat) (x : Chk? (State × Res)) (s : State) : State :=
  match x with
  | .error b => s.answer n b.ans
  | .ok (s', .done a) => s'.answer n a
  | .ok (s', .wait w) => s'.waitFor n w

/-- The command of a pair has executed; in place of a reply that would carry poisoned data it replies DATA_UNCORRECTABLE,
and does nothing else (R439). -/
def State.concludeRead (r : Req) (x : Chk? (State × Res)) (s : State) : State :=
  match r.poison, repliesPoison r x with
  | some p, true => (s.foundPoison p).answer r.pair { status := Status.dataUncorrectable }
  | _, _ => s.conclude r.pair x

/-- A command is accepted (R86): it takes its place among the accepted commands, and its timeout starts (R109). -/
def State.accept (op : Nat) (r : Req) (s : State) : State :=
  let p := s.ring r.pair
  ({ s with hq := { s.hq with accepted := s.hq.accepted + 1 } } : State).setRing r.pair { p with slots := p.slots ++ [{
    op, session := r.session, tag := r.tag, rplSize := r.rplSize, wait := .executing
    deadline := if r.timeoutMs = 0 then none else some (s.now + msT r.timeoutMs)
    af := r.atFrame.isSome
    own := (s.session r.session).any fun e => decide (p.source = some e.2.source)
    jobs := s.jobs.active.map Job.id ++ s.jobs.waiting
    sentTo := r.sentTo.getD s.ml.addr, order := s.hq.accepted }] }

/-- A command of a session restarts its keepalive time (R102), and one of family 0x0C the 30 s of the update slot
(R466). -/
def State.touch (op : Nat) (r : Req) (s : State) : State :=
  match s.session r.session with
  | none => s
  | some (slot, x) =>
    let s := { s with ses := Tab.put s.ses slot { x with lastUse := s.now } }
    if op / 256 = 0x0C ∧ s.upd.holder = some r.session then { s with upd := { s.upd with last := s.now } } else s

/-- A class D command accepted before a fenced one has not completed (R104). -/
def Jobs.runs (j : Jobs) (id : Nat) : Bool := j.waiting.contains id || j.active.any fun k => k.id = id

/-- The command of a slot may execute, with the accepted commands before it on the pair (R103, R104): behind a fence once
each of those has replied and every earlier class D command has completed, and a command of class I, S or X in its turn. -/
def State.mayStart (n : Nat) (before : List Slot) (x : Slot) (s : State) : Bool :=
  match x.wait with
  | .fence _ inTurn => before.isEmpty && (x.jobs.all fun id => !s.jobs.runs id) && (!inTurn || (s.ring n).turn before)
  | .turn _ => (s.ring n).turn before
  | _ => false

/-- Commands of the class run one at a time on a pair (R103). -/
def Cls.inTurn : Cls → Bool
  | .immediate => true
  | .staged => true
  | .exempt => true
  | .timed => false
  | .deferred => false

/-- What a command waits for before it executes: its fence, its turn, or nothing. -/
def Op.entry (op : Op) (r : Req) : Wait :=
  if r.opFlag 2 then .fence r op.cls.inTurn else if op.cls.inTurn then .turn r else .executing

/-- A command that can answer ACCEPTED_DEFERRED: those of class D, and BUFFER_RELEASE (R90, R219). -/
def Op.takesJob (op : Op) : Bool := op.cls = .deferred || (op.cls = .immediate && op.code = 0x0707)

/-- The newest command of a pair waits for its fence or its turn; one that can answer ACCEPTED_DEFERRED takes its job id, so
that ids follow the order of acceptance (R558, log entry 256), and later fences wait for it where it is of class D. -/
def State.hold (op : Op) (r : Req) (s : State) : State :=
  if op.takesJob then
    let p := s.ring r.pair
    ({ s with jobs := { s.jobs with
      next := Jobs.after s.jobs.next
      waiting := if op.cls = .deferred then s.jobs.waiting ++ [s.jobs.next] else s.jobs.waiting } } : State).setRing r.pair
      { p with slots := onExecuting (fun x => { x with wait := op.entry r, job := some s.jobs.next }) p.slots }
  else s.waitFor r.pair (op.entry r)

/-- The newest command of a pair may execute at once. -/
def State.startsNow (op : Op) (r : Req) (s : State) : Bool :=
  match (s.ring r.pair).slots.getLast? with
  | none => false
  | some x => decide (op.entry r = .executing) || s.mayStart r.pair (s.ring r.pair).slots.dropLast { x with wait := op.entry r }

/-- A command that has been accepted runs, or waits behind its fence or for its turn (R103, R104). -/
def State.start (op : Op) (r : Req) (s : State) : State :=
  match headerCheck op r s with
  | .error b => s.answer r.pair b.ans
  | .ok _ =>
    let s := s.touch op.code r
    if s.startsNow op r then s.concludeRead r (op.execute r s) else s.hold op r

/-- A host command: a pair that is not in service, or that cannot take a command now, takes none (R113, R103); otherwise
the command is accepted and runs. -/
def hostCommand (op : Op) (r : Req) (s : State) : Outcome :=
  if r.pair ≥ 64 then .next s
  else if !s.accepts r.pair || s.confirmWaits op.code then .next s
  else .next ((s.accept op.code r).start op r)

end Sys2Proof.Machine
end

