-- ==== Sys2Proof/Machine/Fields.lean ====
section
/-! DEFINITION. The fields of the records of a configuration, by the layouts of their opcodes: fixture types, patch and
receive maps (R116-R119, R124, R139), playbacks and generators (R144, R165). -/

namespace Sys2Proof.Machine

/-! ## Lanes, flows and units -/

/-- Lane n. -/
def State.laneOf (s : State) (n : Nat) : Lane := Tab.getD s.lane n {}

/-- A lane changed. -/
def State.updLane (n : Nat) (f : Lane → Lane) (s : State) : State := { s with lane := Tab.upd s.lane n {} f }

/-- Flow n. -/
def State.flowOf (s : State) (n : Nat) : Flow := Tab.getD s.flow n {}

/-- A flow changed. -/
def State.updFlow (n : Nat) (f : Flow → Flow) (s : State) : State := { s with flow := Tab.upd s.flow n {} f }

/-- The number of SerDes lanes and of scan ports of the variant (R5). -/
def State.lanes (s : State) : Nat := if s.fuses.te8220 then 8 else 16

/-- The pair-link lane of a configuration (R382), if it names one. -/
def State.pairLane (s : State) (c : Cfg) : Option Nat :=
  match c.get .pair 0 with
  | none => none
  | some d => if u8 d 0 = 0xFF then none else if u8 d 0 = 0xFE then some (s.lanes - 1) else some (u8 d 0)

/-- The pair record, where it names a lane (R382). -/
def State.pairRec (s : State) (c : Cfg) : Option (Bytes × Nat) :=
  match c.get .pair 0, s.pairLane c with
  | some d, some l => some (d, l)
  | _, _ => none

/-- The most network pixels of a frame (R5). -/
def State.networkPixels (s : State) : Nat := if s.fuses.te8220 then 8388608 else 16777216

/-- The number of DMX ports of the variant (R5). -/
def State.dmxPorts (s : State) : Nat := if s.fuses.te8220 then 16 else 32

/-- A configuration with the calibration sets in force, which are not saved with it (R195, R476; log entry 222). -/
def State.withSets (s : State) (c : Cfg) : Cfg := s.col.sets.foldl (fun (c : Cfg) e => c.put .calSet e.1 e.2) c

/-- The ball index of a row index and a column (R527). -/
abbrev ballIndex (row column : Nat) : Nat := 42 * row + (column - 1)

/-- A unit number field: outside the table it is out of range, absent on this variant it is absent (R6). -/
def unitField (max have_ n off : Nat) : Chk? Unit :=
  if n ≥ max then .error ⟨Status.outOfRange, off⟩ else if n ≥ have_ then .error ⟨Status.unitAbsent, off⟩ else .ok ()

/-! ## Fixture types (R116-R119); `d` is the whole TYPE_DEFINE payload -/

/-- PARAMS (R116). -/
abbrev ftParams (d : Bytes) : Nat := u8 d 2
/-- EMITTERS (R116). -/
abbrev ftEmitters (d : Bytes) : Nat := u8 d 3
/-- FOOTPRINT (R116). -/
abbrev ftFootprint (d : Bytes) : Nat := u16 d 4
/-- RX_LATENCY_NS (R116). -/
abbrev ftRxLatency (d : Bytes) : Nat := u32 d 8
/-- EMIT_LATENCY_NS (R116). -/
abbrev ftEmitLatency (d : Bytes) : Nat := u32 d 12
/-- The offset of a parameter record (R117). -/
abbrev fpOff (p : Nat) : Nat := 64 + 16 * p
/-- KIND (R117, R119). -/
abbrev fpKind (d : Bytes) (p : Nat) : Nat := u8 d (fpOff p)
/-- WIDTH: the slots of the parameter on the wire (R117). -/
abbrev fpWidth (d : Bytes) (p : Nat) : Nat := u8 d (fpOff p + 1) % 4
/-- INVERT (R117). -/
abbrev fpInvert (d : Bytes) (p : Nat) : Bool := (u8 d (fpOff p + 1)).testBit 2
/-- SNAP, which a kind that does not fade has always (R117, R119). -/
def fpSnap (d : Bytes) (p : Nat) : Bool := (u8 d (fpOff p + 1)).testBit 3 || fpKind d p = 0x0A || fpKind d p = 0x0B
/-- SLOT (R117). -/
abbrev fpSlot (d : Bytes) (p : Nat) : Nat := u16 d (fpOff p + 2)
/-- DEFAULT (R117). -/
abbrev fpDefault (d : Bytes) (p : Nat) : Nat := u32 d (fpOff p + 4) % 2 ^ 20
/-- MIN (R117). -/
abbrev fpMin (d : Bytes) (p : Nat) : Nat := u32 d (fpOff p + 8) % 2 ^ 20
/-- MAX (R117). -/
abbrev fpMax (d : Bytes) (p : Nat) : Nat := u32 d (fpOff p + 12) % 2 ^ 20
/-- The offset of an emitter record (R118). -/
abbrev feOff (d : Bytes) (e : Nat) : Nat := 64 + 16 * (ftParams d + e)
/-- CIE_X (R118). -/
abbrev feX (d : Bytes) (e : Nat) : Nat := u32 d (feOff d e) % 2 ^ 20
/-- CIE_Y (R118). -/
abbrev feY (d : Bytes) (e : Nat) : Nat := u32 d (feOff d e + 4) % 2 ^ 20
/-- FLUX (R118). -/
abbrev feFlux (d : Bytes) (e : Nat) : Nat := u32 d (feOff d e + 8)
/-- SLOT of an emitter (R118). -/
abbrev feSlot (d : Bytes) (e : Nat) : Nat := u16 d (feOff d e + 12)
/-- WIDTH of an emitter (R118). -/
abbrev feWidth (d : Bytes) (e : Nat) : Nat := u8 d (feOff d e + 14) % 4
/-- DIM_CURVE (R118). -/
abbrev feDim (d : Bytes) (e : Nat) : Nat := u8 d (feOff d e + 15)

/-- INTENSITY (R119). -/
abbrev kIntensity : Nat := 0x01

/-- The parameter kinds of R119. -/
def kindOk (k : Nat) : Bool := [0x01, 0x02, 0x03, 0x04, 0x05, 0x06, 0x08, 0x09, 0x0A, 0x0B].contains k

/-- The colour kinds (R119). -/
def isColour (k : Nat) : Bool := 0x02 ≤ k && k ≤ 0x06

/-! ## Patch (R124, R128) and receive maps (R139) -/

/-- TYPE of a patch record. -/
abbrev paType (d : Bytes) : Nat := u16 d 4
/-- DEST_KIND. -/
abbrev paKind (d : Bytes) : Nat := u8 d 6
/-- DEST. -/
abbrev paDest (d : Bytes) : Nat := u32 d 8
/-- START. -/
abbrev paStart (d : Bytes) : Nat := u16 d 12

/-- The type record of a patched instance. -/
def Cfg.instType (c : Cfg) (inst : Nat) : Option Bytes :=
  match c.get .patch inst with
  | some d => c.get .ftype (paType d)
  | none => none

/-- The type and the parameter number that a parameter address names, where it is patched (R128). -/
def Cfg.param (c : Cfg) (addr : Nat) : Option (Bytes × Nat) :=
  match c.instType (addr / 128) with
  | some t => if addr % 128 < ftParams t then some (t, addr % 128) else none
  | none => none

/-- The addresses of all patched parameters, in rising order. -/
def Cfg.addresses (c : Cfg) : List Nat :=
  (c.all .patch).flatMap fun e => match c.get .ftype (paType e.2) with
    | some t => (List.range (ftParams t)).map fun p => 128 * e.1 + p
    | none => []

/-- The instances of a type. -/
def Cfg.instances (c : Cfg) (ty : Nat) : List Nat := ((c.all .patch).filter fun e => paType e.2 = ty).map Prod.fst

/-- The parameter of an address is the same parameter in two configurations: same instance, type number, parameter
number and kind (R141). -/
def sameParam (c c' : Cfg) (addr : Nat) : Bool :=
  match c.param addr, c'.param addr with
  | some (t, p), some (t', p') => u16 t 0 = u16 t' 0 && p = p' && fpKind t p = fpKind t' p'
  | _, _ => false

/-! ## Playbacks (R144), cues (R146) and generators (R165) -/

/-- PRIORITY. -/
abbrev pbPriority (d : Bytes) : Nat := u8 d 2
/-- TRACK. -/
abbrev pbTrack (d : Bytes) : Bool := (u8 d 3).testBit 0
/-- LOOP. -/
abbrev pbLoop (d : Bytes) : Bool := (u8 d 3).testBit 1
/-- CUES. -/
abbrev pbCues (d : Bytes) : Nat := u16 d 4
/-- ENTRIES. -/
abbrev pbEntries (d : Bytes) : Nat := u32 d 8
/-- TRACKED. -/
abbrev pbTracked (d : Bytes) : Nat := u32 d 12
/-- BACK_TIME. -/
abbrev pbBackTime (d : Bytes) : Nat := u32 d 16
/-- RELEASE_TIME. -/
abbrev pbReleaseTime (d : Bytes) : Nat := u32 d 20
/-- LEVEL. -/
abbrev pbLevel (d : Bytes) : Nat := u32 d 24

/-- WAVE. -/
abbrev gnWave (d : Bytes) : Nat := u8 d 2
/-- MODE: 0 centred, 1 add, 2 subtract. -/
abbrev gnMode (d : Bytes) : Nat := u8 d 3 % 4
/-- INVERT. -/
abbrev gnInvert (d : Bytes) : Bool := (u8 d 3).testBit 2
/-- REVERSE. -/
abbrev gnReverse (d : Bytes) : Bool := (u8 d 3).testBit 3
/-- RUN. -/
abbrev gnRun (d : Bytes) : Bool := (u8 d 3).testBit 4
/-- GROUPS. -/
abbrev gnGroups (d : Bytes) : Nat := u16 d 20

/-- The number under which an assignment stands: its generator and parameter address (R166). -/
abbrev assignNum (gen addr : Nat) : Nat := gen * 2 ^ 24 + addr

/-! ## Lanes (R312), flows (R316), sACN (R325, R328) and Ixnik records (R333) -/

/-- MODE of a lane. -/
abbrev laMode (d : Bytes) : Nat := u8 d 1
/-- SPEED of a lane. -/
abbrev laSpeed (d : Bytes) : Nat := u8 d 2
/-- NO_ICMP. -/
abbrev laNoIcmp (d : Bytes) : Bool := (u8 d 3).testBit 1
/-- MTU. -/
abbrev laMtu (d : Bytes) : Nat := u16 d 4
/-- VLAN id; 0 is untagged. -/
abbrev laVlan (d : Bytes) : Nat := u16 d 6 % 4096
/-- Source MAC address as given. -/
abbrev laMac (d : Bytes) : Bytes := slice d 8 6
/-- PREFIX. -/
abbrev laPrefix (d : Bytes) : Nat := u8 d 14
/-- IPV4. -/
abbrev laIp (d : Bytes) : Nat := u32 d 16
/-- GATEWAY. -/
abbrev laGateway (d : Bytes) : Nat := u32 d 20

/-- The MAC data rate of a lane in Mb/s (R311). -/
def laRate (d : Bytes) : Nat :=
  match laMode d with
  | 1 => 1000
  | 2 => if laSpeed d = 0 then 10 else if laSpeed d = 1 then 100 else 1000
  | 3 => 2500
  | 4 => 10000
  | 5 => 25000
  | 6 => 25000
  | _ => 0

/-- KIND of a flow: 0 sACN, 1 Ixnik pixel, 2 Ixnik node feed, 3 scan port, 4 DMX port. -/
abbrev flKind (d : Bytes) : Nat := u8 d 2
/-- POLICY: true for SKIP (R53). -/
abbrev flSkip (d : Bytes) : Bool := u8 d 3 = 1
/-- LANE of a network flow. -/
abbrev flLane (d : Bytes) : Nat := u8 d 4
/-- DSCP. -/
abbrev flDscp (d : Bytes) : Nat := u8 d 5
/-- MUTED. -/
abbrev flMuted (d : Bytes) : Bool := (u8 d 6).testBit 0
/-- DEST_IP. -/
abbrev flIp (d : Bytes) : Nat := u32 d 8
/-- DEST_MAC. -/
abbrev flMac (d : Bytes) : Bytes := slice d 12 6
/-- TRANSIT_NS. -/
abbrev flTransit (d : Bytes) : Nat := u32 d 20
/-- EMIT_NS. -/
abbrev flEmit (d : Bytes) : Nat := u32 d 24
/-- UNIT: scan port or DMX port. -/
abbrev flUnit (d : Bytes) : Nat := u32 d 28

/-- A flow that uses a SerDes lane. -/
def flNetwork (d : Bytes) : Bool := flKind d ≤ 2

/-- FIRST universe of an sACN flow record. -/
abbrev saFirst (d : Bytes) : Nat := u16 d 4
/-- COUNT of universes. -/
abbrev saCount (d : Bytes) : Nat := u8 d 6
/-- PRIORITY. -/
abbrev saPriority (d : Bytes) : Nat := u8 d 7
/-- SLOTS, 512 by default. -/
def saSlots (d : Bytes) : Nat := if u16 d 8 = 0 then 512 else u16 d 8
/-- SYNC address. -/
abbrev saSync (d : Bytes) : Nat := u16 d 10

/-- The universes of an sACN flow record. -/
def saUniverses (d : Bytes) : List Nat := (List.range (saCount d)).map fun i => saFirst d + i

/-- FORMAT of an Ixnik record. -/
abbrev ixFormat (d : Bytes) : Nat := u8 d 1
/-- FLOW. -/
abbrev ixFlow (d : Bytes) : Nat := u16 d 2
/-- LANE of a receive record. -/
abbrev ixLane (d : Bytes) : Nat := u8 d 4
/-- PER_PACKET. -/
abbrev ixPerPacket (d : Bytes) : Nat := u16 d 6
/-- TOTAL. -/
abbrev ixTotal (d : Bytes) : Nat := u32 d 8
/-- PACE_MBPS. -/
abbrev ixPace (d : Bytes) : Nat := u32 d 12
/-- GROUP. -/
abbrev ixGroup (d : Bytes) : Nat := u32 d 16
/-- TARGET. -/
abbrev ixTarget (d : Bytes) : Nat := u8 d 20
/-- FIRST scan-port pixel. -/
abbrev ixFirst (d : Bytes) : Nat := u32 d 24
/-- Bytes of an element of a format. -/
def ixSize (format : Nat) : Nat := if format = 1 then 6 else 1
/-- The number of a receive record: its flow and lane. -/
abbrev ixRxNum (d : Bytes) : Nat := ixFlow d * 256 + ixLane d

/-- The sACN flow that carries a universe. -/
def Cfg.universeFlow (c : Cfg) (u : Nat) : Option (Nat × Bytes) :=
  (c.all .sacnFlow).find? fun e => saFirst e.2 ≤ u && u < saFirst e.2 + saCount e.2

/-- Pixels per row of a scan port record (R342, R343). -/
abbrev scWidth (d : Bytes) : Nat := u16 d 6
/-- Pixel rows of a scan port: S scan lines of G row groups (R342, R343). -/
abbrev scHeight (d : Bytes) : Nat := u8 d 4 * u8 d 5
/-- Pixels of a scan port. -/
abbrev scPixels (d : Bytes) : Nat := scWidth d * scHeight d

/-! ## Canvases (R205), layers (R212), video streams (R226) -/

/-- WIDTH of a canvas. -/
abbrev cvWidth (d : Bytes) : Nat := u16 d 2
/-- HEIGHT of a canvas. -/
abbrev cvHeight (d : Bytes) : Nat := u16 d 4
/-- TOTAL raster lines. -/
abbrev cvTotal (d : Bytes) : Nat := u16 d 8
/-- ACTIVE raster lines. -/
abbrev cvActive (d : Bytes) : Nat := u16 d 10
/-- CANVAS of a layer. -/
abbrev lyCanvas (d : Bytes) : Nat := u8 d 1
/-- SOURCE of a layer is a video stream. -/
abbrev lyVideo (d : Bytes) : Bool := u8 d 2 = 1
/-- FORMAT of a layer. -/
abbrev lyFormat (d : Bytes) : Nat := u8 d 3
/-- WIDTH of a layer. -/
abbrev lyWidth (d : Bytes) : Nat := u16 d 4
/-- HEIGHT of a layer. -/
abbrev lyHeight (d : Bytes) : Nat := u16 d 6
/-- STRIDE of a layer. -/
abbrev lyStride (d : Bytes) : Nat := u32 d 8
/-- STREAM of a layer. -/
abbrev lyStream (d : Bytes) : Nat := u8 d 12
/-- DECODE of a layer. -/
abbrev lyDecode (d : Bytes) : Nat := u8 d 13
/-- LOSS = CLEAR of a layer. -/
abbrev lyClear (d : Bytes) : Bool := (u8 d 14).testBit 0

/-- Bits of a pixel of a format (R213). -/
def formatBits (f : Nat) : Nat := [1, 2, 4, 8, 16, 24, 32, 64, 16, 20].getD f 0

/-- The row size of a layer (R213). -/
def lyRow (d : Bytes) : Nat := ceilDiv (lyWidth d * formatBits (lyFormat d)) 8

/-- The fetch size of a layer (R221). -/
def lyFetch (d : Bytes) : Nat := lyHeight d * lyRow d

/-- WIDTH of a video stream. -/
abbrev viWidth (d : Bytes) : Nat := u16 d 16
/-- HEIGHT of a video stream. -/
abbrev viHeight (d : Bytes) : Nat := u16 d 18
/-- RATE_N of a video stream. -/
abbrev viRateN (d : Bytes) : Nat := u16 d 20
/-- RATE_D of a video stream. -/
abbrev viRateD (d : Bytes) : Nat := u16 d 22

/-! ## DMX ports and destinations -/

/-- SLOTS of a DMX port record (R368), 512 by default. -/
def dxSlots (d : Bytes) : Nat := if u16 d 2 = 0 then 512 else u16 d 2

/-- The slots that a destination of the patch carries, where it has an output (R125). -/
def Cfg.destSlots (c : Cfg) (kind dest : Nat) : Option Nat :=
  match kind with
  | 1 => (c.universeFlow dest).map fun e => saSlots e.2
  | 2 => (c.get .dmx dest).map dxSlots
  | 3 => (c.get .ixTx dest).map ixTotal
  | _ => none

/-! ## Frames that were cut -/

/-- The record of a frame that was cut. -/
def State.frameRec (s : State) (n : Nat) : Option FrameRec := s.sch.frames.find? fun x => x.frame = n

/-- The configuration that frame n is made under (R63): that of its cut, or the one in force. -/
def State.cfgAt (s : State) (n : Nat) : Cfg := ((s.frameRec n).map fun x => x.force.cfg).getD s.cfg

/-- The record of a frame changed. -/
def State.updFrame (n : Nat) (f : FrameRec → FrameRec) (s : State) : State :=
  { s with sch := { s.sch with frames := s.sch.frames.map fun x => if x.frame = n then f x else x } }

end Sys2Proof.Machine
end

