-- ==== Sys2Proof/Machine/Patch.lean ====
section
/-! DEFINITION. Fixture types, patch, live writes and receive maps (R114-R142): TYPE_DEFINE, TYPE_DELETE, PATCH_ADD,
PATCH_REMOVE, PATCH_READ, PARAM_WRITE, PARAM_RELEASE, PARAM_READ, SACN_RX_MAP. -/

namespace Sys2Proof.Machine

/-! ## Fixture types -/

/-- The field checks of a parameter record (R117, R119, R121). -/
def paramFields (d : Bytes) (p : Nat) : Chk? Unit :=
  if !kindOk (fpKind d p) then .error ⟨Status.outOfRange, fpOff p⟩
  else if ftEmitters d ≥ 1 ∧ (isColour (fpKind d p) ∨ fpKind d p = kIntensity) ∧ fpWidth d p ≠ 0 then .error ⟨Status.outOfRange, fpOff p + 1⟩
  else inRange (fpWidth d p = 0 ∨ fpSlot d p ≤ 511) (fpOff p + 2)

/-- The field checks of an emitter record (R118), with its dimming curve (R184). -/
def emitterFields (c : Cfg) (d : Bytes) (e : Nat) : Chk? Unit :=
  if feFlux d e = 0 then .error ⟨Status.outOfRange, feOff d e + 8⟩
  else if feWidth d e = 0 then .error ⟨Status.outOfRange, feOff d e + 14⟩
  else if feDim d e > 63 then .error ⟨Status.outOfRange, feOff d e + 15⟩
  else need (feDim d e = 0 || c.has .dimCurve (feDim d e)) Status.badReference (feOff d e + 15)

/-- The parameters of a type whose kind a test picks, in order. -/
def kindsWhere (d : Bytes) (f : Nat → Bool) : List Nat := (List.range (ftParams d)).filter fun p => f (fpKind d p)

/-- The second parameter in order whose kind an earlier one has already, among INTENSITY and the colour kinds (R120). -/
def secondOfKind (d : Bytes) : List Nat → Option Nat
  | [] => none
  | p :: rest =>
    match secondOfKind d rest with
    | some q => match rest.find? fun r => fpKind d r = fpKind d p with
      | some r => some (min q r)
      | none => some q
    | none => rest.find? fun r => fpKind d r = fpKind d p

/-- The colour kinds of a type are one complete colour target: x and y, or red, green and blue (R120). -/
def targetOk (kinds : List Nat) : Bool :=
  (kinds.all (fun k => k = 2 || k = 3) && kinds.contains 2 && kinds.contains 3) ||
  (kinds.all (fun k => k = 4 || k = 5 || k = 6) && kinds.contains 4 && kinds.contains 5 && kinds.contains 6)

/-- The wire records of a type: the offset of the SLOT field, first slot and slots, in payload order (R120). -/
def wireRecords (d : Bytes) : List (Nat × Nat × Nat) :=
  ((List.range (ftParams d)).filterMap fun p => if fpWidth d p = 0 then none else some (fpOff p + 2, fpSlot d p, fpWidth d p)) ++
  (List.range (ftEmitters d)).map fun e => (feOff d e + 12, feSlot d e, feWidth d e)

/-- The SLOT field of the first wire record that reaches beyond the footprint or overlaps one before it (R120). -/
def wireClash (foot : Nat) (before : List (Nat × Nat × Nat)) : List (Nat × Nat × Nat) → Option Nat
  | [] => none
  | (off, a, n) :: rest =>
    if a + n > foot ∨ before.any (fun r => r.2.1 < a + n && a < r.2.1 + r.2.2) then some off
    else wireClash foot (before ++ [(off, a, n)]) rest

/-- The refusals of R120, in its order. -/
def typeChecks (d : Bytes) : Chk? Unit :=
  let colours := kindsWhere d isColour
  let special := kindsWhere d fun k => isColour k || k = kIntensity
  match secondOfKind d special with
  | some p => .error ⟨Status.outOfRange, fpOff p⟩
  | none =>
    if ftEmitters d = 0 then
      match colours with
      | p :: _ => .error ⟨Status.outOfRange, fpOff p⟩
      | [] => typeRest d
    else if (kindsWhere d fun k => k = kIntensity).isEmpty then .error ⟨Status.outOfRange, 3⟩
    else if !targetOk (colours.map (fpKind d)) then
      match colours with
      | p :: _ => .error ⟨Status.outOfRange, fpOff p⟩
      | [] => .error ⟨Status.outOfRange, 3⟩
    else typeRest d
where
  /-- The last two cases of R120: the default outside its clamps, and the slots. -/
  typeRest (d : Bytes) : Chk? Unit :=
    match (List.range (ftParams d)).find? fun p => fpMin d p > fpDefault d p || fpDefault d p > fpMax d p with
    | some p => .error ⟨Status.outOfRange, fpOff p + 4⟩
    | none =>
      match wireClash (ftFootprint d) [] (wireRecords d) with
      | some off => .error ⟨Status.outOfRange, off⟩
      | none => .ok ()

/-- A replacement of a type that has instances keeps PARAMS, FOOTPRINT and every KIND (R122). -/
def sameShape (d old : Bytes) : Bool :=
  ftParams d = ftParams old && ftFootprint d = ftFootprint old &&
  (List.range (ftParams d)).all fun p => fpKind d p = fpKind old p

/-- The length check of TYPE_DEFINE: PARAMS gives the parameter records, and EMITTERS the emitter records after them
(R116, R557). -/
def typeLayout (b : Bytes) : Option Nat :=
  match firstMissing [2, 1, 1, 2, 2, 4, 4, 16, 32] 0 b.length with
  | some d => some d
  | none =>
    if b.length < 64 + 16 * ftParams b then some 2
    else if b.length = 64 + 16 * (ftParams b + ftEmitters b) then none else some 3

/-- TYPE_DEFINE (R116-R122). -/
def typeDefineOp : Op where
  code := 0x0301
  cls := .staged
  layout := typeLayout
  body := .staged fun r c _ => do
    let d := r.payload
    inRange (u16 d 0 ≤ 1023) 0
    inRange (1 ≤ ftParams d ∧ ftParams d ≤ 96) 2
    inRange (ftEmitters d ≤ 8) 3
    inRange (ftFootprint d ≤ 512) 4
    inRange (ftRxLatency d ≤ 100000000) 8
    inRange (ftEmitLatency d ≤ 100000000) 12
    eachIdx (List.range (ftParams d)) 0 fun _ p => paramFields d p
    eachIdx (List.range (ftEmitters d)) 0 fun _ e => emitterFields c d e
    typeChecks d
    let ty := u16 d 0
    match c.get .ftype ty with
    | some old => need (sameShape d old || (c.instances ty).isEmpty) Status.outOfRange 2
    | none => .ok ()
    .ok (c.put .ftype ty d)

/-- An instance is removed from the staging area, with its receive map, its calibration binding and the effect
assignments to its parameters (R127). -/
def Cfg.removeInst (c : Cfg) (inst : Nat) : Cfg :=
  (((c.del .patch inst).del .rxMap inst).del .binding inst).delIf .assign fun n _ => n % 2 ^ 24 / 128 = inst

/-- TYPE_DELETE (R123). -/
def typeDeleteOp : Op where
  code := 0x0302
  cls := .staged
  flags := 1
  layout := fixedLayout [2, 2]
  body := .staged fun r c _ => do
    let ty := u16 r.payload 0
    need (c.has .ftype ty) Status.badReference 0
    need ((c.instances ty).isEmpty || r.opFlag 8) Status.outOfRange 0
    let c := (c.instances ty).foldl Cfg.removeInst c
    .ok ((c.del .ftype ty).del .mix ty)

/-! ## Patch -/

/-- The slots of one instance overlap those of another at the same destination (R125). -/
def Cfg.clash (c : Cfg) (inst kind dest start foot : Nat) : Bool :=
  (c.all .patch).any fun e => e.1 ≠ inst && paKind e.2 = kind && paDest e.2 = dest &&
    (match c.get .ftype (paType e.2) with
      | some t => 0 < foot && 0 < ftFootprint t && paStart e.2 < start + foot && start < paStart e.2 + ftFootprint t
      | none => false)

/-- The patched parameters of a configuration (R114). -/
def Cfg.paramCount (c : Cfg) : Nat :=
  ((c.all .patch).map fun e => ((c.get .ftype (paType e.2)).map fun t => ftParams t).getD 0).foldl (· + ·) 0

/-- One patch record at a payload offset (R124, R125). The records of a command are checked one after another, each
against the area as those before it leave it (log entry 211). Where its slots meet another instance's, DETAIL names START (log
entry 243). -/
def patchRecord (s : State) (off : Nat) (c : Cfg) (d : Bytes) : Chk? Cfg := do
  inRange (u32 d 0 ≤ 131071) off
  match c.get .ftype (paType d) with
  | none => .error ⟨Status.badReference, off + 4⟩
  | some t =>
    let foot := ftFootprint t
    inRange (paKind d ≤ 3) (off + 6)
    inRange (paKind d ≠ 1 ∨ (1 ≤ paDest d ∧ paDest d ≤ 63999)) (off + 8)
    inRange (paKind d ≠ 2 ∨ paDest d ≤ 31) (off + 8)
    need (!(paKind d = 2 && s.fuses.te8220 && paDest d ≥ 16)) Status.unitAbsent (off + 8)
    inRange (paKind d ≠ 3 ∨ paDest d ≤ 4095) (off + 8)
    inRange (paKind d = 0 ∨ 1 ≤ paStart d) (off + 12)
    inRange (paKind d = 0 ∨ paKind d = 3 ∨ (paStart d ≤ 512 ∧ paStart d + foot ≤ 513)) (off + 12)
    inRange (paKind d ≠ 3 ∨ paStart d + foot ≤ 65536) (off + 12)
    inRange (paKind d = 0 ∨ !c.clash (u32 d 0) (paKind d) (paDest d) (paStart d) foot) (off + 12)
    let c := c.put .patch (u32 d 0) d
    inRange (c.paramCount ≤ 8388608) off
    .ok c

/-- PATCH_ADD (R124-R126). -/
def patchAddOp : Op where
  code := 0x0303
  cls := .staged
  layout := countLayout 16
  body := .staged fun r c s => do
    inRange (1 ≤ u32 r.payload 0 ∧ u32 r.payload 0 ≤ 4095) 0
    foldIdx (records r.payload 8 16 (u32 r.payload 0)) 0 c fun i c d => patchRecord s (8 + 16 * i) c d

/-- PATCH_REMOVE (R127). -/
def patchRemoveOp : Op where
  code := 0x0304
  cls := .staged
  layout := countLayout 4
  body := .staged fun r c _ => do
    inRange (1 ≤ u32 r.payload 0 ∧ u32 r.payload 0 ≤ 4095) 0
    foldIdx (records r.payload 8 4 (u32 r.payload 0)) 0 c fun i c d => do
      need (c.has .patch (leNat d)) Status.badReference (8 + 4 * i)
      .ok (c.removeInst (leNat d))

/-- The record of PATCH_READ for an instance, with UNROUTED in its FLAGS and the reserved bytes 0 (R11,
R126, R127). -/
def Cfg.patchRow (c : Cfg) (d : Bytes) : Bytes :=
  putAt (putAt d 7 (leBytes 1 (flag (paKind d = 0 || (c.destSlots (paKind d) (paDest d)).isNone) 0))) 14 (zeros 2)

/-- PATCH_READ (R127). -/
def patchReadOp : Op where
  code := 0x0305
  cls := .immediate
  layout := fixedLayout [4, 4]
  body := .run fun r s => do
    let first := u32 r.payload 0
    let count := u32 r.payload 4
    inRange (first ≤ 131071) 0
    inRange (1 ≤ count ∧ count ≤ 16384) 4
    let left := (s.cfg.all .patch).filter fun e => first ≤ e.1
    let got := left.take count
    let next := match got.getLast? with
      | some e => if left.length > count then e.1 + 1 else 131072
      | none => 131072
    .ok (s, .ok (leBytes 4 got.length ++ leBytes 4 next ++ got.flatMap fun e => s.cfg.patchRow e.2))

/-! ## Live writes (R137, R138) -/

/-- Every entry of 8 bytes names a patched parameter of the configuration in force (R137, R147). -/
def entriesPatched (s : State) (off : Nat) (l : List Bytes) : Chk? Unit :=
  eachIdx l 0 fun i d => need (s.cfg.param (u32 d 0 % 2 ^ 24)).isSome Status.badReference (off + 8 * i)

/-- The state of a parameter that has none yet: its outputs start from DEFAULT (R141). -/
def Cfg.freshPar (c : Cfg) (addr : Nat) : Par :=
  let v := match c.param addr with
    | some (t, p) => fpDefault t p
    | none => 0
  { out := v, prev := v }

/-- A parameter's state changed, where it is patched. -/
def State.updPar (addr : Nat) (f : Par → Par) (s : State) : State :=
  if (s.cfg.param addr).isSome then
    { s with par := { s.par with tab := Tab.upd s.par.tab addr (s.cfg.freshPar addr) f } }
  else s

/-- PARAM_WRITE (R137, R138). -/
def paramWriteOp : Op where
  code := 0x0306
  cls := .timed
  af := true
  layout := layout [4, 1, 3] (some (0, fun b => 8 * u32 b 0))
  body := .timed
    (fun r s => do
      inRange (1 ≤ u32 r.payload 0 ∧ u32 r.payload 0 ≤ 8191) 0
      entriesPatched s 8 (records r.payload 8 8 (u32 r.payload 0)))
    (fun r n s => (records r.payload 8 8 (u32 r.payload 0)).foldl (fun s d =>
      s.updPar (u32 d 0 % 2 ^ 24) fun p => { p with live := some ⟨u32 d 4 % 2 ^ 20, u8 r.payload 4, n⟩ }) s)

/-- PARAM_RELEASE (R138); COUNT keeps its range with ALL too (log entry 208). -/
def paramReleaseOp : Op where
  code := 0x0307
  cls := .timed
  af := true
  flags := 1
  layout := layout [4, 1, 3] (some (0, fun b => 8 * u32 b 0))
  body := .timed
    (fun r s => do
      inRange (1 ≤ u32 r.payload 0 ∧ u32 r.payload 0 ≤ 8191) 0
      if r.opFlag 8 then .ok () else entriesPatched s 8 (records r.payload 8 8 (u32 r.payload 0)))
    (fun r _ s =>
      if r.opFlag 8 then { s with par := { s.par with tab := Tab.mapV s.par.tab fun _ p => { p with live := none } } }
      else (records r.payload 8 8 (u32 r.payload 0)).foldl (fun s d =>
        s.updPar (u32 d 0 % 2 ^ 24) fun p => { p with live := none }) s)

/-- The entry of PARAM_READ for an address (R142). -/
def State.paramEntry (s : State) (addr : Nat) : Nat :=
  match s.cfg.param addr with
  | none => 0xF * 2 ^ 20
  | some (t, p) =>
    if !s.par.cut then fpDefault t p
    else
      let x := Tab.getD s.par.tab addr (s.cfg.freshPar addr)
      x.index * 2 ^ 24 + x.cls * 2 ^ 20 + x.out % 2 ^ 20

/-- PARAM_READ (R142). -/
def paramReadOp : Op where
  code := 0x0308
  cls := .immediate
  layout := fixedLayout [4, 4]
  body := .run fun r s => do
    let first := u32 r.payload 0 % 2 ^ 24
    let count := u32 r.payload 4
    inRange (1 ≤ count ∧ count ≤ 16384 ∧ first + count ≤ 2 ^ 24) 4
    .ok (s, .done {
      frame := if s.par.cut then s.gl.frame else none
      payload := (List.range count).flatMap fun i => leBytes 4 (s.paramEntry (first + i)) })

/-! ## Receive maps (R139) -/

/-- SACN_RX_MAP (R139). -/
def sacnRxMapOp : Op where
  code := 0x0309
  cls := .staged
  layout := countLayout 12
  body := .staged fun r c _ =>
    foldIdx (records r.payload 8 12 (u32 r.payload 0)) 0 c fun i c d => do
      let off := 8 + 12 * i
      match c.instType (u32 d 0) with
      | none => .error ⟨Status.badReference, off⟩
      | some t =>
        inRange (1 ≤ u16 d 4 ∧ u16 d 4 ≤ 63999) (off + 4)
        need (c.has .sacnRx (u16 d 4)) Status.badReference (off + 4)
        inRange (1 ≤ u16 d 6 ∧ u16 d 6 + ftFootprint t ≤ 513 ∧ u16 d 6 ≤ 512) (off + 6)
        .ok (c.put .rxMap (u32 d 0) d)

/-! ## Value conversion (R135, R136) -/

/-- A received slot value of a width in bytes, expanded to 20 bits by bit replication (R135). -/
def expandSlot (width v : Nat) : Nat :=
  match width with
  | 1 => v * 4096 + v * 16 + v / 16
  | 2 => v * 16 + v / 4096
  | _ => v / 16

/-- The value of a parameter from received slots; a missing slot is 0 (R135, R139). -/
def receivedValue (t : Bytes) (p start : Nat) (slots : Bytes) : Nat :=
  let v := expandSlot (fpWidth t p) (beNat (padTo (fpWidth t p) (slice slots (start + fpSlot t p - 1) (fpWidth t p))))
  if fpInvert t p then 0xFFFFF - v else v

/-- The slots of a parameter on the wire, coarse first (R136). -/
def encodeParam (width : Nat) (invert : Bool) (out : Nat) : Bytes :=
  let v := if invert then 0xFFFFF - out else out
  beBytes width ((v * (2 ^ (8 * width) - 1) + 524287) / 1048575)

/-! ## Meanings -/

def execTypeDefine (r : Req) (s : State) : Outcome := hostCommand typeDefineOp r s
def execTypeDelete (r : Req) (s : State) : Outcome := hostCommand typeDeleteOp r s
def execPatchAdd (r : Req) (s : State) : Outcome := hostCommand patchAddOp r s
def execPatchRemove (r : Req) (s : State) : Outcome := hostCommand patchRemoveOp r s
def execPatchRead (r : Req) (s : State) : Outcome := hostCommand patchReadOp r s
def execParamWrite (r : Req) (s : State) : Outcome := hostCommand paramWriteOp r s
def execParamRelease (r : Req) (s : State) : Outcome := hostCommand paramReleaseOp r s
def execParamRead (r : Req) (s : State) : Outcome := hostCommand paramReadOp r s
def execSacnRxMap (r : Req) (s : State) : Outcome := hostCommand sacnRxMapOp r s

end Sys2Proof.Machine
end

