-- ==== Sys2Proof/Machine/Playback.lean ====
section
/-! DEFINITION. Playbacks, cues and fades (R143-R163, R171, R173): PLAYBACK_DEFINE, CUE_STORE, PLAYBACK_GO,
PLAYBACK_BACK, PLAYBACK_GOTO, PLAYBACK_RELEASE, PLAYBACK_LEVEL, PLAYBACK_RATE, CURVE_TABLE, PLAYBACK_STATUS, and what a
cut does with them. -/

namespace Sys2Proof.Machine

/-! ## Curves (R156, R157) -/

/-- Entry k of the linear curve. -/
def curveLinear (k : Nat) : Nat := k * 4096

/-- Entry k of the S-curve. -/
def curveS (k : Nat) : Nat := (768 * k ^ 2 - 2 * k ^ 3 + 8) / 16

/-- Entry k of the curve linear in CIE L*. -/
def curveL (k : Nat) : Nat :=
  if k ≤ 20 then (11059200 * k + 12194) / 24389 else ((25 * k + 1024) ^ 3 + 195112) / 390224

/-- Entry k of a custom table; what a table that no configuration defines holds is not stated (log entry 3). -/
def Cfg.curveEntry (c : Cfg) (table k : Nat) : Nat :=
  match c.get .curve table with
  | some d => u32 d (4 + 4 * k) % 2 ^ 21
  | none => (Config.freeWord (table * 257 + k)).toNat % (0x100000 + 1)

/-- The entries of the curve of a step (R146 CURVE and TABLE). -/
def Cfg.curveTab (c : Cfg) (curve table : Nat) : Nat → Int := fun k =>
  match curve with
  | 0 => curveLinear k
  | 1 => curveL k
  | 2 => curveS k
  | _ => c.curveEntry table k

/-- A table of 257 entries read at a 20-bit progress, with linear interpolation (R156). -/
def curveAt (tab : Nat → Int) (q : Nat) : Int :=
  if q ≥ 0x100000 then tab 256
  else tab (q / 4096) + ((tab (q / 4096 + 1) - tab (q / 4096)) * (q % 4096 : Nat) + 0x800) / 4096

/-- Elapsed units of a clock since a start clock: the signed 64-bit difference shifted by 16 (R155, R156). -/
def elapsed (clk start : Nat) : Int := signed 64 (clk + 2 ^ 64 - start % 2 ^ 64) / 65536

/-- The progress of a fade (R156). -/
def fadeQ (clk start delay time : Nat) : Nat :=
  let e := elapsed clk start - delay
  if e < 0 then 0
  else if time = 0 ∨ e ≥ time then 0x100000
  else (e * 2 ^ 20 / time).toNat

/-- The value of a fade at a progress (R156). -/
def fadeValue (start target q : Nat) (tab : Nat → Int) : Nat :=
  if q ≥ 0x100000 then target
  else ((start : Int) + (((target : Int) - start) * curveAt tab q + 0x80000) / 2 ^ 20).toNat

/-! ## Staged records -/

/-- PLAYBACK_DEFINE (R144). The totals of R143 over all playbacks bound ENTRIES and TRACKED as R115 does. -/
def playbackDefineOp : Op where
  code := 0x0401
  cls := .staged
  layout := fixedLayout [2, 1, 1, 2, 2, 4, 4, 4, 4, 4, 4]
  body := .staged fun r c _ => do
    let d := r.payload
    inRange (u16 d 0 ≤ 255) 0
    inRange (1 ≤ pbCues d ∧ pbCues d ≤ 4096) 4
    inRange (1 ≤ pbEntries d ∧ pbEntries d ≤ 16777216) 8
    inRange (1 ≤ pbTracked d ∧ pbTracked d ≤ 8388608) 12
    inRange (pbLevel d ≤ 0x100000) 24
    let c := c.put .playback (u16 d 0) d
    inRange (((c.all .playback).map fun e => pbEntries e.2).foldl (· + ·) 0 ≤ 16777216) 0
    inRange (((c.all .playback).map fun e => pbTracked e.2).foldl (· + ·) 0 ≤ 8388608) 0
    .ok c

/-- CURVE_TABLE (R158). -/
def curveTableOp : Op where
  code := 0x0409
  cls := .staged
  layout := fixedLayout ([1, 3] ++ List.replicate 257 4)
  body := .staged fun r c _ => do
    let d := r.payload
    inRange (u8 d 0 ≤ 31) 0
    eachIdx (List.range 257) 0 fun _ k => inRange (u32 d (4 + 4 * k) % 2 ^ 21 ≤ 0x100000) (4 + 4 * k)
    .ok (c.put .curve (u8 d 0) d)

/-! ## Playbacks -/

/-- Playback b as the configuration defines it, before anything has happened to it (R173). -/
def Playback.fresh (d : Bytes) : Playback := { level := pbLevel d }

/-- Playback b of the configuration in force, with its record. -/
def State.playback (s : State) (b : Nat) : Option (Bytes × Playback) :=
  match s.cfg.get .playback b with
  | some d => some (d, Tab.getD s.pb b (Playback.fresh d))
  | none => none

/-- A defined playback changed. -/
def State.updPb (b : Nat) (f : Bytes → Playback → Playback) (s : State) : State :=
  match s.playback b with
  | some (d, p) => { s with pb := Tab.put s.pb b (f d p) }
  | none => s

/-- The first field of a playback command names a defined playback (R159). -/
def playbackDefined (r : Req) (s : State) : Chk? Unit :=
  need (s.playback (u16 r.payload 0)).isSome Status.badReference 0

/-- The cues of a playback after CUE_STORE stores a header and entries (R147). -/
def storeCue (cues : Tab Cue) (d : Bytes) : Tab Cue :=
  let old : Cue := Tab.getD cues (u16 d 2) {}
  let base := if (u8 d 7).testBit 3 then old.entries else []
  let entries := (records d 48 8 (u32 d 36)).foldl (fun t e => Tab.put t (u32 e 0 % 2 ^ 24) (u32 e 4 % 2 ^ 20)) base
  Tab.put cues (u16 d 2) { header := d.take 48, entries }

/-- The entries of all cues, and the size of the union of their parameter sets (R147). -/
def cueTotals (cues : Tab Cue) : Nat × Nat :=
  let all := cues.flatMap fun e => e.2.entries.map Prod.fst
  (all.length, all.eraseDups.length)

/-- Cues lie within ENTRIES and TRACKED of their playback (R147). -/
def cuesFit (rec : Bytes) (cues : Tab Cue) : Bool :=
  (cueTotals cues).1 ≤ pbEntries rec && (cueTotals cues).2 ≤ pbTracked rec

/-- Stores that follow one another each leave cues that fit. -/
def storesFit (rec : Bytes) : Tab Cue → List Bytes → Bool
  | _, [] => true
  | cues, d :: rest => cuesFit rec (storeCue cues d) && storesFit rec (storeCue cues d) rest

/-- A store as it will take effect: the frame of its cut, its number in the order of acceptance, and its payload. -/
abbrev StoreAt := Nat × Nat × Bytes

/-- A store put among others in the order in which they take effect: by frame, and within one by acceptance (R103). -/
def insertStore (q : StoreAt) : List StoreAt → List StoreAt
  | [] => [q]
  | x :: rest => if q.1 < x.1 ∨ (q.1 = x.1 ∧ q.2.1 < x.2.1) then q :: x :: rest else x :: insertStore q rest

/-- A CUE_STORE fits its playback when it takes effect, and so does every queued one after it (R87, R147). A frame that is
passed or not known is that of the next cut (R107). -/
def State.storeFits (rec : Bytes) (p : Playback) (r : Req) (s : State) : Bool :=
  let next := s.nextCut.getD 0
  let mine := s.rt.queue.filter fun q => q.op = 0x0402 ∧ u16 q.req.payload 0 = u16 r.payload 0
  let place := s.acceptedAt r.pair
  let all := insertStore (max next (r.atFrame.getD 0), place, r.payload)
    (mine.foldl (fun l q => insertStore (max next ((q.frame.or q.fixed).getD 0), q.order, q.req.payload) l) [])
  let before := all.takeWhile fun x => x.2.1 ≠ place
  storesFit rec (before.foldl (fun t x => storeCue t x.2.2) p.cues) ((all.drop before.length).map fun x => x.2.2)

/-- CUE_STORE (R146, R147). A store that no longer fits when it takes effect, because of a press or a withdrawal since,
stores nothing (log entry 212). -/
def cueStoreOp : Op where
  code := 0x0402
  cls := .timed
  af := true
  layout := layout [2, 2, 1, 1, 1, 1, 4, 4, 4, 4, 4, 4, 4, 4, 8] (some (36, fun b => 8 * u32 b 36))
  body := .timed
    (fun r s => do
      let d := r.payload
      match s.playback (u16 d 0) with
      | none => .error ⟨Status.badReference, 0⟩
      | some (rec, p) =>
        inRange (u16 d 2 < pbCues rec) 2
        inRange (u8 d 4 ≤ 1) 4
        inRange (u8 d 5 ≤ 3) 5
        inRange (u8 d 6 ≤ 31 ∧ (u8 d 5 ≠ 3 ∨ s.cfg.has .curve (u8 d 6))) 6
        inRange (u8 d 7 % 4 ≤ 2) 7
        inRange (u32 d 36 ≤ 8176) 36
        entriesPatched s 48 (records d 48 8 (u32 d 36))
        inRange (s.storeFits rec p r) 36)
    (fun r _ s => s.updPb (u16 r.payload 0) fun rec p =>
      let cues := storeCue p.cues r.payload
      if u16 r.payload 2 < pbCues rec && cuesFit rec cues then { p with cues } else p)

/-- The times of a cue as its header gives them (R146). -/
def cueTimes (h : Bytes) : StepTimes :=
  { frames := u8 h 4 = 1, curve := u8 h 5, table := u8 h 6, snapEnd := (u8 h 7).testBit 2, inTime := u32 h 8
    outTime := u32 h 12, ltpTime := u32 h 16, inDelay := u32 h 20, outDelay := u32 h 24, ltpDelay := u32 h 28 }

/-- The cue entered by GO, or a follow, from a cue (R148). -/
def goTarget (rec : Bytes) : Option Nat → Option Nat
  | none => some 0
  | some c => if c + 1 < pbCues rec then some (c + 1) else if pbLoop rec then some 0 else none

/-- The cue entered by BACK (R148). -/
def backTarget (rec : Bytes) : Option Nat → Option Nat
  | none => none
  | some 0 => if pbLoop rec then some (pbCues rec - 1) else none
  | some (c + 1) => some c

/-- A request supersedes the one taken before it in the frame, which is counted (R153). -/
def Playback.supersede (p : Playback) : Playback := if p.request.isSome then { p with ignored := satInc p.ignored } else p

/-- A step request moves the playback into a cue, or enters none and is counted (R148, R153). -/
def Playback.step (p : Playback) (target : Option Nat) (times : StepTimes → StepTimes) : Playback :=
  let p := { p with asked := true }
  match target with
  | none => { p with ignored := satInc p.ignored }
  | some c =>
    let q : Cue := Tab.getD p.cues c {}
    let h := padTo 48 q.header
    { p.supersede with cue := some c, request := some (.step (times (cueTimes h)) h q.entries) }

/-- PLAYBACK_GO (R148, R159). -/
def playbackGoOp : Op where
  code := 0x0403
  cls := .timed
  af := true
  layout := fixedLayout [2, 2]
  body := .timed playbackDefined fun r _ s => s.updPb (u16 r.payload 0) fun rec p => p.step (goTarget rec p.cue) id

/-- PLAYBACK_BACK: BACK_TIME for every class, on the time clock, without delays, linear (R148). -/
def playbackBackOp : Op where
  code := 0x0404
  cls := .timed
  af := true
  layout := fixedLayout [2, 2]
  body := .timed playbackDefined fun r _ s => s.updPb (u16 r.payload 0) fun rec p =>
    p.step (backTarget rec p.cue) fun t => { snapEnd := t.snapEnd, inTime := pbBackTime rec, outTime := pbBackTime rec, ltpTime := pbBackTime rec }

/-- PLAYBACK_GOTO: the cue's own times, or none with SNAP (R148, R159). -/
def playbackGotoOp : Op where
  code := 0x0405
  cls := .timed
  af := true
  layout := fixedLayout [2, 2, 4]
  body := .timed
    (fun r s => match s.playback (u16 r.payload 0) with
      | none => .error ⟨Status.badReference, 0⟩
      | some (rec, _) => inRange (u16 r.payload 2 < pbCues rec) 2)
    (fun r _ s => s.updPb (u16 r.payload 0) fun rec p =>
      p.step (if u16 r.payload 2 < pbCues rec then some (u16 r.payload 2) else none) fun t =>
        if (u32 r.payload 4).testBit 0 then { t with inTime := 0, outTime := 0, ltpTime := 0, inDelay := 0, outDelay := 0, ltpDelay := 0 }
        else t)

/-- PLAYBACK_RELEASE (R159, R161); a release of a released playback has no effect. -/
def playbackReleaseOp : Op where
  code := 0x0406
  cls := .timed
  af := true
  layout := fixedLayout [2, 2, 4]
  body := .timed playbackDefined fun r _ s => s.updPb (u16 r.payload 0) fun rec p =>
    let p := { p with asked := true }
    if p.cue.isNone then p
    else { p.supersede with request := some (.release (if (u16 r.payload 2).testBit 0 then u32 r.payload 4 else pbReleaseTime rec)) }

/-- PLAYBACK_LEVEL (R160). -/
def playbackLevelOp : Op where
  code := 0x0407
  cls := .timed
  af := true
  layout := fixedLayout [2, 2, 4]
  body := .timed
    (fun r s => do
      playbackDefined r s
      inRange (u32 r.payload 4 ≤ 0x100000) 4)
    (fun r _ s => s.updPb (u16 r.payload 0) fun _ p => { p with level := u32 r.payload 4 })

/-- PLAYBACK_RATE (R155, R159). -/
def playbackRateOp : Op where
  code := 0x0408
  cls := .timed
  af := true
  layout := fixedLayout [2, 2, 4]
  body := .timed
    (fun r s => do
      playbackDefined r s
      inRange (u32 r.payload 4 ≤ 0x100000) 4)
    (fun r _ s => s.updPb (u16 r.payload 0) fun _ p => { p with rate := u32 r.payload 4 })

/-! ## What a cut does (R155) -/

/-- u(n) in microseconds (R155). -/
def Cfg.micros (c : Cfg) (n : Nat) : Int := c.instant n / 65536000

/-- Step 2 of R155: the clocks of a playback advance from frame n - 1 to frame n. -/
def Playback.advance (c : Cfg) (n : Nat) (p : Playback) : Playback :=
  { p with
    tclk := unsigned 64 (p.tclk + (c.micros n - c.micros (n - 1)) * p.rate)
    fclk := (p.fclk + p.rate) % 2 ^ 64 }

/-- The class of a fade of a parameter from its start to its target (R151). -/
def fadeClass (intensity : Bool) (start target : Nat) : FadeClass :=
  if intensity then (if target ≥ start then .rise else .fall) else .ltp

/-- The delay and time of a fade class in a step (R151); a release runs on its own time. -/
def StepTimes.of (t : StepTimes) (release : Nat) : FadeClass → Nat × Nat
  | .rise => (t.inDelay, t.inTime)
  | .fall => (t.outDelay, t.outTime)
  | .ltp => (t.ltpDelay, t.ltpTime)
  | .release => (0, release)

/-- Step 3 of R155 for a step: the held set takes the entries of the cue with their fades, and the parameters that the
cue does not hold stay, fade out or wait to leave (R149, R150, R154). `out` gives out[p] of the frame before. A follow with
FOLLOW 2 waits for the longest delay and time of the cue's header, also where R148 puts others in their place (R162; log
entry 246). -/
def Playback.begin (c : Cfg) (track : Bool) (out : Nat → Nat) (n : Nat) (times : StepTimes) (header : Bytes)
    (entries : Tab Nat) (st sf : Nat) (p : Playback) : Playback :=
  let rest := p.held.filterMap fun (a, h) =>
    if Tab.has entries a then none
    else some (a, match c.param a with
      | none => { h with fade := none }
      | some (t, i) =>
        if track then { h with fade := none, leaving := false }
        else if fpKind t i = kIntensity then
          { h with fade := some { start := h.v, target := 0, cls := .fall, snapped := fpSnap t i }, leaving := true }
        else { h with fade := none, leaving := true })
  let mine := entries.filterMap fun (a, v) =>
    match c.param a with
    | none => none
    | some (t, i) =>
      let isInt := decide (fpKind t i = kIntensity)
      let start := if isInt then ((Tab.find p.held a).map Held.v).getD 0 else out a
      some (a, ({ v := start, key := n, fade := some { start, target := v, cls := fadeClass isInt start v, snapped := fpSnap t i } } : Held))
  let wait := if u8 header 7 % 4 = 1 then u32 header 32
    else max (u32 header 20 + u32 header 8) (max (u32 header 24 + u32 header 12) (u32 header 28 + u32 header 16))
  { p with
    held := mine.foldl (fun t e => Tab.put t e.1 e.2) rest
    times, st, sf
    stepFrame := n
    release := none
    follow := if u8 header 7 % 4 = 0 then none else some { frames := u8 header 4 = 1, wait } }

/-- Step 3 of R155 for a release (R161): every INTENSITY fades to 0, and every other fade stops where it is. A follow still to
come ends with it (log entry 245). -/
def Playback.beginRelease (c : Cfg) (n time : Nat) (p : Playback) : Playback :=
  { p with
    held := Tab.mapV p.held fun a h => match c.param a with
      | some (t, i) => if fpKind t i = kIntensity then
          { h with fade := some { start := h.v, target := 0, cls := .release, snapped := false }, leaving := false }
        else { h with fade := none, leaving := false }
      | none => { h with fade := none, leaving := false }
    st := p.tclk, sf := p.fclk, stepFrame := n, release := some time, follow := none }

/-- Step 3 of R155: the request taken in the frame starts; without one, a follow that is due steps on its exact start
clock (R153, R162). `due` says that the delay lists gave the playback's follow up. -/
def Playback.steps (c : Cfg) (rec : Bytes) (out : Nat → Nat) (n : Nat) (due : Bool) (p : Playback) : Playback :=
  let q := if due && p.asked then { p with ignored := satInc p.ignored, follow := none } else p
  let q := match q.request with
    | some (.step times h entries) => q.begin c (pbTrack rec) out n times h entries q.tclk q.fclk
    | some (.release time) => q.beginRelease c n time
    | none =>
      match due && !q.asked, q.follow with
      | true, some f =>
        match goTarget rec q.cue with
        | none => { q with ignored := satInc q.ignored, follow := none }
        | some cue =>
          let e : Cue := Tab.getD q.cues cue {}
          let h := padTo 48 e.header
          { q with cue := some cue }.begin c (pbTrack rec) out n (cueTimes h) h e.entries
            (if f.frames then q.tclk else (q.st + f.wait * 65536) % 2 ^ 64)
            (if f.frames then (q.sf + f.wait * 65536) % 2 ^ 64 else q.fclk)
      | _, _ => q
  { q with request := none, asked := false }

/-- The progress of one fade at the clocks of its playback (R155, R156). -/
def Playback.fadeProgress (p : Playback) (f : Fade) : Nat :=
  let dt := p.times.of (p.release.getD 0) f.cls
  if p.times.frames ∧ f.cls ≠ .release then fadeQ p.fclk p.sf dt.1 dt.2 else fadeQ p.tclk p.st dt.1 dt.2

/-- The value of one fade: on its curve, or, snapped, its start until the frame that takes the target (R151, R152). -/
def Playback.fadeNow (c : Cfg) (p : Playback) (f : Fade) : Nat :=
  let q := p.fadeProgress f
  if f.snapped then
    let dt := p.times.of (p.release.getD 0) f.cls
    let e := if p.times.frames then elapsed p.fclk p.sf else elapsed p.tclk p.st
    if e ≥ (dt.1 : Int) + (if p.times.snapEnd then dt.2 else 0) then f.target else f.start
  else
    let tab := match f.cls with
      | .rise => c.curveTab p.times.curve p.times.table
      | .fall => c.curveTab p.times.curve p.times.table
      | .ltp => c.curveTab 0 0
      | .release => c.curveTab 0 0
    fadeValue f.start f.target q tab

/-- Step 4 of R155: every fade of a playback is evaluated; a release whose time has elapsed is complete and empties the held
set, and a step whose fades are all complete lets the leaving parameters go (R149, R161). A snapped fade that has taken its
target counts as in progress until its delay and time have elapsed (log entry 247), and PROGRESS with no fade is 0x10_0000
(R171; log entry 249). -/
def Playback.evaluate (c : Cfg) (p : Playback) : Playback :=
  let prog := p.held.filterMap fun e => e.2.fade.map p.fadeProgress
  let low := prog.foldl min 0x100000
  let held := Tab.mapV p.held fun _ h => match h.fade with
    | none => h
    | some f => { h with v := p.fadeNow c f, fade := if p.fadeProgress f ≥ 0x100000 then none else some f }
  match p.release with
  | some time =>
    if elapsed p.tclk p.st ≥ (time : Int) then { p with held := [], cue := none, release := none, progress := 0x100000 }
    else { p with held, progress := low }
  | none =>
    if low ≥ 0x100000 then { p with held := held.filter (fun e => !e.2.leaving), progress := low }
    else { p with held, progress := low }

/-! ## Delay lists (R163, R260, R261) -/

/-- The level of the delay list that holds the entries of playbacks (log entry 90). -/
abbrev playbackLevel : Nat := 8

/-- The first frame from `lo` on at which a clock that lacks `need` at the cut of frame n has it, at a rate; none at rate
0, which holds the entry out of the lists (R163). -/
def Cfg.dueFrame (c : Cfg) (n lo : Nat) (frames : Bool) (need : Int) (rate : Nat) : Option Nat :=
  let k := ceilDiv need.toNat rate
  if rate = 0 then none
  else if frames then some (max lo (n + k))
  else some (max lo (c.frameFrom ((c.micros n + k).toNat * 65536000)))

/-- What a clock lacks until `wait` has elapsed from a start clock, in its units. -/
def clockNeed (clk start wait : Nat) : Int := wait * 65536 - signed 64 (clk + 2 ^ 64 - start % 2 ^ 64)

/-- The entries that a playback has in the delay lists after the clocks of frame n: its follow, or the completion of its
release (R161, R162). -/
def Playback.delays (c : Cfg) (n lo b : Nat) (p : Playback) : List Delay :=
  let follow := p.follow.bind fun f =>
    if f.frames then c.dueFrame n lo true (clockNeed p.fclk p.sf f.wait) p.rate
    else c.dueFrame n lo false (clockNeed p.tclk p.st f.wait) p.rate
  let release := p.release.bind fun t => c.dueFrame n lo false (clockNeed p.tclk p.st t) p.rate
  (follow.map fun due => { playback := b, release := false, due }).toList ++
    (release.map fun due => { playback := b, release := true, due }).toList

/-- An entry enters a delay list behind those due no later (R260). -/
def insertDelay (e : Delay) : List Delay → List Delay
  | [] => [e]
  | f :: rest => if e.due < f.due then e :: f :: rest else f :: insertDelay e rest

/-- The delay lists follow the playbacks after the clocks of frame n: entries that stand keep their places, those that
changed or are new are inserted, and all others go (R163, R260). No entry is due before `lo`. -/
def State.sortDelays (n lo : Nat) (s : State) : State :=
  let want := (s.cfg.all .playback).flatMap fun e => ((s.playback e.1).map fun p => p.2.delays s.cfg n lo e.1).getD []
  let kept := (Tab.getD s.sch.delays playbackLevel []).filter want.contains
  let list := (want.filter fun e => !kept.contains e).foldl (fun l e => insertDelay e l) kept
  { s with sch := { s.sch with delays := Tab.put s.sch.delays playbackLevel list } }

/-- The entries due at the cut of frame n, in the order in which the scheduler takes them: the lists from level 15 to 0, and
each in its order (R261). -/
def Scheduler.dueAt (x : Scheduler) (n : Nat) : List Delay :=
  (List.range 16).reverse.flatMap fun level => (Tab.getD x.delays level []).filter fun e => e.due ≤ n

/-- The entries due at the cut of frame n leave the lists (R261). -/
def Scheduler.takeDue (n : Nat) (x : Scheduler) : Scheduler :=
  { x with delays := Tab.mapV x.delays fun _ (l : List Delay) => l.filter fun e => n < e.due }

/-- The playbacks that have the entries' follows, or releases, due. -/
def owners (release : Bool) (l : List Delay) : List Nat := (l.filter fun e => e.release = release).map Delay.playback

/-! ## The playbacks at a cut -/

/-- out[p] of the frame before, or the default of a parameter without one (R132). -/
def State.outBefore (s : State) (a : Nat) : Nat :=
  match s.cfg.param a with
  | none => 0
  | some (t, i) => ((Tab.find s.par.tab a).map Par.out).getD (fpDefault t i)

/-- Steps 2 and 3 of R155 for every defined playback at frame n: the clocks advance but at the first cut, and the entries of
the delay lists due at the frame act (R261). -/
def State.stepPlaybacks (n : Nat) (first : Bool) (s : State) : State :=
  let c := s.cfg
  let each := fun (f : Nat → Bytes → Playback → Playback) (s : State) =>
    (c.all .playback).foldl (fun (s : State) e => s.updPb e.1 (f e.1)) s
  let s := (if first then s else each (fun _ _ p => p.advance c n) s).sortDelays n n
  let due := s.sch.dueAt n
  let s := { s with sch := s.sch.takeDue n }
  let out := s.outBefore
  each (fun b rec p => p.steps c rec out n ((owners false due).contains b)) s

/-- Steps 2 to 4 of R155 for every defined playback at the cut of frame n. -/
def State.cutPlaybacks (n : Nat) (first : Bool) (s : State) : State :=
  let s := s.stepPlaybacks n first
  ((s.cfg.all .playback).foldl (fun (s : State) e => s.updPb e.1 fun _ p => p.evaluate s.cfg) s).sortDelays n (n + 1)

/-! ## Status (R171) -/

/-- The 32-byte record of a playback number (R171). -/
def State.playbackRow (s : State) (b : Nat) : Bytes :=
  match s.playback b with
  | none => leBytes 2 b ++ leBytes 2 0xFFFF ++ leBytes 1 0xFF ++ zeros 27
  | some (_, p) =>
    let fading := p.held.any fun e => e.2.fade.isSome
    let st := if p.cue.isNone then 0 else if p.release.isSome then 3 else if fading then 2 else 1
    leBytes 2 b ++ leBytes 2 (p.cue.getD 0xFFFF) ++ leBytes 1 st ++
    leBytes 1 (flag p.follow.isSome 0 + flag (p.rate = 0) 1) ++ zeros 2 ++ leBytes 8 p.stepFrame ++
    leBytes 4 p.progress ++ leBytes 4 p.level ++ leBytes 4 p.rate ++ leBytes 4 p.ignored

/-- PLAYBACK_STATUS (R171). -/
def playbackStatusOp : Op where
  code := 0x040A
  cls := .immediate
  layout := fixedLayout [2, 2]
  body := .run fun r s => do
    let first := u16 r.payload 0
    let count := u16 r.payload 2
    inRange (1 ≤ count ∧ first + count ≤ 256) 2
    .ok (s, .done { frame := s.gl.frame, payload := (List.range count).flatMap fun i => s.playbackRow (first + i) })

/-! ## Across a press (R173) -/

/-- A playback at a press from configuration `c` to `c'`: kept where its capacities are unchanged, without the entries
and held parameters that no longer exist; otherwise new. -/
def pressPlayback (c c' : Cfg) (b : Nat) (d' : Bytes) (p : Playback) : Playback :=
  match c.get .playback b with
  | some d =>
    if pbCues d = pbCues d' ∧ pbEntries d = pbEntries d' ∧ pbTracked d = pbTracked d' then
      { p with
        held := p.held.filter fun e => sameParam c c' e.1
        cues := Tab.mapV p.cues fun _ q => { q with entries := q.entries.filter fun e => sameParam c c' e.1 } }
    else .fresh d'
  | none => .fresh d'

/-- The playbacks at a press; a playback that is not kept has no entry in the delay lists. -/
def State.pressPlaybacks (c c' : Cfg) (s : State) : State :=
  let pb := (c'.all .playback).map fun e => (e.1, pressPlayback c c' e.1 e.2 (Tab.getD s.pb e.1 (.fresh e.2)))
  let stands := fun (e : Delay) => (Tab.find pb e.playback).any fun (p : Playback) =>
    if e.release then p.release.isSome else p.follow.isSome
  { s with pb, sch := { s.sch with delays := Tab.mapV s.sch.delays fun _ (l : List Delay) => l.filter stands } }

/-! ## Meanings -/

def execPlaybackDefine (r : Req) (s : State) : Outcome := hostCommand playbackDefineOp r s
def execCueStore (r : Req) (s : State) : Outcome := hostCommand cueStoreOp r s
def execPlaybackGo (r : Req) (s : State) : Outcome := hostCommand playbackGoOp r s
def execPlaybackBack (r : Req) (s : State) : Outcome := hostCommand playbackBackOp r s
def execPlaybackGoto (r : Req) (s : State) : Outcome := hostCommand playbackGotoOp r s
def execPlaybackRelease (r : Req) (s : State) : Outcome := hostCommand playbackReleaseOp r s
def execPlaybackLevel (r : Req) (s : State) : Outcome := hostCommand playbackLevelOp r s
def execPlaybackRate (r : Req) (s : State) : Outcome := hostCommand playbackRateOp r s
def execCurveTable (r : Req) (s : State) : Outcome := hostCommand curveTableOp r s
def execPlaybackStatus (r : Req) (s : State) : Outcome := hostCommand playbackStatusOp r s

end Sys2Proof.Machine
end

