-- ==== Sys2Proof/Machine/Effect.lean ====
section
/-! DEFINITION. Effect generators (R164-R173): EFFECT_DEFINE, EFFECT_ASSIGN, EFFECT_RATE, EFFECT_SIZE, EFFECT_START,
EFFECT_STOP, EFFECT_PHASE, EFFECT_STATUS, their contributions, and the merge of a parameter's sources (R131-R134). -/

namespace Sys2Proof.Machine

/-! ## The waveforms (R170) -/

/-- Entries 0 to 31 of the quarter-sine table (R170). -/
def sinq0 : List Nat :=
  [0, 3217, 6434, 9650, 12867, 16082, 19298, 22512, 25726, 28938, 32150, 35360, 38569, 41777, 44983, 48187,
   51389, 54590, 57788, 60984, 64178, 67370, 70559, 73745, 76929, 80110, 83287, 86462, 89633, 92801, 95966,
   99126]

/-- Entries 32 to 63 of the quarter-sine table (R170). -/
def sinq1 : List Nat :=
  [102284, 105437, 108586, 111731, 114872, 118009, 121141, 124269, 127392, 130510, 133623, 136731, 139834,
   142932, 146025, 149111, 152193, 155268, 158338, 161402, 164460, 167511, 170556, 173595, 176627, 179653,
   182672, 185684, 188689, 191687, 194677, 197660]

/-- Entries 64 to 95 of the quarter-sine table (R170). -/
def sinq2 : List Nat :=
  [200636, 203605, 206565, 209518, 212463, 215400, 218329, 221250, 224162, 227066, 229961, 232848, 235726,
   238595, 241455, 244306, 247148, 249980, 252803, 255617, 258421, 261215, 263999, 266774, 269538, 272292,
   275036, 277770, 280493, 283205, 285907, 288599]

/-- Entries 96 to 127 of the quarter-sine table (R170). -/
def sinq3 : List Nat :=
  [291279, 293948, 296606, 299253, 301889, 304514, 307127, 309728, 312318, 314896, 317462, 320016, 322559,
   325089, 327606, 330112, 332605, 335085, 337553, 340008, 342451, 344880, 347297, 349700, 352090, 354467,
   356831, 359181, 361518, 363841, 366150, 368446]

/-- Entries 128 to 159 of the quarter-sine table (R170). -/
def sinq4 : List Nat :=
  [370728, 372995, 375249, 377489, 379714, 381925, 384122, 386304, 388472, 390625, 392763, 394887, 396996,
   399089, 401168, 403232, 405280, 407313, 409331, 411334, 413321, 415292, 417248, 419188, 421112, 423020,
   424913, 426789, 428650, 430494, 432322, 434134]

/-- Entries 160 to 191 of the quarter-sine table (R170). -/
def sinq5 : List Nat :=
  [435930, 437709, 439471, 441217, 442947, 444659, 446355, 448034, 449697, 451342, 452971, 454582, 456176,
   457753, 459313, 460856, 462381, 463889, 465379, 466852, 468307, 469744, 471164, 472566, 473951, 475317,
   476666, 477997, 479309, 480604, 481880, 483139]

/-- Entries 192 to 223 of the quarter-sine table (R170). -/
def sinq6 : List Nat :=
  [484379, 485601, 486805, 487990, 489157, 490305, 491436, 492547, 493640, 494715, 495771, 496808, 497826,
   498826, 499807, 500769, 501712, 502637, 503542, 504429, 505296, 506145, 506974, 507785, 508576, 509348,
   510101, 510834, 511549, 512244, 512920, 513577]

/-- Entries 224 to 255 of the quarter-sine table (R170). -/
def sinq7 : List Nat :=
  [514214, 514832, 515430, 516010, 516569, 517109, 517630, 518132, 518613, 519076, 519518, 519942, 520345,
   520729, 521093, 521438, 521763, 522069, 522355, 522621, 522867, 523094, 523301, 523489, 523656, 523804,
   523933, 524041, 524130, 524199, 524249, 524278]

/-- Entries 256 to 256 of the quarter-sine table (R170). -/
def sinq8 : List Nat :=
  [524288]

/-- The built-in quarter-sine table (R170): sin(pi k / 512) x 2^19 to the nearest integer. -/
def sinq : List Nat :=
  sinq0 ++ sinq1 ++ sinq2 ++ sinq3 ++ sinq4 ++ sinq5 ++ sinq6 ++ sinq7 ++ sinq8

/-- What a generator gives at group grp, in units of 2^-20, before INVERT and bias (R170). -/
def waveU (c : Cfg) (d : Bytes) (grp ph : Nat) : Int :=
  let th := ph % 2 ^ 32
  let cyc := ph / 2 ^ 32 % 2 ^ 32
  match gnWave d with
  | 0 =>
    let quad := th / 2 ^ 30
    let x0 := th / 2 ^ 10 % 2 ^ 20
    let x := if quad % 2 = 1 then 0x100000 - x0 else x0
    let sv := curveAt (fun k => (sinq.getD k 0 : Nat)) x
    if quad / 2 % 2 = 1 then 0x80000 - sv else 0x80000 + sv
  | 1 => (th / 2 ^ 12 : Nat)
  | 2 => if th / 2 ^ 16 < u16 d 6 then 0x100000 else 0
  | 3 =>
    let h := u32 d 16 ^^^ (cyc * 0x9e3779b1 % 2 ^ 32) ^^^ (grp * 0x85ebca77 % 2 ^ 32)
    let h := (h ^^^ (h / 2 ^ 16)) * 0x7feb352d % 2 ^ 32
    let h := (h ^^^ (h / 2 ^ 15)) * 0x846ca68b % 2 ^ 32
    ((h ^^^ (h / 2 ^ 16)) / 2 ^ 12 : Nat)
  | _ =>
    let k := th / 2 ^ 24
    let f : Int := (th / 2 ^ 12 % 2 ^ 12 : Nat)
    let t := fun k => (c.curveEntry (u8 d 4) k : Int)
    t k + ((t (k + 1) - t k) * f + 0x800) / 4096

/-- The contribution of a generator to a parameter of group grp (R170). -/
def contribution (c : Cfg) (d : Bytes) (g : Gen) (grp : Nat) : Int :=
  if !g.running then 0
  else
    let gi := if gnReverse d then gnGroups d - 1 - grp else grp
    let off := gi * u32 d 24 * 65536 / gnGroups d
    let u := waveU c d grp ((g.phi + g.offset + off) % 2 ^ 64)
    let u := if gnInvert d then 0x100000 - u else u
    let bias : Int := if gnMode d = 0 then 0x80000 else if gnMode d = 1 then 0 else 0x100000
    ((u - bias) * g.size + 0x80000) / 2 ^ 20

/-! ## Generators -/

/-- A generator as the configuration defines it (R173); RUN starts it at the press. -/
def Gen.fresh (d : Bytes) : Gen :=
  { running := gnRun d, rate := iAt d 8 4, size := u32 d 12, offset := u32 d 28, still := gnRun d }

/-- Generator g of the configuration in force, with its record. -/
def State.generator (s : State) (g : Nat) : Option (Bytes × Gen) :=
  match s.cfg.get .effect g with
  | some d => some (d, Tab.getD s.gen g (Gen.fresh d))
  | none => none

/-- A defined generator changed. -/
def State.updGen (g : Nat) (f : Gen → Gen) (s : State) : State :=
  match s.generator g with
  | some (_, x) => { s with gen := Tab.put s.gen g (f x) }
  | none => s

/-- The first field of an effect command names a defined generator (R167). -/
def generatorDefined (r : Req) (s : State) : Chk? Unit :=
  need (s.generator (u16 r.payload 0)).isSome Status.badReference 0

/-- The assignments of a generator. -/
def Cfg.assigns (c : Cfg) (g : Nat) : Tab Bytes := (c.all .assign).filter fun e => e.1 / 2 ^ 24 = g

/-- EFFECT_DEFINE (R165, R166); the opcode flag APPLY is kept with the area (R173). -/
def effectDefineOp : Op where
  code := 0x0501
  cls := .staged
  flags := 1
  layout := fixedLayout [2, 1, 1, 1, 1, 2, 4, 4, 4, 2, 2, 4, 4]
  body := .staged fun r c _ => do
    let d := r.payload
    inRange (u16 d 0 ≤ 511) 0
    inRange (gnWave d ≤ 4) 2
    inRange (gnMode d ≤ 2) 3
    inRange (u8 d 4 ≤ 31) 4
    inRange (u32 d 12 ≤ 0xFFFFF) 12
    inRange (1 ≤ gnGroups d) 20
    inRange (u32 d 24 ≤ 0x10000) 24
    inRange ((c.assigns (u16 d 0)).all fun e => u16 e.2 4 < gnGroups d) 20
    let c := c.put .effect (u16 d 0) d
    .ok (if r.opFlag 8 then { c with apply := c.apply ++ [u16 d 0] } else { c with apply := c.apply.filter (· ≠ u16 d 0) })

/-- EFFECT_ASSIGN (R164, R166). -/
def effectAssignOp : Op where
  code := 0x0502
  cls := .staged
  flags := 1
  layout := layout [2, 2, 4] (some (4, fun b => 8 * u32 b 4))
  body := .staged fun r c _ => do
    let g := u16 r.payload 0
    inRange (g ≤ 511) 0
    match c.get .effect g with
    | none => .error ⟨Status.badReference, 0⟩
    | some d =>
      let c := if r.opFlag 8 then c.delIf .assign fun n _ => n / 2 ^ 24 = g else c
      foldIdx (records r.payload 8 8 (u32 r.payload 4)) 0 c fun i c e => do
        let off := 8 + 8 * i
        let a := u32 e 0 % 2 ^ 24
        need (c.param a).isSome Status.badReference off
        inRange (u16 e 4 < gnGroups d) (off + 4)
        inRange (!c.has .assign (assignNum g a)) off
        inRange (((c.all .assign).filter fun x => x.1 % 2 ^ 24 = a).length < 4) off
        inRange ((c.all .assign).length < 2097152) off
        .ok (c.put .assign (assignNum g a) e)

/-- EFFECT_RATE (R167, R168). -/
def effectRateOp : Op where
  code := 0x0503
  cls := .timed
  af := true
  layout := fixedLayout [2, 2, 4]
  body := .timed generatorDefined fun r _ s => s.updGen (u16 r.payload 0) fun g => { g with rate := iAt r.payload 4 4 }

/-- EFFECT_SIZE: a ramp from the size of the frame before (R169). -/
def effectSizeOp : Op where
  code := 0x0504
  cls := .timed
  af := true
  layout := fixedLayout [2, 2, 4, 4]
  body := .timed
    (fun r s => do
      generatorDefined r s
      inRange (u32 r.payload 4 ≤ 0xFFFFF) 4
      inRange (u32 r.payload 8 ≤ 65535) 8)
    (fun r n s => s.updGen (u16 r.payload 0) fun g => { g with ramp := some (g.size, u32 r.payload 4, n, u32 r.payload 8) })

/-- EFFECT_START: sets the phase to 0 with RESET; without it, a running generator is left alone (R168). -/
def effectStartOp : Op where
  code := 0x0505
  cls := .timed
  af := true
  layout := fixedLayout [2, 2]
  body := .timed generatorDefined fun r n s => s.updGen (u16 r.payload 0) fun g =>
    if (u16 r.payload 2).testBit 0 then { g with running := true, phi := 0, startFrame := n, still := true }
    else if g.running then g
    else { g with running := true, startFrame := n, still := true }

/-- EFFECT_STOP (R168). -/
def effectStopOp : Op where
  code := 0x0506
  cls := .timed
  af := true
  layout := fixedLayout [2, 2]
  body := .timed generatorDefined fun r _ s => s.updGen (u16 r.payload 0) fun g => { g with running := false, still := false }

/-- EFFECT_PHASE (R168). -/
def effectPhaseOp : Op where
  code := 0x0507
  cls := .timed
  af := true
  layout := fixedLayout [2, 2, 4]
  body := .timed generatorDefined fun r _ s => s.updGen (u16 r.payload 0) fun g => { g with offset := u32 r.payload 4 }

/-- The size of a generator at frame n (R169): rdiv rounds to the nearest, halves up. -/
def Gen.sizeAt (g : Gen) (n : Nat) : Nat :=
  match g.ramp with
  | none => g.size
  | some (s0, s1, f, len) =>
    if n ≥ f + len then s1
    else ((s0 : Int) + (2 * (((s1 : Int) - s0) * ((n - f : Nat) : Int)) + len) / (2 * (len : Int))).toNat

/-- What the cut of frame n does with a generator, after its commands (R168, R169). -/
def Gen.atCut (n : Nat) (g : Gen) : Gen :=
  let phi := if g.running && !g.still then unsigned 64 (g.phi + g.rate) else g.phi
  let ramp := match g.ramp with
    | some (_, _, f, len) => if n ≥ f + len then none else g.ramp
    | none => none
  { g with phi, size := g.sizeAt n, ramp, still := false }

/-- The generators at the cut of frame n. -/
def State.cutEffects (n : Nat) (s : State) : State :=
  (s.cfg.all .effect).foldl (fun s e => s.updGen e.1 (Gen.atCut n)) s

/-- The 32-byte record of a generator number (R172). -/
def State.generatorRow (s : State) (g : Nat) : Bytes :=
  match s.generator g with
  | none => leBytes 2 g ++ leBytes 1 0xFF ++ zeros 29
  | some (_, x) =>
    leBytes 2 g ++ leBytes 1 (if x.running then 1 else 0) ++ zeros 1 ++ leInt 4 x.rate ++ leBytes 8 x.phi ++
    leBytes 4 x.size ++ leBytes 4 x.offset ++ leBytes 8 x.startFrame

/-- EFFECT_STATUS (R172). -/
def effectStatusOp : Op where
  code := 0x0508
  cls := .immediate
  layout := fixedLayout [2, 2]
  body := .run fun r s => do
    let first := u16 r.payload 0
    let count := u16 r.payload 2
    inRange (1 ≤ count ∧ count ≤ 512 ∧ first + count ≤ 512) 2
    .ok (s, .ok ((List.range count).flatMap fun i => s.generatorRow (first + i)))

/-- The generators at a press: one that exists in both configurations keeps its phase, running state, rate, size and
offset, unless its EFFECT_DEFINE carried APPLY, which takes RATE, SIZE, OFFSET and RUN anew (R173);
a stopped one that RUN then starts advances from the press frame on (log entry 248). -/
def State.pressEffects (c c' : Cfg) (s : State) : State :=
  { s with gen := (c'.all .effect).map fun e => (e.1,
      if c.has .effect e.1 then
        let g := Tab.getD s.gen e.1 (Gen.fresh e.2)
        if c'.apply.contains e.1 then
          { g with running := gnRun e.2, rate := iAt e.2 8 4, size := u32 e.2 12, ramp := none, offset := u32 e.2 28 }
        else g
      else Gen.fresh e.2) }

/-! ## The merge (R131-R134) -/

/-- A source that is present for a parameter: priority, key, value, and how PARAM_READ names it (R131, R142). -/
structure MergeSrc where
  pri   : Nat
  key   : Nat
  value : Nat
  cls   : Nat
  index : Nat := 0
  deriving DecidableEq, Repr

/-- The sources at the highest priority. -/
def topSources (l : List MergeSrc) : List MergeSrc :=
  let top := (l.map MergeSrc.pri).foldl max 0
  l.filter fun x => x.pri = top

/-- Whether one source wins over another: by value and then key for HTP, by key for LTP (R133, R142). -/
def srcBeats (htp : Bool) (a b : MergeSrc) : Bool :=
  if htp then (a.value > b.value || (a.value = b.value && a.key > b.key)) else a.key > b.key

/-- The winning source of a list. -/
def winner (htp : Bool) : List MergeSrc → Option MergeSrc
  | [] => none
  | x :: rest => match winner htp rest with
    | none => some x
    | some y => some (if srcBeats htp x y then x else y)

/-- The value of a playback scaled by its master level for INTENSITY (R132). -/
def scaleLevel (v level : Nat) : Nat := (v * level + 0x80000) / 2 ^ 20

/-- The sources present for a parameter at this cut (R131). -/
def State.sources (s : State) (a : Nat) (isInt : Bool) (p : Par) : List MergeSrc :=
  let c := s.cfg
  let pbs := (c.all .playback).filterMap fun e =>
    let pb := Tab.getD s.pb e.1 (Playback.fresh e.2)
    match Tab.find pb.held a with
    | none => none
    | some h =>
      if isInt && pb.level = 0 then none
      else some { pri := pbPriority e.2, key := h.key * 512 + e.1, value := if isInt then scaleLevel h.v pb.level else h.v, cls := 1, index := e.1 }
  let rx := match p.rx with
    | some r => if p.rxHere then [{ pri := r.pri, key := r.frame * 512 + 256, value := r.value, cls := 2 }] else []
    | none => []
  let live := match p.live with
    | some r => [{ pri := r.pri, key := r.frame * 512 + 257, value := r.value, cls := 3 }]
    | none => []
  pbs ++ rx ++ live

/-- effect_sum(p): the exact sum of the contributions to a parameter (R170). -/
def State.effectSum (s : State) (a : Nat) : Int :=
  (((s.cfg.all .assign).filter fun e => e.1 % 2 ^ 24 = a).map fun e =>
    match s.generator (e.1 / 2 ^ 24) with
    | some (d, g) => contribution s.cfg d g (u16 e.2 4)
    | none => 0).foldl (· + ·) 0

/-- The parameter at this cut: merged, with its effects, clamped (R133). -/
def State.merge (s : State) (a : Nat) (t : Bytes) (i : Nat) (p : Par) : Par :=
  let htp := decide (fpKind t i = kIntensity)
  let w := winner htp (topSources (s.sources a htp p))
  let v := match w with
    | some x => x.value
    | none => fpDefault t i
  let v := clampI (fpMin t i) (fpMax t i) ((v : Int) + s.effectSum a)
  { p with
    prev := p.out, out := v.toNat
    cls := (w.map MergeSrc.cls).getD 0
    index := (w.map MergeSrc.index).getD 0 }

/-- The merge of every patched parameter (R133): all from the same frozen sources. -/
def State.cutParams (s : State) : State :=
  let tab := s.cfg.addresses.filterMap fun a => match s.cfg.param a with
    | some (t, i) => some (a, s.merge a t i (Tab.getD s.par.tab a (s.cfg.freshPar a)))
    | none => none
  { s with par := { tab, cut := true } }

/-- A configuration maps received slots onto a parameter (R139). -/
def Cfg.receives (c : Cfg) (a : Nat) : Bool :=
  c.has .rxMap (a / 128) && (match c.param a with
    | some (t, i) => fpWidth t i ≠ 0
    | none => false)

/-- A parameter without a map has no received source. -/
def Par.unmapped (p : Par) (mapped : Bool) : Par := { p with rxHere := p.rxHere && mapped }

/-- The parameters at a press (R141): those that are the same parameter keep their state, the others start from
DEFAULT. -/
def State.pressParams (c c' : Cfg) (s : State) : State :=
  { s with par := {
      tab := c'.addresses.map fun a => (a,
        if sameParam c c' a then (Tab.getD s.par.tab a (c'.freshPar a)).unmapped (c'.receives a) else c'.freshPar a)
      cut := false } }

/-! ## Meanings -/

def execEffectDefine (r : Req) (s : State) : Outcome := hostCommand effectDefineOp r s
def execEffectAssign (r : Req) (s : State) : Outcome := hostCommand effectAssignOp r s
def execEffectRate (r : Req) (s : State) : Outcome := hostCommand effectRateOp r s
def execEffectSize (r : Req) (s : State) : Outcome := hostCommand effectSizeOp r s
def execEffectStart (r : Req) (s : State) : Outcome := hostCommand effectStartOp r s
def execEffectStop (r : Req) (s : State) : Outcome := hostCommand effectStopOp r s
def execEffectPhase (r : Req) (s : State) : Outcome := hostCommand effectPhaseOp r s
def execEffectStatus (r : Req) (s : State) : Outcome := hostCommand effectStatusOp r s

end Sys2Proof.Machine
end

