-- ==== Sys2Proof/Machine/Fifos.lean ====
section
/-! DEFINITION. The FIFOs that the host reads through windows (R20-R29): captures, stamps, faults and UIDs; what enters
them, what a read removes, the reads that wait for an item, and rinses. -/

namespace Sys2Proof.Machine

/-! ## Inputs and ports -/

/-- Input i. -/
def State.input (s : State) (i : Nat) : Tti := Tab.getD s.tk.inputs i {}

/-- An input changed. -/
def State.updInput (i : Nat) (f : Tti → Tti) (s : State) : State := { s with tk := { s.tk with inputs := Tab.upd s.tk.inputs i {} f } }

/-- Scan port n. -/
def State.port (s : State) (n : Nat) : ScanPort := Tab.getD s.scan n {}

/-- A scan port changed. -/
def State.updPort (n : Nat) (f : ScanPort → ScanPort) (s : State) : State := { s with scan := Tab.upd s.scan n {} f }

/-- DMX port n. -/
def State.dmxOf (s : State) (n : Nat) : DmxPort := Tab.getD s.dmx n {}

/-- A DMX port changed. -/
def State.updDmx (n : Nat) (f : DmxPort → DmxPort) (s : State) : State := { s with dmx := Tab.upd s.dmx n {} f }

/-! ## FIFOs (R22, R26-R28) -/

/-- The packets of items, a part of one counting as one. -/
def packetCount (l : List (Nat × Bool)) : Nat :=
  (l.filter Prod.snd).length + (match l.getLast? with
    | some (_, false) => 1
    | _ => 0)

/-- The discard point of a FIFO (R26, R27). -/
def Fifo.discard (f : Fifo) : Fifo :=
  { f with items := [], mid := false, rinse := false, rinsed := satAdd f.rinsed (packetCount f.items) }

/-- A rinse is requested (R26, R27): between packets the discard point is at once, and a request merges with a pending one.
A reader that has begun a packet reads it whole first. -/
def Fifo.request (f : Fifo) : Fifo := if f.mid then { f with rinse := true } else f.discard

/-- A packet enters a FIFO that holds `cap` packets: the newest is dropped and counted when it is full (R22). -/
def Fifo.push (cap : Nat) (packet : List (Nat × Bool)) (f : Fifo) : Fifo :=
  if packetCount f.items ≥ cap then { f with drops := satInc f.drops } else { f with items := f.items ++ packet }

/-! ## Windows (R23, R24) -/

/-- A FIFO that the host reads through a window: a capture input, a stamp FIFO, a fault FIFO or a UID FIFO. -/
inductive Window where
  | input (i : Nat)
  | stamps (lane : Nat)
  | faults (port : Nat)
  | uids (port : Nat)
  deriving DecidableEq, Repr

/-- The window whose lower word is at a BAR0 offset (R306, R338, R364, R379). -/
def State.windowAt (s : State) (a : Nat) : Option Window :=
  if 0x32000 ≤ a ∧ a < 0x32100 ∧ a % 0x20 = 0 then some (.input ((a - 0x32000) / 0x20))
  else if 0x34000 ≤ a ∧ a < 0x34000 + 0x100 * s.lanes ∧ a % 0x100 = 0x20 then some (.stamps ((a - 0x34000) / 0x100))
  else if 0x100000 ≤ a ∧ a < 0x100000 + 0x1000 * s.lanes ∧ a % 0x1000 = 0x28 then some (.faults ((a - 0x100000) / 0x1000))
  else if 0x110000 ≤ a ∧ a < 0x110000 + 0x400 * s.dmxPorts ∧ a % 0x400 = 0x30 then some (.uids ((a - 0x110000) / 0x400))
  else none

/-- The FIFO behind a window. -/
def State.fifo (s : State) (w : Window) : Fifo :=
  match w with
  | .input i => (s.input i).fifo
  | .stamps n => (s.laneOf n).stamps
  | .faults n => (s.port n).faults
  | .uids n => (s.dmxOf n).uids

/-- The FIFO behind a window replaced. -/
def State.setFifo (w : Window) (f : Fifo) (s : State) : State :=
  match w with
  | .input i => s.updInput i fun x => { x with fifo := f }
  | .stamps n => s.updLane n fun x => { x with stamps := f }
  | .faults n => s.updPort n fun x => { x with faults := f }
  | .uids n => s.updDmx n fun x => { x with uids := f }

/-- The next item is removed: its window word, and the FIFO after it. A pending rinse has its discard point at the end of
the packet (R26). -/
def Fifo.pop (f : Fifo) : Option (Nat × Fifo) :=
  match f.items with
  | [] => none
  | (d, last) :: rest =>
    let g : Fifo := { f with items := rest, mid := !last }
    let g := if g.rinse && last then g.discard else g
    some (fifoWord false last g.items.length d, g)

/-- The word of a window that no item came for: EMPTY (R23). -/
def emptyWord : Nat := fifoWord true false 0 0

/-- A window word is returned: a 64-bit read has both halves, a 32-bit read the lower one and latches the upper (R23). -/
def State.windowReturn (w : Window) (wide : Bool) (v : Nat) (f : Fifo) (s : State) : List Reg × State :=
  if wide then ([word v, word (v / 2 ^ 32)], s.setFifo w f) else ([word v], s.setFifo w { f with latch := word (v / 2 ^ 32) })

/-- A read of a window that does not wait any more: an item, or EMPTY (R24). -/
def State.windowEnd (w : Window) (wide : Bool) (s : State) : List Reg × State :=
  match (s.fifo w).pop with
  | some (v, f) => s.windowReturn w wide v f
  | none => s.windowReturn w wide emptyWord (s.fifo w)

/-- The offset of the word, or pair of words, that a host read of 1, 2, 4 or 8 bytes falls in (R511). -/
def barWord (a bytes : Nat) : Nat := a - a % (if bytes = 8 then 8 else 4)

/-- What a read of fewer than 4 bytes returns: the addressed bytes of the containing word (R511). -/
def addressed (a bytes : Nat) (l : List Reg) : List Reg :=
  if bytes < 4 then l.map fun w => word (w.toNat / 256 ^ (a % 4) % 256 ^ bytes) else l

/-- A host read of an offset completes with words (R511). -/
def State.readEnd (a bytes : Nat) (x : List Reg × State) : State := x.2.emit (.readData (addressed a bytes x.1))

/-- A read that waits completes: with an item that has come, or with EMPTY (R24). -/
def State.endWait (a bytes : Nat) (s : State) : State :=
  match s.windowAt (barWord a bytes) with
  | none => s
  | some w =>
    let s := { s with pcie := { s.pcie with waits := s.pcie.waits.erase (a, bytes) } }
    State.readEnd a bytes (s.windowEnd w (bytes = 8))

/-- The reads that wait on a window whose FIFO has an item complete, oldest first (R24). -/
def State.serveReads (w : Window) (s : State) : State :=
  s.pcie.waits.foldl (fun (s : State) e =>
    if s.windowAt (barWord e.1 e.2) ≠ some w ∨ (s.fifo w).items.isEmpty then s else s.endWait e.1 e.2) s

/-- A packet arrives at a FIFO of `cap` packets (R22), and a read that waits on its window has the item at once (R24). -/
def State.arrive (w : Window) (cap : Nat) (packet : List (Nat × Bool)) (s : State) : State :=
  (s.setFifo w ((s.fifo w).push cap packet)).serveReads w

end Sys2Proof.Machine
end

