-- ==== Sys2Proof/Machine/Packets.lean ====
section
/-! DEFINITION. Packets on the lanes (R22, R277, R312-R318): addresses, headers, sizes on the wire, packets that leave
without a launch time, and what the MAC and the IPv4 stack do with a frame received. -/

namespace Sys2Proof.Machine

/-! ## The unit's addresses (R312, R325, R458, R514) -/

/-- The default MAC base is derived from the serial number and locally administered: of its first byte, bit 1 is set and bit
0, of group addresses, is clear (R458). -/
def defaultMacBase : Bytes :=
  let b := padTo 6 Config.defaultMac
  b.set 0 ((b.getD 0 0 &&& 0xFC) ||| 0x02)

/-- The serial number of the defaults of R458: the die identity. -/
def defaultPersonality : Bytes :=
  leBytes 2 0x1F0D ++ leBytes 2 0x1F0D ++ leBytes 2 0 ++ leBytes 2 1 ++ defaultMacBase ++ leBytes 2 0x7FF0 ++
  padTo 4 Config.dieIdentity ++ padTo 16 Config.defaultCid ++ padTo 16 Config.dieIdentity ++ zeros 204

/-- The personality in force (R458). -/
def State.personality (s : State) : Bytes := s.boot.pers.getD defaultPersonality

/-- The source MAC address of a lane under a configuration: as defined, or the personality's base plus the lane number,
16 for ML (R312, R514). -/
def State.laneMac (s : State) (c : Cfg) (n : Nat) : Bytes :=
  let base := beBytes 6 (beNat (slice s.personality 8 6) + n)
  match c.get .lane n with
  | some d => if beNat (laMac d) = 0 then base else laMac d
  | none => base

/-- The CID that the unit sends with (R325). -/
def State.cid (s : State) : Bytes :=
  match s.cfg.get .sacnSource 0 with
  | some d => if beNat (slice d 16 16) = 0 then slice s.personality 20 16 else slice d 16 16
  | none => slice s.personality 20 16

/-! ## Destinations (R314, R316, R317) -/

/-- The address that a lane resolves for a destination: itself inside the subnet, the gateway otherwise (R317). -/
def nextHop (l : Bytes) (ip : Nat) : Nat :=
  let size := 2 ^ (32 - laPrefix l)
  if ip / size = laIp l / size then ip else laGateway l

/-- A unicast address. -/
def isUnicast (ip : Nat) : Bool := ip / 2 ^ 28 ≠ 14

/-- The MAC address of an IPv4 multicast group (RFC 1112). -/
def multicastMac (ip : Nat) : Bytes := [0x01, 0x00, 0x5E] ++ beBytes 3 (ip % 2 ^ 23)

/-- The MAC address for an IPv4 address on a lane: derived from a multicast address, or resolved (R316, R317). -/
def State.macFor (s : State) (c : Cfg) (lane ip : Nat) : Bytes :=
  if !isUnicast ip then multicastMac ip
  else match c.get .lane lane with
    | none => zeros 6
    | some l => ((Tab.find (s.laneOf lane).arp (nextHop l ip)).map Arp.mac).getD (zeros 6)

/-- The MAC address for a packet of a flow: as given, or that of its address (R316). -/
def State.flowMac (s : State) (c : Cfg) (f : Bytes) (ip : Nat) : Bytes :=
  if beNat (flMac f) = 0 then s.macFor c (flLane f) ip else flMac f

/-! ## Packets that leave -/

/-- The VLAN tag of a lane with its PCP; 0 where it is untagged (R312). -/
def laTag (d : Bytes) : Nat := if laVlan d = 0 then 0 else laVlan d + u16 d 6 / 8192 * 8192

/-- The IPv4 address of a lane under a configuration; lane 16 is ML (R312, R515). -/
def State.laneIp (s : State) (c : Cfg) (lane : Nat) : Nat :=
  if lane = 16 then s.ml.addr else ((c.get .lane lane).map fun d => laIp d).getD 0

/-- The header of a packet on a lane under a configuration. -/
def State.head (s : State) (c : Cfg) (lane start : Nat) (dest : Bytes) (dscp ip : Nat) (ports : Option (Nat × Nat)) : Header :=
  let l := c.get .lane lane
  { start, dest, source := s.laneMac c lane, tag := (l.map laTag).getD 0, dscp
    ipFrom := s.laneIp c lane
    ipTo := ip, ports }

/-- The flows of a lane, each with its lead and the time that its frame takes on the wire, in 2^-16 ns (R295, R318). -/
def State.laneFlows (s : State) (lane : Nat) : List (Nat × Nat) :=
  ((s.cfg.all .flow).filter fun e => flNetwork e.2 && flLane e.2 = lane).map fun e =>
    (min ((Tab.getD s.lat.leads e.1 []).head?.map Prod.snd |>.getD 0) (s.cfg.periodNs - 10000) * 65536, Tab.getD s.lat.wire e.1 0)

/-- The first issue instant after a counter value of a flow with a lead (R295). -/
def Cfg.issueAfter (c : Cfg) (t lead : Nat) : Nat := (c.instant (c.slotAt (t + lead) + 1) - lead).toNat

/-- The start of a packet that takes `dur` on the wire, from `t` on: it ends before the lane's next issue instant, or waits
until the frame issued then has left (R296). -/
def Cfg.findGap (c : Cfg) (flows : List (Nat × Nat)) (dur : Nat) : Nat → Nat → Nat
  | 0, t => t
  | k + 1, t =>
    let issues := flows.map fun e => (c.issueAfter t e.1, e.2)
    match issues with
    | [] => t
    | x :: rest =>
      let next := rest.foldl (fun (m : Nat × Nat) e => if e.1 < m.1 ∨ (e.1 = m.1 ∧ e.2 > m.2) then e else m) x
      if t + dur ≤ next.1 then t else findGap c flows dur k (next.1 + next.2)

/-- The time on the wire of a number of on-wire bytes on a lane, in 2^-16 ns. -/
def State.laneT (s : State) (lane bytes : Nat) : Nat :=
  let rate := ((s.cfg.get .lane lane).map laRate).getD 1000
  8000 * bytes * 65536 / max 1 rate

/-- The counter time at which a packet without a launch time starts: once the lane is free, and while a show runs where it
ends before the next issue instant (R296; log entry 227). -/
def State.laneFree (s : State) (lane bytes : Nat) : Nat :=
  let x := s.laneOf lane
  let t := max s.tk.counter (max x.busyUntil x.otherUntil)
  if lane = 16 then s.tk.counter
  else if s.showRuns then s.cfg.findGap (s.laneFlows lane) (s.laneT lane bytes) 64 t else t

/-- The on-wire size in bytes of a packet of a lane with its bytes after the Ethernet header and tag (R318). -/
def State.onWire (s : State) (lane bytes : Nat) : Nat :=
  max 64 (18 + (if (s.cfg.get .lane lane).any fun l => laVlan l ≠ 0 then 4 else 0) + bytes) + 20

/-- The on-wire size of a PTP event message, or of a probe, which is as long: a UDP payload of 44 bytes. -/
def State.eventBytes (s : State) (lane : Nat) : Nat := s.onWire lane 72

/-- The bytes after the Ethernet header of a packet without a launch time: an ARP body as it is; IGMP with its router alert
option; ICMP; PTP messages as IEEE 1588-2019 sizes them; and any other UDP payload. -/
def otherBytes (kind : String) (body : Bytes) : Nat :=
  if kind = "arp request" ∨ kind = "arp reply" then body.length
  else if kind = "igmpv2 report" then 32
  else if kind = "igmpv3 report" then 40
  else if kind = "echo reply" then 20 + body.length
  else if kind = "ptp sync" ∨ kind = "ptp follow-up" ∨ kind = "ptp delay-req" then 72
  else if kind = "ptp delay-resp" then 82
  else if kind = "ptp announce" then 92
  else 28 + body.length

/-- A packet without a launch time leaves on a lane, after those before it (R296). -/
def State.laneSend (lane : Nat) (kind : String) (dest : Bytes) (dscp ip : Nat) (ports : Option (Nat × Nat)) (body : Bytes) (s : State) : State :=
  let bytes := s.onWire lane (otherBytes kind body)
  let start := s.laneFree lane bytes
  let s := s.emit (.lanePacket lane kind (s.head s.cfg lane start dest dscp ip ports) body)
  if lane = 16 then s else s.updLane lane fun l => { l with otherUntil := start + s.laneT lane bytes }

/-- The body of an ARP packet: operation, and addresses of sender and target (RFC 826). -/
def arpBody (oper : Nat) (fromMac : Bytes) (fromIp : Nat) (toMac : Bytes) (toIp : Nat) : Bytes :=
  beBytes 2 1 ++ beBytes 2 0x0800 ++ [6, 4] ++ beBytes 2 oper ++ padTo 6 fromMac ++ beBytes 4 fromIp ++ padTo 6 toMac ++ beBytes 4 toIp

/-- An ARP request for an address leaves on a lane (R317). -/
def State.arpRequest (lane ip : Nat) (s : State) : State :=
  s.laneSend lane "arp request" (List.replicate 6 0xFF) 0 0 none
    (arpBody 1 (s.laneMac s.cfg lane) (s.laneIp s.cfg lane) (zeros 6) ip)

/-- A membership report for a group leaves on a lane: IGMPv3 naming a source, or IGMPv2 (R226, R314, R328, R333). The
IGMPv3 report goes to 224.0.0.22 (RFC 3376; log entry 227). -/
def State.igmpReport (lane : Nat) (g : Nat × Nat) (s : State) : State :=
  if g.2 = 0 then s.laneSend lane "igmpv2 report" (multicastMac g.1) 0 g.1 none (beBytes 4 g.1)
  else s.laneSend lane "igmpv3 report" (multicastMac 0xE0000016) 0 0xE0000016 none (beBytes 4 g.1 ++ beBytes 4 g.2)

/-! ## Frames received (R22, R314, R315, R338) -/

/-- Whether the stack of a lane takes a frame that is whole: it is no fragment and no longer than the MTU of LANE_DEFINE
allows (R314). The pair-link lane takes frames without one; `none` for a lane that is neither. -/
def State.frameFits (s : State) (lane : Nat) (rx : RxFrame) : Option Bool :=
  match s.cfg.get .lane lane with
  | some l => some (!rx.fragment && decide (rx.bytes ≤ laMtu l + 18 + (if rx.tagged then 4 else 0)))
  | none => if s.pairLane s.cfg = some lane then some (!rx.fragment) else none

/-- What the MAC of a lane does with a frame received before its use (R22, R338): a bad FCS is counted, and a frame that
finds the FIFO full, or that `fits` refuses, is dropped and counted. -/
def State.macReceive (lane : Nat) (rx : RxFrame) (fits : Bool) (use : State → State) (s : State) : State :=
  if !rx.goodFcs then s.updLane lane fun l => { l with rxFcs := satInc l.rxFcs }
  else if !rx.room || !fits then s.updLane lane fun l => { l with rxDrop := satInc l.rxDrop }
  else use s

/-- What the MAC and the stack of a defined lane do with a frame received before its use. ML, as lane 16, has its own stack,
and no counter for a frame that it drops (R22, R514). -/
def State.receive (lane : Nat) (rx : RxFrame) (use : State → State) (s : State) : State :=
  if lane = 16 then if s.ml.link && rx.goodFcs && rx.room then use s else s
  else match s.frameFits lane rx with
    | none => s
    | some fits => s.macReceive lane rx fits use

/-- A message of the pair link is received on the pair-link lane (R22, R381). -/
def State.receivePair (rx : RxFrame) (use : State → State) (s : State) : State :=
  match s.pairLane s.cfg with
  | none => s
  | some lane => s.macReceive lane rx true use

/-! ## Sizes and times on the wire (R318) -/

/-- The on-wire size in bytes of a packet with a UDP payload of u bytes (R318). -/
def wireBytes (tagged : Bool) (u : Nat) : Nat := max 64 (46 + (if tagged then 4 else 0) + u) + 20

/-- The starts of the packets of a frame, of the given on-wire sizes, after its first, in units of 1/mbps ns: each the
later of the end of the one before and the pace (R318). `w` is the size sent so far. -/
def packetStarts (mbps pace start w : Nat) : List Nat → List Nat
  | [] => []
  | b :: rest =>
    let stop := start + 8000 * b
    let next := if pace = 0 then stop else max stop (ceilDiv (8000 * (w + b)) pace * mbps)
    start :: packetStarts mbps pace next (w + b) rest

/-- The time from the start of the first packet to the end of the last, in units of 1/mbps ns (R318). -/
def wireSpan (mbps pace : Nat) (sizes : List Nat) : Nat :=
  match (packetStarts mbps pace 0 0 sizes).getLast?, sizes.getLast? with
  | some a, some b => a + 8000 * b
  | _, _ => 0

/-- A time in units of 1/mbps ns in 2^-16 ns, rounded down. -/
def wireT (units mbps : Nat) : Nat := units * 65536 / mbps

end Sys2Proof.Machine
end

