-- ==== Sys2Proof/Machine/Time.lean ====
section
/-! DEFINITION. The time keeper (R266-R294, R303-R310): steps, sources and their servos, PTP domains, LTC and FSYNC, the
change of the source in force, time-trigger units and captures. -/

namespace Sys2Proof.Machine

/-! ## Codes -/

/-- The code of a source (R307). -/
def Src.code : Src → Nat
  | .domA => 0
  | .domB => 1
  | .ltc => 2
  | .fsync => 3
  | .free => 4

/-- The source of a code. -/
def Src.ofCode (n : Nat) : Src :=
  match n with
  | 0 => .domA
  | 1 => .domB
  | 2 => .ltc
  | 3 => .fsync
  | _ => .free

/-- The code of a state (R280). -/
def SrcState.code : SrcState → Nat
  | .disabled => 0
  | .listening => 1
  | .acquiring => 2
  | .locked => 3
  | .holdover => 4
  | .master => 5
  | .faulty => 6

/-! ## Records (R289) -/

/-- The clock record in effect. -/
def Cfg.clockRec (c : Cfg) : Bytes := (c.get .clock 0).getD (putAt (zeros 32) 1 [4])
/-- SOURCE of the clock record. -/
def Cfg.clockSource (c : Cfg) : Src := Src.ofCode (u8 c.clockRec 1)
/-- AUTO_SWITCH. -/
def Cfg.autoSwitch (c : Cfg) : Bool := bit (u8 c.clockRec 2) 0
/-- REVERT. -/
def Cfg.revert (c : Cfg) : Bool := bit (u8 c.clockRec 2) 1
/-- FREE_RUN_OK. -/
def Cfg.freeRunOk (c : Cfg) : Bool := bit (u8 c.clockRec 2) 2
/-- SWITCH_HOLD_MS. -/
def Cfg.switchHold (c : Cfg) : Nat := if u32 c.clockRec 4 = 0 then 2000 else u32 c.clockRec 4
/-- STEP_NS. -/
def Cfg.stepNs (c : Cfg) : Nat := if u32 c.clockRec 12 = 0 then 10000 else u32 c.clockRec 12
/-- REVERT_S. -/
def Cfg.revertS (c : Cfg) : Nat := if u16 c.clockRec 16 = 0 then 30 else u16 c.clockRec 16
/-- PROFILE of a domain record is ST 2059-2. -/
abbrev dmSmpte (d : Bytes) : Bool := u8 d 2 = 0
/-- ROLE of a domain record. -/
abbrev dmRole (d : Bytes) : Nat := u8 d 3
/-- NUMBER of a domain record. -/
abbrev dmNumber (d : Bytes) : Nat := u8 d 4
/-- The interval of 2^log seconds in 2^-16 ns. -/
def logInterval (log : Int) : Nat := if log ≥ 0 then secT (2 ^ log.toNat) else secT 1 / 2 ^ (-log).toNat
/-- The Sync interval. -/
def dmSync (d : Bytes) : Nat := logInterval (iAt d 5 1)
/-- The Announce interval. -/
def dmAnnounce (d : Bytes) : Nat := logInterval (iAt d 6 1)
/-- The Delay_Req interval. -/
def dmDelay (d : Bytes) : Nat := logInterval (iAt d 7 1)

/-- The record of domain n, where it is configured and not OFF (R274, R290). -/
def Cfg.domainRec (c : Cfg) (n : Nat) : Option Bytes :=
  match c.get .domain n with
  | some d => if dmRole d = 0 then none else some d
  | none => none

/-- The ports of a domain (R275). -/
def Cfg.domainPorts (c : Cfg) (n : Nat) : List Nat := ((c.all .port).filter fun e => bit (u8 e.2 2) n).map Prod.fst

/-- The LTC record, where LTC is enabled. -/
def Cfg.ltcRec (c : Cfg) : Option Bytes :=
  match c.get .ltc 0 with
  | some d => if u8 d 1 = 0xFF then none else some d
  | none => none

/-- The FSYNC record, where FSYNC is enabled. -/
def Cfg.fsyncRec (c : Cfg) : Option Bytes :=
  match c.get .fsync 0 with
  | some d => if u8 d 1 = 0xFF then none else some d
  | none => none

/-- A source is enabled in a configuration (R290). -/
def Cfg.sourceOn (c : Cfg) (x : Src) : Bool :=
  match x with
  | .domA => (c.domainRec 0).isSome
  | .domB => (c.domainRec 1).isSome
  | .ltc => c.ltcRec.isSome
  | .fsync => c.fsyncRec.isSome
  | .free => true

/-! ## Servos and states (R280, R281) -/

/-- The servo of a source. -/
def TimeKeeper.servo (t : TimeKeeper) (x : Src) : Servo :=
  match x with
  | .domA => t.domA.servo
  | .domB => t.domB.servo
  | .ltc => t.ltc.servo
  | .fsync => t.fsync.servo
  | .free => {}

/-- The servo of a source replaced. -/
def TimeKeeper.setServo (t : TimeKeeper) (x : Src) (v : Servo) : TimeKeeper :=
  match x with
  | .domA => { t with domA := { t.domA with servo := v } }
  | .domB => { t with domB := { t.domB with servo := v } }
  | .ltc => { t with ltc := { t.ltc with servo := v } }
  | .fsync => { t with fsync := { t.fsync with servo := v } }
  | .free => t

/-- The domain of a number. -/
def TimeKeeper.dom (t : TimeKeeper) (n : Nat) : PtpDomain := if n = 0 then t.domA else t.domB

/-- A domain changed. -/
def State.updDom (n : Nat) (f : PtpDomain → PtpDomain) (s : State) : State :=
  if n = 0 then { s with tk := { s.tk with domA := f s.tk.domA } } else { s with tk := { s.tk with domB := f s.tk.domB } }

/-- The source of a domain. -/
def domSrc (n : Nat) : Src := if n = 0 then .domA else .domB

/-- The preferred source (R283). -/
def State.preferred (s : State) : Src := s.tk.selected.getD s.cfg.clockSource

/-- READY (R270): with no configuration in force no clock record names free-run, and it reads 0 (R306). -/
def State.timeReady (s : State) : Bool :=
  if s.tk.source = .free then s.force.isSome && (s.cfg.clockSource = .free || s.cfg.freeRunOk)
  else (s.tk.servo s.tk.source).st = .locked

/-- Armed units are disarmed by a step (R269). -/
def Ttu.stepped (u : Ttu) : Ttu := if u.armed then { u with armed := false, status := u.status ||| 2 } else u

/-- FSYNC carries no time of day, so that a step of the counter leaves nothing of its estimate: its next edge gives a new one
against the show instants (R288). -/
def TimeKeeper.forgetFsync (t : TimeKeeper) : TimeKeeper :=
  { t with fsync := { t.fsync with servo := { t.fsync.servo with offset := 0, known := false } } }

/-- The counter is stepped by a difference (R268, R269): TIME_STEPPED carries it, saturating. -/
def State.stepBy (d : Int) (s : State) : State :=
  let t := (s.tk.shift d).forgetFsync
  let t := { t with counter := (t.counter + d).toNat, units := Tab.mapV t.units fun _ u => u.stepped }
  let v := unsigned 64 (clampI (-(2 ^ 63)) (2 ^ 63 - 1) d)
  { s with tk := t }.raise Ev.timeStepped (v % 2 ^ 32) (v / 2 ^ 32)

/-- The counter is stepped to a source's time: a domain counts it (R268, R304 STEPS). -/
def State.stepTo (x : Src) (d : Int) (s : State) : State :=
  let s := s.stepBy d
  if x = .domA then s.updDom 0 fun d => { d with steps := satInc d.steps }
  else if x = .domB then s.updDom 1 fun d => { d with steps := satInc d.steps } else s

/-- The source in force changes (R270, R283, R284): with the show stopped the counter steps to the new source's time;
while it runs the difference is slewed; free-run keeps the frequency and neither steps nor slews. -/
def State.changeSource (x : Src) (s : State) : State :=
  if x = s.tk.source then s
  else
    let old := s.tk.source
    let v := { s.tk.servo x with restarted := false }
    let s := { s with tk := s.tk.setServo x v }
    let s := { s with tk := { s.tk with source := x, steer := 0, moved := 0, freq := if x = Src.free then s.tk.freq else v.freq } }
    let s := s.raise Ev.timeSource (old.code + 256 * x.code) 0
    if x = .free then { s with tk := { s.tk with slew := 0 } }
    else if s.showRuns then { s with tk := { s.tk with slew := v.offset * nano } }
    else
      let s := { s with tk := { s.tk with slew := 0 } }
      if v.offset = 0 then s else s.stepTo x v.offset

/-- The first lock: from free-run to a preferred source that is LOCKED (R283). -/
def State.firstLock (s : State) : State :=
  if s.tk.source = .free ∧ s.preferred ≠ .free ∧ (s.tk.servo s.preferred).st = .locked then s.changeSource s.preferred else s

/-- A source takes a state: TIME_STATE carries source and state (R280), and a first lock may follow (R283). A source in
force that gives no more measurements leaves the counter at its frequency (R281). -/
def State.setSrc (x : Src) (st : SrcState) (s : State) : State :=
  let v := s.tk.servo x
  if v.st = st then s
  else
    let down := st = .acquiring ∨ st = .holdover
    let v := { v with
      st, good := if st = .acquiring then 0 else v.good, bad := 0, back := 0
      lockedSince := if st = .locked then some s.now else none
      downSince := if down then some (v.downSince.getD s.now) else none }
    let s := { s with tk := s.tk.setServo x v }
    let stops := s.tk.source = x ∧ st ≠ .locked ∧ st ≠ .acquiring
    let s := if stops then { s with tk := { s.tk with steer := 0 } } else s
    let s := s.raise Ev.timeState (x.code + 256 * st.code) 0
    s.firstLock

/-- Where a sample takes a state (R280): `enough` samples in a row within 100 ns lock, four in a row beyond 1 us unlock, and
two samples within 100 ns end a holdover. -/
def Servo.sample (v : Servo) (enough : Nat) (quick : Bool) (e : Int) : Servo × SrcState :=
  let small := e.natAbs ≤ nsT 100
  match v.st with
  | .locked =>
    let bad := if e.natAbs > nsT 1000 then v.bad + 1 else 0
    ({ v with bad }, if bad ≥ 4 then .acquiring else .locked)
  | .holdover =>
    if quick && small then ({ v with back := v.back + 1 }, if v.back + 1 ≥ 2 then .locked else .holdover)
    else ({ v with good := if small then 1 else 0 }, .acquiring)
  | .disabled => (v, .disabled)
  | .master => (v, .master)
  | .faulty => (v, .faulty)
  | _ =>
    let good := if small then v.good + 1 else 0
    ({ v with good }, if good ≥ enough then .locked else .acquiring)

/-- A new frequency of the source in force: while the show runs it moves by at most RUN_SLEW_NS, and what it moves is kept
(R281). -/
def State.setFreq (freq : Int) (s : State) : State :=
  if s.showRuns then
    let step := clampI (-(256 * s.runSlew : Nat)) (256 * s.runSlew : Nat) (freq - s.tk.freq)
    { s with tk := { s.tk with freq := s.tk.freq + step, moved := ceilDiv step.natAbs 256 } }
  else { s with tk := { s.tk with freq, moved := 0 } }

/-- The source in force steers the counter (R268, R281): a large offset is stepped while the show is stopped, and any
other is handed to the steering. -/
def State.steerBy (x : Src) (mhz : Nat) (freq m e : Int) (s : State) : State :=
  let s := s.setFreq freq
  if !s.showRuns && decide (m.natAbs > nsT s.cfg.stepNs) then { s with tk := { s.tk with slew := 0, steer := 0 } }.stepTo x m
  else { s with tk := { s.tk with steer := Config.servoPhase mhz e * nano } }

/-- A measurement of a source's time less the counter (R271, R281, R284). The source in force steers the counter, but for
one that a press restarted, which steers once it is LOCKED again (R290). Another source moves its own estimate. The part
of an offset that the loop removes, and its frequency, are the unit's (log entry 11). -/
def State.measure (x : Src) (mhz enough : Nat) (quick : Bool) (m : Int) (s : State) : State :=
  let v := s.tk.servo x
  let inForce := s.tk.source = x ∧ !v.restarted
  let e : Int := if inForce then m - s.tk.slew / nano else if v.known then m - v.offset else 0
  let freq := clampI (-25600000) 25600000 (Config.servoFreq mhz v.freq e)
  let est := if inForce || !v.known then m else v.offset + Config.servoPhase mhz e
  let (v', st) := v.sample enough quick e
  let back := v'.back
  let s := { s with tk := s.tk.setServo x { v' with offset := est, freq, known := true, restarted := v.restarted && decide (st ≠ SrcState.locked) } }
  let s := if inForce ∨ (s.tk.source = x ∧ st = SrcState.locked) then s.steerBy x mhz freq m e else s
  let good := v'.good
  let s := s.setSrc x st
  if st = v.st then s
  else { s with tk := s.tk.setServo x { s.tk.servo x with back := if st = .holdover then back else 0, good := if st = .acquiring then good else 0 } }

/-- A source is lost: from LOCKED or ACQUIRING it enters HOLDOVER (R280, R282). -/
def State.loseSource (x : Src) (s : State) : State :=
  let st := (s.tk.servo x).st
  if st = .locked ∨ st = .acquiring then s.setSrc x .holdover else s

/-! ## PTP domains (R271-R282) -/

/-- TX and RX latency of a MAC data rate in 2^-16 ns (R278), for a management lane or a lane of a mode. -/
def stampLatency (mode : Nat) : Nat × Nat :=
  match mode with
  | 3 => (3942646, 7780434)
  | 4 => (3050373, 5319164)
  | 5 => (1626931, 2643657)
  | 6 => (9241756, 22846112)
  | _ => (7759462, 17196646)

/-- Picoseconds in 2^-16 ns, rounded. -/
def psT (ps : Int) : Int := (ps * 65536 + 500) / 1000

/-- The mode of a port's lane; ML counts as 1000BASE-X. -/
def Cfg.portMode (c : Cfg) (lane : Nat) : Nat := if lane = 0x10 then 1 else ((c.get .lane lane).map fun d => laMode d).getD 1

/-- The board delays of a lane for transmit and receive in 2^-16 ns (R279). -/
def Cfg.boardDelay (c : Cfg) (lane : Nat) : Int × Int :=
  let p := (c.get .port lane).getD (zeros 32)
  (psT (u32 p 8 : Nat), psT (u32 p 12 : Nat))

/-- The variable part of the RX latency of a lane: measured at link-up in modes 1 to 3 and on ML; per packet in modes 4 to 6,
where the stamp of the command has it already (R278; log entry 100). -/
def State.rxAlign (s : State) (lane : Nat) : Nat :=
  if lane = 0x10 then s.ml.align else if s.cfg.portMode lane ≤ 3 then (s.laneOf lane).align else 0

/-- The stamp of a frame as it arrives now: in modes 4 to 6 the position that the device measures of it is taken off (R278). -/
def State.frameStamp (s : State) (lane : Nat) (rx : RxFrame) : Nat :=
  s.tk.counter - if s.cfg.portMode lane ≤ 3 then 0 else rx.position

/-- An ingress stamp at the reference plane (R277-R279). -/
def State.ingress (s : State) (lane stamp : Nat) : Int :=
  stamp - (stampLatency (s.cfg.portMode lane)).2 - s.rxAlign lane - (s.cfg.boardDelay lane).2

/-- An egress stamp at the reference plane (R277-R279). -/
def State.egress (s : State) (lane stamp : Nat) : Int :=
  stamp + (stampLatency (s.cfg.portMode lane)).1 + (s.cfg.boardDelay lane).1

/-- A port of a domain is FAULTY: its link came up at SGMII 10 or 100 Mb/s (R275). -/
def State.portFaulty (s : State) (lane : Nat) : Bool :=
  if lane = 0x10 then s.ml.link && s.boot.strap2 && s.ml.speed ≠ 2
  else (s.laneOf lane).link && ((s.cfg.get .lane lane).any fun d => laMode d = 2) && (s.laneOf lane).speed ≠ 2

/-- Domains whose every port is FAULTY take that state, and leave it for LISTENING (R280). -/
def State.ptpPorts (s : State) : State :=
  [0, 1].foldl (fun s n =>
    match s.cfg.domainRec n with
    | none => s
    | some _ =>
      let l := s.cfg.domainPorts n
      let bad := !l.isEmpty && l.all s.portFaulty
      let st := (s.tk.servo (domSrc n)).st
      if bad then s.setSrc (domSrc n) .faulty
      else if st = .faulty then s.setSrc (domSrc n) .listening else s) s

/-- A message of a domain is used: the domain is enabled, and the port is one of its ports and not FAULTY. -/
def State.ptpUsed (s : State) (dom lane : Nat) : Bool :=
  dom < 2 && (s.cfg.domainRec dom).isSome && (s.cfg.domainPorts dom).contains lane && !s.portFaulty lane

/-- The fields of the best master clock comparison, best lowest (R272). -/
def annRank (a : PtpAnnounce) : List Nat :=
  [a.priority1, a.clockClass, a.accuracy, a.variance, a.priority2, a.identity, a.steps, a.lane]

/-- A list of numbers comes before another. -/
def listLt : List Nat → List Nat → Bool
  | [], [] => false
  | [], _ => true
  | _, [] => false
  | x :: xs, y :: ys => x < y || (x = y && listLt xs ys)

/-- The best of the announcements. -/
def bestMaster (l : List PtpAnnounce) : Option PtpAnnounce :=
  l.foldl (fun best a => match best with
    | none => some a
    | some b => if listLt (annRank a) (annRank b) then some a else some b) none

/-- An Announce comes from a foreign master. -/
def sameMaster (a b : PtpAnnounce) : Bool := a.identity = b.identity && a.lane = b.lane

/-- A foreign master qualifies: it is the one selected, or has sent two Announces within four Announce intervals, and it is
less than 255 steps from its grandmaster (R272, IEEE 1588-2019; log entry 92). -/
def PtpDomain.qualified (m : PtpDomain) (now window : Nat) (f : Foreign) : Bool :=
  f.ann.steps < 255 &&
    ((m.master.any fun b => sameMaster b f.ann) || (f.times.filter fun t => decide (now ≤ t + window)).length ≥ 2)

/-- The Announces of a domain that take part in the algorithm. -/
def State.candidatesOf (s : State) (dom : Nat) (d : Bytes) : List PtpAnnounce :=
  let m := s.tk.dom dom
  (m.foreign.filter (m.qualified s.now (4 * dmAnnounce d))).map Foreign.ann

/-- The clockClass that a domain in MASTER announces (R274). -/
def State.ownClass (s : State) (d : Bytes) : Nat :=
  match (s.tk.servo s.tk.source).st with
  | .locked => if s.tk.source = .free then 248 else u8 d 11
  | .holdover => if s.tk.source = .free then 248 else 7
  | _ => 248

/-- The clockClass with which a domain takes part: it is 248 where the domain itself steers the counter (log entry 92). -/
def State.domClass (s : State) (dom : Nat) (d : Bytes) : Nat := if s.tk.source = domSrc dom then 248 else s.ownClass d

/-- The device's own entry in the comparison; its accuracy, variance and identity are the unit's (log entry 11). -/
def State.ownRank (s : State) (dom : Nat) (d : Bytes) : List Nat :=
  [u8 d 9, s.domClass dom d, Config.clockAccuracy, Config.clockVariance, u8 d 10, Config.clockIdentity, 0, 0]

/-- The roles of a port of a domain under the algorithm (R272, R274). -/
inductive PortRole where
  | listening | master | slave | passive
  deriving DecidableEq, Repr

/-- The role of a port: in a domain in MASTER every port is; beside a slave port the ports of a boundary clock are, but for
one that hears the same grandmaster (R274, IEEE 1588-2019; log entry 92). -/
def State.portRole (s : State) (dom lane : Nat) (d : Bytes) : PortRole :=
  let m := s.tk.dom dom
  let here := bestMaster ((s.candidatesOf dom d).filter fun a => a.lane = lane)
  match m.servo.st, m.master with
  | .master, _ => if here.any fun a => listLt (annRank a) (s.ownRank dom d) then .passive else .master
  | _, none => .listening
  | _, some b =>
    if b.lane = lane then .slave
    else if dmRole d ≠ 2 then .listening
    else match here with
      | none => .master
      | some a => if a.identity = b.identity && decide (a.steps ≤ b.steps + 1) then .passive else .master

/-- A domain becomes, or stays, grandmaster: its offset is 0 (R271, R274). -/
def State.takeMaster (dom : Nat) (s : State) : State :=
  (s.updDom dom fun m => { m with master := none, servo := { m.servo with offset := 0 } }).setSrc (domSrc dom) .master

/-- A master is selected on its port (R274, R280). -/
def State.selectMaster (dom : Nat) (b : PtpAnnounce) (s : State) : State :=
  let st := (s.tk.dom dom).servo.st
  let other := (s.tk.dom dom).last ≠ some b.identity
  let s := s.updDom dom fun m => { m with master := some b, last := some b.identity, slavePort := b.lane }
  if st = .listening ∨ st = .master ∨ (other ∧ (st = .locked ∨ st = .holdover)) then s.setSrc (domSrc dom) .acquiring else s

/-- The best master clock algorithm runs (R272, R274, R280). A clock of class 127 or better is no slave: it is master on the
ports that hear no better clock. `timeout` says that an Announce timed out; before one, a domain that listens and hears no
qualified master stays in LISTENING. -/
def State.runBmc (dom : Nat) (d : Bytes) (timeout : Bool) (s : State) : State :=
  let st := (s.tk.dom dom).servo.st
  let able := dmRole d = 2
  match bestMaster (s.candidatesOf dom d) with
  | none =>
    if able && (timeout || st ≠ .listening) then s.takeMaster dom else s.updDom dom fun m => { m with master := none }
  | some b =>
    let better := fun (a : PtpAnnounce) => listLt (annRank a) (s.ownRank dom d)
    if able && !better b then s.takeMaster dom
    else if able && s.domClass dom d ≤ 127 then
      let alone := (s.cfg.domainPorts dom).any fun l => !(s.candidatesOf dom d).any fun a => a.lane = l && better a
      if alone then s.takeMaster dom
      else (s.updDom dom fun m => { m with master := none }).setSrc (domSrc dom) .listening
    else s.selectMaster dom b

/-- A PTP message that lost its race is discarded and counted (R282). -/
def State.latePtp (dom : Nat) (s : State) : State :=
  { s with tk := { s.tk with rxLate := satInc s.tk.rxLate } }.updDom dom fun m => { m with rxLate := satInc m.rxLate }

/-- An Announce enters the foreign masters of a domain: its own entry, with the last four times. -/
def PtpDomain.hear (m : PtpDomain) (a : PtpAnnounce) (now : Nat) : PtpDomain :=
  let old := ((m.foreign.find? fun f => sameMaster f.ann a).map Foreign.times).getD []
  { m with foreign := (m.foreign.filter fun f => !sameMaster f.ann a) ++ [{ ann := a, times := now :: old.take 3 }] }

/-- What an Announce on a port does (R272, R274, R276, R282): one that loses its race with the timeout is discarded and
counted. -/
def State.useAnnounce (a : PtpAnnounce) (d : Bytes) (s : State) : State :=
  if !s.ptpUsed a.dom a.lane || a.identity = Config.clockIdentity then s
  else if (s.tk.dom a.dom).lostAnn = some (a.identity, a.lane, s.now) then s.latePtp a.dom
  else
    let s := (s.updDom a.dom fun m => m.hear a s.now).runBmc a.dom d false
    if (s.tk.dom a.dom).master.any fun b => sameMaster b a then s.updDom a.dom fun m => { m with annAt := s.now } else s

/-- PTP_ANNOUNCE_RX (R272). -/
def execPtpAnnounceRx (a : PtpAnnounce) (s : State) : Outcome :=
  .next (s.receive a.lane a.rx fun s =>
    if a.dom ≥ 2 then s
    else match s.cfg.domainRec a.dom with
      | none => s
      | some d => s.useAnnounce a d)

/-- The mean path delay: the least of the last 16 exchanges, 0 before the first (R281). -/
def PtpDomain.pathDelay (m : PtpDomain) : Int :=
  match m.delays with
  | [] => 0
  | x :: rest => rest.foldl min x

/-- A usable Sync: one measurement of the domain (R271, R281). -/
def State.useSync (dom : Nat) (d : Bytes) (lane origin ingress : Nat) (s : State) : State :=
  let m := s.tk.dom dom
  let t2 := s.ingress lane ingress
  let asym := psT (iAt ((s.cfg.get .port lane).getD (zeros 32)) 4 4)
  let s := s.updDom dom fun m => { m with lastSync := some ((origin : Int), t2), syncs := satInc m.syncs, syncAt := s.now }
  s.measure (domSrc dom) (if u16 d 14 = 0 then 100 else u16 d 14) 16 true ((origin : Int) + m.pathDelay + asym - t2)

/-- A message comes from the selected master: on the slave port, while the domain is not MASTER. -/
def State.fromMaster (s : State) (dom lane : Nat) : Bool :=
  s.ptpUsed dom lane && ((s.tk.dom dom).master.any fun b => b.lane = lane)

/-- The PTP group, 224.0.1.129 (R272). -/
abbrev ptpGroup : Nat := 0xE0000181

/-- A PTP packet leaves on a port: an event message on port 319, any other on 320, with the DSCP of its record, to the group
or to one receiver as (MAC, IPv4) (R272, R289). -/
def State.ptpPacket (lane : Nat) (d : Bytes) (event : Bool) (kind : String) (dest : Option (Bytes × Nat)) (body : Bytes) (s : State) : State :=
  let (mac, ip) := dest.getD (multicastMac ptpGroup, ptpGroup)
  let port := if event then 319 else 320
  s.laneSend lane kind mac (if event then u8 d 16 else u8 d 17) ip (some (port, port)) body

/-- A domain that is on, with its record, changed by a message or a timer. -/
def State.onDomain (dom : Nat) (f : Bytes → State → State) (s : State) : State :=
  if dom ≥ 2 then s
  else match s.cfg.domainRec dom with
    | none => s
    | some d => f d s

/-- A PTP message of a domain that is on is received on its port (R22, R272, R314). -/
def State.receivePtp (p : PtpMsg) (use : Bytes → State → State) (s : State) : State :=
  s.receive p.lane p.rx fun s => s.onDomain p.dom use

/-- PTP_SYNC_RX (R272, R281, R282). -/
def execPtpSyncRx (p : PtpMsg) (s : State) : Outcome :=
  .next (s.receivePtp p fun d s =>
    if !s.fromMaster p.dom p.lane then s
    else if (s.tk.dom p.dom).lostSync = some s.now then s.latePtp p.dom
    else if p.twoStep then s.updDom p.dom fun m => { m with
        twoStep := (m.twoStep.filter fun x => x.1 ≠ p.seq) ++ [(p.seq, p.ingress, s.now)]
        lateFollow := m.lateFollow.filter fun x => x ≠ p.seq }
    else s.useSync p.dom d p.lane p.origin p.ingress)

/-- PTP_FOLLOW_UP_RX (R272, R282). -/
def execPtpFollowUpRx (p : PtpMsg) (s : State) : Outcome :=
  .next (s.receivePtp p fun d s =>
    let m := s.tk.dom p.dom
    if !s.fromMaster p.dom p.lane then s
    else match m.twoStep.find? fun x => x.1 = p.seq with
      | some (_, ingress, _) =>
        (s.updDom p.dom fun m => { m with twoStep := m.twoStep.filter fun x => x.1 ≠ p.seq }).useSync p.dom d p.lane p.origin ingress
      | none =>
        if m.lateFollow.contains p.seq then
          (s.updDom p.dom fun m => { m with lateFollow := m.lateFollow.filter fun x => x ≠ p.seq }).latePtp p.dom
        else s)

/-- PTP_DELAY_REQ_RX: a master port answers with the ingress stamp in the domain's time (R271, R272). -/
def execPtpDelayReqRx (p : PtpMsg) (s : State) : Outcome :=
  .next (s.receivePtp p fun d s =>
    if !s.ptpUsed p.dom p.lane || s.portRole p.dom p.lane d ≠ .master then s
    else s.ptpPacket p.lane d false "ptp delay-resp" none
      (leBytes 2 p.seq ++ leBytes 16 (s.ingress p.lane p.ingress + (s.tk.dom p.dom).servo.offset).toNat))

/-- PTP_DELAY_RESP_RX: the exchange enters the path-delay filter of 16 (R281, R282). -/
def execPtpDelayRespRx (p : PtpMsg) (s : State) : Outcome :=
  .next (s.receivePtp p fun _ s =>
    let m := s.tk.dom p.dom
    if !s.fromMaster p.dom p.lane then s
    else match m.delayReq.find? fun x => x.1 = p.seq with
      | some (_, t3, _) =>
        s.updDom p.dom fun m => { m with
          delayReq := m.delayReq.filter fun x => x.1 ≠ p.seq
          delays := match m.lastSync with
            | none => m.delays
            | some (t1, t2) =>
              let l := m.delays ++ [((t2 - t1) + ((p.origin : Int) - s.egress p.lane t3)) / 2]
              l.drop (l.length - 16) }
      | none =>
        if m.lateDelay.contains p.seq then
          (s.updDom p.dom fun m => { m with lateDelay := m.lateDelay.filter fun x => x ≠ p.seq }).latePtp p.dom
        else s)

/-- ANNOUNCE_RECEIPT_TIMEOUT (R282): the algorithm runs without the master. -/
def execAnnounceReceiptTimeout (dom : Nat) (s : State) : Outcome :=
  .next (s.onDomain dom fun d s =>
    let m := s.tk.dom dom
    let s := s.advanceNow (m.annAt + u8 d 8 * dmAnnounce d)
    let s := s.updDom dom fun m => { m with
      foreign := m.foreign.filter fun f => !m.master.any fun g => sameMaster f.ann g
      lostAnn := (m.master.map fun g => (g.identity, g.lane, s.now)).or m.lostAnn
      master := none, annAt := s.now, twoStep := [], delayReq := [] }
    (s.loseSource (domSrc dom)).runBmc dom d true)

/-- SYNC_RECEIPT_TIMEOUT (R282): the Follow_Up of a Sync that waited comes too late. -/
def execSyncReceiptTimeout (dom : Nat) (s : State) : Outcome :=
  .next (s.onDomain dom fun d s =>
    let st := (s.tk.servo (domSrc dom)).st
    if st ≠ .locked ∧ st ≠ .acquiring then s
    else
      let s := s.advanceNow ((s.tk.dom dom).syncAt + 4 * dmSync d)
      (s.updDom dom fun m => { m with
        lostSync := some s.now, syncAt := s.now, twoStep := [], lateFollow := m.lateFollow ++ m.twoStep.map Prod.fst }).loseSource (domSrc dom))

/-- FOLLOW_UP_TIMEOUT: one Sync interval after the oldest Sync that waits, which is not used (R282). -/
def execFollowUpTimeout (dom : Nat) (s : State) : Outcome :=
  .next (s.onDomain dom fun d s => match (s.tk.dom dom).twoStep with
    | [] => s
    | (seq, _, since) :: rest =>
      (s.advanceNow (since + dmSync d)).updDom dom fun m => { m with twoStep := rest, lateFollow := m.lateFollow ++ [seq] })

/-- DELAY_RESP_TIMEOUT: one Delay_Req interval after the oldest Delay_Req that waits, and at most 1 s; the path delay keeps its
last value (R282). -/
def execDelayRespTimeout (dom : Nat) (s : State) : Outcome :=
  .next (s.onDomain dom fun d s => match (s.tk.dom dom).delayReq with
    | [] => s
    | (seq, _, since) :: rest =>
      (s.advanceNow (since + min (dmDelay d) (secT 1))).updDom dom fun m => { m with
        delayReq := rest, lateDelay := m.lateDelay ++ [seq] })

/-- The usable ports of a domain in the role master. -/
def State.masterPorts (s : State) (dom : Nat) (d : Bytes) : List Nat :=
  (s.cfg.domainPorts dom).filter fun l => !s.portFaulty l && s.portRole dom l d = .master

/-- PTP_SYNC_INTERVAL: every master port of a domain sends Sync with the domain's time at its egress, and Follow_Up where its
record selects two-step (R271, R272, R274, R277). -/
def execPtpSyncInterval (dom : Nat) (s : State) : Outcome :=
  .next (s.onDomain dom fun d s =>
    let m := s.tk.dom dom
    let two := bit (u8 d 12) 0
    let ports := s.masterPorts dom d
    let s := ports.foldl (fun s l =>
      let t := leBytes 16 (s.egress l (s.laneFree l (s.eventBytes l)) + m.servo.offset).toNat
      let s := s.ptpPacket l d true "ptp sync" none (leBytes 2 m.syncSeq ++ leBytes 1 (flag two 0) ++ (if two then zeros 16 else t))
      if two then s.ptpPacket l d false "ptp follow-up" none (leBytes 2 m.syncSeq ++ t) else s) s
    if ports.isEmpty then s else s.updDom dom fun m => { m with syncSeq := (m.syncSeq + 1) % 65536 })

/-- The masterLockingStatus that a master announces (R276). -/
def State.lockingStatus (s : State) : Nat :=
  match (s.tk.servo s.tk.source).st with
  | .locked => 3
  | .acquiring => 2
  | _ => 1

/-- The grandmaster and the steps from it that a domain announces: its own, or that of its master (R272, R274). -/
def State.announced (s : State) (dom : Nat) (d : Bytes) : List Nat :=
  match (s.tk.dom dom).servo.st, (s.tk.dom dom).master with
  | .master, _ => (s.ownRank dom d).take 7
  | _, some b => [b.priority1, b.clockClass, b.accuracy, b.variance, b.priority2, b.identity, b.steps + 1]
  | _, none => (s.ownRank dom d).take 7

/-- PTP_ANNOUNCE_INTERVAL: every master port of a domain sends Announce, with the metadata TLV where the domain is in MASTER
under ST 2059-2 (R274, R276). -/
def execPtpAnnounceInterval (dom : Nat) (s : State) : Outcome :=
  .next (s.onDomain dom fun d s =>
    let m := s.tk.dom dom
    let tlv := if dmSmpte d && m.servo.st = .master then
        leBytes 4 s.cfg.rateN ++ leBytes 4 s.cfg.rateD ++ leBytes 1 s.lockingStatus ++ zeros 11
      else []
    let ports := s.masterPorts dom d
    let body := leBytes 2 m.annSeq ++ leBytes 1 (dmNumber d) ++ (s.announced dom d).flatMap (leBytes 8) ++ tlv
    let s := ports.foldl (fun s l => s.ptpPacket l d false "ptp announce" none body) s
    if ports.isEmpty then s else s.updDom dom fun m => { m with annSeq := (m.annSeq + 1) % 65536 })

/-- DELAY_REQ_INTERVAL: a slave port with a selected master sends Delay_Req, to the group or to the master, and keeps its
egress stamp (R272). -/
def execDelayReqInterval (dom : Nat) (s : State) : Outcome :=
  .next (s.onDomain dom fun d s => match (s.tk.dom dom).master with
    | none => s
    | some b =>
      if s.portFaulty b.lane then s
      else
        let m := s.tk.dom dom
        let dest := if bit (u8 d 12) 1 then some (b.rx.source, b.rx.ip) else none
        let start := s.laneFree b.lane (s.eventBytes b.lane)
        let s := s.ptpPacket b.lane d true "ptp delay-req" dest (leBytes 2 m.delaySeq)
        s.updDom dom fun m => { m with
          delayReq := (m.delayReq.filter fun x => x.1 ≠ m.delaySeq) ++ [(m.delaySeq, start, s.now)]
          lateDelay := m.lateDelay.filter fun x => x ≠ m.delaySeq
          delaySeq := (m.delaySeq + 1) % 65536 })

/-! ## LTC and FSYNC (R286-R288) -/

/-- Frames of a day of timecode, and the count of a codeword's frame, by RATE (R286). -/
def ltcCount (rate : Nat) (c : LtcCode) : Nat × Nat :=
  let sec := 3600 * c.hh + 60 * c.mm + c.ss
  let m := 60 * c.hh + c.mm
  match rate with
  | 0 => (86400 * 24, sec * 24 + c.ff)
  | 1 => (86400 * 25, sec * 25 + c.ff)
  | 2 => (86400 * 30 - 2 * (1440 - 144), 30 * sec + c.ff - 2 * (m - m / 10))
  | _ => (86400 * 30, 30 * sec + c.ff)

/-- The time of a number of timecode frames in 2^-16 ns (R286). -/
def ltcSpan (rate k : Nat) : Nat :=
  match rate with
  | 0 => secT k / 24
  | 1 => secT k / 25
  | 2 => secT (k * 1001) / 30000
  | 3 => secT (k * 1001) / 30000
  | _ => secT k / 30

/-- LTC_CODEWORD (R286, R287). -/
def execLtcCodeword (c : LtcCode) (s : State) : Outcome :=
  match s.cfg.ltcRec with
  | none => .next s
  | some d =>
    let (day, k) := ltcCount (u8 d 1) c
    let x := s.tk.ltc
    let wrap := x.last = some (day - 1) ∧ k = 0
    let broken := (match x.last with
      | none => false
      | some p => ¬(k = p + 1 ∨ wrap) : Bool)
    let days := if wrap then x.days + 1 else x.days
    let s := { s with tk := { s.tk with ltc := { x with last := some k, days, missing := 0 } } }
    let s := if broken then { s with tk := { s.tk with stray := satInc s.tk.stray } }.raise Ev.ltcDiscontinuity 0 0 else s
    if broken && s.showRuns then
      let s := s.loseSource .ltc
      .next { s with tk := s.tk.setServo .ltc { s.tk.servo .ltc with good := 0 } }
    else
      let s := if broken then { s with tk := s.tk.setServo .ltc { s.tk.servo .ltc with known := false } } else s
      let t : Int := ((secT (u48 d 4) + ltcSpan (u8 d 1) (days * day + k) : Nat) : Int) + iAt d 12 4 * 65536
      .next (s.measure .ltc 100 8 false (t - c.stamp))

/-- LTC_CODEWORD_MISSING: the fourth in a row puts LTC into HOLDOVER (R287). -/
def execLtcCodewordMissing (s : State) : Outcome :=
  if s.cfg.ltcRec.isNone then .next s
  else
    let n := s.tk.ltc.missing + 1
    let s := { s with tk := { s.tk with ltc := { s.tk.ltc with missing := n } } }
    .next (if n ≥ 4 then s.loseSource .ltc else s)

/-- The expected instant of FSYNC nearest to a time (R288). -/
def Cfg.fsyncNearest (c : Cfg) (d : Bytes) (t : Int) : Int :=
  let div := max 1 (u16 d 2)
  let off := iAt d 4 4 * 65536
  let n := c.slotAt (t - off).toNat / div * div
  let a := c.instant n + off
  let b := c.instant (n + div) + off
  if t - a ≤ b - t then a else b

/-- FSYNC_EDGE (R288): while the source in force acquires with the show stopped, the counter steps onto the nearest
expected instant; otherwise an edge more than P/4 from it is stray, and not used. -/
def execFsyncEdge (rising : Bool) (s : State) : Outcome :=
  match s.cfg.fsyncRec with
  | none => .next s
  | some d =>
    if rising ≠ (u8 d 1 = 0) then .next s
    else
      let v := s.tk.fsync.servo
      let inForce := s.tk.source = .fsync
      let near := s.cfg.fsyncNearest d s.tk.counter
      let acquire := inForce && !s.showRuns && v.st ≠ .locked
      if !acquire && decide ((near - s.tk.counter).natAbs * 4 > nsT s.cfg.periodNs) then
        .next { s with tk := { s.tk with stray := satInc s.tk.stray } }
      else
        let s := { s with tk := { s.tk with fsync := { s.tk.fsync with missing := 0 } } }
        let s := if acquire && near ≠ s.tk.counter then s.stepBy (near - s.tk.counter) else s
        .next (s.measure .fsync 100 8 false (near - s.tk.counter))

/-- FSYNC_EDGE_MISSING: the fourth puts FSYNC into HOLDOVER (R288). -/
def execFsyncEdgeMissing (s : State) : Outcome :=
  if s.cfg.fsyncRec.isNone then .next s
  else
    let n := s.tk.fsync.missing + 1
    let s := { s with tk := { s.tk with fsync := { s.tk.fsync with missing := n } } }
    .next (if n ≥ 4 then s.loseSource .fsync else s)

/-! ## Changing the source (R268, R283-R285, R303) -/

/-- The candidates of an automatic switch (R283). -/
def State.candidates (s : State) : List Src :=
  let other := match s.tk.source with
    | .domA => [Src.domB]
    | .domB => [Src.domA]
    | _ => []
  (if s.preferred = s.tk.source ∨ s.preferred = .free then [] else [s.preferred]) ++ other.filter fun x => x ≠ s.preferred

/-- The time at which a candidate qualifies (R283, R285). -/
def State.qualifies (s : State) (x : Src) : Option Nat :=
  match (s.tk.servo x).lockedSince, (s.tk.servo s.tk.source).downSince with
  | some a, some b => some (max (max a b) s.tk.autoFrom + msT s.cfg.switchHold)
  | _, _ => none

/-- AUTO_SWITCH: a candidate has qualified for SWITCH_HOLD_MS; of two that qualify together the preferred source is taken
(R283, R284). -/
def execAutoSwitch (candidate : Nat) (s : State) : Outcome :=
  if candidate ≥ 5 then .next s
  else
    let x := Src.ofCode candidate
    if !s.cfg.autoSwitch || !s.candidates.contains x then .next s
    else match s.qualifies x with
      | none => .next s
      | some t =>
        let first := s.candidates.contains s.preferred && (s.qualifies s.preferred).any fun u => u ≤ t
        .next ((s.advanceNow t).changeSource (if first then s.preferred else x))

/-- SOURCE_REVERSION: the preferred source has been LOCKED for REVERT_S (R283, R284). -/
def execSourceReversion (s : State) : Outcome :=
  let x := s.preferred
  if !s.cfg.revert || x = s.tk.source || x = .free then .next s
  else match (s.tk.servo x).lockedSince with
    | none => .next s
    | some a => .next ((s.advanceNow (max a s.tk.autoFrom + secT s.cfg.revertS)).changeSource x)

/-- SLEW_COMPLETE: the difference of a change of source has been removed at 10 ns per second (R284). -/
def execSlewComplete (s : State) : Outcome := .next (s.elapse (ceilDiv s.tk.slew.natAbs 10))

/-- DOMAIN_SELECT (R283, R285, R303). -/
def domainSelectOp : Op where
  code := 0x0903
  cls := .immediate
  layout := fixedLayout [1, 1, 2]
  body := .run fun r s => do
    let d := r.payload
    inRange (u8 d 0 ≤ 4) 0
    let x := Src.ofCode (u8 d 0)
    inRange (s.cfg.sourceOn x) 0
    need (x = .free ∨ (s.tk.servo x).st = .locked ∨ bit (u8 d 1) 0) Status.timeNotReady 0
    let s := { s with tk := { s.tk with selected := some x, autoFrom := s.now } }.changeSource x
    .ok (s, .ok (leBytes 1 s.tk.source.code ++ zeros 3))

/-- SET (R268): the counter is set while the source in force is free-run and the show is stopped, or SET_REFUSED is set. -/
def State.timeSet (s : State) : State :=
  if s.tk.source = .free ∧ !s.showRuns then
    let t := nsT ((s.tk.setLo + s.tk.setHi * 2 ^ 32) * 1000000000 + s.tk.setNs)
    s.stepBy (t - s.tk.counter)
  else { s with tk := { s.tk with refused := true } }

/-- TIME_SET (R268). -/
def execTimeSet (s : State) : Outcome := .next s.timeSet

/-! ## TIME_CONFIG (R273, R289, R290) -/

/-- A field within signed bounds, by profile. -/
def between (lo x hi : Int) : Bool := lo ≤ x && x ≤ hi

/-- A domain record (R273). -/
def domainRecord (off : Nat) (c : Cfg) (d : Bytes) : Chk? Cfg := do
  let p := u8 d 2
  inRange (u8 d 1 ≤ 1) (off + 1)
  inRange (p ≤ 1) (off + 2)
  inRange (dmRole d ≤ 2) (off + 3)
  inRange (dmNumber d ≤ 127) (off + 4)
  inRange (if p = 0 then between (-7) (iAt d 5 1) (-1) else between (-1) (iAt d 5 1) 1) (off + 5)
  inRange (if p = 0 then between (-3) (iAt d 6 1) 1 else between 0 (iAt d 6 1) 4) (off + 6)
  inRange (if p = 0 then between (iAt d 5 1) (iAt d 7 1) (iAt d 5 1 + 5) else between 0 (iAt d 7 1) 5) (off + 7)
  inRange (2 ≤ u8 d 8 ∧ u8 d 8 ≤ 10) (off + 8)
  inRange (10 ≤ u16 d 14 ∧ u16 d 14 ≤ 1000) (off + 14)
  inRange (u8 d 16 ≤ 63) (off + 16)
  inRange (u8 d 17 ≤ 63) (off + 17)
  .ok (c.put .domain (u8 d 1) d)

/-- A record of TIME_CONFIG (R289). -/
def timeRecord (s : State) (off : Nat) (c : Cfg) (d : Bytes) : Chk? Cfg :=
  match u8 d 0 with
  | 0 => do
    inRange (u8 d 1 ≤ 4) (off + 1)
    inRange (u32 d 4 = 0 ∨ (100 ≤ u32 d 4 ∧ u32 d 4 ≤ 60000)) (off + 4)
    inRange (u32 d 8 = 0 ∨ (10 ≤ u32 d 8 ∧ u32 d 8 ≤ 100000)) (off + 8)
    inRange (u32 d 12 = 0 ∨ (1000 ≤ u32 d 12 ∧ u32 d 12 ≤ 1000000000)) (off + 12)
    inRange (u16 d 16 ≤ 3600) (off + 16)
    .ok (c.put .clock 0 d)
  | 1 => domainRecord off c d
  | 2 => do
    if u8 d 1 = 0x10 then .ok () else unitField 16 s.lanes (u8 d 1) (off + 1)
    inRange (u8 d 2 ≤ 3) (off + 2)
    inRange (u32 d 8 ≤ 1000000) (off + 8)
    inRange (u32 d 12 ≤ 1000000) (off + 12)
    let c := if u8 d 2 = 0 then c.del .port (u8 d 1) else c.put .port (u8 d 1) d
    inRange ((c.domainPorts 0).length ≤ 16 ∧ (c.domainPorts 1).length ≤ 16) (off + 2)
    .ok c
  | 3 => do
    inRange (u8 d 1 ≤ 4 ∨ u8 d 1 = 0xFF) (off + 1)
    inRange ((iAt d 12 4).natAbs < 1000000000) (off + 12)
    .ok (c.put .ltc 0 d)
  | 4 => do
    inRange (u8 d 1 ≤ 1 ∨ u8 d 1 = 0xFF) (off + 1)
    inRange (1 ≤ u16 d 2 ∧ u16 d 2 ≤ 240) (off + 2)
    .ok (c.put .fsync 0 d)
  | _ => .error ⟨Status.outOfRange, off⟩

/-- TIME_CONFIG (R289). -/
def timeConfigOp : Op where
  code := 0x0901
  cls := .staged
  layout := countLayout 32
  body := .staged fun r c s =>
    foldIdx (records r.payload 8 32 (u32 r.payload 0)) 0 c fun i c d => timeRecord s (8 + 32 * i) c d

/-- The records of a source: what must be unchanged for it to keep its state at a press (R290). -/
def Cfg.sourceRecs (c : Cfg) (x : Src) : List (Option Bytes) :=
  match x with
  | .domA => (c.get .domain 0) :: ((c.all .port).filter fun e => bit (u8 e.2 2) 0).map fun e => some e.2
  | .domB => (c.get .domain 1) :: ((c.all .port).filter fun e => bit (u8 e.2 2) 1).map fun e => some e.2
  | .ltc => [c.get .ltc 0]
  | .fsync => [c.get .fsync 0]
  | .free => []

/-- A source restarts at a press (R290). -/
def State.restartSource (x : Src) (on : Bool) (s : State) : State :=
  let restarted := decide (s.tk.source = x)
  let s := match x with
    | .domA => s.updDom 0 fun m => { servo := { st := m.servo.st, restarted }, rxLate := m.rxLate, syncs := m.syncs, steps := m.steps, annAt := s.now, syncAt := s.now }
    | .domB => s.updDom 1 fun m => { servo := { st := m.servo.st, restarted }, rxLate := m.rxLate, syncs := m.syncs, steps := m.steps, annAt := s.now, syncAt := s.now }
    | .ltc => { s with tk := { s.tk with ltc := { servo := { st := s.tk.ltc.servo.st, restarted } } } }
    | .fsync => { s with tk := { s.tk with fsync := { servo := { st := s.tk.fsync.servo.st, restarted } } } }
    | .free => s
  s.setSrc x (if on then .listening else .disabled)

/-- The time base at the press of configuration c' over c, c' being in force (R290). A unit that is no longer defined is
disarmed; registers and captures stay (log entry 232). -/
def State.pressTime (c c' : Cfg) (s : State) : State :=
  let s := if c.clockRec = c'.clockRec then s else
    { s with tk := { s.tk with selected := none } }
  let s := [Src.domA, .domB, .ltc, .fsync].foldl (fun s x =>
    if c.sourceRecs x = c'.sourceRecs x then s
    else
      let s := s.restartSource x (c'.sourceOn x)
      let s := if s.tk.source = x then { s with tk := { s.tk with steer := 0 } } else s
      if c'.sourceOn x then s
      else
        let s := if s.tk.selected = some x then { s with tk := { s.tk with selected := none } } else s
        if s.tk.source = x then s.changeSource .free else s) s
  let units := Tab.mapV s.tk.units fun n (u : Ttu) => if c'.has .trigger n then u else { u with armed := false }
  { s with tk := { s.tk with units } }

/-! ## TIME_STATUS (R304) -/

/-- A 48-byte domain record; `u` stands for what no rule states of a domain without a grandmaster (log entry 3). -/
def State.domainRow (s : State) (n u : Nat) : Bytes :=
  let m := s.tk.dom n
  let st := m.servo.st
  let slave := if st = .acquiring ∨ st = .locked ∨ st = .holdover then m.slavePort else 0xFF
  let ownRec := s.cfg.domainRec n
  let (steps, cls, lock, ident) := match st, m.master, ownRec with
    | .master, _, some d => (0, s.ownClass d, 0xFF, Config.clockIdentity)
    | _, some b, some d => (b.steps + 1, b.clockClass, if dmSmpte d then b.locking.getD 0xFF else 0xFF, b.identity)
    | _, _, _ => (u % 65536, u / 65536 % 256, 0xFF, u)
  leBytes 1 st.code ++ leBytes 1 slave ++ leBytes 2 steps ++ leBytes 1 cls ++ leBytes 1 lock ++ zeros 2 ++ leBytes 8 ident ++
    leInt 8 m.servo.offset ++ leInt 8 m.pathDelay ++ leInt 4 (m.servo.freq - s.tk.freq) ++ leBytes 4 m.rxLate ++
    leBytes 4 m.syncs ++ leBytes 4 m.steps

/-- SLEW_REMAIN in ns (R284). -/
def TimeKeeper.slewNs (t : TimeKeeper) : Int := Int.tdiv t.slew (nano * 65536)

/-- The bytes of TIME_STATUS; the uncertainty of a domain is free (log entry 11). -/
def State.timeStatusBytes (s : State) : Bytes × State :=
  let (u, s') := s.draw
  let head := leBytes 1 s.tk.source.code ++ leBytes 1 (flag s.timeReady 0) ++ leBytes 1 s.tk.ltc.servo.st.code ++
    leBytes 1 s.tk.fsync.servo.st.code ++ leInt 4 s.tk.slewNs ++ leInt 4 s.tk.freq ++ leBytes 4 s.tk.stray
  (head ++ s.domainRow 0 u.toNat ++ s.domainRow 1 u.toNat, s')

/-- TIME_STATUS (R303, R304). -/
def timeStatusOp : Op where
  code := 0x0902
  cls := .immediate
  layout := noPayload
  body := .run fun _ s => .ok (s.timeStatusBytes.2, .ok s.timeStatusBytes.1)

/-! ## Time-trigger units and captures (R291-R294, R306-R310) -/

/-- A record of TRIGGER_DEFINE (R291). -/
def triggerRecord (s : State) (off : Nat) (c : Cfg) (d : Bytes) : Chk? Cfg :=
  match u8 d 0 with
  | 0 => do
    inRange (u8 d 1 ≤ 30) (off + 1)
    inRange (u8 d 2 ≤ 2 ∨ u8 d 2 = 0xFF) (off + 2)
    inRange (u8 d 2 ≠ 0 ∨ u8 d 3 ≤ 7) (off + 3)
    if u8 d 2 = 2 then unitField 16 s.lanes (u16 d 4) (off + 4)
    .ok (if u8 d 2 = 0xFF then c.del .trigger (u8 d 1) else c.put .trigger (u8 d 1) d)
  | 1 => do
    inRange (u8 d 1 ≤ 7) (off + 1)
    inRange (u8 d 2 ≤ 2 ∨ u8 d 2 = 0xFF) (off + 2)
    inRange (u8 d 3 ≤ 1) (off + 3)
    inRange (u32 d 4 ≤ 1000000) (off + 4)
    .ok (if u8 d 2 = 0xFF then c.del .capture (u8 d 1) else c.put .capture (u8 d 1) d)
  | _ => .error ⟨Status.outOfRange, off⟩

/-- TRIGGER_DEFINE (R291). -/
def triggerDefineOp : Op where
  code := 0x0904
  cls := .staged
  layout := countLayout 16
  body := .staged fun r c s =>
    foldIdx (records r.payload 8 16 (u32 r.payload 0)) 0 c fun i c d => triggerRecord s (8 + 16 * i) c d

/-- Unit u. -/
def State.unit (s : State) (u : Nat) : Ttu := Tab.getD s.tk.units u {}

/-- A unit changed. -/
def State.updUnit (u : Nat) (f : Ttu → Ttu) (s : State) : State := { s with tk := { s.tk with units := Tab.upd s.tk.units u {} f } }

/-- START of a unit in 2^-16 ns. -/
def TtuRegs.start (g : TtuRegs) : Nat :=
  nsT ((g.startSecLo + (g.startSecHi % 65536) * 2 ^ 32) * 1000000000 + g.startNs) + g.startSecHi / 65536

/-- The period of a unit in 2^-16 ns. -/
def TtuRegs.period (g : TtuRegs) : Nat := nsT g.periodNs + g.periodFrac

/-- DIVIDER and PHASE of FRAME mode. -/
def TtuRegs.divider (g : TtuRegs) : Nat := max 1 (g.frame % 65536)

/-- PHASE. -/
def TtuRegs.phase (g : TtuRegs) : Nat := g.frame / 65536

/-- The frame of a unit's first FRAME pulse at or after a frame, for a PHASE below DIVIDER (R292). -/
def TtuRegs.frameFrom (g : TtuRegs) (n : Nat) : Nat := n + (g.phase + g.divider - n % g.divider) % g.divider

/-- An armed unit in FRAME mode goes on from frame n at the start of a show: frames that have passed give no pulse. -/
def Ttu.fromFrame (u : Ttu) (n : Nat) : Ttu :=
  if u.armed ∧ u.mode = 2 then { u with next := max u.next (u.latched.frameFrom n) } else u

/-- A unit has a pulse to come while the show runs or not: in FRAME mode only in a running show, and never with a PHASE that
no frame number has (R292). -/
def Ttu.due (u : Ttu) (runs : Bool) : Bool := u.armed && (u.mode ≠ 2 || (runs && decide (u.latched.phase < u.latched.divider)))

/-- The time of a unit's next pulse (R292). -/
def Cfg.pulseTime (c : Cfg) (u : Ttu) : Nat :=
  match u.mode with
  | 1 => u.latched.start + u.next * u.latched.period
  | 2 => (c.instant u.next + signed 32 u.latched.offsetNs * 65536).toNat
  | _ => u.latched.start

/-- A write of CTRL with ARM set (R292, R293, R308). -/
def State.armUnit (n mode : Nat) (s : State) : State :=
  let u := s.unit n
  let g := u.regs
  if mode = 1 ∧ g.widthNs * 65536 ≥ g.period then s.updUnit n fun u => { u with mode, armed := false, status := u.status ||| 4 }
  else
    let t := s.tk.counter
    let first := match mode with
      | 2 => g.frameFrom (s.cfg.frameFrom (t - signed 32 g.offsetNs * 65536).toNat)
      | _ => 0
    let s := s.updUnit n fun u => { u with mode, armed := true, latched := g, next := first }
    if mode = 2 ∨ g.start ≥ t then s
    else
      let k := if mode = 1 ∧ g.period ≠ 0 then ceilDiv (t - g.start) g.period else 1
      let done := mode ≠ 1 ∨ (g.count ≠ 0 ∧ k ≥ g.count) ∨ g.period = 0
      (s.updUnit n fun u => { u with armed := !done, next := k, status := u.status ||| 1 }).raise Ev.triggerMissed n 0

/-- A write of CTRL (R308): a unit that is not defined ignores it. -/
def State.unitCtrl (n v : Nat) (s : State) : State :=
  if n ≥ 31 ∨ !s.cfg.has .trigger n then s
  else if bit v 0 then s.armUnit n (field v 2 1)
  else s.updUnit n fun u => { u with armed := false, mode := field v 2 1 }

/-- TTU_ARM (R293). -/
def execTtuArm (unit mode : Nat) (s : State) : Outcome :=
  if unit ≥ 32 then .next s else .next (s.unitCtrl unit (1 + 2 * (mode % 4)))

/-- TTU_DISARM (R293). -/
def execTtuDisarm (unit : Nat) (s : State) : Outcome :=
  if unit ≥ 32 then .next s else .next (s.unitCtrl unit (2 * (s.unit unit).mode))

/-- After a pulse a unit disarms, or goes on to its next one (R292). -/
def Ttu.afterPulse (u : Ttu) : Ttu :=
  match u.mode with
  | 1 => if u.latched.count ≠ 0 ∧ u.next + 1 ≥ u.latched.count then { u with armed := false } else { u with next := u.next + 1 }
  | 2 => { u with next := u.next + u.latched.divider }
  | _ => { u with armed := false }

/-- The balls TTO0-TTO7, on row AW from column 7 on (R531, R537). -/
abbrev ttoBall (pin : Nat) : Nat := ballIndex 36 (7 + pin)

/-- A ball that has a new owner is not driven before its release (R539). -/
def State.ballHeld (s : State) (ball : Nat) : Bool := s.now < Tab.getD s.gl.freed ball 0

/-- The balls of which more than one configured function can be the owner of an output: TTO0-TTO7, and AV28 and AV30 of DMX
port 31 and I2C bus 3 (R530, R531, R537). -/
def sharedBalls : List Nat := ((List.range 8).map fun pin => ttoBall pin) ++ [ballIndex 35 28, ballIndex 35 30]

/-- The output of a DMX port is on a ball that its old owner has not released (R539). -/
def State.portHeld (s : State) (port : Nat) : Bool := port = 31 && s.ballHeld (ballIndex 35 28)

/-- An armed unit fires (R292): it counts, TRIGGER_FIRED is raised at most once per ms, and the unit disarms or goes on. On
a ball that its old owner has not released the pulse is missed (R539). The launch queue of TARGET 2 is the network's
(R337). -/
def State.fireUnit (n : Nat) (d : Bytes) (s : State) : State :=
  let s := s.advanceTo (s.cfg.pulseTime (s.unit n))
  if u8 d 2 = 0 ∧ s.ballHeld (ttoBall (u8 d 3)) then
    (s.updUnit n fun u => { u.afterPulse with status := u.status ||| 1 }).raise Ev.triggerMissed n 0
  else
    let t := s.tk.counter
    let s := if u8 d 2 = 0 then s.drive 4 (.pulse n (u8 d 3) t (t + nsT (s.unit n).latched.widthNs) (bit (u8 d 6) 0)) else s
    let s := s.updUnit n fun u => { u.afterPulse with fired := satInc u.fired, high := s.now + nsT u.latched.widthNs }
    let quiet := match (s.unit n).evtAt with
      | some t => decide (s.now < t + msT 1)
      | none => false
    if u8 d 2 ≠ 1 || quiet then s
    else (s.updUnit n fun u => { u with evtAt := some s.now }).raise Ev.triggerFired n 0

/-- A selected edge of an input (R291 EDGE). -/
def edgeSelected (d : Bytes) (rising : Bool) : Bool := u8 d 2 = 2 || (u8 d 2 = 0) = rising

/-- The capture of an edge: to 0.25 ns, less the pin delay (R294). -/
def captureTime (d : Bytes) (counter : Nat) : Nat := (counter / 16384 * 16384 - psT (u32 d 4)).toNat / 16384 * 16384

/-- The three items of a capture (R309). -/
def captureItems (rising : Bool) (t : Nat) : List (Nat × Bool) :=
  let sec := t / 65536 / 1000000000
  [(flag rising 31 + t / 65536 % 1000000000, false), (sec % 2 ^ 32, false), (t % 65536 * 65536 + sec / 2 ^ 32 % 65536, true)]

/-- An edge of a host input (R294): a glitch, a capture, or a drop with 64 captures in the FIFO. -/
def State.captureEdge (i : Nat) (d : Bytes) (rising : Bool) (s : State) : State :=
  let x := s.input i
  if !x.enable || !edgeSelected d rising then s
  else if x.last.any fun t => s.now < t + nsT 40 then s.updInput i fun x => { x with glitch := satInc x.glitch }
  else (s.updInput i fun x => { x with last := some s.now }).arrive (.input i) 64 (captureItems rising (captureTime d s.tk.counter))

/-- TTI_RINSE (R294, R310): a capture that the rinse meets part-way is discarded whole, under R28. -/
def State.ttiRinse (i : Nat) (s : State) : State := s.updInput i fun x => { x with fifo := x.fifo.discard }

/-- TTI_RINSE (R294). -/
def execTtiRinse (i : Nat) (s : State) : Outcome := if i ≥ 8 then .next s else .next (s.ttiRinse i)

/-! ## The TIME block (R306, R307) -/

/-- TIME.STATE (R307). -/
def State.timeState (s : State) : Nat :=
  s.tk.source.code + flag (s.tk.slewNs ≠ 0) 3 + s.tk.domA.servo.st.code * 2 ^ 8 + s.tk.domB.servo.st.code * 2 ^ 12 +
    s.tk.ltc.servo.st.code * 2 ^ 16 + s.tk.fsync.servo.st.code * 2 ^ 20 + flag s.timeReady 31

/-- A register of a time-trigger unit (R306). -/
def Ttu.read (u : Ttu) (off : Nat) : Nat :=
  match off with
  | 0x00 => flag u.armed 0 + 2 * u.mode
  | 0x04 => u.regs.startNs
  | 0x08 => u.regs.startSecLo
  | 0x0C => u.regs.startSecHi
  | 0x10 => u.regs.periodNs
  | 0x14 => u.regs.periodFrac
  | 0x18 => u.regs.widthNs
  | 0x1C => u.regs.frame
  | 0x20 => u.regs.offsetNs
  | 0x24 => u.regs.count
  | 0x28 => u.fired
  | 0x2C => u.status
  | _ => 0

/-- A register of the TIME block without the effects of its read (R306); the windows of the inputs are FIFO windows. -/
def State.timeRead (s : State) (off : Nat) : Nat :=
  let t := s.tk
  if off < 0x1000 then
    match off with
    | 0x00 => t.counter / 65536 % 1000000000
    | 0x04 => t.latch % 65536
    | 0x08 => t.latch / 65536 / 1000000000 % 2 ^ 32
    | 0x0C => t.latch / 65536 / 1000000000 / 2 ^ 32 % 65536
    | 0x10 => s.timeState
    | 0x14 => unsigned 32 t.slewNs
    | 0x18 => unsigned 32 t.freq
    | 0x20 => unsigned 64 t.domA.servo.offset % 2 ^ 32
    | 0x24 => t.offAHi
    | 0x28 => unsigned 64 t.domB.servo.offset % 2 ^ 32
    | 0x2C => t.offBHi
    | 0x30 => t.rxLate
    | 0x34 => t.setNs
    | 0x38 => t.setLo
    | 0x3C => t.setHi
    | 0x40 => flag t.refused 1
    | _ => 0
  else if off < 0x2000 then
    let n := (off - 0x1000) / 0x40
    if n ≥ 32 then 0 else (s.unit n).read ((off - 0x1000) % 0x40)
  else
    let i := (off - 0x2000) / 0x20
    if i ≥ 8 then 0
    else
      let x := s.input i
      match (off - 0x2000) % 0x20 with
      | 0x08 => flag x.enable 0 + flag x.fifo.rinse 1
      | 0x0C => x.fifo.drops
      | 0x10 => x.fifo.rinsed
      | 0x14 => x.glitch
      | _ => 0

/-- What a read latches (R267, R306). -/
def State.timeLatch (off : Nat) (s : State) : State :=
  match off with
  | 0x00 => { s with tk := { s.tk with latch := s.tk.counter } }
  | 0x20 => { s with tk := { s.tk with offAHi := unsigned 64 s.tk.domA.servo.offset / 2 ^ 32 } }
  | 0x28 => { s with tk := { s.tk with offBHi := unsigned 64 s.tk.domB.servo.offset / 2 ^ 32 } }
  | _ => s

/-- A write of a timing register of a unit (R306). A value outside the range of its field is held and used as written (log entry
271). -/
def Ttu.write (u : Ttu) (off v : Nat) : Ttu :=
  match off with
  | 0x04 => { u with regs := { u.regs with startNs := v % 2 ^ 30 } }
  | 0x08 => { u with regs := { u.regs with startSecLo := v } }
  | 0x0C => { u with regs := { u.regs with startSecHi := v } }
  | 0x10 => { u with regs := { u.regs with periodNs := v } }
  | 0x14 => { u with regs := { u.regs with periodFrac := v % 65536 } }
  | 0x18 => { u with regs := { u.regs with widthNs := v } }
  | 0x1C => { u with regs := { u.regs with frame := v } }
  | 0x20 => { u with regs := { u.regs with offsetNs := v } }
  | 0x24 => { u with regs := { u.regs with count := v } }
  | 0x2C => { u with status := u.status &&& (7 - v % 8) }
  | _ => u

/-- A write to the TIME block (R306). -/
def State.timeWrite (off v : Nat) (s : State) : State :=
  if off < 0x1000 then
    match off with
    | 0x34 => { s with tk := { s.tk with setNs := v % 2 ^ 30 } }
    | 0x38 => { s with tk := { s.tk with setLo := v } }
    | 0x3C => { s with tk := { s.tk with setHi := v % 65536 } }
    | 0x40 =>
      let s := if bit v 1 then { s with tk := { s.tk with refused := false } } else s
      if bit v 0 then s.timeSet else s
    | _ => s
  else if off < 0x2000 then
    let n := (off - 0x1000) / 0x40
    if n ≥ 32 then s
    else if (off - 0x1000) % 0x40 = 0 then s.unitCtrl n v
    else s.updUnit n fun u => u.write ((off - 0x1000) % 0x40) v
  else
    let i := (off - 0x2000) / 0x20
    if i ≥ 8 then s
    else if (off - 0x2000) % 0x20 = 0x08 then
      let s := s.updInput i fun x => { x with enable := bit v 0 }
      if bit v 1 then s.ttiRinse i else s
    else s

/-! ## Meanings -/

def execTimeConfig (r : Req) (s : State) : Outcome := hostCommand timeConfigOp r s
def execTimeStatus (r : Req) (s : State) : Outcome := hostCommand timeStatusOp r s
def execDomainSelect (r : Req) (s : State) : Outcome := hostCommand domainSelectOp r s
def execTriggerDefine (r : Req) (s : State) : Outcome := hostCommand triggerDefineOp r s

end Sys2Proof.Machine
end

