-- ==== Sys2Proof/Machine/Network.lean ====
section
/-! DEFINITION. Network lanes, flows, sACN and the Ixnik transport (R311-R339, R386): the staged definitions, FLOW_ENABLE,
FLOW_RINSE, FLOW_STATS, link, ARP, ICMP, IGMP, sACN and Ixnik receive, and the launch queues. -/

namespace Sys2Proof.Machine

/-- The claim number in force (R384, R385): raised for the first frames that a member launches on a flow after it gains
the duty. Without a pair record the priority is 0x80 and the unit id 0. -/
def State.claim (s : State) (raised : Bool) : Nat :=
  match s.cfg.get .pair 0 with
  | none => 0x80 * 2 ^ 24 + s.nv.epoch % 65536 * 256
  | some d =>
    let act := if u8 d 4 = 0 then 0xC0 else u8 d 4
    let pri := if s.pair.st = .unpaired ∨ s.pairActive then (if raised then act + 1 else act) else u8 d 5
    pri * 2 ^ 24 + s.nv.epoch % 65536 * 256 + u8 d 2

/-! ## Staged definitions -/

/-- LANE_DEFINE (R312). -/
def laneDefineOp : Op where
  code := 0x0801
  cls := .staged
  layout := fixedLayout [1, 1, 1, 1, 2, 2, 6, 1, 1, 4, 4, 8]
  body := .staged fun r c s => do
    let d := r.payload
    unitField 16 s.lanes (u8 d 0) 0
    inRange (laMode d ≤ 6) 1
    inRange (laMode d ≠ 2 ∨ laSpeed d ≤ 2) 2
    inRange (1500 ≤ laMtu d ∧ laMtu d ≤ 9000) 4
    inRange (laVlan d ≤ 4094) 6
    inRange (8 ≤ laPrefix d ∧ laPrefix d ≤ 30) 14
    .ok (c.put .lane (u8 d 0) d)

/-- The number under which the pixel map of a destination stands: a flow, or a scan port (R231). -/
def pixNum (isPort : Bool) (n : Nat) : Nat := if isPort then 0x10000 + n else n

/-- The protocol records and the pixel map of a flow are removed (R316). -/
def Cfg.dropProtocol (c : Cfg) (flow : Nat) : Cfg :=
  (((c.del .sacnFlow flow).del .ixTx flow).del .pixmap (pixNum false flow)).delIf .pixseg fun n _ => n / 2 ^ 24 = pixNum false flow

/-- FLOW_DEFINE (R316); a second flow of a scan or DMX port is refused (R344, R369). -/
def flowDefineOp : Op where
  code := 0x0802
  cls := .staged
  layout := fixedLayout [2, 1, 1, 1, 1, 1, 1, 4, 6, 2, 4, 4, 4]
  body := .staged fun r c s => do
    let d := r.payload
    inRange (u16 d 0 ≤ 4095) 0
    inRange (flKind d ≤ 4) 2
    inRange (u8 d 3 ≤ 1) 3
    if flNetwork d then
      unitField 16 s.lanes (flLane d) 4
      need (c.has .lane (flLane d)) Status.badReference 4
    inRange (u8 d 5 ≤ 63) 5
    inRange (flTransit d ≤ 10000000) 20
    inRange ((flKind d ≠ 1 ∧ flKind d ≠ 3) ∨ flEmit d ≤ 100000000) 24
    if flKind d = 3 then
      unitField 16 s.lanes (flUnit d) 28
      need (c.has .scan (flUnit d)) Status.badReference 28
      inRange (!((c.all .flow).any fun e => e.1 ≠ u16 d 0 && flKind e.2 = 3 && flUnit e.2 = flUnit d)) 28
    if flKind d = 4 then
      unitField 32 s.dmxPorts (flUnit d) 28
      need (c.has .dmx (flUnit d)) Status.badReference 28
      inRange (!((c.all .flow).any fun e => e.1 ≠ u16 d 0 && flKind e.2 = 4 && flUnit e.2 = flUnit d)) 28
    let n := u16 d 0
    let c := match c.get .flow n with
      | some old => if flKind old = flKind d then c else c.dropProtocol n
      | none => c
    let c := c.put .flow n d
    .ok { c with deleted := c.deleted.filter (· ≠ n) }

/-- FLOW_DELETE (R247, R316). -/
def flowDeleteOp : Op where
  code := 0x0803
  cls := .staged
  layout := fixedLayout [2, 2]
  body := .staged fun r c _ => do
    let n := u16 r.payload 0
    need (c.has .flow n) Status.badReference 0
    let c := (((c.dropProtocol n).del .flow n).del .level n).del .peg n
    .ok { c with deleted := n :: c.deleted }

/-- Two lists of universes share one. -/
def shareUniverse (a b : Bytes) : Bool := saFirst a < saFirst b + saCount b && saFirst b < saFirst a + saCount a

/-- A flow record of SACN_OUT_DEFINE at a payload offset (R325). -/
def sacnFlowRecord (s : State) (off : Nat) (c : Cfg) (d : Bytes) : Chk? Cfg := do
  let n := u16 d 2
  need ((c.get .flow n).any fun f => flKind f = 0) Status.badReference (off + 2)
  inRange (1 ≤ saFirst d ∧ saFirst d ≤ 63999) (off + 4)
  inRange (1 ≤ saCount d ∧ saCount d ≤ 64 ∧ saFirst d + saCount d ≤ 64000) (off + 6)
  inRange (saPriority d ≤ 200) (off + 7)
  inRange (u16 d 8 ≤ 512) (off + 8)
  inRange (saSync d ≤ 63999) (off + 10)
  let others := (c.all .sacnFlow).filter fun e => e.1 ≠ n
  inRange (!others.any fun e => shareUniverse e.2 d) (off + 4)
  inRange (saSync d = 0 ∨ !others.any fun e => saSync e.2 = saSync d) (off + 10)
  let total := (others.map fun e => saCount e.2).foldl (· + ·) 0 + saCount d
  inRange (total ≤ (if s.fuses.te8220 then 8192 else 16384)) off
  .ok (c.put .sacnFlow n d)

/-- SACN_OUT_DEFINE (R325). -/
def sacnOutDefineOp : Op where
  code := 0x0804
  cls := .staged
  layout := countLayout 96
  body := .staged fun r c s =>
    foldIdx (records r.payload 8 96 (u32 r.payload 0)) 0 c fun i c d =>
      let off := 8 + 96 * i
      match u8 d 0 with
      | 0 => .ok (c.put .sacnSource 0 d)
      | 1 => sacnFlowRecord s off c d
      | _ => .error ⟨Status.outOfRange, off⟩

/-- The E1.31 multicast address of a universe or synchronization address (R324, R326). -/
def sacnGroup (u : Nat) : Nat := 239 * 2 ^ 24 + 255 * 2 ^ 16 + u % 65536

/-- The multicast groups that a lane joins for received universes, Ixnik receive records and video streams, each with the
source that a stream names (R226, R314). -/
def Cfg.laneGroups (c : Cfg) (lane : Nat) : List (Nat × Nat) :=
  (((c.all .sacnRx).filter fun e => u8 e.2 2 = lane).map fun e => (sacnGroup e.1, 0)) ++
  (((c.all .ixRx).filter fun e => ixLane e.2 = lane && ixGroup e.2 ≠ 0).map fun e => (ixGroup e.2, 0)).eraseDups ++
  (((c.all .video).filter fun e => u8 e.2 1 = lane && u32 e.2 4 / 2 ^ 28 = 14).map fun e => (u32 e.2 4, u32 e.2 8)).eraseDups

/-- The receive universes of a configuration: those of SACN_RX_DEFINE, and the sentinel universe of the pair (R328, R383). -/
def Cfg.rxUniverses (c : Cfg) : Nat :=
  let sentinel := ((c.get .pair 0).map fun d => u16 d 12).getD 0
  (c.all .sacnRx).length + if sentinel = 0 ∨ c.has .sacnRx sentinel then 0 else 1

/-- SACN_RX_DEFINE (R328). -/
def sacnRxDefineOp : Op where
  code := 0x0805
  cls := .staged
  layout := countLayout 8
  body := .staged fun r c s =>
    foldIdx (records r.payload 8 8 (u32 r.payload 0)) 0 c fun i c d => do
      let off := 8 + 8 * i
      inRange (1 ≤ u16 d 0 ∧ u16 d 0 ≤ 63999) off
      unitField 16 s.lanes (u8 d 2) (off + 2)
      need (c.has .lane (u8 d 2)) Status.badReference (off + 2)
      let c := c.put .sacnRx (u16 d 0) d
      inRange (c.rxUniverses ≤ 1024) off
      inRange ((c.laneGroups (u8 d 2)).length ≤ 1024) off
      .ok c

/-- The greatest PER_PACKET on a lane (R333). -/
def maxPerPacket (lane : Bytes) (format : Nat) : Nat := (laMtu lane - 60) / ixSize format

/-- One record of IXNIK_DEFINE at a payload offset (R333). -/
def ixnikRecord (s : State) (off : Nat) (c : Cfg) (d : Bytes) : Chk? Cfg :=
  match u8 d 0 with
  | 0 => do
    inRange (ixFormat d = 0x01 ∨ ixFormat d = 0x10) (off + 1)
    match c.get .flow (ixFlow d) with
    | none => .error ⟨Status.badReference, off + 2⟩
    | some f =>
      need (flKind f = 1 ∨ flKind f = 2) Status.badReference (off + 2)
      inRange ((flKind f = 1) = (ixFormat d = 0x01)) (off + 1)
      inRange (1 ≤ ixPerPacket d) (off + 6)
      match c.get .lane (flLane f) with
      | some l => inRange (ixPerPacket d ≤ maxPerPacket l (ixFormat d)) (off + 6)
      | none => .ok ()
      inRange (1 ≤ ixTotal d ∧ (ixFormat d = 0x01 ∨ ixTotal d ≤ 65535)) (off + 8)
      let others := (c.all .ixTx).filter fun e => e.1 ≠ ixFlow d && ixFormat e.2 = 0x01
      let pixels := (others.map fun e => ixTotal e.2).foldl (· + ·) (ixTotal d)
      inRange (ixFormat d ≠ 0x01 ∨ pixels ≤ s.networkPixels) (off + 8)
      inRange (ixPace d ≤ 25000) (off + 12)
      .ok (c.put .ixTx (ixFlow d) d)
  | 1 => do
    inRange (ixFormat d = 0x01 ∨ ixFormat d = 0x10) (off + 1)
    inRange (ixFlow d ≤ 4095) (off + 2)
    unitField 16 s.lanes (ixLane d) (off + 4)
    inRange (1 ≤ ixTotal d ∧ (ixFormat d = 0x01 ∨ ixTotal d ≤ 65535)) (off + 8)
    if ixFormat d = 0x01 then
      unitField 16 s.lanes (ixTarget d) (off + 20)
      match c.get .scan (ixTarget d) with
      | some p => inRange (ixFirst d + ixTotal d ≤ scPixels p) (off + 24)
      | none => .ok ()
    else
      unitField 32 s.dmxPorts (ixTarget d) (off + 20)
      inRange (ixTarget d + ceilDiv (ixTotal d) 512 ≤ s.dmxPorts) (off + 20)
    let c := c.put .ixRx (ixRxNum d) d
    inRange ((c.all .ixRx).length ≤ 256) off
    inRange ((c.laneGroups (ixLane d)).length ≤ 1024) off
    .ok c
  | _ => .error ⟨Status.outOfRange, off⟩

/-- IXNIK_DEFINE (R333). -/
def ixnikDefineOp : Op where
  code := 0x0806
  cls := .staged
  layout := countLayout 32
  body := .staged fun r c s =>
    foldIdx (records r.payload 8 32 (u32 r.payload 0)) 0 c fun i c d => ixnikRecord s (8 + 32 * i) c d

/-- The on-wire sizes of the packets of one frame of a flow, and its pace (R318, R326, R333). -/
def Cfg.flowPackets (c : Cfg) (n : Nat) (f : Bytes) : List Nat × Nat :=
  match c.get .lane (flLane f) with
  | none => ([], 0)
  | some l =>
    let tagged := decide (laVlan l ≠ 0)
    match flKind f with
    | 0 => match c.get .sacnFlow n with
      | none => ([], 0)
      | some d =>
        (List.replicate (saCount d) (wireBytes tagged (126 + saSlots d)) ++
          (if saSync d = 0 then [] else [wireBytes tagged 49]), 0)
    | _ => match c.get .ixTx n with
      | none => ([], 0)
      | some d =>
        let packets := ceilDiv (ixTotal d) (max 1 (ixPerPacket d))
        let last := ixTotal d - (packets - 1) * ixPerPacket d
        (List.replicate (packets - 1) (wireBytes tagged (32 + ixPerPacket d * ixSize (ixFormat d))) ++
          [wireBytes tagged (32 + last * ixSize (ixFormat d))], ixPace d)

/-- The wire time of one frame of a flow, to the end of its last packet, in units of 1/mbps ns, with the rate (R318). -/
def Cfg.flowWire (c : Cfg) (n : Nat) (f : Bytes) : Nat × Nat :=
  let rate := ((c.get .lane (flLane f)).map laRate).getD 0
  (wireSpan rate (c.flowPackets n f).2 (c.flowPackets n f).1, rate)

/-! ## FLOW_ENABLE, FLOW_RINSE, FLOW_STATS -/

/-- FLOW_ENABLE (R320): the switch holds from the frame in which it takes effect. -/
def flowEnableOp : Op where
  code := 0x0809
  cls := .timed
  af := true
  layout := fixedLayout [2, 2]
  body := .timed
    (fun r s => need (s.cfg.has .flow (u16 r.payload 0)) Status.badReference 0)
    (fun r n s => s.updFlow (u16 r.payload 0) fun f =>
      { f with switches := f.switches ++ [{ frame := n, enable := (u16 r.payload 2).testBit 0, terminate := (u16 r.payload 2).testBit 1 }] })

/-- The last switch of a flow that holds for frame n, if a command gave it: a changed record ends the switches before its
press frame (R316, R320). -/
def Flow.switchAt (x : Flow) (n : Nat) : Option Switch :=
  ((x.switches.filter fun w => decide (w.frame ≤ n)).getLast?).filter fun w => !w.reset

/-- Whether a flow is muted for frame n: by its last switch, or by the MUTED flag of its definition (R316, R320). -/
def State.mutedAt (s : State) (n frame : Nat) : Bool :=
  match (s.flowOf n).switchAt frame with
  | some w => !w.enable
  | none => match (s.cfgAt frame).get .flow n with
    | some d => flMuted d
    | none => false

/-- The discard point of a flow's rinse (R321): every waiting frame is discarded and will be issued under the late
policy as RINSED. -/
def State.rinseFlow (n : Nat) (s : State) : State :=
  let s := s.updFlow n fun f => { f with ready := [], dropped := f.dropped ++ f.ready.map Encoded.frame, rinsing := false }
  s.completeAny (.rinse n) {}

/-- FLOW_RINSE (R321): while a frame of the flow is being launched the discard point is at its end, and the reply
waits. -/
def flowRinseOp : Op where
  code := 0x080A
  cls := .immediate
  layout := fixedLayout [2, 2]
  body := .run fun r s => do
    let n := u16 r.payload 0
    need (s.cfg.has .flow n) Status.badReference 0
    if s.tk.counter < (s.flowOf n).busyUntil then
      .ok (s.updFlow n fun f => { f with rinsing := true }, .wait (.rinse n))
    else .ok (s.rinseFlow n, .ok)

/-- STATE of FLOW_STATS: 3 lane down, 2 muted, 1 enabled (R323). -/
def State.flowState (s : State) (n : Nat) (d : Bytes) : Nat :=
  if flNetwork d && !(s.laneOf (flLane d)).link then 3
  else if s.mutedAt n s.frameNow then 2 else 1

/-- The 32-byte record of a flow (R323). -/
def State.flowRow (s : State) (n : Nat) (d : Bytes) : Bytes :=
  let f := s.flowOf n
  leBytes 2 n ++ leBytes 1 (s.flowState n d) ++ zeros 1 ++ leBytes 4 f.launched ++ leBytes 4 f.late ++ leBytes 4 f.repeats ++
  leBytes 4 f.slips ++ leBytes 4 f.rinsedN ++ leBytes 4 f.withheldN ++ leBytes 4 f.unsent

/-- The received universes that receive maps name (R139), in rising order. -/
def Cfg.mappedUniverses (c : Cfg) : List Nat :=
  ((c.all .sacnRx).map Prod.fst).filter fun u => (c.all .rxMap).any fun e => u16 e.2 4 = u

/-- The record of a mapped universe: its number, STATE 0, and its dropped packets at offset 28 (R329; log entry 228). -/
def State.universeRow (s : State) (u : Nat) : Bytes := leBytes 2 u ++ zeros 26 ++ leBytes 4 (Tab.getD s.rx u {}).dropped

/-- FLOW_STATS (R323, R329): the flows of the range, then the mapped universes of the range. -/
def flowStatsOp : Op where
  code := 0x080B
  cls := .immediate
  layout := fixedLayout [2, 2]
  body := .run fun r s => do
    let first := u16 r.payload 0
    let count := u16 r.payload 2
    inRange (1 ≤ count ∧ count ≤ 4096) 2
    let here := fun (n : Nat) => decide (first ≤ n) && decide (n < first + count)
    .ok (s, .ok ((((s.cfg.all .flow).filter fun e => here e.1).flatMap fun e => s.flowRow e.1 e.2) ++
      (s.cfg.mappedUniverses.filter here).flatMap s.universeRow))

/-! ## Links, ARP, ICMP, IGMP (R314-R317) -/

/-- LINK_DOWN of a lane. Its one reason, SPEED, is coded 0 (R315, R491); a link that is lost has none, and VALUE is 0 then too
(log entry 258). -/
def State.raiseDown (lane : Nat) (s : State) : State := s.raise Ev.linkDown lane 0

/-- A link goes down: the transition counts, and what the lane had not sent yet is discarded (R315, R338). -/
def State.dropLink (lane : Nat) (s : State) : State :=
  let t := s.tk.counter
  let x := s.laneOf lane
  let s := if max x.busyUntil x.otherUntil > t then s.emit (.laneCut lane t) else s
  (s.updLane lane fun l => { l with
    link := false, linkDowns := satInc l.linkDowns
    busyUntil := min l.busyUntil t, queueUntil := min l.queueUntil t, otherUntil := min l.otherUntil t }).raiseDown lane

/-- LANE_LINK_UP (R315): a MODE 2 link of another speed is held down with the reason SPEED; the pair link measures its
delay (R383); PTP ports on the lane follow its speed (R275). -/
def execLaneLinkUp (lane speed align : Nat) (s : State) : Outcome :=
  if lane ≥ s.lanes then .next s
  else if (s.cfg.get .lane lane).any fun d => laMode d = 2 && laSpeed d ≠ speed then
    let up := (s.laneOf lane).link
    let s := s.updLane lane fun l => { l with speed }
    .next (if up then (s.dropLink lane).ptpPorts else s.raiseDown lane)
  else
    let s := (s.updLane lane fun l => { l with link := true, speed, align }).raise Ev.linkUp lane 0
    let s := s.ptpPorts
    .next (if s.pairLane s.cfg = some lane then s.emit (.pairLink "probe" [s.tk.counter] []) else s)

/-- LANE_LINK_DOWN (R315, R338). -/
def execLaneLinkDown (lane : Nat) (s : State) : Outcome :=
  .next (if lane ≥ s.lanes ∨ !(s.laneOf lane).link then s else (s.dropLink lane).ptpPorts)

/-- A lane has a flow with a unicast destination that it reaches through an address, which 0 is not (R317). -/
def State.needsArp (s : State) (lane : Nat) (l : Bytes) (ip : Nat) : Bool :=
  ip ≠ 0 && (s.cfg.all .flow).any fun e => flNetwork e.2 && flLane e.2 = lane && isUnicast (flIp e.2) && nextHop l (flIp e.2) = ip

/-- ARP_PACKET_RX (R314, R317): a request for the lane's address is answered, and the sender's mapping is learnt where
the lane has or needs it. -/
def execArpPacketRx (rx : LaneFrame) (request : Bool) (ip : Nat) (mac : Bytes) (target : Nat) (s : State) : Outcome :=
  .next (s.receive rx.lane rx.frame fun s =>
    let l := (s.cfg.get .lane rx.lane).getD []
    let s := if s.needsArp rx.lane l ip ∨ Tab.has (s.laneOf rx.lane).arp ip then
        s.updLane rx.lane fun x => { x with arp := Tab.put x.arp ip { mac := padTo 6 mac } }
      else s
    if request && target = s.laneIp s.cfg rx.lane && target ≠ 0 then
      s.laneSend rx.lane "arp reply" mac 0 0 none (arpBody 2 (s.laneMac s.cfg rx.lane) target mac ip)
    else s)

/-- ARP_REFRESH: an entry is refreshed every 60 s, and goes after three failures in a row (R317). -/
def execArpRefresh (lane ip : Nat) (answered : Bool) (s : State) : Outcome :=
  match Tab.find (s.laneOf lane).arp ip with
  | none => .next s
  | some e =>
    .next ((s.arpRequest lane ip).updLane lane fun x =>
      if answered then { x with arp := Tab.put x.arp ip { e with fails := 0 } }
      else if e.fails + 1 ≥ 3 then { x with arp := Tab.del x.arp ip }
      else { x with arp := Tab.put x.arp ip { e with fails := e.fails + 1 } })

/-- ICMP_ECHO_RX (R314): with NO_ICMP the request is dropped, and RX_DROP counts it (R338). -/
def execIcmpEchoRx (rx : LaneFrame) (src : Nat) (body : Bytes) (s : State) : Outcome :=
  .next (s.receive rx.lane rx.frame fun s =>
    if (s.cfg.get .lane rx.lane).any fun l => laNoIcmp l then s.updLane rx.lane fun l => { l with rxDrop := satInc l.rxDrop }
    else s.laneSend rx.lane "echo reply" rx.frame.source 0 src none body)

/-- IGMP_QUERY_RX: membership reports for the groups joined; group 0 asks for all (R314). -/
def execIgmpQueryRx (rx : LaneFrame) (group : Nat) (s : State) : Outcome :=
  .next (s.receive rx.lane rx.frame fun s =>
    ((s.cfg.laneGroups rx.lane).filter fun g => group = 0 || g.1 = group).foldl (fun s g => s.igmpReport rx.lane g) s)

/-! ## sACN receive (R328-R331) -/

/-- Received universe u. -/
def State.rxOf (s : State) (u : Nat) : Rx := Tab.getD s.rx u {}

/-- The current source among the sources of a universe (R330): the first of highest priority among those with complete
data. -/
def currentSource (l : List RxSource) : Option RxSource :=
  let able := l.filter fun x => x.complete.isSome
  let top := (able.map RxSource.priority).foldl max 0
  able.find? fun x => x.priority = top

/-- The current source of a universe after its sources changed, with SACN_LOST or SACN_RESTORED (R330). -/
def State.settleRx (u : Nat) (x : Rx) (s : State) : State :=
  let cur := (currentSource x.sources).map RxSource.cid
  let s := { s with rx := Tab.put s.rx u { x with current := cur, had := x.had || cur.isSome } }
  match (s.rxOf u).had, x.current, cur with
  | true, some _, none => s.raise Ev.sacnLost u 0
  | true, none, some _ => if x.had then s.raise Ev.sacnRestored u 0 else s
  | _, _, _ => s

/-- A source of a universe replaced in its place. -/
def putSource (x : RxSource) : List RxSource → List RxSource
  | [] => [x]
  | y :: rest => if y.cid = x.cid then x :: rest else y :: putSource x rest

/-- The last sequence number used of a CID (R329). -/
def Rx.seqOf (x : Rx) (cid : Bytes) : Option Nat := (x.seqs.find? fun e => e.1 = cid).map Prod.snd

/-- A packet of a CID is used: its sequence number is the last one (R329). -/
def Rx.used (x : Rx) (cid : Bytes) (seq : Nat) : Rx := { x with seqs := (cid, seq) :: x.seqs.filter fun e => e.1 ≠ cid }

/-- A sequence number is out of order: its signed difference from the last one is in the range -19 to 0 (R329). -/
def outOfOrder (seq last : Nat) : Bool :=
  let diff := signed 8 (seq + 256 - last % 256)
  decide (-19 ≤ diff ∧ diff ≤ 0)

/-- What a data packet of a received universe does (R329-R331). -/
def State.useSacn (p : SacnPacket) (d : Bytes) (s : State) : State :=
  let x := s.rxOf p.univ
  let drop := { s with rx := Tab.put s.rx p.univ { x with dropped := satInc x.dropped } }
  if !p.wellFormed ∨ p.startCode ≠ 0 ∨ p.preview ∨ x.lost = some (p.cid, s.now) then drop
  else if (x.seqOf p.cid).any (outOfOrder p.sequence) then drop
  else
    let old := x.sources.find? fun y => y.cid = p.cid
    if old.isNone ∧ x.sources.length ≥ 8 then drop
    else if p.terminated then
      s.settleRx p.univ { x.used p.cid p.sequence with sources := x.sources.filter fun y => y.cid ≠ p.cid }
    else
      let base : RxSource := old.getD { cid := p.cid, priority := p.priority, seq := p.sequence, last := s.now }
      let y := { base with priority := p.priority, seq := p.sequence, last := s.now }
      let y := if (u8 d 3).testBit 0 && p.sync ≠ 0 then
          { y with waiting := some (p.sync, p.slots, (y.waiting.map fun w => w.2.2).getD s.now) }
        else { y with complete := some p.slots, waiting := none }
      s.settleRx p.univ { x.used p.cid p.sequence with sources := putSource y x.sources }

/-- SACN_DATA_RX (R329-R331). -/
def execSacnDataRx (p : SacnPacket) (s : State) : Outcome :=
  .next (s.receive p.lane p.rx fun s => match s.cfg.get .sacnRx p.univ with
    | none => s
    | some d => if u8 d 2 ≠ p.lane then s else s.useSacn p d)

/-- Data that waits for synchronization becomes complete for the sources that a test picks (R331). -/
def completeWaiting (f : RxSource → Bool) (l : List RxSource) : List RxSource :=
  l.map fun y => match y.waiting with
    | some (_, slots, _) => if f y then { y with complete := some slots, waiting := none } else y
    | none => y

/-- SACN_SYNC_RX (R331). -/
def execSacnSyncRx (rx : LaneFrame) (cid : Bytes) (sync : Nat) (s : State) : Outcome :=
  .next (s.receive rx.lane rx.frame fun s => (s.cfg.all .sacnRx).foldl (fun s e =>
    if u8 e.2 2 ≠ rx.lane then s
    else
      let x := s.rxOf e.1
      let hit := fun (y : RxSource) => y.cid = cid && (y.waiting.any fun w => w.1 = sync)
      if x.sources.any hit then s.settleRx e.1 { x with sources := completeWaiting hit x.sources } else s) s)

/-- SACN_SYNC_TIMEOUT: 2.5 s without a synchronization packet, from the first data that waits (R331). -/
def execSacnSyncTimeout (univ : Nat) (cid : Bytes) (s : State) : Outcome :=
  let x := s.rxOf univ
  match (x.sources.find? fun y => y.cid = cid && y.waiting.isSome).bind RxSource.waiting with
  | none => .next s
  | some (_, _, since) =>
    .next ((s.advanceNow (since + msT 2500)).settleRx univ { x with sources := completeWaiting (fun y => y.cid = cid) x.sources })

/-- SACN_SOURCE_TIMEOUT: 2.5 s without a packet (R330). -/
def execSacnSourceTimeout (univ : Nat) (cid : Bytes) (s : State) : Outcome :=
  let x := s.rxOf univ
  match x.sources.find? fun y => y.cid = cid with
  | none => .next s
  | some y =>
    let s := s.advanceNow (y.last + msT 2500)
    .next (s.settleRx univ { x with sources := x.sources.filter fun y => y.cid ≠ cid, lost := some (cid, s.now) })

/-- The universes that a lane carries, in rising order. -/
def Cfg.laneUniverses (c : Cfg) (lane : Nat) : List Nat :=
  let l := ((c.all .sacnFlow).filter fun e => (c.get .flow e.1).any fun f => flLane f = lane).flatMap fun e => saUniverses e.2
  l.mergeSort (fun a b => a ≤ b)

/-- Pages of at most 512 universes. -/
def pages : Nat → List Nat → List (List Nat)
  | 0, _ => []
  | k + 1, l => if l.isEmpty then [] else l.take 512 :: pages k (l.drop 512)

/-- The unit sends sACN for frame n: unpaired and no standby engine, or with the active duty (R37, R396). At a handover the outgoing member
still sends for the frames cut before it, and the incoming one from it on (R397); a takeover brings in every frame (R394). -/
def State.sendsSacn (s : State) (n : Nat) : Bool :=
  match s.pair.st with
  | .unpaired => s.role ≠ 2
  | .solo => true
  | .active => s.pair.byTakeover || s.pair.dutyFrame ≤ n
  | .standby => n < s.pair.dutyFrame
  | .waiting => false
  | .syncing => false
  | .isolated => false

/-- The source name that packets carry (R325). -/
def State.sacnName (s : State) : Bytes := ((s.cfg.get .sacnSource 0).map fun d => slice d 32 64).getD (zeros 64)

/-- The group of universe discovery, 239.255.250.214 (R327). -/
abbrev discoveryGroup : Nat := 0xEFFFFAD6

/-- SACN_DISCOVERY_TX (R327): the universes of the lane in pages, where DISCOVERY is set: CID, name, page and last page, and
the universes. -/
def execSacnDiscoveryTx (lane : Nat) (s : State) : Outcome :=
  if lane ≥ s.lanes then .next s
  else
    let on := (s.cfg.get .sacnSource 0).any fun d => (u8 d 1).testBit 0
    let l := s.cfg.laneUniverses lane
    let pgs := pages (l.length + 1) l
    .next (if !on ∨ !(s.laneOf lane).link ∨ !s.sendsSacn s.frameNow then s
      else (pgs.zip (List.range pgs.length)).foldl (fun s p =>
        s.laneSend lane "sacn discovery" (multicastMac discoveryGroup) 0 discoveryGroup (some (5568, 5568))
          (s.cid ++ s.sacnName ++ beBytes 1 p.2 ++ beBytes 1 (pgs.length - 1) ++ p.1.flatMap fun u => beBytes 2 u)) s)

/-- What the cut freezes of a received universe for the parameters of an instance (R131, R135, R139, R140, R331). A map
that holds keeps the priority and the values that it had, also where a press changes its record (log entries 209, 210). -/
def State.freezeMap (n : Nat) (inst : Nat) (d : Bytes) (s : State) : State :=
  match s.cfg.instType inst with
  | none => s
  | some t =>
    let x := s.rxOf (u16 d 4)
    let data : Option RxSource := match x.current with
      | some cid => (x.sources.find? fun y => y.cid = cid)
      | none => none
    let lost := x.had && x.current.isNone
    let hold := (u8 d 8).testBit 0
    let fixed := (u8 d 8).testBit 1
    ((List.range (ftParams t)).filter fun p => fpWidth t p ≠ 0).foldl (fun s p =>
      s.updPar (128 * inst + p) fun q =>
        match data with
        | some y =>
          let v := receivedValue t p (u16 d 6) (y.complete.getD [])
          let pri := if fixed then u8 d 9 else y.priority
          match q.rx with
          | some old => { q with rx := some { value := v, pri, frame := if old.value = v then old.frame else n }, rxHere := true }
          | none => { q with rx := some { value := v, pri, frame := n }, rxHere := true }
        | none => { q with rxHere := lost && hold && q.rxHere }) s

/-- The received sources of every map at the cut of frame n. -/
def State.cutSacn (n : Nat) (s : State) : State := (s.cfg.all .rxMap).foldl (fun s e => s.freezeMap n e.1 e.2) s

/-! ## Ixnik receive (R332-R334, R386) -/

/-- The receive record of a flow and lane. -/
def State.ixOf (s : State) (n : Nat) : IxRx := Tab.getD s.ixrx n {}

/-- The claim rule (R386): accepted if the claim is at least the highest of the other unit ids; either way it is
written. -/
def claimRule (x : IxRx) (claim : Nat) : Bool × IxRx :=
  let others := (x.claims.filter fun e => e.1 ≠ claim % 256).map fun e => e.2.claim
  (decide (others.foldl max 0 ≤ claim), { x with claims := Tab.put x.claims (claim % 256) { claim } })

/-- Claim tables age by one cut (R386). -/
def State.ageClaims (s : State) : State :=
  { s with ixrx := Tab.mapV s.ixrx fun _ x =>
    { x with claims := (Tab.mapV x.claims fun _ e => { e with cuts := e.cuts + 1 }).filter fun e => e.2.cuts < 3 } }

/-- The elements 0 to the answer - 1 of a frame have all arrived, in parts of `size` bytes an element (R334). -/
def covered (size : Nat) (t : Tab Bytes) : Nat :=
  t.foldl (fun reach e => if e.1 ≤ reach then max reach (e.1 + e.2.length / size) else reach) 0

/-- The bytes of a frame put together: each part at its offset. Where parts overlap, that of the higher offset stands (log
entry 229). -/
def joinParts (size total : Nat) (t : Tab Bytes) : Bytes :=
  (t.foldl (fun b e => putAt b (e.1 * size) e.2) (zeros (total * size))).take (total * size)

/-- The last cut's frame plus three bounds what is received (R334). -/
def State.ixTooFar (s : State) (frame : Nat) : Bool := frame > s.frameNow + 3

/-- The show instant nearest to a counter value with a nanoseconds field, as a counter value (R332). -/
def nearestInstant (counter ns : Nat) : Nat :=
  let sec := nsT 1000000000
  let here := counter / sec * sec + nsT ns
  if here + sec / 2 < counter then here + sec else if here > counter + sec / 2 ∧ sec ≤ here then here - sec else here

/-- The unit id of the accepted claims of a record, with CLAIM_CHANGED at most once in 1 s where it changes (R386). -/
def State.takeClaim (num : Nat) (x : IxRx) (unit : Nat) (s : State) : State :=
  let may := match x.changedAt with
    | some t => decide (s.now ≥ t + secT 1)
    | none => true
  if x.holder.any (· ≠ unit) && may then
    ({ s with ixrx := Tab.put s.ixrx num { x with holder := some unit, changedAt := some s.now } } : State).raise Ev.claimChanged num unit
  else { s with ixrx := Tab.put s.ixrx num { x with holder := some unit } }

/-- A packet of a frame enters a record, and completes the frame where every element has arrived (R334). -/
def IxRx.take (x : IxRx) (d header body : Bytes) (counter : Nat) : IxRx :=
  let frame := beNat (slice header 16 6)
  let size := ixSize (ixFormat d)
  let parts := Tab.put (Tab.getD x.parts frame []) (beNat (slice header 28 4)) (body.take (beNat (slice header 22 2) * size))
  let x := { x with
    shows := Tab.put x.shows frame (nearestInstant counter (beNat (slice header 24 4)))
    begun := if Tab.has x.begun frame then x.begun else Tab.put x.begun frame counter }
  if covered size parts ≥ ixTotal d then
    { x with parts := Tab.del x.parts frame, ready := Tab.put x.ready frame (joinParts size (ixTotal d) parts), terminated := false }
  else { x with parts := Tab.put x.parts frame parts }

/-- The cases in which an accepted packet is dropped and counted (R334). -/
def State.ixRefuses (s : State) (x : IxRx) (d header : Bytes) : Bool :=
  let frame := beNat (slice header 16 6)
  let off := beNat (slice header 28 4)
  (x.lastUsed.any fun l => frame ≤ l) || s.ixTooFar frame || Tab.has x.ready frame || Tab.has (Tab.getD x.parts frame []) off ||
    decide (off + beNat (slice header 22 2) > ixTotal d)

/-- What a packet of a receive record does (R332-R334, R386). -/
def State.useIxnik (num : Nat) (d header body : Bytes) (s : State) : State :=
  let claim := beNat (slice header 12 4)
  let (won, x) := claimRule (s.ixOf num) claim
  if !won then { s with ixrx := Tab.put s.ixrx num { x with claimDrops := satInc x.claimDrops } }
  else
    let s := s.takeClaim num x (claim % 256)
    let x := s.ixOf num
    let x := if s.ixRefuses x d header then { x with dropped := satInc x.dropped }
      else if (u8 header 3).testBit 2 then { x with terminated := true }
      else x.take d header body s.tk.counter
    { s with ixrx := Tab.put s.ixrx num x }

/-- The magic and version of an Ixnik packet (R332). -/
def ixKnown (header : Bytes) : Bool := beNat (slice header 0 2) = 0x4958 && u8 header 2 = 1

/-! ## Launch queues (R336, R337) -/

/-- The bytes in a launch queue. -/
def Lane.bytes (l : Lane) : Nat := (l.queue.map List.length).foldl (· + ·) 0 + (l.part.map fun p => p.2.length).getD 0

/-- A launch queue holds 32 packets or 32 KiB (R336). -/
def Lane.full (l : Lane) : Bool := l.queue.length ≥ 32 || l.bytes ≥ 32768

/-- The discard point of a launch queue's rinse: every packet goes, and is counted; of a packet that is partly written
the items still to come are discarded too (R26-R29). -/
def Lane.discard (l : Lane) : Lane :=
  { l with
    queue := [], part := none, rinse := false
    qrinsed := satAdd l.qrinsed (l.queue.length + if l.part.isSome then 1 else 0)
    skip := match l.part with
      | some (len, b) => ceilDiv (len - b.length) 4
      | none => l.skip }

/-- The discard point of a pending rinse has come at counter value `t`: the queue's launched packet is off the wire, and no
packet is partly written (R26, R29). -/
def Lane.settle (t : Nat) (l : Lane) : Lane := if l.rinse && l.part.isNone && l.queueUntil ≤ t then l.discard else l

/-- One item enters a launch queue: a length, or four bytes of the packet (R336). Items of a packet that a rinse
discarded in part go (R28). -/
def Lane.item (w : Reg) (l : Lane) : Lane :=
  if l.skip > 0 then { l with skip := l.skip - 1 }
  else match l.part with
    | none => { l with part := some (w.toNat % 65536, []) }
    | some (len, b) =>
      let b := (b ++ leBytes 4 w.toNat).take len
      if b.length ≥ len then { l with part := none, queue := l.queue ++ [b] } else { l with part := some (len, b) }

/-- The writes that wait on a full queue go in as far as there is room (R25). -/
def Lane.unstall (t : Nat) : Nat → Lane → Lane
  | 0, l => l
  | k + 1, l => match l.stalled with
    | [] => l
    | w :: rest => if l.full then l else unstall t k ((Lane.item w { l with stalled := rest }).settle t)

/-- A launch queue at counter value `t`, once a discard point that has come is taken, and the writes that wait are in as
far as there is room (R25, R26). -/
def Lane.current (t : Nat) (l : Lane) : Lane := (l.settle t).unstall t (l.settle t).stalled.length

/-- A word is written to a launch queue (R25, R336): it waits while the queue is full. -/
def Lane.write (t : Nat) (w : Reg) (l : Lane) : Lane :=
  let l := l.current t
  (({ l with stalled := l.stalled ++ [w] } : Lane)).current t

/-- QDATA_WRITE (R25, R336): an item, which waits while the queue is full. -/
def execQdataWrite (lane : Nat) (w : Reg) (s : State) : Outcome :=
  .next (if lane ≥ s.lanes then s else s.updLane lane fun l => l.write s.tk.counter w)

/-- FIFO_WRITE_WAIT_EXPIRE: the word that has waited 2 µs is discarded and counted, and FIFO_WRITE_DROP raised (R25). -/
def execFifoWriteWaitExpire (lane : Nat) (w : Reg) (s : State) : Outcome :=
  if lane ≥ s.lanes then .next s
  else
    let s := s.updLane lane fun l => l.current s.tk.counter
    match (s.laneOf lane).stalled with
    | x :: rest =>
      if x = w then .next ((s.updLane lane fun l => { l with stalled := rest, qdrop := satInc l.qdrop }).raise Ev.fifoWriteDrop lane 0)
      else .next s
    | [] => .next s

/-- A rinse of a launch queue is requested (R26, R27, R29): between packets the discard point is at once; while a packet
is on the wire or only partly written it waits. A request merges with a pending one. -/
def Lane.requestRinse (t : Nat) (l : Lane) : Lane := (({ l.current t with rinse := true } : Lane)).current t

/-- QRINSE (R336). -/
def execQrinse (lane : Nat) (s : State) : Outcome :=
  .next (if lane ≥ s.lanes then s else s.updLane lane fun l => l.requestRinse s.tk.counter)

/-- The partial packet of a launch queue is discarded, and the discard point of its rinse taken at once (R29). -/
def Lane.endPartial (t : Nat) (l : Lane) : Lane :=
  let l := l.current t
  if l.rinse && l.part.isSome then l.discard.current t else l

/-- RINSE_PARTIAL_TIMEOUT (R29). -/
def execRinsePartialTimeout (lane : Nat) (s : State) : Outcome :=
  .next (if lane ≥ s.lanes then s else s.updLane lane fun l => l.endPartial s.tk.counter)

/-! ## Meanings -/

def execLaneDefine (r : Req) (s : State) : Outcome := hostCommand laneDefineOp r s
def execFlowDefine (r : Req) (s : State) : Outcome := hostCommand flowDefineOp r s
def execFlowDelete (r : Req) (s : State) : Outcome := hostCommand flowDeleteOp r s
def execSacnOutDefine (r : Req) (s : State) : Outcome := hostCommand sacnOutDefineOp r s
def execSacnRxDefine (r : Req) (s : State) : Outcome := hostCommand sacnRxDefineOp r s
def execIxnikDefine (r : Req) (s : State) : Outcome := hostCommand ixnikDefineOp r s
def execFlowEnable (r : Req) (s : State) : Outcome := hostCommand flowEnableOp r s
def execFlowRinse (r : Req) (s : State) : Outcome := hostCommand flowRinseOp r s
def execFlowStats (r : Req) (s : State) : Outcome := hostCommand flowStatsOp r s

end Sys2Proof.Machine
end

