-- ==== Sys2Proof/Machine/Colour.lean ====
section
/-! DEFINITION. The colour pipeline and light-sensor calibration (R175-R202): COLOUR_SPACE, MIX_STRATEGY, DIM_CURVE,
CALSET_LOAD, SENSOR_SCRIPT, CAL_RUN, CAL_RESULT, TRIM_CONTROL, TRIM_STATUS, the sensor and calibration events, and the
drive codes of emitters. -/

namespace Sys2Proof.Machine

/-! ## Working space (R178) -/

/-- The RGB to XYZ matrix of BT.709 primaries and D65 white, as exact ratios row by row (R178, log entry 20). -/
def matrix709 : List (Nat × Nat) :=
  [(506752, 1228815), (87881, 245763), (12673, 70218), (87098, 409605), (175762, 245763), (12673, 175545),
   (7918, 409605), (87881, 737289), (1001167, 1053270)]

/-- The RGB to XYZ matrix of BT.2020 primaries and D65 white (R178, log entry 20). -/
def matrix2020 : List (Nat × Nat) :=
  [(63426534, 99577255), (20160776, 139408157), (47086771, 278816314), (26158966, 99577255), (472592308, 697040785),
   (8267143, 139408157), (0, 1), (19567812, 697040785), (295819943, 278816314)]

/-- The matrix of a mode with its standard's primaries. -/
def modeMatrix (mode : Nat) : List F32 :=
  (if mode = 0 then matrix709 else matrix2020).map fun r => F32.ofRat r.1 r.2

/-- Nine binary32 values at an offset. -/
def nineAt (d : Bytes) (off : Nat) : List F32 := (List.range 9).map fun i => F32.ofBits (u32 d (off + 4 * i))

/-- The COLOUR_SPACE record in effect, with the matrix of every mode filled in (R178, R558). -/
def Cfg.spaceRec (c : Cfg) : Bytes :=
  let d := (c.get .space 0).getD (zeros 40)
  if u8 d 0 = 2 then d else d.take 4 ++ (modeMatrix (u8 d 0)).flatMap fun v => leBytes 4 v.toBits

/-- The matrix in effect. -/
def Cfg.matrix (c : Cfg) : List F32 := nineAt c.spaceRec 4

/-- The value of a finite binary32 in units of 2^-149; 0 for the others. -/
def f32Units : F32 → Int
  | .fin neg k => F32.units neg k
  | _ => 0

/-- The determinant of a matrix of nine, exactly, in units of 2^-447. -/
def det9 (m : List F32) : Int :=
  let a := fun i => f32Units (m.getD i .nan)
  a 0 * (a 4 * a 8 - a 5 * a 7) - a 1 * (a 3 * a 8 - a 5 * a 6) + a 2 * (a 3 * a 7 - a 4 * a 6)

/-- COLOUR_SPACE (R178). -/
def colourSpaceOp : Op where
  code := 0x0601
  cls := .staged
  layout := fixedLayout [1, 3, 36]
  body := .staged fun r c _ => do
    let d := r.payload
    inRange (u8 d 0 ≤ 2) 0
    if u8 d 0 = 2 then
      let m := nineAt d 4
      eachIdx m 0 fun i v => inRange v.finite (4 + 4 * i)
      inRange (det9 m ≠ 0) 4
      let row := f32Units (m.getD 3 .nan) + f32Units (m.getD 4 .nan) + f32Units (m.getD 5 .nan)
      inRange ((row - 2 ^ 149).natAbs ≤ 2 ^ 133) 4
    .ok (c.put .space 0 d)

/-- MIX_STRATEGY (R181). -/
def mixStrategyOp : Op where
  code := 0x0602
  cls := .staged
  layout := countLayout 8
  body := .staged fun r c _ =>
    foldIdx (records r.payload 8 8 (u32 r.payload 0)) 0 c fun i c d => do
      let off := 8 + 8 * i
      match c.get .ftype (u16 d 0) with
      | none => .error ⟨Status.badReference, off⟩
      | some t =>
        inRange (u8 d 2 = 0 ∨ (u8 d 2 = 1 ∧ 4 ≤ ftEmitters t)) (off + 2)
        .ok (c.put .mix (u16 d 0) d)

/-- DIM_CURVE (R184). -/
def dimCurveOp : Op where
  code := 0x0603
  cls := .staged
  layout := fixedLayout ([1, 3] ++ List.replicate 257 4)
  body := .staged fun r c _ => do
    let d := r.payload
    inRange (1 ≤ u8 d 0 ∧ u8 d 0 ≤ 63) 0
    eachIdx (List.range 257) 0 fun _ k => inRange (u32 d (4 + 4 * k) % 2 ^ 21 ≤ 0x100000) (4 + 4 * k)
    .ok (c.put .dimCurve (u8 d 0) d)

/-! ## Calibration sets, bindings, groups, scripts (R185, R188) -/

/-- The bytes of a temperature point for n emitters (R185). -/
abbrev pointSize (n : Nat) : Nat := 4 + 12 * n

/-- TEMP of point p of a set record. -/
def setTemp (d : Bytes) (n p : Nat) : Int := iAt d (8 + p * pointSize n) 2

/-- The points of a set record. -/
def setPoints (d : Bytes) (n : Nat) : List Bytes := (List.range (u8 d 6)).map fun p => slice d (8 + p * pointSize n) (pointSize n)

/-- Set record, one command (R185). -/
def calSetRecord (c : Cfg) (d : Bytes) : Chk? Cfg :=
  match c.get .ftype (u16 d 4) with
  | none => do
    inRange (u16 d 2 ≤ 4095) 2
    .error ⟨Status.badReference, 4⟩
  | some t => do
    let n := ftEmitters t
    inRange (d.length = 8 + u8 d 6 * pointSize n) 6
    inRange (u16 d 2 ≤ 4095) 2
    inRange (1 ≤ n) 4
    inRange ((c.all .binding).all fun e => u16 e.2 4 ≠ u16 d 2 || (c.get .patch e.1).any fun p => paType p = u16 d 4) 4
    inRange (1 ≤ u8 d 6 ∧ u8 d 6 ≤ 5) 6
    eachIdx (List.range (u8 d 6)) 0 fun _ p =>
      do
        inRange (p = 0 ∨ setTemp d n (p - 1) + 16 ≤ setTemp d n p) (8 + p * pointSize n)
        eachIdx (List.range n) 0 fun _ e =>
          inRange (1 ≤ u32 d (8 + p * pointSize n + 12 + 12 * e)) (8 + p * pointSize n + 12 + 12 * e)
    .ok { c.put .calSet (u16 d 2) d with loaded := c.loaded ++ [u16 d 2] }

/-- A binding record of an instance names TRIM. -/
abbrev bdTrim (d : Bytes) : Bool := (u8 d 7).testBit 0

/-- One binding record at a payload offset (R185). -/
def bindingRecord (off : Nat) (c : Cfg) (d : Bytes) : Chk? Cfg :=
  match c.get .patch (u32 d 0) with
  | none => .error ⟨Status.badReference, off⟩
  | some p => do
    if u16 d 4 ≠ 0xFFFF then
      match c.get .calSet (u16 d 4) with
      | none => .error ⟨Status.badReference, off + 4⟩
      | some set => inRange (u16 set 4 = paType p) (off + 4)
    if bdTrim d then
      match c.get .script (u8 d 8) with
      | none => .error ⟨Status.badReference, off + 8⟩
      | some sc => inRange (u8 sc 4 = 0) (off + 8)
    inRange (u8 d 9 ≤ 15 ∨ u8 d 9 = 0xFF) (off + 9)
    need (u8 d 9 = 0xFF || c.has .canvas (u8 d 9)) Status.badReference (off + 9)
    let c := c.put .binding (u32 d 0) d
    inRange (((c.all .binding).filter fun e => bdTrim e.2).length ≤ 32768) off
    .ok c

/-- A thermal group record (R185). -/
def groupRecord (c : Cfg) (d : Bytes) : Chk? Cfg := do
  inRange (u8 d 3 ≤ 3) 3
  if u8 d 3 = 1 then
    match c.get .script (u8 d 4) with
    | none => .error ⟨Status.badReference, 4⟩
    | some sc => inRange (u8 sc 4 = 1) 4
  inRange (u8 d 3 ≠ 2 ∨ u8 d 4 ≤ 15) 4
  .ok (c.put .group (u8 d 2) d)

/-- The layout of CALSET_LOAD by KIND; the points of a set are checked where the type is known (R185, R557). -/
def calsetLayout (b : Bytes) : Option Nat :=
  match b with
  | [] => some 0
  | _ => match u8 b 0 with
    | 0 => firstMissing [1, 1, 2, 2, 1, 1] 0 b.length
    | 1 => layout [1, 3, 4] (some (4, fun b => 16 * u32 b 4)) b
    | 2 => layout [1, 1, 1, 1, 1, 1, 2] none b
    | _ => none

/-- CALSET_LOAD (R185). -/
def calsetLoadOp : Op where
  code := 0x0604
  cls := .staged
  layout := calsetLayout
  body := .staged fun r c _ =>
    match u8 r.payload 0 with
    | 0 => calSetRecord c r.payload
    | 1 => foldIdx (records r.payload 8 16 (u32 r.payload 4)) 0 c fun i c d => bindingRecord (8 + 16 * i) c d
    | 2 => groupRecord c r.payload
    | _ => .error ⟨Status.outOfRange, 0⟩

/-- The bytes that a script reads (R188). -/
def scriptReads (d : Bytes) : Nat :=
  ((List.range (u8 d 5)).map fun j => if u8 d (52 + 8 * j) = 2 then u8 d (53 + 8 * j) else 0).foldl (· + ·) 0

/-- The bytes of a raw channel (R188 FORMAT). -/
def scriptWidth (d : Bytes) : Nat := if (u8 d 6).testBit 0 then 3 else 2

/-- SENSOR_SCRIPT (R188). -/
def sensorScriptOp : Op where
  code := 0x0605
  cls := .staged
  layout := layout [1, 1, 1, 1, 1, 1, 1, 1, 2, 3, 3, 36] (some (5, fun b => 8 * u8 b 5))
  body := .staged fun r c _ => do
    let d := r.payload
    inRange (u8 d 0 ≤ 63) 0
    inRange (u8 d 1 ≤ 3) 1
    inRange (u8 d 3 ≤ 2) 3
    inRange (u8 d 4 ≤ 1) 4
    inRange (1 ≤ u8 d 5 ∧ u8 d 5 ≤ 32) 5
    inRange (10 ≤ u16 d 8 ∧ u16 d 8 ≤ 60000) 8
    eachIdx (List.range (if u8 d 4 = 0 then 3 else 1)) 0 fun _ i =>
      inRange (u8 d (10 + i) + scriptWidth d ≤ scriptReads d) (10 + i)
    eachIdx (List.range (u8 d 5)) 0 fun _ j => do
      let off := 52 + 8 * j
      inRange (1 ≤ u8 d off ∧ u8 d off ≤ 3) off
      inRange (u8 d off ≠ 1 ∨ (1 ≤ u8 d (off + 1) ∧ u8 d (off + 1) ≤ 4)) (off + 1)
      inRange (u8 d off ≠ 2 ∨ (1 ≤ u8 d (off + 1) ∧ u8 d (off + 1) ≤ 16)) (off + 1)
      inRange (u8 d off ≠ 3 ∨ u32 d (off + 4) ≤ 1000000) (off + 4)
    .ok (c.put .script (u8 d 0) d)

/-! ## Temperatures and emitter data (R186, R187) -/

/-- The latest temperature of a group from its source, in units of 1/16 degree (R187); a group without a record states
none (log entry 3). -/
def State.groupTemp (s : State) (g : Nat) : Int :=
  match s.cfg.get .group g with
  | none => signed 16 (Config.freeWord g).toNat
  | some d =>
    let initial := iAt d 6 2
    match u8 d 3 with
    | 1 => (Tab.find s.col.temps g).getD initial
    | 2 => s.mon.raw.temps.getD (u8 d 4) initial
    | 3 => (Tab.find s.col.temps g).getD initial
    | _ => initial

/-- A division rounded to the nearest integer, halves up (R169 rdiv). -/
def rdiv (a b : Int) : Int := (2 * a + b) / (2 * b)

/-- Interpolation of one component over the points of a set (R186). -/
def interpolate (t : Int) : List (Int × Int) → Int
  | [] => 0
  | [(_, v)] => v
  | (t0, v0) :: (t1, v1) :: rest =>
    if t ≤ t0 then v0
    else if t < t1 then v0 + rdiv ((v1 - v0) * (t - t0)) (t1 - t0)
    else interpolate t ((t1, v1) :: rest)

/-- The emitter data of an instance: CIE_X, CIE_Y and FLUX of each emitter (R185, R186). -/
def State.emitters (s : State) (inst : Nat) (t : Bytes) : List (Nat × Nat × Nat) :=
  let n := ftEmitters t
  let own := (List.range n).map fun e => (feX t e, feY t e, feFlux t e)
  match s.cfg.get .binding inst with
  | none => own
  | some b =>
    match Tab.find s.col.sets (u16 b 4) with
    | none => own
    | some set =>
      let temp := (Tab.find s.col.held (u8 b 6)).getD (s.groupTemp (u8 b 6))
      (List.range n).map fun e =>
        let comp := fun off => (interpolate temp ((List.range (u8 set 6)).map fun p =>
          (setTemp set n p, (u32 set (8 + p * pointSize n + 4 + 12 * e + off) : Int)))).toNat
        (comp 0, comp 4, comp 8)

/-! ## Targets and trim (R179, R180) -/

/-- The value of the parameter of a kind of an instance at the most recent merge. -/
def State.outOfKind (s : State) (inst : Nat) (t : Bytes) (k : Nat) : Option Nat :=
  ((List.range (ftParams t)).find? fun p => fpKind t p = k).map fun p =>
    (Tab.getD s.par.tab (128 * inst + p) (s.cfg.freshPar (128 * inst + p))).out

/-- A target: chromaticity and scale. -/
structure Target where
  x : F32
  y : F32
  s : F32
  deriving DecidableEq, Repr

/-- Stage 1 (R179): the untrimmed target; none where every level is 0. -/
def stage1 (m : List F32) (xy : Option (Nat × Nat)) (rgb : Nat × Nat × Nat) (intensity : Nat) : Option Target :=
  let k := F32.ofNat 1048575
  let fin := fun (xt yt mm : F32) =>
    let yt := if F32.lt yt (F32.ofRat 1 1024) then F32.ofRat 1 1024 else yt
    some ({ x := xt, y := yt, s := F32.mul (F32.div (F32.ofNat intensity) k) mm } : Target)
  match xy with
  | some (cx, cy) => fin (F32.div (F32.ofNat cx) (F32.ofNat 1048576)) (F32.div (F32.ofNat cy) (F32.ofNat 1048576)) F32.one
  | none =>
    let r := F32.div (F32.ofNat rgb.1) k
    let g := F32.div (F32.ofNat rgb.2.1) k
    let b := F32.div (F32.ofNat rgb.2.2) k
    let row := fun i => F32.add (F32.add (F32.mul (m.getD i .nan) r) (F32.mul (m.getD (i + 1) .nan) g)) (F32.mul (m.getD (i + 2) .nan) b)
    let x := row 0
    let y := row 3
    let z := row 6
    let sum := F32.add (F32.add x y) z
    if F32.le sum F32.zero then none
    else fin (F32.div x sum) (F32.div y sum) (F32.max r (F32.max g b))

/-- The untrimmed target of an instance (R179). -/
def State.target (s : State) (inst : Nat) (t : Bytes) : Option Target :=
  let v := fun k => (s.outOfKind inst t k).getD 0
  let xy := match s.outOfKind inst t 2 with
    | some x => some (x, v 3)
    | none => none
  stage1 s.cfg.matrix xy (v 4, v 5, v 6) (v kIntensity)

/-- The u'v' of a chromaticity (R180). -/
def toUv (x y : F32) : F32 × F32 :=
  let n := F32.ofNat
  let q := F32.add (F32.add (F32.mul (F32.neg (n 2)) x) (F32.mul (n 12) y)) (n 3)
  (F32.div (F32.mul (n 4) x) q, F32.div (F32.mul (n 9) y) q)

/-- Stage 2 (R180). -/
def stage2 (du dv : Int) (g : Nat) (t : Target) : Target :=
  if du = 0 ∧ dv = 0 ∧ g = 0x10000 then t
  else
    let n := F32.ofNat
    let uv := toUv t.x t.y
    let u := F32.add uv.1 (F32.div (F32.ofInt du) (n 1048576))
    let v := F32.add uv.2 (F32.div (F32.ofInt dv) (n 1048576))
    let q := F32.add (F32.sub (F32.mul (n 6) u) (F32.mul (n 16) v)) (n 12)
    { x := F32.div (F32.mul (n 9) u) q, y := F32.div (F32.mul (n 4) v) q, s := F32.mul t.s (F32.div (n g) (n 65536)) }

/-! ## The solver (R182) -/

/-- The data of one emitter for the solver. -/
structure Emit where
  ex : F32
  ey : F32
  X  : F32
  Y  : F32
  Z  : F32
  S  : F32
  deriving DecidableEq, Repr

/-- Emitter data from integers (R182). -/
def emitOf (e : Nat × Nat × Nat) : Emit :=
  let x := F32.div (F32.ofNat e.1) (F32.ofNat 1048576)
  let y := F32.div (F32.ofNat e.2.1) (F32.ofNat 1048576)
  let f := F32.ofNat e.2.2
  let X := F32.mul (F32.div x y) f
  let Z := F32.mul (F32.div (F32.sub (F32.sub F32.one x) y) y) f
  { ex := x, ey := y, X, Y := f, Z, S := F32.add (F32.add X f) Z }

/-- An element of a list of values; the lists here are as long as the emitters. -/
abbrev fget (l : List F32) (i : Nat) : F32 := l.getD i .nan

/-- A list with one element replaced. -/
def fset (l : List F32) (i : Nat) (v : F32) : List F32 := l.set i v

/-- The sum of a list in ascending order, from 0. -/
def fsum (l : List F32) : F32 := l.foldl F32.add F32.zero

/-- One pair (j, k) of maximise flux (R182): the candidate mix and its flux, where it is feasible. -/
def fluxPair (em : List Emit) (ax ay : List F32) (j k : Nat) : Option (List F32 × F32) :=
  let y := fun i => (em.map Emit.Y).getD i .nan
  let det := F32.sub (F32.mul (fget ax j) (fget ay k)) (F32.mul (fget ay j) (fget ax k))
  if F32.eq det F32.zero then none
  else
    let lx := F32.div (F32.sub (F32.mul (y j) (fget ay k)) (F32.mul (fget ay j) (y k))) det
    let ly := F32.div (F32.sub (F32.mul (fget ax j) (y k)) (F32.mul (y j) (fget ax k))) det
    let idx := List.range em.length
    let c := idx.map fun i =>
      if i = j ∨ i = k then F32.zero
      else if F32.lt (F32.add (F32.mul lx (fget ax i)) (F32.mul ly (fget ay i))) (y i) then F32.one else F32.zero
    let rest := idx.filter fun i => i ≠ j && i ≠ k
    let sx := fsum (rest.map fun i => F32.mul (fget c i) (fget ax i))
    let sy := fsum (rest.map fun i => F32.mul (fget c i) (fget ay i))
    let cj := F32.div (F32.add (F32.mul (F32.neg sx) (fget ay k)) (F32.mul (fget ax k) sy)) det
    let ck := F32.div (F32.add (F32.mul (F32.neg (fget ax j)) sy) (F32.mul sx (fget ay j))) det
    if F32.lt cj F32.zero || F32.lt F32.one cj || F32.lt ck F32.zero || F32.lt F32.one ck then none
    else
      let c := fset (fset c j cj) k ck
      some (c, fsum (idx.map fun i => F32.mul (fget c i) (y i)))

/-- Maximise flux (R182): the best feasible pair, the first of equal ones. -/
def maxflux (em : List Emit) (xt yt : F32) : Option (List F32) :=
  let ax := em.map fun e => F32.sub e.X (F32.mul xt e.S)
  let ay := em.map fun e => F32.sub e.Y (F32.mul yt e.S)
  let n := em.length
  let pairs := (List.range n).flatMap fun j => ((List.range n).filter fun k => j < k).map fun k => (j, k)
  let best := pairs.foldl (fun (acc : F32 × Option (List F32)) p =>
    match fluxPair em ax ay p.1 p.2 with
    | none => acc
    | some (c, flux) => if F32.lt acc.1 flux then (flux, some c) else acc) (F32.zero, none)
  if F32.lt F32.zero best.1 then best.2 else none

/-- The state of minimise deviation between passes: drives and which are fixed. -/
structure MinDev where
  d     : List F32
  fixed : List Bool
  viol  : Bool
  bad   : Bool := false
  deriving DecidableEq, Repr

/-- One pass of minimise deviation (R182). -/
def mindevPass (ax ay p w : List F32) (st : MinDev) : MinDev :=
  let idx := List.range ax.length
  let fx := fun i => st.fixed.getD i false
  let acc := fun (f : Nat → F32) (l : List Nat) => fsum (l.map f)
  let rx := acc (fun i => F32.mul (if fx i then fget st.d i else fget p i) (fget ax i)) idx
  let ry := acc (fun i => F32.mul (if fx i then fget st.d i else fget p i) (fget ay i)) idx
  let free := idx.filter fun i => !fx i
  let mxx := acc (fun i => F32.div (F32.mul (fget ax i) (fget ax i)) (fget w i)) free
  let mxy := acc (fun i => F32.div (F32.mul (fget ax i) (fget ay i)) (fget w i)) free
  let myy := acc (fun i => F32.div (F32.mul (fget ay i) (fget ay i)) (fget w i)) free
  let det := F32.sub (F32.mul mxx myy) (F32.mul mxy mxy)
  if F32.eq det F32.zero then { st with bad := true }
  else
    let ux := F32.div (F32.sub (F32.mul rx myy) (F32.mul ry mxy)) det
    let uy := F32.div (F32.sub (F32.mul ry mxx) (F32.mul rx mxy)) det
    let d := idx.map fun i =>
      if fx i then fget st.d i
      else F32.sub (fget p i) (F32.div (F32.add (F32.mul ux (fget ax i)) (F32.mul uy (fget ay i))) (fget w i))
    let out := fun i => !fx i && (F32.lt (fget d i) F32.zero || F32.lt F32.one (fget d i))
    { d := idx.map fun i => if out i then (if F32.lt (fget d i) F32.zero then F32.zero else F32.one) else fget d i
      fixed := idx.map fun i => fx i || out i
      viol := idx.any out }

/-- The passes of minimise deviation: at most one for each emitter, until none is out of its bounds. -/
def mindevLoop (ax ay p w : List F32) : Nat → MinDev → MinDev
  | 0, st => st
  | k + 1, st =>
    let st := mindevPass ax ay p w st
    if st.bad || !st.viol then st else mindevLoop ax ay p w k st

/-- Minimise deviation (R182). -/
def mindev (em : List Emit) (xt yt : F32) (wmask weight : Nat) : Option (List F32) :=
  let ax := em.map fun e => F32.sub e.X (F32.mul xt e.S)
  let ay := em.map fun e => F32.sub e.Y (F32.mul yt e.S)
  let n := em.length
  let p := (List.range n).map fun i => if wmask % 2 ^ n = 0 ∧ wmask = 0 ∨ wmask.testBit i then F32.one else F32.zero
  let w := (List.range n).map fun i => if wmask.testBit i then F32.div (F32.ofNat weight) (F32.ofNat 16) else F32.one
  let st := mindevLoop ax ay p w n { d := p, fixed := List.replicate n false, viol := false }
  if st.bad || st.viol then none
  else
    let top := st.d.foldl (fun t v => if F32.lt t v then v else t) F32.zero
    if F32.le top F32.zero then none else some (st.d.map fun v => F32.div v top)

/-- The twelve halvings toward the full-on white (R182): the interval after them. -/
def gamutSearch (em : List Emit) (wx wy xt yt : F32) : Nat → F32 × F32 → F32 × F32
  | 0, i => i
  | k + 1, (lo, hi) =>
    let t := F32.mul (F32.add lo hi) (F32.ofRat 1 2)
    let at' := fun (w x : F32) => F32.add w (F32.mul (F32.sub x w) t)
    if (maxflux em (at' wx xt) (at' wy yt)).isSome then gamutSearch em wx wy xt yt k (t, hi)
    else gamutSearch em wx wy xt yt k (lo, t)

/-- Stage 4 (R182). -/
def solve (em : List Emit) (xt yt : F32) (deviation : Bool) (wmask weight : Nat) : List F32 :=
  match em with
  | [] => []
  | [_] => [F32.one]
  | [a, b] =>
    let vx := F32.sub b.ex a.ex
    let vy := F32.sub b.ey a.ey
    let l2 := F32.add (F32.mul vx vx) (F32.mul vy vy)
    let t := if F32.eq l2 F32.zero then F32.ofRat 1 2
      else F32.div (F32.add (F32.mul (F32.sub xt a.ex) vx) (F32.mul (F32.sub yt a.ey) vy)) l2
    let t := if F32.lt t F32.zero then F32.zero else t
    let t := if F32.lt F32.one t then F32.one else t
    let d0 := F32.div (F32.sub F32.one t) a.S
    let d1 := F32.div t b.S
    let top := F32.max d0 d1
    [F32.div d0 top, F32.div d1 top]
  | _ =>
    let r := match maxflux em xt yt with
      | some d => (xt, yt, d)
      | none =>
        let ss := fsum (em.map Emit.S)
        let wx := F32.div (fsum (em.map Emit.X)) ss
        let wy := F32.div (fsum (em.map Emit.Y)) ss
        let lo := (gamutSearch em wx wy xt yt 12 (F32.zero, F32.one)).1
        let x := F32.add wx (F32.mul (F32.sub xt wx) lo)
        let y := F32.add wy (F32.mul (F32.sub yt wy) lo)
        (x, y, (maxflux em x y).getD (em.map fun _ => F32.one))
    if deviation then (mindev em r.1 r.2.1 wmask weight).getD r.2.2 else r.2.2

/-- Stage 5 (R183); the integer of a NaN is not stated (log entry 3). -/
def stage5 (d s : F32) : Nat :=
  let v := F32.add (F32.mul (F32.mul d s) (F32.ofNat 1048575)) (F32.ofRat 1 2)
  if F32.le (F32.ofNat 1048575) v then 0xFFFFF
  else (F32.trunc ((Config.freeWord 0).toNat % 2 ^ 20 : Nat) v).toNat

/-- Stage 6 (R184). -/
def Cfg.dimLevel (c : Cfg) (curve e : Nat) : Nat :=
  if curve = 0 then e
  else match c.get .dimCurve curve with
    | none => e
    | some d => min (curveAt (fun k => (u32 d (4 + 4 * k) % 2 ^ 21 : Nat)) e).toNat 0xFFFFF

/-! ## Calibration runs as they drive the pipeline (R190, R191) -/

/-- What a run makes of its instance at this cut: nothing, every emitter at 0, one at the test level, or the verify
target. -/
inductive CalDrive where
  | none
  | dark
  | level (emitter level : Nat)
  | verify (x y : Nat)
  deriving DecidableEq, Repr

/-- The instance of a run. -/
abbrev CalRun.inst (r : CalRun) : Nat := u32 r.payload 0

/-- The drive of a running run after the phase changes of a cut (R191). -/
def CalRun.drive (r : CalRun) : CalDrive :=
  if r.outcome ≠ 4 then .none
  else
    let lit : CalDrive := if u8 r.payload 4 = 0 then .level r.emitter (u32 r.payload 8) else .verify (u32 r.payload 16) (u32 r.payload 20)
    match r.phase with
    | .waitDark => .none
    | .settleDark => .dark
    | .readDark => .dark
    | .waitA => .dark
    | .settleA => lit
    | .readA => lit
    | .waitOff => lit
    | .darkTime => .dark
    | .waitB => .dark
    | .settleB => lit
    | .readB => lit
    | .finish => .none

/-- The run that holds an instance. -/
def State.runOf (s : State) (inst : Nat) : Option CalRun := s.col.runs.find? fun r => r.outcome = 4 && r.inst = inst

/-- The levels of an instance's emitters before stage 6 for a target of stage 1 (R175). -/
def State.solved (s : State) (inst : Nat) (t : Bytes) (tg : Option Target) : List Nat :=
  let n := ftEmitters t
  let em := (s.emitters inst t).map emitOf
  let trim := Tab.getD s.col.trim inst {}
  let trimmed := (s.cfg.get .binding inst).any fun b => bdTrim b
  let mix := (s.cfg.get .mix (u16 t 0)).getD (zeros 8)
  match tg with
  | none => List.replicate n 0
  | some tg =>
    let tg := if trimmed then stage2 trim.du trim.dv trim.g tg else tg
    (solve em tg.x tg.y (u8 mix 2 = 1 && n ≥ 4) (u8 mix 4) (if u8 mix 5 = 0 then 64 else u8 mix 5)).map fun d => stage5 d tg.s

/-- The test levels of a calibration run for its instance, where it drives it (R190, R191). -/
def State.calTest (s : State) (r : CalRun) : Option (List Nat) :=
  match s.cfg.instType r.inst with
  | none => none
  | some t =>
    let n := ftEmitters t
    match r.drive with
    | .none => none
    | .dark => some (List.replicate n 0)
    | .level i v => some ((List.range n).map fun j => if j = i then v else 0)
    | .verify x y => some (s.solved r.inst t (stage1 s.cfg.matrix (some (x, y)) (0, 0, 0) 1048575))

/-- The test value of a latency measurement for its target, where it drives it (R301). -/
def State.latTest (s : State) (r : LatRun) : Option (List Nat) :=
  let target := u32 r.payload 4
  let n := max 1 (if target < 2 ^ 24 then ((s.cfg.instType target).map ftEmitters).getD 0 else 1)
  match r.phase with
  | .dark _ => some (List.replicate n 0)
  | .lit _ => some (List.replicate n (u32 r.payload 8))
  | .probing => none
  | .waiting => none

/-- The test levels of a cut are frozen: those of the runs under way, or, on a standby member, those of the peer's cut
record (R190, R301, R389). -/
def State.freezeTests (peer : Option (Tab (List Nat))) (s : State) : State :=
  let own : Tab (List Nat) := (s.col.runs.filterMap fun r => (s.calTest r).map fun l => (r.inst, l)) ++
    (s.lat.runs.filterMap fun r => (s.latTest r).map fun l => (u32 r.payload 4, l))
  { s with col := { s.col with tests := peer.getD (own.foldl (fun t e => Tab.put t e.1 e.2) []) } }

/-- The levels of an instance's emitters after stage 6 (R175). -/
def State.levels (s : State) (inst : Nat) (t : Bytes) : List Nat :=
  let c := s.cfg
  let n := ftEmitters t
  let e := (Tab.find s.col.tests inst).getD (s.solved inst t (s.target inst t))
  (List.range n).map fun i => c.dimLevel (feDim t i) (e.getD i 0)

/-! ## Encoding (R202) -/

/-- Bit b of 16 moves to bit 15 - b. -/
def bitrev16 (x : Nat) : Nat := ((List.range 16).map fun b => if x.testBit b then 2 ^ (15 - b) else 0).foldl (· + ·) 0

/-- The dithered code of a curved level in w bits at frame n (R202). -/
def ditherCode (v w n inst em : Nat) : Nat :=
  let q := v * (2 ^ w - 1)
  let ph := (inst * 40503 + em * 9973) % 65536
  let t := bitrev16 ((n + ph) % 65536) * 1048575 / 65536
  q / 1048575 + if q % 1048575 > t then 1 else 0

/-- The slots of an emitter: dithered, or rounded with DITHER_OFF (R202). -/
def emitterSlots (off : Bool) (width v n inst em : Nat) : Bytes :=
  if off then encodeParam width false v else beBytes width (ditherCode v (8 * width) n inst em)

/-- The slots of an instance of frame n, over its footprint (R127, R136, R202); a latency test replaces the INTENSITY of
a type without emitters (R301). -/
def State.instSlots (s : State) (n inst : Nat) (t : Bytes) : Bytes :=
  let base := zeros (ftFootprint t)
  let b := (List.range (ftParams t)).foldl (fun b p =>
    if fpWidth t p = 0 then b
    else
      let out := (Tab.getD s.par.tab (128 * inst + p) (s.cfg.freshPar (128 * inst + p))).out
      let v := if ftEmitters t = 0 ∧ fpKind t p = kIntensity then (((Tab.find s.col.tests inst).bind List.head?).getD out) else out
      putAt b (fpSlot t p) (encodeParam (fpWidth t p) (fpInvert t p) v)) base
  if ftEmitters t = 0 then b
  else
    let off := ((s.cfg.get .mix (u16 t 0)).any fun m => (u8 m 3).testBit 0)
    let lv := s.levels inst t
    (List.range (ftEmitters t)).foldl (fun b e =>
      putAt b (feSlot t e) (emitterSlots off (feWidth t e) (lv.getD e 0) n inst e)) b

/-- The slots of a destination of the patch: those of its instances, and 0 where none lies (R127). -/
def State.destBytes (s : State) (n kind dest len : Nat) : Bytes :=
  (s.cfg.all .patch).foldl (fun b e =>
    if paKind e.2 = kind ∧ paDest e.2 = dest then
      match s.cfg.get .ftype (paType e.2) with
      | some t => (putAt b (paStart e.2 - 1) (s.instSlots n e.1 t)).take len
      | none => b
    else b) (zeros len)

/-! ## CAL_RUN and CAL_RESULT (R190-R195) -/

/-- The member neither carries the show alone nor holds the duty (R190, R201). -/
def State.standbyMember (s : State) : Bool := s.pair.st ≠ .unpaired && !s.pairActive

/-- The bus of a script in force. -/
def Cfg.busOf (c : Cfg) (script : Nat) : Nat := ((c.get .script script).map fun d => u8 d 1).getD 0

/-- CAL_RUN (R190): the show state and the pair state refuse it before its fields do (log entry 255). -/
def calRunOp : Op where
  code := 0x0606
  cls := .deferred
  layout := fixedLayout [4, 1, 1, 1, 1, 4, 2, 2, 4, 4]
  body := .run fun r s => do
    let d := r.payload
    need (s.gl.show_ ≠ .armed) Status.showArmed 0
    need (s.gl.show_ ≠ .idle && !s.standbyMember) Status.wrongState s.wrongDetail
    need ((s.cfg.get .binding (u32 d 0)).any fun b => u16 b 4 ≠ 0xFFFF) Status.badReference 0
    inRange (u8 d 4 ≤ 1) 4
    match s.cfg.get .script (u8 d 5) with
    | none => .error ⟨Status.badReference, 5⟩
    | some sc => inRange (u8 sc 4 = 0) 5
    inRange (1 ≤ u8 d 6 ∧ u8 d 6 ≤ 64) 6
    inRange (0x10000 ≤ u32 d 8 ∧ u32 d 8 ≤ 0xFFFFF) 8
    inRange (u16 d 12 ≤ 10000) 12
    inRange (u16 d 14 ≤ 10000) 14
    match s.col.runs.find? fun x => x.outcome = 4 && s.cfg.busOf (u8 x.payload 5) = s.cfg.busOf (u8 d 5) with
    | some x => .error ⟨Status.busy, x.job.session⟩
    | none =>
      let (j, s) := s.startJob 0x0606 r.session r.tag
      let set := ((s.cfg.get .binding (u32 d 0)).map fun b => u16 b 4).getD 0xFFFF
      let count := ((s.cfg.instType (u32 d 0)).map ftEmitters).getD 0
      let runs := s.col.runs ++ [{ job := j, payload := d, since := s.now, set, count }]
      .ok ({ s with col := { s.col with runs := runs.drop (runs.length - 64) } },
        .done { status := Status.acceptedDeferred, payload := leBytes 4 j.id })

/-- A row of CAL_RESULT (R193). -/
def CalRow.bytes (w : CalRow) : Bytes := leBytes 4 w.x ++ leBytes 4 w.y ++ leBytes 4 w.flux ++ leBytes 4 w.duv

/-- The 16-byte header of a run's result and 16 bytes for each emitter, 0 for one not measured (R193; log entry 220). -/
def CalRun.report (r : CalRun) : Bytes :=
  leBytes 1 r.outcome ++ leBytes 1 r.failed ++ leInt 2 (r.temp.getD 0) ++ zeros 2 ++ leBytes 2 r.point ++ leBytes 8 r.frame ++
  padTo (16 * r.count) (r.rows.flatMap CalRow.bytes)

/-- CAL_RESULT (R193). -/
def calResultOp : Op where
  code := 0x0607
  cls := .immediate
  layout := fixedLayout [4]
  body := .run fun r s =>
    match s.col.runs.find? fun x => x.job.id = u32 r.payload 0 with
    | none => .error ⟨Status.badReference, 0⟩
    | some x => .ok (s, .ok x.report)

/-- A run changed. -/
def State.updRun (id : Nat) (f : CalRun → CalRun) (s : State) : State :=
  { s with col := { s.col with runs := s.col.runs.map fun x => if x.job.id = id then f x else x } }

/-- A run ends with an outcome and a final status (R190, R192). -/
def State.endRun (r : CalRun) (outcome status detail : Nat) (s : State) : State :=
  (s.updRun r.job.id fun x => { x with outcome, phase := .finish }).endJob r.job status detail

/-- Every run under way ends without effect by the show state or a lost duty (R190). -/
def State.endCalRuns (s : State) : State :=
  (s.col.runs.filter fun x => x.outcome = 4).foldl (fun s x => s.endRun x 6 Status.wrongState s.wrongDetail) s

/-- CAL_RUN_START_TIMEOUT: the show has not started within 60 s of acceptance (R190). -/
def execCalRunStartTimeout (s : State) : Outcome :=
  match s.col.runs.find? fun x => x.outcome = 4 && x.phase = .waitDark with
  | none => .next s
  | some x =>
    if s.showRuns then .next s
    else
      let s := s.advanceNow (x.since + secT 60)
      .next (s.endRun x 6 Status.wrongState s.wrongDetail)

/-- SETTLE_MS of a run in 2^-16 ns. -/
abbrev CalRun.settle (r : CalRun) : Nat := msT (u16 r.payload 12)

/-- DARK_MS of a run in 2^-16 ns. -/
abbrev CalRun.darkTime (r : CalRun) : Nat := msT (u16 r.payload 14)

/-- What the cut of frame n does with a run's phase (R191): the drive that it waits for takes effect, and its settle or dark
time runs from the show instant of that frame. -/
def CalRun.atCut (s : State) (n : Nat) (r : CalRun) : CalRun :=
  if r.outcome ≠ 4 then r
  else
    let shown := s.cfg.instantN n
    match r.phase with
    | .waitDark => { r with phase := .settleDark, due := shown + r.settle }
    | .waitA =>
      let g := ((s.cfg.get .binding r.inst).map fun b => u8 b 6).getD 0
      { r with phase := .settleA, due := shown + r.settle, temp := if r.temp.isSome then r.temp else some (s.groupTemp g) }
    | .waitOff => { r with phase := .darkTime, due := shown + r.darkTime }
    | .waitB => { r with phase := .settleB, due := shown + r.settle }
    | _ => r

/-- A run waits for the end of a settle or dark time. -/
def CalRun.settling (r : CalRun) : Bool :=
  r.outcome = 4 && (r.phase = .settleDark || r.phase = .settleA || r.phase = .darkTime || r.phase = .settleB)

/-- The settle or dark time of a run is over (R191). -/
def CalRun.settled (r : CalRun) : CalRun :=
  match r.phase with
  | .settleDark => { r with phase := .readDark, reads := [] }
  | .settleA => { r with phase := .readA, reads := [] }
  | .darkTime => { r with phase := .waitB }
  | .settleB => { r with phase := .readB, reads := [] }
  | _ => r

/-- The counter time at which the next settle or dark time ends. -/
def State.settleDue (s : State) : Option Nat := ((s.col.runs.filter CalRun.settling).map CalRun.due).min?

/-- CAL_RUN_PROGRESS: the settle or dark time that ends next is over (R191). -/
def execCalRunProgress (s : State) : Outcome :=
  match s.settleDue with
  | none => .next s
  | some t =>
    let s := s.advanceTo t
    .next { s with col := { s.col with runs := s.col.runs.map fun r => if r.settling && r.due ≤ t then r.settled else r } }

/-- Three values as bits. -/
abbrev Xyz : Type := Nat × Nat × Nat

/-- A binary operation on each of three values. -/
def xyzMap2 (f : F32 → F32 → F32) (a b : Xyz) : Xyz :=
  let g := fun x y => (f (F32.ofBits x) (F32.ofBits y)).toBits
  (g a.1 b.1, g a.2.1 b.2.1, g a.2.2 b.2.2)

/-- The average of readings: summed in reading order and divided by their number (R190). -/
def xyzMean (l : List Xyz) : Xyz :=
  let sum := l.foldl (xyzMap2 F32.add) (0, 0, 0)
  let n := (F32.ofNat l.length).toBits
  xyzMap2 F32.div sum (n, n, n)

/-- The chromaticity of a measurement. -/
def xyzChroma (a : Xyz) : F32 × F32 :=
  let x := F32.ofBits a.1
  let y := F32.ofBits a.2.1
  let sum := F32.add (F32.add x y) (F32.ofBits a.2.2)
  (F32.div x sum, F32.div y sum)

/-- The u'v' of a measurement. -/
def xyzUv (a : Xyz) : F32 × F32 := toUv (xyzChroma a).1 (xyzChroma a).2

/-- du x du + dv x dv of two points (R192). -/
def uvDist2 (a b : F32 × F32) : F32 :=
  let du := F32.sub a.1 b.1
  let dv := F32.sub a.2 b.2
  F32.add (F32.mul du du) (F32.mul dv dv)

/-- The absolute value. -/
def F32abs : F32 → F32
  | .fin _ k => .fin false k
  | .inf _ => .inf false
  | .nan => .nan

/-- Repeats agree (R192): within 0.0003 in u'v' and 0.003 in Y. -/
def repeatsAgree (a b : Xyz) : Bool :=
  let ya := F32.ofBits a.2.1
  let yb := F32.ofBits b.2.1
  F32.le (uvDist2 (xyzUv a) (xyzUv b)) (F32.ofRat 9 100000000) &&
  F32.le (F32abs (F32.sub ya yb)) (F32.mul (F32.ofRat 3 1000) (F32.max ya yb))

/-- A value in units of 2^-20 by rounding; a value that is no number is not stated (log entry 3). -/
def units20 (v : F32) : Nat := ((F32.mul v (F32.ofNat 1048576)).nearest ((Config.freeWord 1).toNat % 2 ^ 20 : Nat)).toNat

/-- The integer square root, for the distance of two points in units of 2^-20. -/
def isqrt (n : Nat) : Nat → Nat → Nat
  | 0, r => r
  | k + 1, r => let b := r + 2 ^ k; if b * b ≤ n then isqrt n k b else isqrt n k r

/-- The distance of two u'v' points in units of 2^-20. -/
def uvDistance (a b : F32 × F32) : Nat :=
  let d := (F32.mul (uvDist2 a b) (F32.ofNat (2 ^ 40))).nearest 0
  isqrt d.toNat 32 0

/-- The row of an emitter, or of the whole fixture in a verify run (R192, R193), whose FLUX is the rounded Y of the mean, not
scaled to full level (log entry 250). -/
def calRow (r : CalRun) (a b : Xyz) : CalRow :=
  let mean := xyzMap2 F32.mul (xyzMap2 F32.add a b) ((F32.ofRat 1 2).toBits, (F32.ofRat 1 2).toBits, (F32.ofRat 1 2).toBits)
  let xy := xyzChroma mean
  let flux := F32.div (F32.mul (F32.ofBits mean.2.1) (F32.ofNat 1048575)) (F32.ofNat (u32 r.payload 8))
  let tgt := toUv (F32.div (F32.ofNat (u32 r.payload 16)) (F32.ofNat 1048576)) (F32.div (F32.ofNat (u32 r.payload 20)) (F32.ofNat 1048576))
  { x := units20 xy.1, y := units20 xy.2
    flux := ((if u8 r.payload 4 = 0 then flux else F32.ofBits mean.2.1).nearest ((Config.freeWord 2).toNat : Nat)).toNat
    duv := if u8 r.payload 4 = 0 then uvDistance (xyzUv a) (xyzUv b) else uvDistance (xyzUv mean) tgt }

/-- The run has measured every emitter: verified, rejected by the repeats of an emitter, or accepted with its result pending,
and over (R191, R192, R194). -/
def State.completeRun (r : CalRun) (s : State) : State :=
  if u8 r.payload 4 = 1 then s.endRun r 5 Status.ok 0
  else if r.failed ≠ 0xFF then s.endRun r 1 Status.ok 0
  else (s.updRun r.job.id fun x => { x with waiting := true }).endRun r 0 Status.ok 0

/-- One reading of a run (R190-R192). An emitter whose repeats disagree fails the run, which measures the others all the same;
the first is named (R193). -/
def State.runReading (r : CalRun) (v : Xyz) (s : State) : State :=
  let reads := r.reads ++ [v]
  if reads.length < u8 r.payload 6 then s.updRun r.job.id fun x => { x with reads }
  else
    let mean := xyzMean reads
    match r.phase with
    | .readDark => s.updRun r.job.id fun x => { x with dark := mean, phase := .waitA, reads := [] }
    | .readA => s.updRun r.job.id fun x => { x with a := xyzMap2 F32.sub mean x.dark, phase := .waitOff, reads := [] }
    | .readB =>
      let b := xyzMap2 F32.sub mean r.dark
      let n := ((s.cfg.instType r.inst).map ftEmitters).getD 0
      let fails := decide (u8 r.payload 4 = 0) && !repeatsAgree r.a b && decide (r.failed = 0xFF)
      let r' := { r with
        rows := r.rows ++ [calRow r r.a b], reads := [], emitter := r.emitter + 1, phase := .waitA
        failed := if fails then r.emitter else r.failed }
      if u8 r.payload 4 = 1 ∨ r.emitter + 1 ≥ n then (s.updRun r.job.id fun _ => r').completeRun r'
      else s.updRun r.job.id fun _ => r'
    | _ => s

/-- The points of a set with a new point at temperature t (R192): an existing point within 32 is replaced, else the
point is inserted while there are fewer than 5, else it replaces the nearest, the lower one on a tie; of several within
32 the nearest, too, the lower one on a tie (log entry 252). The index is that of the point written. -/
def placePoint (n : Nat) (t : Int) (pt : Bytes) (pts : List Bytes) : List Bytes × Nat :=
  let temp := fun (b : Bytes) => iAt b 0 2
  let dist := fun b => (temp b - t).natAbs
  let nearest := (pts.map dist).foldl min (2 ^ 32)
  let i := (pts.findIdx? fun b => dist b = nearest).getD 0
  if nearest ≤ 32 ∨ pts.length ≥ 5 then (pts.set i (pt.take (pointSize n)), i)
  else
    let lower := pts.filter fun b => temp b < t
    (lower ++ [pt] ++ pts.filter fun b => ¬ temp b < t, lower.length)

/-- A run's accepted result comes into force in the set that it was made for (R192, R194, R195). -/
def State.applyRun (r : CalRun) (s : State) : State :=
  match Tab.find s.col.sets r.set with
  | none => s.updRun r.job.id fun x => { x with waiting := false, outcome := 3 }
  | some set =>
    let n := r.rows.length
    let t := r.temp.getD 0
    let pt := leInt 2 t ++ zeros 2 ++ r.rows.flatMap fun w => leBytes 4 w.x ++ leBytes 4 w.y ++ leBytes 4 w.flux
    let (pts, i) := placePoint n t pt (setPoints set n)
    let set' := set.take 6 ++ leBytes 1 pts.length ++ slice set 7 1 ++ pts.flatMap id
    let s := ({ s with col := { s.col with sets := Tab.put s.col.sets r.set set' } } : State).renewImage
    s.updRun r.job.id fun x => { x with waiting := false, applied := true, point := i }

/-- The press point of a canvas, or the cut (0xFF), applies the pending results and trim updates of the instances bound
to it (R194); the trim of an instance that a run holds waits (R190). -/
def State.applyCal (canvas : Nat) (s : State) : State :=
  let used := fun (inst : Nat) => (s.cfg.get .binding inst).any fun b => u8 b 9 = canvas
  let s := (s.col.runs.filter fun r => r.waiting && used r.inst).foldl (fun s r => s.applyRun r) s
  let take := fun (i : Nat) (x : Trim) =>
    if used i && (s.runOf i).isNone then (match x.next with
      | some (du, dv, g) => { x with du, dv, g, next := none }
      | none => x)
    else x
  { s with col := { s.col with trim := Tab.mapV s.col.trim take } }

/-- The cut of frame n names the first frame that uses the applied results, and raises CAL_APPLIED (R194). -/
def State.nameApplied (n : Nat) (s : State) : State :=
  (s.col.runs.filter CalRun.applied).foldl (fun s r =>
    (s.updRun r.job.id fun x => { x with applied := false, frame := n }).raise Ev.calApplied r.job.id n) s

/-! ## Sensors and trim (R189, R196-R201) -/

/-- Bus n. -/
def State.bus (s : State) (n : Nat) : I2c := Tab.getD s.col.buses n {}

/-- A bus changed. -/
def State.updBus (n : Nat) (f : I2c → I2c) (s : State) : State := { s with col := { s.col with buses := Tab.upd s.col.buses n {} f } }

/-- A run takes readings with its script. -/
def CalRun.reading (r : CalRun) : Bool := r.outcome = 4 && (r.phase = .readDark || r.phase = .readA || r.phase = .readB)

/-- The script of a run. -/
abbrev CalRun.script (r : CalRun) : Nat := u8 r.payload 5

/-- The calibration run that takes readings with a script. -/
def State.readingRun (s : State) (script : Nat) : Option CalRun := s.col.runs.find? fun r => r.reading && r.script = script

/-- The time at which a script is due. -/
def State.scriptDue (s : State) (script : Nat) : Nat := Tab.getD s.col.due script 0

/-- The script that a free bus runs next, and whether for a calibration run, whose readings come first; otherwise the
lowest of those that are due (R189). -/
def State.nextScript (s : State) (bus : Nat) : Option (Nat × Bool) :=
  match s.col.runs.find? fun r => r.reading && s.cfg.busOf r.script = bus with
  | some r => some (r.script, true)
  | none => ((s.cfg.all .script).find? fun e => u8 e.2 1 = bus && s.scriptDue e.1 ≤ s.now).map fun e => (e.1, false)

/-- Step j of a script on its bus (R188): bus, address and speed, then the bytes written, the length read, or the wait in
us. -/
def scriptStep (d : Bytes) (j : Nat) : Output :=
  let off := 52 + 8 * j
  let target := [u8 d 1, u8 d 2 % 128, u8 d 3]
  match u8 d off with
  | 1 => .bus "i2c write" (target ++ (slice d (off + 4) (u8 d (off + 1))).map BitVec.toNat)
  | 2 => .bus "i2c read" (target ++ [u8 d (off + 1)])
  | _ => .bus "i2c wait" (target ++ [u32 d (off + 4)])

/-- A script starts on its bus and performs its steps; a periodic run is due again after PERIOD_MS (R188, R189). -/
def State.startScript (script : Nat) (d : Bytes) (forRun : Bool) (s : State) : State :=
  let s := s.updBus (u8 d 1) fun b => { b with running := some script, forRun, since := s.now, startAt := s.tk.counter }
  let s := if forRun then s
    else { s with col := { s.col with due := Tab.put s.col.due script (s.scriptDue script + msT (u16 d 8)) } }
  (List.range (u8 d 5)).foldl (fun s j => s.drive (if u8 d 1 = 3 then 3 else 4) (scriptStep d j)) s

/-- SENSOR_SCRIPT_RUN: a script whose turn it is starts on its bus, which runs one at a time; a periodic one at its due
time. A standby member runs none (R189, R201), and none starts on a ball that its old owner has not released (R539). -/
def execSensorScriptRun (script : Nat) (s : State) : Outcome :=
  if script ≥ 64 then .next s
  else match s.cfg.get .script script with
    | none => .next s
    | some d =>
      let forRun := (s.readingRun script).isSome
      let t := if forRun then s else s.advanceNow (s.scriptDue script)
      if (s.bus (u8 d 1)).running.isSome ∨ (u8 d 1 = 3 ∧ s.ballHeld (ballIndex 35 28)) ∨ s.standbyMember ∨ t.nextScript (u8 d 1) ≠ some (script, forRun) then .next s
      else .next (t.startScript script d forRun)

/-- Raw channel c of a reading (R188). -/
def rawChannel (d read : Bytes) (c : Nat) : Nat :=
  let b := slice read (u8 d (10 + c)) (scriptWidth d)
  if (u8 d 6).testBit 1 then beNat b else leNat b

/-- The XYZ of a colour reading (R188). -/
def readingXyz (d read : Bytes) : Xyz :=
  let m := nineAt d 16
  let raw := fun c => F32.ofNat (rawChannel d read c)
  let row := fun i => (F32.add (F32.add (F32.mul (fget m i) (raw 0)) (F32.mul (fget m (i + 1)) (raw 1))) (F32.mul (fget m (i + 2)) (raw 2))).toBits
  (row 0, row 3, row 6)

/-- The temperature of a reading in units of 1/16 degree (R188). -/
def readingTemp (d read : Bytes) : Int :=
  let m := nineAt d 16
  let v := F32.mul (F32.add (F32.mul (fget m 0) (F32.ofNat (rawChannel d read 0))) (fget m 1)) (F32.ofNat 16)
  let half := if F32.lt v F32.zero then F32.neg (F32.ofRat 1 2) else F32.ofRat 1 2
  (F32.add v half).trunc (signed 16 (Config.freeWord 3).toNat)

/-- The targets of the frames from `first` to `last`. -/
def shownIn (first last : Nat) : List Shown → List Shown
  | [] => []
  | [e] => if e.frame ≤ last then [e] else []
  | e :: f :: rest => if e.frame ≤ last && first < f.frame then e :: shownIn first last (f :: rest) else shownIn first last (f :: rest)

/-- The one target of every frame whose show instant lies between two counter times, with enough intensity in each; none
where it changed (R196). -/
def State.steadyTarget (s : State) (x : Trim) (lo hi : Nat) : Option Shown :=
  let l := shownIn (s.cfg.frameFrom lo) (s.cfg.slotAt hi) x.shown
  l.getLast?.filter fun e => l.all fun f => f.bright && f.x = e.x && f.y = e.y && f.s = e.s

/-- The trim update of a measurement (R197, R198). -/
def trimUpdate (x : Trim) (eu ev : Int) (refY : F32) (ratio : Int) : Trim :=
  let (du0, dv0, g0) := x.next.getD (x.du, x.dv, x.g)
  let du := clampI (-10486) 10486 (du0 + clampI (-2097) 2097 (-(rdiv (eu * 128) 256)))
  let dv := clampI (-10486) 10486 (dv0 + clampI (-2097) 2097 (-(rdiv (ev * 128) 256)))
  let g := if F32.eq refY F32.zero then (g0 : Int) else clampI 0xe666 0x1199a ((g0 : Int) - rdiv (g0 * (ratio - 0x10000) * 128) (256 * 0x10000))
  let conv := decide (eu * eu + ev * ev ≤ 524 * 524)
  { x with
    next := some (du, dv, g.toNat), conv
    limit := !conv && (du.natAbs = 10486 || dv.natAbs = 10486)
    eu := clampI (-32767) 32767 eu, ev := clampI (-32767) 32767 ev
    updates := satInc x.updates, reads := [], first := none }

/-- A measurement of two readings against the target that stood while they were taken (R196-R199); TRIM_LIMIT is raised
when the limit is reached. The mean u'v' is that of the mean XYZ of the readings (log entry 251). -/
def State.trimMeasure (inst : Nat) (b : Bytes) (x : Trim) (e : Shown) (r1 r2 : Xyz) (s : State) : State :=
  let put := fun (x : Trim) (s : State) => { s with col := { s.col with trim := Tab.put s.col.trim inst x } }
  if !repeatsAgree r1 r2 then put { x with skipped := satInc x.skipped, reads := [], first := none } s
  else if x.frozen ∨ x.mute then put { x with reads := [], first := none } s
  else
    let h := (F32.ofRat 1 2).toBits
    let mean := xyzMap2 F32.mul (xyzMap2 F32.add r1 r2) (h, h, h)
    let m := xyzUv mean
    let t := toUv (F32.ofBits e.x) (F32.ofBits e.y)
    let q := fun (v : F32) => (F32.mul v (F32.ofNat 1048576)).nearest 0
    let refY := F32.ofBits (u32 b 12)
    let ratio := (F32.mul (F32.div (F32.ofBits mean.2.1) (F32.mul refY (F32.ofBits e.s))) (F32.ofNat 65536)).nearest 0x10000
    let x' := trimUpdate x (q m.1 - q t.1) (q m.2 - q t.2) refY ratio
    let s := put x' s
    if x'.limit && !x.limit then s.raise Ev.trimLimit inst 0 else s

/-- A colour reading, begun at counter time `began`, for the trim of one instance: two averages of four valid readings in a
row make a measurement (R196). -/
def State.trimReading (inst : Nat) (b : Bytes) (began : Nat) (v : Xyz) (s : State) : State :=
  let x := Tab.getD s.col.trim inst {}
  let start := if x.reads.isEmpty && x.first.isNone then began else x.since
  let put := fun (x : Trim) => { s with col := { s.col with trim := Tab.put s.col.trim inst x } }
  match s.steadyTarget x (start - msT 100) s.tk.counter, s.runOf inst with
  | some e, none =>
    let reads := x.reads ++ [v]
    if reads.length < 4 then put { x with reads, since := start }
    else match x.first with
      | none => put { x with reads := [], first := some (xyzMean reads), since := start }
      | some r1 => s.trimMeasure inst b { x with since := start } e r1 (xyzMean reads)
  | _, _ => put { x with reads := [], first := none }

/-- A reading of a script goes to the calibration run it was taken for, or else to the groups or trimmed instances that it
serves (R187, R189, R196). -/
def State.useReading (script : Nat) (d read : Bytes) (bus : I2c) (s : State) : State :=
  if bus.forRun then
    match s.readingRun script with
    | some r => s.runReading r (readingXyz d read)
    | none => s
  else if u8 d 4 = 1 then
    let v := readingTemp d read
    let temps : Tab Int := ((s.cfg.all .group).filter fun e => u8 e.2 3 = 1 && u8 e.2 4 = script).foldl
        (fun (t : Tab Int) (e : Nat × Bytes) => Tab.put t e.1 v) s.col.temps
    { s with col := { s.col with temps } }
  else
    ((s.cfg.all .binding).filter fun e => bdTrim e.2 && u8 e.2 8 = script).foldl
      (fun s e => s.trimReading e.1 e.2 bus.startAt (readingXyz d read)) s

/-- SENSOR_READING_DONE: the bus is free, and the reading is used; a member that has become standby drops it (R189, R196,
R201). -/
def execSensorReadingDone (script : Nat) (read : Bytes) (s : State) : Outcome :=
  if script ≥ 64 then .next s
  else match s.cfg.get .script script with
    | none => .next s
    | some d =>
      let bus := s.bus (u8 d 1)
      if bus.running ≠ some script then .next s
      else
        let s := s.updBus (u8 d 1) fun b => { b with running := none }
        .next (if s.standbyMember then s else s.useReading script d (padTo (scriptReads d) read) bus)

/-- The us that the wait steps of a script before a step take at least (R188). -/
def scriptWaits (d : Bytes) (step : Nat) : Nat :=
  ((List.range (min step (u8 d 5))).map fun j => if u8 d (52 + 8 * j) = 3 then u32 d (56 + 8 * j) else 0).foldl (· + ·) 0

/-- SENSOR_TRANSACTION_TIMEOUT (R189): 25 ms after the start of the transaction, or at once for a read that is not acknowledged, the reading is
discarded, counted and reported; a run that lost it ends. -/
def execSensorTransactionTimeout (failed : SensorFailure) (s : State) : Outcome :=
  if failed.script ≥ 64 then .next s
  else match s.cfg.get .script failed.script with
    | none => .next s
    | some d =>
      let bus := s.bus (u8 d 1)
      if bus.running ≠ some failed.script then .next s
      else
        let s := if failed.nack then s else s.advanceNow (bus.since + usT (max failed.began (scriptWaits d failed.step)) + msT 25)
        let s := (s.updBus (u8 d 1) fun b => { b with running := none, timeouts := satInc b.timeouts }).raise Ev.sensorFault failed.script 0
        match if bus.forRun then s.readingRun failed.script else none with
        | some r => .next (s.endRun r 2 Status.sensorTimeout (u8 d 1))
        | none => .next s

/-- TRIM_CONTROL (R199): with ALL no instance follows. -/
def trimControlOp : Op where
  code := 0x0608
  cls := .timed
  af := true
  layout := layout [1, 1, 1, 1, 2, 2, 4] (some (8, fun b => if (u8 b 1).testBit 0 then 0 else 4 * u32 b 8))
  body := .timed
    (fun r s => do
      let d := r.payload
      inRange (u8 d 0 ≤ 3) 0
      if u8 d 0 = 3 then inRange ((s.cfg.get .group (u8 d 2)).any fun g => u8 g 3 = 3) 2
      else if (u8 d 1).testBit 0 then .ok ()
      else eachIdx (records d 12 4 (u32 d 8)) 0 fun i e =>
        need ((s.cfg.get .binding (leNat e)).any fun b => bdTrim b) Status.badReference (12 + 4 * i))
    (fun r _ s =>
      let d := r.payload
      if u8 d 0 = 3 then { s with col := { s.col with temps := Tab.put s.col.temps (u8 d 2) (iAt d 4 2) } }
      else
        let l := if (u8 d 1).testBit 0 then ((s.cfg.all .binding).filter fun e => bdTrim e.2).map Prod.fst
          else (records d 12 4 (u32 d 8)).map leNat
        { s with col := { s.col with trim := l.foldl (fun t i => Tab.upd t i {} fun x =>
            match u8 d 0 with
            | 0 => { x with frozen := false }
            | 1 => { x with frozen := true, mute := true, next := none, reads := [], first := none }
            | _ => { x with
                du := 0, dv := 0, g := 0x10000, mute := true, next := none, reads := [], first := none, conv := false, limit := false }) s.col.trim } })

/-- The 32-byte record of a trimmed instance as the most recent cut found it; disabled where no cut has been made with it
(R200; log entry 221). -/
def State.trimRow (s : State) (inst : Nat) : Bytes :=
  let cut := Tab.find s.col.trimCut inst
  let x := cut.getD {}
  let st := if cut.isNone then 0 else if x.frozen then 2 else if x.limit then 4 else if x.conv then 3 else 1
  leBytes 4 inst ++ leBytes 1 st ++ zeros 3 ++ leInt 4 x.du ++ leInt 4 x.dv ++ leBytes 4 x.g ++ leInt 2 x.eu ++ leInt 2 x.ev ++
  leBytes 4 x.updates ++ leBytes 4 x.skipped

/-- TRIM_STATUS (R200); the payload is FIRST (4 bytes) and COUNT (4 bytes) (log entry 21). -/
def trimStatusOp : Op where
  code := 0x0609
  cls := .immediate
  layout := fixedLayout [4, 4]
  body := .run fun r s => do
    let first := u32 r.payload 0
    let count := u32 r.payload 4
    inRange (1 ≤ count ∧ count ≤ 4096) 4
    let l := (s.cfg.all .binding).filter fun e => bdTrim e.2 && first ≤ e.1 && e.1 < first + count
    .ok (s, .ok (l.flatMap fun e => s.trimRow e.1))

/-- The untrimmed target of an instance at the cut of frame n (R196). -/
def State.shownNow (s : State) (n inst : Nat) (t : Bytes) : Shown :=
  let bright := decide (0x10000 ≤ (s.outOfKind inst t kIntensity).getD 0)
  match s.target inst t with
  | some x => { frame := n, x := x.x.toBits, y := x.y.toBits, s := x.s.toBits, bright }
  | none => { frame := n, x := 0, y := 0, s := 0, bright := false }

/-- A target joins those of a trim where it differs from the last; the last 16 changes are kept. -/
def Trim.show (e : Shown) (x : Trim) : Trim :=
  if x.shown.getLast?.any fun f => { f with frame := e.frame } = e then x
  else { x with shown := (x.shown ++ [e]).drop (x.shown.length + 1 - 16) }

/-- What the cut of frame n freezes for the pipeline (R187, R190, R194, R196): pending results bound to the cut, group
temperatures, run drives, and the untrimmed targets of trimmed instances. -/
def State.cutColour (n : Nat) (peer : Option (Tab (List Nat))) (s : State) : State :=
  let s := (s.applyCal 0xFF).nameApplied n
  let s := { s with col := { s.col with
    runs := s.col.runs.map (CalRun.atCut s n)
    held := (s.cfg.all .group).map fun (e : Nat × Bytes) => (e.1, s.groupTemp e.1) } }
  let s := s.freezeTests peer
  let trimmed := (s.cfg.all .binding).filter fun e => bdTrim e.2
  let trim := trimmed.foldl (fun (t : Tab Trim) e => match s.cfg.instType e.1 with
    | some d => Tab.upd t e.1 {} (Trim.show (s.shownNow n e.1 d))
    | none => t) s.col.trim
  { s with col := { s.col with trim } }

/-- The trims as the cut leaves them, for TRIM_STATUS (R200). -/
def State.keepTrims (s : State) : State :=
  let trimmed := (s.cfg.all .binding).filter fun e => bdTrim e.2
  { s with col := { s.col with trimCut := trimmed.map fun e => (e.1, Tab.getD s.col.trim e.1 {}) } }

/-- A new frame begins: measurements count again (R199). -/
def State.unmute (s : State) : State :=
  { s with col := { s.col with trim := Tab.mapV s.col.trim fun _ x => { x with mute := false } } }

/-- The scripts at a press: a changed or new script is due at once, and a bus whose script changed is free. -/
def State.pressScripts (c c' : Cfg) (s : State) : State :=
  let same := fun (n : Nat) => c.get .script n = c'.get .script n
  { s with col := { s.col with
      due := (c'.all .script).map fun (e : Nat × Bytes) => (e.1, if same e.1 then s.scriptDue e.1 else s.now)
      buses := Tab.mapV s.col.buses fun _ (b : I2c) => if b.running.all same then b else { b with running := none } } }

/-- The pipeline's state at a press (R195): only loaded or new sets are replaced; a pending result for a set that goes or
is replaced, and a run whose instance loses its binding, are superseded; trim stays where SET, GROUP and SCRIPT are
unchanged. -/
def State.pressColour (c c' : Cfg) (s : State) : State :=
  let replaced := fun (n : Nat) => c'.loaded.contains n || !c'.has .calSet n
  let unbound := fun (inst : Nat) => !(c'.get .binding inst).any fun b => u16 b 4 ≠ 0xFFFF
  let s := (s.col.runs.filter fun r => r.waiting && (replaced r.set || unbound r.inst)).foldl (fun s r =>
    s.updRun r.job.id fun x => { x with waiting := false, outcome := 3 }) s
  let s := (s.col.runs.filter fun r => r.outcome = 4 && unbound r.inst).foldl (fun s r => s.endRun r 3 Status.ok 0) s
  let s := s.pressScripts c c'
  { s with col := { s.col with
      sets := (c'.all .calSet).map fun (e : Nat × Bytes) => (e.1, if replaced e.1 then e.2 else Tab.getD s.col.sets e.1 e.2)
      trim := s.col.trim.filter fun (e : Nat × Trim) => match c.get .binding e.1, c'.get .binding e.1 with
        | some b, some b' => u16 b 4 = u16 b' 4 && u8 b 6 = u8 b' 6 && u8 b 8 = u8 b' 8
        | _, _ => false
      temps := s.col.temps.filter fun (e : Nat × Int) => c'.get .group e.1 = c.get .group e.1 } }

/-! ## Meanings -/

def execColourSpace (r : Req) (s : State) : Outcome := hostCommand colourSpaceOp r s
def execMixStrategy (r : Req) (s : State) : Outcome := hostCommand mixStrategyOp r s
def execDimCurve (r : Req) (s : State) : Outcome := hostCommand dimCurveOp r s
def execCalsetLoad (r : Req) (s : State) : Outcome := hostCommand calsetLoadOp r s
def execSensorScript (r : Req) (s : State) : Outcome := hostCommand sensorScriptOp r s
def execCalRun (r : Req) (s : State) : Outcome := hostCommand calRunOp r s
def execCalResult (r : Req) (s : State) : Outcome := hostCommand calResultOp r s
def execTrimControl (r : Req) (s : State) : Outcome := hostCommand trimControlOp r s
def execTrimStatus (r : Req) (s : State) : Outcome := hostCommand trimStatusOp r s

end Sys2Proof.Machine
end

