-- ==== Sys2Proof/Machine/Canvas.lean ====
section
/-! DEFINITION. Canvases, layers, palettes, buffers, video receive, pixel maps and the frame witness (R203-R240). -/

namespace Sys2Proof.Machine

/-! ## Staged records -/

/-- CANVAS_DEFINE (R205). -/
def canvasDefineOp : Op where
  code := 0x0701
  cls := .staged
  layout := fixedLayout [1, 1, 2, 2, 2, 2, 2, 4, 4, 4, 4, 4]
  body := .staged fun r c _ => do
    let d := r.payload
    inRange (u8 d 0 ≤ 15) 0
    inRange (1 ≤ cvWidth d ∧ cvWidth d ≤ 16384) 2
    inRange (1 ≤ cvHeight d ∧ cvHeight d ≤ 16384) 4
    inRange (2 ≤ cvTotal d) 8
    inRange (1 ≤ cvActive d ∧ cvActive d < cvTotal d) 10
    .ok (c.put .canvas (u8 d 0) d)

/-- LAYER_DEFINE (R212). -/
def layerDefineOp : Op where
  code := 0x0702
  cls := .staged
  layout := fixedLayout [1, 1, 1, 1, 2, 2, 4, 1, 1, 1, 1, 4, 4, 4, 4]
  body := .staged fun r c s => do
    let d := r.payload
    let stream := c.get .video (lyStream d)
    inRange (u8 d 0 ≤ 31) 0
    need (c.has .canvas (lyCanvas d)) Status.badReference 1
    inRange (u8 d 2 ≤ 1) 2
    need (!(lyVideo d && s.fuses.te8220)) Status.unitAbsent 2
    inRange (lyFormat d ≤ 9 ∧ (lyFormat d = 9) = (u8 d 2 = 1)) 3
    inRange (1 ≤ lyWidth d ∧ lyWidth d ≤ 16384 ∧ (!lyVideo d || stream.all fun v => viWidth v = lyWidth d)) 4
    inRange (1 ≤ lyHeight d ∧ lyHeight d ≤ 16384 ∧ (!lyVideo d || stream.all fun v => viHeight v = lyHeight d)) 6
    inRange (if lyVideo d then lyStride d = 0 else lyStride d % 8 = 0 ∧ lyRow d ≤ lyStride d) 8
    inRange (!lyVideo d || lyStream d ≤ 7) 12
    need (!lyVideo d || stream.isSome) Status.badReference 12
    need (!bit (lyDecode d) 7 || c.has .curve (lyDecode d % 32)) Status.badReference 13
    .ok (c.put .layer (u8 d 0) d)

/-- The pixels of a destination of pixel maps: an Ixnik pixel flow or a scan port (R231, R333, R343). -/
def Cfg.destPixels (c : Cfg) (isPort : Bool) (n : Nat) : Option Nat :=
  if isPort then (c.get .scan n).map fun d => scPixels d
  else match c.get .ixTx n with
    | some d => if ixFormat d = 1 then some (ixTotal d) else none
    | none => none

/-- PIXMAP_LOAD (R231). -/
def pixmapLoadOp : Op where
  code := 0x0703
  cls := .staged
  layout := layout [1, 1, 1, 1, 4, 1, 3, 4, 4, 4] (some (20, fun b => 16 * u32 b 20))
  body := .staged fun r c s => do
    let d := r.payload
    inRange (u8 d 0 ≤ 1) 0
    inRange (u8 d 1 ≤ 2) 1
    inRange (u8 d 1 ≠ 2 ∨ (1 ≤ u8 d 2 ∧ u8 d 2 ≤ 16)) 2
    inRange (u8 d 1 ≠ 2 ∨ (1 ≤ u8 d 3 ∧ u8 d 3 ≤ 16 ∧ u8 d 2 * u8 d 3 ≤ 256)) 3
    if u8 d 0 = 1 then unitField 16 s.lanes (u32 d 4) 4 else inRange (u32 d 4 ≤ 4095) 4
    need (c.has .canvas (u8 d 8)) Status.badReference 8
    let num := pixNum (u8 d 0 = 1) (u32 d 4)
    let others := ((c.all .pixmap).filter fun e => e.1 ≠ num).map fun e => u32 e.2 12
    inRange (others.foldl (· + ·) 0 + u32 d 12 ≤ 1048576) 12
    inRange (u32 d 16 ≤ u32 d 12) 16
    inRange (u32 d 16 + u32 d 20 ≤ u32 d 12) 20
    let segs := records d 24 16 (u32 d 20)
    eachIdx segs 0 fun i e => inRange (1 ≤ u16 e 12) (24 + 16 * i + 12)
    let old := if (c.get .pixmap num).any fun x => u32 x 12 ≠ u32 d 12 then [] else (c.all .pixseg).filter fun g =>
      g.1 / 2 ^ 24 = num && !(u32 d 16 ≤ g.1 % 2 ^ 24 && g.1 % 2 ^ 24 < u32 d 16 + u32 d 20)
    let rest := (c.all .pixseg).filter fun g => g.1 / 2 ^ 24 ≠ num && g.1 / 2 ^ 24 < 2 ^ 16
    let pixels := ((old ++ rest).map Prod.snd ++ segs).map fun g => u16 g 12
    inRange (u8 d 0 = 1 || pixels.foldl (· + ·) 0 ≤ s.networkPixels) 20
    let c := match c.get .pixmap num with
      | some old => if u32 old 12 = u32 d 12 then c else c.delIf .pixseg fun n _ => n / 2 ^ 24 = num
      | none => c
    foldIdx segs (u32 d 16) (c.put .pixmap num (d.take 24)) fun i c e => .ok (c.put .pixseg (num * 2 ^ 24 + i) e)

/-- The sum of pixel rates of records as a fraction, each WIDTH × HEIGHT × N / D (R226). -/
def pixelRate (l : List Bytes) : Nat × Nat :=
  l.foldl (fun q d => (q.1 * viRateD d + viWidth d * viHeight d * viRateN d * q.2, q.2 * viRateD d)) (0, 1)

/-- VIDEO_RX_DEFINE (R225, R226). -/
def videoRxDefineOp : Op where
  code := 0x0704
  cls := .staged
  layout := fixedLayout [1, 1, 1, 1, 4, 4, 2, 1, 1, 2, 2, 2, 2, 4, 4]
  body := .staged fun r c s => do
    let d := r.payload
    inRange (u8 d 0 ≤ 7) 0
    need (!s.fuses.te8220) Status.unitAbsent 0
    unitField 16 s.lanes (u8 d 1) 1
    inRange (u8 d 2 ≤ 1) 2
    inRange (u8 d 3 ≤ 1) 3
    inRange (96 ≤ u8 d 14 ∧ u8 d 14 ≤ 127) 14
    inRange (u8 d 15 ≤ 23 ∨ (u8 d 15 = 0xFF ∧ viWidth d ≤ 2048)) 15
    inRange (16 ≤ viWidth d ∧ viWidth d ≤ 4096 ∧ viWidth d % 2 = 0) 16
    inRange (16 ≤ viHeight d ∧ viHeight d ≤ 2160) 18
    inRange (1 ≤ viRateN d ∧ 1 ≤ viRateD d ∧ viRateN d ≤ 120 * viRateD d) 20
    inRange (viWidth d * viHeight d * viRateN d ≤ 530841600 * viRateD d) 20
    let total := pixelRate (d :: ((c.all .video).filter fun e => e.1 ≠ u8 d 0).map Prod.snd)
    inRange (total.1 ≤ 1990656000 * total.2) 20
    inRange (1000000 ≤ u32 d 24 ∧ u32 d 24 ≤ 100000000) 24
    let c := c.put .video (u8 d 0) d
    inRange ((c.laneGroups (u8 d 1)).length ≤ 1024) 4
    .ok c

/-- The object of a witness region: its width and height, or its number of pixels or slots as a width (R233). -/
def Cfg.witnessObject (c : Cfg) (kind object : Nat) : Option (Nat × Nat) :=
  let n := object % 2 ^ 24
  match kind, object / 2 ^ 24 with
  | 0, _ => (c.get .canvas object).map fun d => (cvWidth d, cvHeight d)
  | 1, 0 => (c.destPixels false n).map fun w => (w, 0)
  | 1, 1 => (c.destPixels true n).map fun w => (w, 0)
  | 2, 1 => (c.universeFlow n).map fun e => (saSlots e.2, 0)
  | 2, 2 => (c.get .dmx n).map fun d => (dxSlots d, 0)
  | _, _ => none

/-- The object of a window is on a scan port or DMX port that this variant does not have (R6). -/
def State.witnessAbsent (s : State) (kind object : Nat) : Bool :=
  let n := object % 2 ^ 24
  match kind, object / 2 ^ 24 with
  | 1, 1 => s.lanes ≤ n && n < 16
  | 2, 2 => s.dmxPorts ≤ n && n < 32
  | _, _ => false

/-- WITNESS_DEFINE (R233). -/
def witnessDefineOp : Op where
  code := 0x0705
  cls := .staged
  layout := fixedLayout [1, 1, 1, 1, 4, 4, 4, 4, 4, 4, 4]
  body := .staged fun r c s => do
    let d := r.payload
    let kind := u8 d 1
    inRange (u8 d 0 ≤ 63) 0
    inRange (kind ≤ 2) 1
    inRange (u8 d 2 ≤ 2) 2
    need (!s.witnessAbsent kind (u32 d 4)) Status.unitAbsent 4
    match c.witnessObject kind (u32 d 4) with
    | none => .error ⟨Status.badReference, 4⟩
    | some (w, h) =>
      let first := if kind = 2 then 1 else 0
      inRange (first ≤ u32 d 8 ∧ u32 d 8 < w + first) 8
      inRange (kind ≠ 0 ∨ u32 d 12 < h) 12
      inRange (u32 d 8 + u32 d 16 ≤ w + first) 16
      inRange (kind ≠ 0 ∨ u32 d 12 + u32 d 20 ≤ h) 20
      .ok (c.put .witness (u8 d 0) d)

/-! ## Buffers (R218, R219) -/

/-- BUFFER_REGISTER (R218); which free id a buffer gets is not stated (log entry 3). -/
def bufferRegisterOp : Op where
  code := 0x0706
  cls := .immediate
  layout := fixedLayout [8, 4, 4]
  body := .run fun r s => do
    let d := r.payload
    inRange (u64 d 0 % 256 = 0) 0
    inRange (256 ≤ u32 d 8 ∧ u32 d 8 ≤ 2 ^ 30) 8
    let free := (List.range 4096).filter fun i => !Tab.has s.buf i
    inRange (!free.isEmpty) 0
    match s.session r.session with
    | none => .error ⟨Status.badSession, 0⟩
    | some (_, x) =>
      inRange (x.source = .pcie) 0
      let (w, s) := s.draw
      let id := free.getD (w.toNat % free.length) 0
      .ok ({ s with buf := Tab.put s.buf id { address := u64 d 0, size := u32 d 8, owner := r.session } }, .ok (leBytes 4 id))

/-- BUFFER_RELEASE (R219); its payload is the buffer id in 4 bytes. -/
def bufferReleaseOp : Op where
  code := 0x0707
  cls := .immediate
  layout := fixedLayout [4]
  body := .run fun r s => do
    let id := u32 r.payload 0
    need (Tab.has s.buf id) Status.badReference 0
    if s.bufInUse id then
      let (j, s) := s.takeJobId 0x0707 r.session r.tag
      let pend := fun (b : Buffer) => { b with release := true, jobs := b.jobs ++ [j] }
      .ok ({ s with buf := Tab.upd s.buf id { address := 0, size := 0, owner := 0 } pend },
        .done { status := Status.acceptedDeferred, payload := leBytes 4 j.id })
    else .ok (s.freeBuffer id, .ok)

/-! ## Layer and palette state (R211-R217) -/

/-- A layer's record and state, where it is in force. -/
def State.layerOf (s : State) (n : Nat) : Option (Bytes × Layer) :=
  match s.cfg.get .layer n with
  | some d => some (d, Tab.getD s.layer n {})
  | none => none

/-- A layer's state changed. -/
def State.updLayer (n : Nat) (f : Layer → Layer) (s : State) : State := { s with layer := Tab.upd s.layer n {} f }

/-- A canvas' state changed. -/
def State.updCanvas (n : Nat) (f : Canvas → Canvas) (s : State) : State := { s with canvas := Tab.upd s.canvas n {} f }

/-- The initial register images of a layer (R211, R212); reserved bits read 0. -/
def LayerRegs.ofDef (d : Bytes) : LayerRegs :=
  { ctrl := u32 d 16 &&& 0x1F07, pos := u32 d 20, opacity := u32 d 24 % 2 ^ 21, buffer := u32 d 28 &&& 0x80000FFF }

/-- The entries of a layer's palette (R215). -/
def palSize (format : Nat) : Nat := if format ≤ 3 then 256 else if format = 4 then 65536 else 0

/-- A word of a palette bank; an entry that was never written reads 0 (log entry 5). -/
abbrev palWord (bank : Tab Nat) (e k : Nat) : Nat := Tab.getD bank (4 * e + k) 0

/-- A word of the shadow bank as the host reads it: during the copy, an entry not written since the swap shows the value
in force (R217). -/
def Layer.shadowWord (x : Layer) (e k : Nat) : Nat :=
  if x.copying && !x.written.contains e then palWord x.pal e k else palWord x.palShadow e k

/-- A write of a word of the shadow bank (R216, R217): during the copy, the entry then counts as written, with the words
that it showed. -/
def Layer.writePal (x : Layer) (e k v : Nat) : Layer :=
  let base := if x.copying && !x.written.contains e then
      (List.range 4).foldl (fun t j => Tab.put t (4 * e + j) (palWord x.pal e j)) x.palShadow
    else x.palShadow
  { x with palShadow := Tab.put base (4 * e + k) (v % 2 ^ 20)
           written := if x.copying && !x.written.contains e then x.written ++ [e] else x.written }

/-- The copy of the bank in force into the shadow bank is complete (R217). -/
def Layer.copied (x : Layer) : Layer :=
  if x.copying then
    { x with
      palShadow := x.pal.filter (fun (e : Nat × Nat) => !x.written.contains (e.1 / 4)) ++
        x.palShadow.filter (fun (e : Nat × Nat) => x.written.contains (e.1 / 4)) |>.foldl (fun t e => Tab.put t e.1 e.2) []
      copying := false, written := [] }
  else x

/-- The banks swap, and the copy starts (R217). -/
def Layer.swap (x : Layer) : Layer :=
  let x := x.copied
  { x with pal := x.palShadow, palShadow := x.pal, copying := true, written := [] }

/-! ## The press (R207-R211, R220) -/

/-- A BUFFER value cannot take force: unregistered, with a release pending, or too small (R220). -/
def State.badBuffer (s : State) (d : Bytes) (v : Nat) : Bool :=
  !bit v 31 && !lyVideo d && (match Tab.find s.buf (v % 4096) with
    | none => true
    | some b => b.release || b.size < lyStride d * (lyHeight d - 1) + lyRow d)

/-- The shadow values of a layer take force; a bad buffer keeps the value before, sets BUFFER_BAD and raises LAYER_FAULT
(R207, R220). -/
def State.pressLayer (n : Nat) (d : Bytes) (s : State) : State :=
  let x := Tab.getD s.layer n {}
  let bad := s.badBuffer d x.shadow.buffer
  let force := if bad then { x.shadow with buffer := x.force.buffer } else x.shadow
  let x := { x with force, error := if bad then x.error ||| 1 else x.error }
  let s := s.updLayer n fun _ => if palSize (lyFormat d) = 0 then x else x.swap
  if bad then s.raise Ev.layerFault n 0 else s

/-- The layers of a canvas in ascending number. -/
def Cfg.canvasLayers (c : Cfg) (canvas : Nat) : Tab Bytes := (c.all .layer).filter fun e => lyCanvas e.2 = canvas

/-- The press point of period k in 2^-16 ns (R206). -/
def Cfg.pressPoint (c : Cfg) (d : Bytes) (k : Nat) : Nat :=
  c.instantN (k + 1) - (cvTotal d - cvActive d) * (c.instantN (k + 1) - c.instantN k) / cvTotal d

/-- A fetch of a layer fails or is not complete at the cut: the copy is discarded, FETCH_LATE counts, and
LAYER_FETCH_LATE is raised at most once in 1 s (R222). -/
def State.fetchLate (n : Nat) (fault : Bool) (s : State) : State :=
  let before := s.bufsInUse
  let x := Tab.getD s.layer n {}
  let quiet := match x.lateAt with
    | some t => decide (s.now < t + secT 1)
    | none => false
  let s := s.updLayer n fun x => { x with
    fetching := none, fetchLate := satInc x.fetchLate, error := if fault then x.error ||| 2 else x.error
    lateAt := if quiet then x.lateAt else some s.now }
  (if quiet then s else s.raise Ev.layerFetchLate n 0).retire before

/-- The buffer layers of a canvas are fetched for a frame, in ascending layer number (R221); with the link down the
fetch fails (R222). A buffer that only a fetch cut short kept in use retires (R219). -/
def State.startFetches (canvas frame : Nat) (s : State) : State :=
  let before := s.bufsInUse
  ((s.cfg.canvasLayers canvas).foldl (fun s e =>
    let v := (Tab.getD s.layer e.1 {}).force.buffer
    if lyVideo e.2 || bit v 31 then s
    else
      let s := s.updLayer e.1 fun x => { x with fetching := some { buffer := v % 4096, frame } }
      if s.pcie.canDma then s else s.fetchLate e.1 true) s).retire before

/-- The press set of a canvas takes force in one handshake for a frame (R207). -/
def State.pressSet (canvas frame : Nat) (s : State) : State :=
  let before := s.bufsInUse
  let s := s.updCanvas canvas fun x => { x with
    commit := false, bg := x.bgShadow, pressFrame := frame, pressCount := satInc x.pressCount }
  let s := (s.cfg.canvasLayers canvas).foldl (fun s e => s.pressLayer e.1 e.2) s
  let s := if (s.cfg.canvasLayers canvas).any fun e => palSize (lyFormat e.2) ≠ 0 then s.renewImage else s
  (s.raiseFrame Ev.canvasPressed canvas 0 frame).retire before

/-- PRESS_POINT: the next press point of a canvas in force (R194, R206-R210, R221). On a member without the duty the
press set waits until it becomes active (R210). -/
def execPressPoint (canvas : Nat) (s : State) : Outcome :=
  if canvas ≥ 16 then .next s
  else match s.cfg.get .canvas canvas with
    | none => .next s
    | some d =>
      let x := Tab.getD s.canvas canvas {}
      let slot := s.cfg.slotAt s.tk.counter
      let k := match x.period with
        | some p => if slot ≤ p then p + 1 else slot
        | none => slot
      let s := (s.advanceTo (s.cfg.pressPoint d k)).updCanvas canvas fun x => { x with period := some k }
      let frame := k + 1 + s.cfg.depth
      let s := if x.commit && !s.standbyMember then s.pressSet canvas frame else s
      .next ((s.applyCal canvas).startFetches canvas frame)

/-- PALETTE_COPY_DONE (R217). -/
def execPaletteCopyDone (layer : Nat) (s : State) : Outcome :=
  if layer ≥ 32 then .next s
  else .next (if Tab.has s.layer layer then s.updLayer layer Layer.copied else s)

/-- BUFFER_FETCH_COMPLETE: the fetched copy is complete (R221). -/
def execBufferFetchComplete (layer : Nat) (data : Bytes) (s : State) : Outcome :=
  if layer ≥ 32 then .next s
  else match s.layerOf layer with
    | none => .next s
    | some (d, x) =>
      match x.fetching with
      | none => .next s
      | some f =>
        let before := s.bufsInUse
        .next ((s.updLayer layer fun x => { x with
          copy := some (padTo (lyFetch d) data), fetchFrame := f.frame % 2 ^ 32, fetching := none }).retire before)

/-- Every fetch under way fails: the link is lost, or bus mastering ends (R222, R512). -/
def State.failFetches (s : State) : State :=
  ((s.layer.filter fun (e : Nat × Layer) => e.2.fetching.isSome).map Prod.fst).foldl (fun s n => s.fetchLate n true) s

/-- The cut of frame n: a fetch for it that is not complete is late (R222). -/
def State.cutFetches (n : Nat) (s : State) : State :=
  ((s.layer.filter fun (e : Nat × Layer) => match e.2.fetching with
    | some f => f.frame ≤ n
    | none => false).map Prod.fst).foldl (fun s l => s.fetchLate l false) s

/-- Canvases, layers and their blocks at the press of a configuration (R206, R211): an unchanged definition keeps its state,
but a change of the show slots starts its raster again; any other takes its initial values. -/
def State.pressCanvases (c c' : Cfg) (s : State) : State :=
  let before := s.bufsInUse
  let canvas := (c'.all .canvas).map fun e =>
    if c.get .canvas e.1 = some e.2 then
      let x := Tab.getD s.canvas e.1 {}
      (e.1, if c.get .frame 0 = c'.get .frame 0 then x else { x with period := none })
    else
      let bg := (u32 e.2 16 % 2 ^ 20, u32 e.2 20 % 2 ^ 20, u32 e.2 24 % 2 ^ 20)
      (e.1, ({ bg, bgShadow := bg } : Canvas))
  let layer := (c'.all .layer).map fun e =>
    if c.get .layer e.1 = some e.2 then (e.1, Tab.getD s.layer e.1 {})
    else
      let regs := LayerRegs.ofDef e.2
      let bad := s.badBuffer e.2 regs.buffer
      (e.1, ({ force := if bad then { regs with buffer := 0x80000000 } else regs, shadow := regs
               error := if bad then 1 else 0 } : Layer))
  let faulty := ((c'.all .layer).filter fun e => c.get .layer e.1 ≠ some e.2 && s.badBuffer e.2 (LayerRegs.ofDef e.2).buffer)
  let s := { s with canvas, layer }
  (faulty.foldl (fun s e => s.raise Ev.layerFault e.1 0) s).retire before

/-! ## Video receive (R226-R230) -/

/-- The nanoseconds of the latest time not later than a counter time whose 90 kHz count is a timestamp (R228). -/
def mediaTime (cutNs rtp : Nat) : Option Nat :=
  let top := cutNs * 90000 / 1000000000
  let back := (top + 2 ^ 32 - rtp % 2 ^ 32) % 2 ^ 32
  if back > top then none
  else some (min cutNs (ceilDiv ((top - back + 1) * 1000000000) 90000 - 1))

/-- A frame of a stream is complete: every pixel has arrived. -/
def VideoFrame.complete (f : VideoFrame) (d : Bytes) : Bool := f.pixels.length ≥ viWidth d * viHeight d

/-- The stream period in 2^-16 ns. -/
def viPeriod (d : Bytes) : Nat := secT 1 * viRateD d / viRateN d

/-- A packet of another SSRC or payload type is dropped (R226, R230). -/
def Video.refuses (v : Video) (d : Bytes) (p : VideoPacket) : Bool := p.payloadType ≠ u8 d 14 || v.ssrc.any (· ≠ p.ssrc)

/-- What a packet brings to its stream, with whether it completes a frame (R226, R228). At most three frames are held
(R204). -/
def Video.take (v : Video) (d : Bytes) (p : VideoPacket) (now : Nat) : Video :=
  let old := (v.frames.find? fun f => f.rtp = p.rtp % 2 ^ 32).getD { rtp := p.rtp % 2 ^ 32 }
  let here := p.pixels.filter fun q => q.1 < viWidth d * viHeight d
  let f := { old with pixels := here.foldl (fun t q => Tab.put t q.1 q.2) old.pixels }
  let frames := (v.frames.filter fun x => x.rtp ≠ f.rtp) ++ [f]
  let v := { v with ssrc := some p.ssrc, frames := frames.drop (frames.length - 3) }
  if f.complete d && !old.complete d then { v with complete := satInc v.complete, since := now, lost := false } else v

/-- The unit takes part in video receive: a node does not (R37). -/
def State.takesVideo (s : State) : Bool := s.role ≠ 3

/-- VIDEO_PACKET_RX (R37, R226, R228): a packet that the stream refuses counts for the stream; the MAC counts one that finds
its FIFO full as well (R315). -/
def execVideoPacketRx (stream : Nat) (p : VideoPacket) (s : State) : Outcome :=
  if !s.takesVideo then .next s
  else match s.cfg.get .video stream with
    | none => .next s
    | some d =>
      let v := Tab.getD s.video stream {}
      let put := fun (v : Video) (s : State) => { s with video := Tab.put s.video stream v }
      let lost := fun (s : State) => put { v with dropped := satInc v.dropped } s
      .next (if !p.rx.room then lost (s.receive (u8 d 1) p.rx fun s => s)
        else s.receive (u8 d 1) p.rx fun s => if v.refuses d p then lost s else put (v.take d p s.now) s)

/-- The frame that a stream selects at a cut (R228): the most recent whose media time lies SELECT_NS before it. -/
def selectFrame (d : Bytes) (cutNs : Nat) (l : List VideoFrame) : Option VideoFrame :=
  (l.foldl (fun (best : Option (Nat × VideoFrame)) f =>
    match mediaTime cutNs f.rtp with
    | none => best
    | some t =>
      if t + u32 d 24 > cutNs then best
      else match best with
        | some (u, _) => if t ≥ u then some (t, f) else best
        | none => some (t, f)) none).map Prod.snd

/-- The cut freezes the frame of a stream (R228); a standby member takes the timestamp of the active member, and raises
VIDEO_DIVERGE where it does not hold that frame complete. -/
def State.cutStream (cutNs : Nat) (peer : Option (List (Nat × Nat))) (stream : Nat) (d : Bytes) (s : State) : State :=
  let v := Tab.getD s.video stream {}
  let put := fun (v : Video) (s : State) => { s with video := Tab.put s.video stream v }
  let s := match peer with
    | some l =>
      match l.find? fun e => e.1 = stream with
      | none => s
      | some (_, rtp) =>
        match v.frames.find? fun f => f.rtp = rtp && f.complete d with
        | some f => put { v with frozen := some f, rtp } s
        | none =>
          if v.frozen.any fun f => f.rtp = rtp then s
          else (put { v with diverge := satInc v.diverge } s).raise Ev.videoDiverge stream 0
    | none =>
      match selectFrame d cutNs v.frames with
      | none => s
      | some f =>
        if f.complete d then put { v with frozen := some f, rtp := f.rtp } s
        else put { v with incomplete := satInc v.incomplete, rtp := f.rtp } s
  let v := Tab.getD s.video stream {}
  if !v.lost && s.now ≥ v.since + 4 * viPeriod d then (put { v with lost := true } s).raise Ev.videoLost stream 0
  else put v s

/-- The cut freezes every stream, and marks the layers whose stream never had a frame (R228, R239 VIDEO_MISSING). -/
def State.cutVideo (cutNs : Nat) (peer : Option (List (Nat × Nat))) (s : State) : State :=
  let s := if s.takesVideo then (s.cfg.all .video).foldl (fun s e => s.cutStream cutNs peer e.1 e.2) s else s
  (s.cfg.all .layer).foldl (fun s e =>
    if lyVideo e.2 && (Tab.getD s.video (lyStream e.2) {}).frozen.isNone then s.updLayer e.1 fun x => { x with error := x.error ||| 4 }
    else s) s

/-- Streams at the press of a configuration: an unchanged record keeps its state, any other is joined anew (R226). -/
def State.pressVideo (c c' : Cfg) (s : State) : State :=
  { s with video := (c'.all .video).map fun (e : Nat × Bytes) =>
      (e.1, if c.get .video e.1 = some e.2 then Tab.getD s.video e.1 {} else ({ since := s.now } : Video)) }

/-- The state code of a stream (R230). -/
def State.videoState (s : State) (n : Nat) : Nat :=
  if !s.cfg.has .video n then 0
  else
    let v := Tab.getD s.video n {}
    if v.lost then 3 else if v.complete = 0 then 1 else 2

/-- VIDEO_RX_STATUS (R230); its payload is FIRST and COUNT in 4 bytes each, of streams 0-7. -/
def videoRxStatusOp : Op where
  code := 0x0708
  cls := .immediate
  layout := fixedLayout [4, 4]
  body := .run fun r s => do
    let first := u32 r.payload 0
    let count := u32 r.payload 4
    inRange (first ≤ 7) 0
    need (!s.fuses.te8220) Status.unitAbsent 0
    inRange (1 ≤ count ∧ first + count ≤ 8) 4
    .ok (s, .ok ((List.range count).flatMap fun i =>
      let n := first + i
      let v := Tab.getD s.video n {}
      leBytes 1 n ++ leBytes 1 (s.videoState n) ++ zeros 2 ++ leBytes 4 v.complete ++ leBytes 4 v.incomplete ++
        leBytes 4 v.dropped ++ leBytes 4 v.rtp ++ leBytes 4 v.diverge ++ zeros 8))

/-! ## Compositing and sampling (R213, R214, R229, R232) -/

/-- A linear colour with alpha, 20 bits each. -/
structure Rgba where
  r : Int
  g : Int
  b : Int
  a : Int

/-- No light at all. -/
def Rgba.clear : Rgba := ⟨0, 0, 0, 0⟩

/-- A value through the curve of DECODE (R213). -/
def decodeValue (c : Cfg) (decode : Nat) (v : Int) : Int :=
  if bit decode 7 then min (curveAt (fun k => c.curveEntry (decode % 32) k) v.toNat) 0xFFFFF else v

/-- R, G and B through DECODE; alpha is not mapped (R213). -/
def Rgba.decode (c : Cfg) (decode : Nat) (p : Rgba) : Rgba :=
  { p with r := decodeValue c decode p.r, g := decodeValue c decode p.g, b := decodeValue c decode p.b }

/-- A palette entry in force. -/
def palEntry (bank : Tab Nat) (e : Nat) : Rgba := ⟨palWord bank e 0, palWord bank e 1, palWord bank e 2, palWord bank e 3⟩

/-- An 8-bit component (R213). -/
def expand8 (s : Nat) : Int := s * 4096 + s * 16 + s / 16
/-- A 10-bit component (R213). -/
def expand10 (s : Nat) : Int := s * 1024 + s
/-- A 16-bit component (R213). -/
def expand16 (s : Nat) : Int := s * 16 + s / 4096

/-- A pixel of a buffer layer's copy (R213). -/
def bufferPixel (c : Cfg) (d : Bytes) (pal : Tab Nat) (copy : Bytes) (x y : Nat) : Rgba :=
  let f := lyFormat d
  let row := y * lyRow d
  if f ≤ 3 then
    let bits := formatBits f
    palEntry pal (u8 copy (row + x * bits / 8) / 2 ^ (x * bits % 8) % 2 ^ bits)
  else if f = 4 then palEntry pal (u16 copy (row + 2 * x))
  else
    let p : Rgba := match f with
      | 5 => ⟨expand8 (u8 copy (row + 3 * x)), expand8 (u8 copy (row + 3 * x + 1)), expand8 (u8 copy (row + 3 * x + 2)), 0xFFFFF⟩
      | 6 =>
        let w := u32 copy (row + 4 * x)
        ⟨expand10 (field w 9 0), expand10 (field w 19 10), expand10 (field w 29 20), field w 31 30 * 0x55555⟩
      | 7 =>
        let o := row + 8 * x
        ⟨expand16 (u16 copy o), expand16 (u16 copy (o + 2)), expand16 (u16 copy (o + 4)), expand16 (u16 copy (o + 6))⟩
      | _ =>
        let v := expand16 (u16 copy (row + 2 * x))
        ⟨v, v, v, 0xFFFFF⟩
    p.decode c (lyDecode d)

/-- A pixel of a video frame (R229). -/
def videoPixel (v : Bytes) (f : VideoFrame) (x y : Nat) : Rgba :=
  let w := viWidth v
  let at_ := fun x => Tab.getD f.pixels (y * w + x) (0, 0, 0)
  let chroma := fun (k : Nat × Nat × Nat → Nat) =>
    if x % 2 = 0 then k (at_ x) else if x + 1 < w then (k (at_ (x - 1)) + k (at_ (x + 1)) + 1) / 2 else k (at_ (x - 1))
  let yy : Int := Int.tdiv (((at_ x).1 - 64 : Int) * 2 ^ 20) 876
  let cb : Int := Int.tdiv ((chroma (fun p => p.2.1) - 512 : Int) * 2 ^ 20) 896
  let cr : Int := Int.tdiv ((chroma (fun p => p.2.2) - 512 : Int) * 2 ^ 20) 896
  let (krv, kgu, kgv, kbu) : Int × Int × Int × Int := if u8 v 2 = 0 then (103206, 12276, 30679, 121609) else (96639, 10784, 37444, 123299)
  let lim := clampI 0 0xFFFFF
  ⟨lim (yy + (krv * cr + 0x8000) / 65536), lim (yy - (kgu * cb + kgv * cr + 0x8000) / 65536),
    lim (yy + (kbu * cb + 0x8000) / 65536), 0xFFFFF⟩

/-- A source pixel of a layer as frozen at the cut; transparent where it has no source (R213, R222, R228, R239). -/
def State.layerPixel (s : State) (n : Nat) (d : Bytes) (x y : Nat) : Rgba :=
  let l := Tab.getD s.layer n {}
  if lyVideo d then
    let v := Tab.getD s.video (lyStream d) {}
    match s.cfg.get .video (lyStream d), v.frozen with
    | some r, some f => if v.lost && lyClear d then .clear else (videoPixel r f x y).decode s.cfg (lyDecode d)
    | _, _ => .clear
  else if bit l.force.buffer 31 then .clear
  else match l.copy with
    | some b => bufferPixel s.cfg d l.pal b x y
    | none => .clear

/-- One component blended (R214): 0 and 3 over, 1 add, 2 max. -/
def blend (mode : Nat) (a c v : Int) : Int :=
  let t := (v * a + 0x80000) / 2 ^ 20
  match mode with
  | 1 => min (c + t) 0xFFFFF
  | 2 => max c t
  | _ => c + ((v - c) * a + 0x80000) / 2 ^ 20

/-- A layer composited on a point (R214). -/
def State.blendLayer (s : State) (x y : Int) (c : Int × Int × Int) (e : Nat × Bytes) : Int × Int × Int :=
  let g := (Tab.getD s.layer e.1 {}).force
  let w := lyWidth e.2
  let h := lyHeight e.2
  let cx := field g.cropXy 13 0
  let cy := field g.cropXy 29 16
  let cw := min (if field g.cropWh 14 0 = 0 then w - cx else field g.cropWh 14 0) (w - cx)
  let ch := min (if field g.cropWh 30 16 = 0 then h - cy else field g.cropWh 30 16) (h - cy)
  let sx := x - signed 16 (field g.pos 15 0)
  let sy := y - signed 16 (field g.pos 31 16)
  if sx < 0 ∨ sy < 0 ∨ sx ≥ cw ∨ sy ≥ ch then c
  else
    let p := s.layerPixel e.1 e.2 (sx.toNat + cx) (sy.toNat + cy)
    let a := (p.a * g.opacity + 0x80000) / 2 ^ 20
    let a := a + a / 2 ^ 19
    let m := field g.ctrl 2 1
    (blend m a c.1 p.r, blend m a c.2.1 p.g, blend m a c.2.2 p.b)

/-- A layer put among layers of rising Z, after those of equal Z (R214). -/
def insertZ (z : Nat × Bytes → Nat) (e : Nat × Bytes) : List (Nat × Bytes) → List (Nat × Bytes)
  | [] => [e]
  | x :: rest => if z e < z x then e :: x :: rest else x :: insertZ z e rest

/-- The enabled layers of a canvas, ascending Z, then ascending number (R214). -/
def State.stack (s : State) (canvas : Nat) : List (Nat × Bytes) :=
  ((s.cfg.canvasLayers canvas).filter fun e => bit (Tab.getD s.layer e.1 {}).force.ctrl 0).foldl
    (fun l e => insertZ (fun e => field (Tab.getD s.layer e.1 {}).force.ctrl 12 8) e l) []

/-- The value of a canvas point (R214). -/
def State.point (s : State) (canvas : Nat) (stack : List (Nat × Bytes)) (x y : Int) : Int × Int × Int :=
  let bg := (Tab.getD s.canvas canvas {}).bg
  stack.foldl (s.blendLayer x y) ((bg.1 : Int), (bg.2.1 : Int), (bg.2.2 : Int))

/-- A function of three components, applied to each. -/
def map3 (f : Int → Int → Int → Int → Int) (a b c d : Int × Int × Int) : Int × Int × Int :=
  (f a.1 b.1 c.1 d.1, f a.2.1 b.2.1 c.2.1 d.2.1, f a.2.2 b.2.2 c.2.2 d.2.2)

/-- An output pixel sampled at a position in 1/256 point (R232). -/
def sample (p : Int → Int → Int × Int × Int) (mode aw ah w h : Nat) (x y : Int) : Int × Int × Int :=
  let xq := clampI 0 (((w : Int) - 1) * 256) x
  let yq := clampI 0 (((h : Int) - 1) * 256) y
  match mode with
  | 0 => p ((xq + 0x80) / 256) ((yq + 0x80) / 256)
  | 1 =>
    let i := xq / 256
    let j := yq / 256
    let fx := xq % 256
    let fy := yq % 256
    let i1 := min (i + 1) ((w : Int) - 1)
    let j1 := min (j + 1) ((h : Int) - 1)
    map3 (fun a b c d =>
      let t := a + ((b - a) * fx + 0x80) / 256
      let u := c + ((d - c) * fx + 0x80) / 256
      t + ((u - t) * fy + 0x80) / 256) (p i j) (p i1 j) (p i j1) (p i1 j1)
  | _ =>
    let i0 := (xq + 0x80) / 256 - (((aw : Int) - 1) / 2)
    let j0 := (yq + 0x80) / 256 - (((ah : Int) - 1) / 2)
    let pts := (List.range ah).flatMap fun (b : Nat) => (List.range aw).map fun (a : Nat) =>
      p (clampI 0 ((w : Int) - 1) (i0 + a)) (clampI 0 ((h : Int) - 1) (j0 + b))
    let sum := pts.foldl (fun q v => (q.1 + v.1, q.2.1 + v.2.1, q.2.2 + v.2.2)) (0, 0, 0)
    let n : Int := (aw * ah : Nat)
    ((sum.1 + n / 2) / n, (sum.2.1 + n / 2) / n, (sum.2.2 + n / 2) / n)

/-- The positions of a destination's pixels, in index order (R231). -/
def Cfg.pixelPositions (c : Cfg) (num : Nat) : List (Int × Int) :=
  ((c.all .pixseg).filter fun e => e.1 / 2 ^ 24 = num).flatMap fun e =>
    (List.range (u16 e.2 12)).map fun (i : Nat) =>
      (((u32 e.2 0 % 2 ^ 22 : Nat) : Int) + i * iAt e.2 8 2, ((u32 e.2 4 % 2 ^ 22 : Nat) : Int) + i * iAt e.2 10 2)

/-- The sampled 20-bit values of a destination's pixels, in index order (R232), or a test value (R301). -/
def State.pixelValues (s : State) (num : Nat) : List (Int × Int × Int) :=
  match s.cfg.get .pixmap num with
  | none => []
  | some m =>
    match s.cfg.get .canvas (u8 m 8) with
    | none => []
    | some d =>
      let stack := s.stack (u8 m 8)
      let test := (Tab.find s.col.tests (if num ≥ 0x10000 then 2 ^ 24 + (num - 0x10000) else 2 ^ 25 + num)).bind List.head?
      (s.cfg.pixelPositions num).map fun e =>
        match test with
        | some v => ((v : Int), (v : Int), (v : Int))
        | none => sample (s.point (u8 m 8) stack) (u8 m 1) (u8 m 2) (u8 m 3) (cvWidth d) (cvHeight d) e.1 e.2

/-- Sampled values as 16-bit codes of frame n by stage 7 (R202). -/
def codesOf (n : Nat) (l : List (Int × Int × Int)) : List (Nat × Nat × Nat) :=
  l.zipIdx.map fun e =>
    (ditherCode e.1.1.toNat 16 n e.2 0, ditherCode e.1.2.1.toNat 16 n e.2 1, ditherCode e.1.2.2.toNat 16 n e.2 2)

/-- The 16-bit codes of a destination's pixels of frame n: sampled, and encoded by stage 7 (R202, R232). -/
def State.pixelCodes (s : State) (n : Nat) (isPort : Bool) (dest : Nat) : List (Nat × Nat × Nat) :=
  codesOf n (s.pixelValues (pixNum isPort dest))

/-- The pixels of a flow's frame as its packets carry them (R332). -/
def State.pixelBytes (s : State) (n : Nat) (isPort : Bool) (dest : Nat) : Bytes :=
  (s.pixelCodes n isPort dest).flatMap fun p => beBytes 2 p.1 ++ beBytes 2 p.2.1 ++ beBytes 2 p.2.2

/-! ## Frame witness (R233-R237) -/

/-- One bit of a reflected CRC with polynomial word `poly`. -/
def crcBit (poly c : Nat) : Nat := if c.testBit 0 then (c / 2) ^^^ poly else c / 2

/-- One byte of a reflected CRC. -/
def crcByte (poly c : Nat) (b : Byte) : Nat :=
  (List.range 8).foldl (fun c _ => crcBit poly c) (c ^^^ b.toNat)

/-- CRC-32C: reflected polynomial 0x1EDC_6F41, initial value and final XOR 0xFFFF_FFFF (R234). -/
def crc32c (b : Bytes) : Nat := (b.foldl (crcByte 0x82F63B78) 0xFFFFFFFF) ^^^ 0xFFFFFFFF

/-- The bytes of a window's region in frame n (R234). -/
def State.witnessBytes (s : State) (n : Nat) (d : Bytes) : Bytes :=
  let o := u32 d 4 % 2 ^ 24
  match u8 d 1, u32 d 4 / 2 ^ 24 with
  | 0, _ =>
    let stack := s.stack (u32 d 4)
    (List.range (u32 d 20)).flatMap fun j => (List.range (u32 d 16)).flatMap fun i =>
      let p := s.point (u32 d 4) stack ((u32 d 8 + i : Nat) : Int) ((u32 d 12 + j : Nat) : Int)
      leBytes 8 (p.1.toNat + p.2.1.toNat * 2 ^ 20 + p.2.2.toNat * 2 ^ 40)
  | 1, k => (((s.pixelCodes n (k = 1) o).drop (u32 d 8)).take (u32 d 16)).flatMap fun p =>
      leBytes 2 p.1 ++ leBytes 2 p.2.1 ++ leBytes 2 p.2.2
  | _, k =>
    let len := if k = 1 then ((s.cfg.universeFlow o).map fun e => saSlots e.2).getD 0 else ((s.cfg.get .dmx o).map dxSlots).getD 0
    slice (s.destBytes n k o len) (u32 d 8 - 1) (u32 d 16)

/-- Window w. -/
def State.window (s : State) (w : Nat) : Wit := Tab.getD s.wit.wins w {}

/-- A window changed. -/
def State.updWindow (w : Nat) (f : Wit → Wit) (s : State) : State := { s with wit := { s.wit with wins := Tab.upd s.wit.wins w {} f } }

/-- The value of an enabled window for frame n is computed and, by MODE, compared (R235, R237). `corrupt` says that the
stored reference fails its parity. -/
def State.compareWitness (w value n : Nat) (corrupt : Bool) (s : State) : State :=
  match s.cfg.get .witness w with
  | none => s
  | some d =>
    let x := s.window w
    let mode := u8 d 2
    let x := { x with result := value, frame := n % 2 ^ 32, valid := true }
    let put := fun (x : Wit) => s.updWindow w fun _ => { x with prev := some value }
    let reference := if mode = 1 then some x.expected else if mode = 2 then x.prev else none
    match reference with
    | none => put x
    | some e =>
      if x.reloading then put (if mode = 2 then { x with reloading := false } else x)
      else if corrupt then
        let s := put { x with corrupts := satInc x.corrupts, reloading := true }
        { s with wit := { s.wit with corrupt := s.wit.corrupt ||| (1#64 <<< w) } }.raise Ev.expectedCorrupt w 0
      else if e = value then put { x with matched := true, armed := true }
      else
        let s' := put { x with matched := false, armed := false, mismatches := satInc x.mismatches }
        let s' := { s' with wit := { s'.wit with mismatch := s'.wit.mismatch ||| (1#64 <<< w) } }.updFrame n
          fun f => { f with mismatched := w :: f.mismatched }
        if x.armed then s'.raiseFrame Ev.witnessMismatch w value n else s'

/-- A frame of an object is withheld: a window of KIND 1 or 2 with HOLD in EXPECT mode found a mismatch in it (R235); a
compare that was discarded, or that found the reference corrupt, does not count (R237). -/
def State.held (s : State) (n kind object : Nat) : Bool :=
  (s.frameRec n).any fun f => f.mismatched.any fun w => (f.force.cfg.get .witness w).any fun d =>
    u8 d 1 = kind && u8 d 2 = 1 && bit (u8 d 3) 1 && u32 d 4 = object

/-- A window in force compares with its value of the previous frame (R235). -/
def State.stableWindow (s : State) (w : Nat) : Bool := (s.cfg.get .witness w).any fun d => u8 d 2 = 2

/-- The ledger copy of an expected value fails its CRC, which LEDGER_UE counts (R444, R453). -/
def State.badExpected (s : State) : State := { s with chkg := { s.chkg with ledgerUe := satInc s.chkg.ledgerUe } }

/-- WITNESS_RELOAD_DONE: the expected value is back from the ledger, or the window is disabled where the ledger copy is
bad; a STABLE window takes its reference from the next frame instead (R237). -/
def execWitnessReloadDone (w : Nat) (good : Bool) (s : State) : Outcome :=
  if w ≥ 64 then .next s
  else if !(s.window w).reloading || s.stableWindow w then .next s
  else if good then .next (s.updWindow w fun x => { x with expected := Tab.getD s.nv.expects w x.expected, reloading := false })
  else .next ((s.badExpected.updWindow w fun x => { x with enable := false, reloading := false }).raise Ev.witnessFault w 0)

/-- WITNESS_EXPECTED_WRITE: the host writes an expected value, which also replaces a value being reloaded (R236, R237); the
reference of a STABLE window is not this value. -/
def State.writeExpected (w v : Nat) (s : State) : State :=
  if s.cfg.has .witness w then s.updWindow w fun x => { x with expected := v, reloading := x.reloading && s.stableWindow w } else s

/-- WITNESS_EXPECTED_WRITE (R236, R240). -/
def execWitnessExpectedWrite (w : Nat) (v : Reg) (s : State) : Outcome :=
  if w ≥ 64 then .next s else .next (s.writeExpected w v.toNat)

/-- Windows at the press of a configuration: an unchanged record keeps its state, any other takes its definition, and the
ledger holds its expected value (R233, R236, R240). -/
def State.pressWitness (c c' : Cfg) (s : State) : State :=
  let wins := (c'.all .witness).map fun (e : Nat × Bytes) =>
    (e.1, if c.get .witness e.1 = some e.2 then s.window e.1
      else ({ enable := (u8 e.2 3).testBit 0, expected := u32 e.2 24, mismatches := (s.window e.1).mismatches, corrupts := (s.window e.1).corrupts } : Wit))
  let fresh := (c'.all .witness).filter fun (e : Nat × Bytes) => c.get .witness e.1 ≠ some e.2
  let expects := fresh.foldl (fun t (e : Nat × Bytes) => Tab.put t e.1 (u32 e.2 24)) s.nv.expects
  { s with wit := { s.wit with wins }, nv := { s.nv with expects } }

/-! ## The CANVAS, LAYER, PAL and WIT blocks (R216, R238-R240) -/

/-- The raster line of a canvas now (R206, R238). -/
def State.rasterLine (s : State) (d : Bytes) : Nat :=
  let c := s.cfg
  let k := c.slotAt s.tk.counter
  (s.tk.counter - c.instantN k) * cvTotal d / (c.instantN (k + 1) - c.instantN k)

/-- A word of the CANVAS block as it reads (R238); a canvas that is not in force reads 0 (R211). -/
def State.canvasRead (s : State) (n off : Nat) : Nat :=
  match s.cfg.get .canvas n with
  | none => 0
  | some d =>
    let x := Tab.getD s.canvas n {}
    match off with
    | 0x000 => cvWidth d - 1 + (cvHeight d - 1) * 2 ^ 16 + 2 ^ 31
    | 0x004 => flag x.commit 0
    | 0x008 => x.pressFrame % 2 ^ 32
    | 0x00C => x.pressHi
    | 0x010 => x.pressCount
    | 0x014 => s.rasterLine d % 2 ^ 16 + flag (s.tk.counter ≥ s.cfg.pressPoint d (s.cfg.slotAt s.tk.counter)) 31
    | 0x020 => x.bgShadow.1
    | 0x024 => x.bgShadow.2.1
    | 0x028 => x.bgShadow.2.2
    | _ => 0

/-- A write to the CANVAS block (R208, R209, R238). -/
def State.canvasWrite (n off v : Nat) (s : State) : State :=
  if !s.cfg.has .canvas n then s
  else match off with
    | 0x004 => s.updCanvas n fun x => { x with commit := x.commit || bit v 0 }
    | 0x020 => s.updCanvas n fun x => { x with bgShadow := (v % 2 ^ 20, x.bgShadow.2) }
    | 0x024 => s.updCanvas n fun x => { x with bgShadow := (x.bgShadow.1, v % 2 ^ 20, x.bgShadow.2.2) }
    | 0x028 => s.updCanvas n fun x => { x with bgShadow := (x.bgShadow.1, x.bgShadow.2.1, v % 2 ^ 20) }
    | _ => s

/-- A word of the LAYER block as it reads (R239). -/
def State.layerRead (s : State) (n off : Nat) : Nat :=
  match s.layerOf n with
  | none => 0
  | some (d, x) =>
    match off with
    | 0x000 => lyCanvas d + lyFormat d * 2 ^ 8 + flag (lyVideo d) 12 + 2 ^ 31
    | 0x004 => x.shadow.ctrl
    | 0x008 => x.shadow.pos
    | 0x00C => x.shadow.cropXy
    | 0x010 => x.shadow.cropWh
    | 0x014 => x.shadow.opacity
    | 0x018 => x.shadow.buffer
    | 0x01C => flag x.mapped 0 + 2 * x.page
    | 0x020 => x.fetchFrame
    | 0x024 => x.fetchLate
    | 0x028 => x.error
    | 0x02C => x.force.buffer
    | _ => 0

/-- A write of PAL_MAP: MAPPED on one layer clears it on every other (R216). -/
def State.writePalMap (n v : Nat) (s : State) : State :=
  if !s.cfg.has .layer n then s
  else
    let s := if bit v 0 then { s with layer := Tab.mapV s.layer fun _ x => { x with mapped := false } } else s
    s.updLayer n fun x => { x with mapped := bit v 0, page := field v 2 1 }

/-- A write to the LAYER block (R209, R239). -/
def State.layerWrite (n off v : Nat) (s : State) : State :=
  if !s.cfg.has .layer n then s
  else
    let put := fun (f : LayerRegs → LayerRegs) => s.updLayer n fun x => { x with shadow := f x.shadow }
    match off with
    | 0x004 => put fun g => { g with ctrl := v &&& 0x1F07 }
    | 0x008 => put fun g => { g with pos := v }
    | 0x00C => put fun g => { g with cropXy := v &&& 0x3FFF3FFF }
    | 0x010 => put fun g => { g with cropWh := v &&& 0x7FFF7FFF }
    | 0x014 => put fun g => { g with opacity := v % 2 ^ 21 }
    | 0x018 => put fun g => { g with buffer := v &&& 0x80000FFF }
    | 0x01C => s.writePalMap n v
    | 0x028 => s.updLayer n fun x => { x with error := x.error &&& (7 - v % 8) }
    | _ => s

/-- The layer and palette entry that a PAL window offset shows, with the word of the entry (R216). -/
def State.palAt (s : State) (off : Nat) : Option (Nat × Nat × Nat) :=
  match s.layer.find? fun (e : Nat × Layer) => e.2.mapped with
  | none => none
  | some (n, x) =>
    match s.cfg.get .layer n with
    | none => none
    | some d =>
      let e := 16384 * x.page + off / 16
      if e < palSize (lyFormat d) then some (n, e, off % 16 / 4) else none

/-- A word of the PAL window (R216, R217). -/
def State.palRead (s : State) (off : Nat) : Nat :=
  match s.palAt off with
  | none => 0
  | some (n, e, k) => (Tab.getD s.layer n {}).shadowWord e k

/-- A write to the PAL window (R216, R217). -/
def State.palWrite (off v : Nat) (s : State) : State :=
  match s.palAt off with
  | none => s
  | some (n, e, k) => s.updLayer n fun x => x.writePal e k v

/-- A word of the WIT block (R240). -/
def State.witRead (s : State) (off : Nat) : Nat :=
  if off < 0x1000 then
    match off with
    | 0x0 => s.wit.mismatch.toNat % 2 ^ 32
    | 0x4 => s.wit.mismatch.toNat / 2 ^ 32
    | 0x8 => s.wit.corrupt.toNat % 2 ^ 32
    | 0xC => s.wit.corrupt.toNat / 2 ^ 32
    | _ => 0
  else
    let w := (off - 0x1000) / 0x40
    match s.cfg.get .witness w with
    | none => 0
    | some d =>
      let x := s.window w
      match (off - 0x1000) % 0x40 with
      | 0x00 => flag x.enable 0
      | 0x04 => x.expected
      | 0x08 => x.result
      | 0x0C => x.frame
      | 0x10 => flag x.matched 0 + flag x.valid 1 + flag x.reloading 2
      | 0x14 => x.mismatches
      | 0x18 => x.corrupts
      | 0x1C => u8 d 1 + u8 d 2 * 2 ^ 8 + 2 ^ 31
      | _ => 0

/-- A write of the low or high half of a 64-bit register of which 1 clears (R12 W1C). -/
def clear64 (x : BitVec 64) (high : Bool) (v : Nat) : BitVec 64 :=
  x &&& ~~~(BitVec.ofNat 64 ((v % 2 ^ 32) * (if high then 2 ^ 32 else 1)))

/-- A write to the WIT block (R236, R240): enabling a window arms its event (R235). -/
def State.witWrite (off v : Nat) (s : State) : State :=
  if off < 0x1000 then
    match off with
    | 0x0 => { s with wit := { s.wit with mismatch := clear64 s.wit.mismatch false v } }
    | 0x4 => { s with wit := { s.wit with mismatch := clear64 s.wit.mismatch true v } }
    | 0x8 => { s with wit := { s.wit with corrupt := clear64 s.wit.corrupt false v } }
    | 0xC => { s with wit := { s.wit with corrupt := clear64 s.wit.corrupt true v } }
    | _ => s
  else
    let w := (off - 0x1000) / 0x40
    match (off - 0x1000) % 0x40 with
    | 0x00 => if s.cfg.has .witness w then
        s.updWindow w fun x => { x with enable := bit v 0, armed := x.armed || (bit v 0 && !x.enable) }
      else s
    | 0x04 => s.writeExpected w v
    | _ => s

/-- CANVAS_COMMIT_WRITE: COMMIT is set (R208). -/
def execCanvasCommitWrite (canvas : Nat) (s : State) : Outcome :=
  if canvas ≥ 16 then .next s else .next (s.canvasWrite canvas 0x004 1)

/-- PALETTE_WRITE (R216, R217). -/
def execPaletteWrite (off : Nat) (v : Reg) (s : State) : Outcome :=
  if off ≥ 0x40000 then .next s else .next (s.palWrite off v.toNat)

/-- PAL_MAP_WRITE (R216). -/
def execPalMapWrite (layer : Nat) (v : Reg) (s : State) : Outcome :=
  if layer ≥ 32 then .next s else .next (s.writePalMap layer v.toNat)

/-! ## Meanings -/

def execCanvasDefine (r : Req) (s : State) : Outcome := hostCommand canvasDefineOp r s
def execLayerDefine (r : Req) (s : State) : Outcome := hostCommand layerDefineOp r s
def execPixmapLoad (r : Req) (s : State) : Outcome := hostCommand pixmapLoadOp r s
def execVideoRxDefine (r : Req) (s : State) : Outcome := hostCommand videoRxDefineOp r s
def execWitnessDefine (r : Req) (s : State) : Outcome := hostCommand witnessDefineOp r s
def execBufferRegister (r : Req) (s : State) : Outcome := hostCommand bufferRegisterOp r s
def execBufferRelease (r : Req) (s : State) : Outcome := hostCommand bufferReleaseOp r s
def execVideoRxStatus (r : Req) (s : State) : Outcome := hostCommand videoRxStatusOp r s

end Sys2Proof.Machine
end

