-- ==== Sys2Proof/Machine/Scan.lean ====
section
/-! DEFINITION. Scan ports (R340-R365): SCAN_DEFINE and its admission rules, the chunk list and the refresh, preparation
with darning, integrity groups and seams, fault detection, the supply, the press, and the SCAN block. Refreshes and line
writes, which follow issue instants, stand in `Refresh.lean`. -/

namespace Sys2Proof.Machine

/-! ## The fields of a kind 0 record (R342); offsets are within the record -/

/-- PANEL: memory-type. -/
abbrev scMemory (d : Bytes) : Bool := u8 d 2 = 1
/-- LAYOUT: interleaved. -/
abbrev scInter (d : Bytes) : Bool := u8 d 3 = 1
/-- LINES: scan lines S. -/
abbrev scLines (d : Bytes) : Nat := u8 d 4
/-- ROWGROUPS G. -/
abbrev scGroups (d : Bytes) : Nat := u8 d 5
/-- CLK_TICKS. -/
abbrev scClk (d : Bytes) : Nat := u16 d 8
/-- LATCH_TICKS. -/
abbrev scLatch (d : Bytes) : Nat := u16 d 10
/-- HEM_TICKS. -/
abbrev scHem (d : Bytes) : Nat := u16 d 12
/-- ADDR_AT. -/
abbrev scAddrAt (d : Bytes) : Nat := u16 d 14
/-- UNIT_TICKS. -/
abbrev scUnit (d : Bytes) : Nat := u16 d 16
/-- PLANES p. -/
abbrev scPlanes (d : Bytes) : Nat := u8 d 18
/-- CHUNK c. -/
abbrev scChunk (d : Bytes) : Nat := u8 d 19
/-- REFRESH R. -/
abbrev scRefresh (d : Bytes) : Nat := u16 d 20
/-- STATIC_REFRESH. -/
abbrev scStatic (d : Bytes) : Nat := u16 d 22
/-- STATIC_FRAMES. -/
abbrev scStaticFrames (d : Bytes) : Nat := u16 d 24
/-- OE_LOW. -/
abbrev scOeLow (d : Bytes) : Bool := bit (u16 d 26) 0
/-- LAT_LOW. -/
abbrev scLatLow (d : Bytes) : Bool := bit (u16 d 26) 1
/-- ADDR_INV. -/
abbrev scAddrInv (d : Bytes) : Bool := bit (u16 d 26) 2
/-- DETECT. -/
abbrev scDetect (d : Bytes) : Bool := bit (u16 d 26) 3
/-- COMP_ORDER. -/
abbrev scOrder (d : Bytes) : Nat := field (u16 d 26) 6 5
/-- FEEDER. -/
abbrev scFeeder (d : Bytes) : Nat := u8 d 28
/-- WRITE_CLKS. -/
abbrev scWriteClks (d : Bytes) : Nat := u8 d 29
/-- SWAP_CLKS. -/
abbrev scSwapClks (d : Bytes) : Nat := u8 d 30
/-- DRV_LATENCY_NS. -/
abbrev scDrvNs (d : Bytes) : Nat := u32 d 32
/-- TE_PERIOD_NS. -/
abbrev scTePeriod (d : Bytes) : Nat := u32 d 36
/-- TE_BUSY_NS. -/
abbrev scTeBusy (d : Bytes) : Nat := u32 d 40
/-- DARN_SHARE. -/
abbrev scDarn (d : Bytes) : Nat := u16 d 52
/-- TILE_W. -/
abbrev scTileW (d : Bytes) : Nat := u16 d 54
/-- TILE_H. -/
abbrev scTileH (d : Bytes) : Nat := u16 d 56
/-- SEAM_EDGE. -/
abbrev scEdge (d : Bytes) : Nat := u8 d 58

/-- The data lines D (R343). -/
def scDataLines (d : Bytes) : Nat := if scInter d then scGroups d else 3 * scGroups d

/-- The chain length Ch (R343). -/
def scChain (d : Bytes) : Nat := if scInter d then 3 * scWidth d else scWidth d

/-- SH: the time to shift one bit per channel, in ticks (R343). -/
def scShift (d : Bytes) : Nat := scChain d * scClk d

/-- COMP_ORDER as components in the order of the data lines (R342). -/
def compOrder (code : Nat) : List Nat :=
  match code with
  | 0 => [0, 1, 2]
  | 1 => [0, 2, 1]
  | 2 => [1, 0, 2]
  | _ => [2, 1, 0]

/-- The component channel, as pixel times four plus component, that chain channel `k` of a data line drives on scan line
`l` (R343). -/
def scChannel (d : Bytes) (line dl k : Nat) : Nat :=
  if scInter d then 4 * ((dl * scLines d + line) * scWidth d + k / 3) + (compOrder (scOrder d)).getD (k % 3) 0
  else 4 * ((dl / 3 * scLines d + line) * scWidth d + k) + (compOrder (scOrder d)).getD (dl % 3) 0

/-! ## SCAN_DEFINE (R342, R359, R360) -/

/-- The number of a group record: port, group and the position among the group's records. -/
abbrev groupNum (port group k : Nat) : Nat := (port * 256 + group) * 65536 + k

/-- The ranges of a kind 1 record that are in use (R359). -/
def groupRanges (d : Bytes) : List (Nat × Nat) :=
  ((List.range 7).map fun i => (u32 d (8 + 8 * i), u32 d (12 + 8 * i))).filter fun e => e.2 ≠ 0

/-- The integrity group of a pixel of a port (R359). -/
def Cfg.groupOf (c : Cfg) (port pixel : Nat) : Option Nat :=
  ((c.all .scanGroup).find? fun e => e.1 / 2 ^ 24 = port && (groupRanges e.2).any fun r => r.1 ≤ pixel && pixel < r.1 + r.2).map
    fun e => e.1 / 65536 % 256

/-- Two ranges share a pixel. -/
def rangesMeet (a b : Nat × Nat) : Bool := a.1 < b.1 + b.2 && b.1 < a.1 + a.2

/-- A kind 0 record at a payload offset (R342, R343). -/
def scanPortRecord (s : State) (off : Nat) (c : Cfg) (d : Bytes) : Chk? Cfg := do
  unitField 16 s.lanes (u8 d 1) (off + 1)
  inRange (u8 d 2 ≤ 1) (off + 2)
  inRange (u8 d 3 ≤ 1) (off + 3)
  inRange (1 ≤ scLines d ∧ scLines d ≤ 32) (off + 4)
  inRange (1 ≤ scGroups d ∧ scGroups d ≤ (if scInter d then 8 else 2)) (off + 5)
  inRange (1 ≤ scWidth d ∧ scWidth d ≤ 4096 ∧ scPixels d ≤ 32768 ∧ scChain d ≤ 4096) (off + 6)
  inRange (8 ≤ scClk d ∧ scClk d ≤ 400 ∧ scClk d % 2 = 0) (off + 8)
  inRange (4 ≤ scLatch d ∧ scLatch d ≤ 400) (off + 10)
  inRange (8 ≤ scHem d ∧ scHem d ≤ 8000) (off + 12)
  inRange (1 ≤ scAddrAt d ∧ scAddrAt d < scHem d) (off + 14)
  let plain := !scMemory d
  inRange (!plain ∨ 1 ≤ scUnit d) (off + 16)
  inRange (!plain ∨ (8 ≤ scPlanes d ∧ scPlanes d ≤ 16)) (off + 18)
  inRange (!plain ∨ scChunk d < scPlanes d) (off + 19)
  inRange (!plain ∨ (1 ≤ scRefresh d ∧ scRefresh d ≤ 1024)) (off + 20)
  inRange (!plain ∨ scStatic d = 0 ∨ scRefresh d % scStatic d = 0) (off + 22)
  inRange (1 ≤ scStaticFrames d) (off + 24)
  need (scFeeder d = 0xFF ∨ c.has .feeder (scFeeder d)) Status.badReference (off + 28)
  inRange (plain ∨ (1 ≤ scWriteClks d ∧ scWriteClks d ≤ 32)) (off + 29)
  inRange (plain ∨ (1 ≤ scSwapClks d ∧ scSwapClks d ≤ 32)) (off + 30)
  inRange (plain ∨ scDrvNs d ≤ 1000000) (off + 32)
  inRange (plain ∨ (10000 ≤ scTePeriod d ∧ scTePeriod d ≤ 10000000)) (off + 36)
  inRange (plain ∨ scTeBusy d < scTePeriod d) (off + 40)
  inRange (2 ≤ u8 d 44 ∧ u8 d 44 ≤ 32) (off + 44)
  inRange (2 ≤ u8 d 45 ∧ u8 d 45 ≤ 32) (off + 45)
  inRange (1 ≤ u16 d 46 ∧ u16 d 46 ≤ 4000) (off + 46)
  inRange (u16 d 48 ≤ 40000) (off + 48)
  inRange (u16 d 50 < scClk d) (off + 50)
  inRange (scDarn d ≤ 0x1000) (off + 52)
  inRange (scTileW d ≤ 4096) (off + 54)
  inRange (scTileH d ≤ 4096 ∧ (scTileW d = 0 ∨ 1 ≤ scTileH d)) (off + 56)
  inRange (scTileW d = 0 ∨ ceilDiv (scWidth d) (scTileW d) * ceilDiv (scHeight d) (scTileH d) ≤ 1024) (off + 54)
  inRange (1 ≤ scEdge d ∧ scEdge d ≤ 16) (off + 58)
  .ok (c.put .scan (u8 d 1) d)

/-- A kind 1 record at a payload offset: its ranges join the group (R359). -/
def scanGroupRecord (s : State) (off : Nat) (c : Cfg) (d : Bytes) : Chk? Cfg := do
  let port := u8 d 1
  unitField 16 s.lanes port (off + 1)
  match c.get .scan port with
  | none => .error ⟨Status.badReference, off + 1⟩
  | some p =>
    let group := u8 d 2
    let others := ((c.all .scanGroup).filter fun e => e.1 / 2 ^ 24 = port && e.1 / 65536 % 256 ≠ group).flatMap fun e => groupRanges e.2
    eachIdx (List.range 7) 0 fun i _ =>
      let r := (u32 d (8 + 8 * i), u32 d (12 + 8 * i))
      inRange (r.2 = 0 ∨ (r.1 + r.2 ≤ scPixels p ∧ !others.any (rangesMeet r))) (off + 8 + 8 * i)
    let k := ((c.all .scanGroup).filter fun e => e.1 / 65536 = port * 256 + group).length
    .ok (c.put .scanGroup (groupNum port group k) d)

/-- A seam gain is in range (R360). -/
def gainOk (g : Nat) : Bool := 0x0800 ≤ g && g ≤ 0x1800

/-- A kind 2 record at a payload offset: up to six tiles; an entry whose gains are all 0 is unused (R360). -/
def scanSeamRecord (s : State) (off : Nat) (c : Cfg) (d : Bytes) : Chk? Cfg := do
  let port := u8 d 1
  unitField 16 s.lanes port (off + 1)
  need (c.has .scan port) Status.badReference (off + 1)
  foldIdx (records d 4 10 6) 0 c fun i c e => do
    let at_ := off + 4 + 10 * i
    if uAt e 2 8 = 0 then .ok c
    else
      inRange (u16 e 0 < 1024) at_
      eachIdx (List.range 4) 0 fun k _ => inRange (gainOk (u16 e (2 + 2 * k))) (at_ + 2 + 2 * k)
      .ok (c.put .seam (port * 1024 + u16 e 0) ([2, BitVec.ofNat 8 port, 0, 0] ++ e ++ zeros 50))

/-- SCAN_DEFINE (R342). -/
def scanDefineOp : Op where
  code := 0x0807
  cls := .staged
  layout := countLayout 64
  body := .staged fun r c s =>
    foldIdx (records r.payload 8 64 (u32 r.payload 0)) 0 c fun i c d =>
      let off := 8 + 64 * i
      match u8 d 0 with
      | 0 => scanPortRecord s off c d
      | 1 => scanGroupRecord s off c d
      | 2 => scanSeamRecord s off c d
      | _ => .error ⟨Status.outOfRange, off⟩

/-! ## The refresh of a plain port (R345-R350) -/

/-- The planes of the heavy chunks and of the light chunks, each in falling order (R347). -/
def chunkPlanes (p c : Nat) : List Nat × List Nat :=
  let planes := (List.range p).reverse
  ((planes.filter fun b => c ≤ b).flatMap fun b => List.replicate (2 ^ b / 2 ^ c) b, planes.filter fun b => b < c)

/-- The chunk list: light planes at their spread positions, heavy chunks in the places left (R347). -/
def fillChunks (light : Tab Nat) : List Nat → Nat → List Nat → List Nat
  | [], _, _ => []
  | _ :: todo, x, heavy =>
    match Tab.find light x with
    | some b => b :: fillChunks light todo (x + 1) heavy
    | none => match heavy with
      | [] => 0 :: fillChunks light todo (x + 1) []
      | b :: rest => b :: fillChunks light todo (x + 1) rest

/-- slot[x] for every chunk x (R347). -/
def chunkList (p c : Nat) : List Nat :=
  let (heavy, light) := chunkPlanes p c
  let v := heavy.length + light.length
  let spread := light.zipIdx.map fun e => ((e.2 + 1) * v / (light.length + 1), e.1)
  fillChunks spread (List.range v) 0 heavy

/-- The weight of a chunk of a plane (R346). -/
abbrev chunkWeight (c plane : Nat) : Nat := min (2 ^ plane) (2 ^ c)

/-- UNIT_TICKS and refreshes per frame, normal or in static mode (R346). -/
def scPace (d : Bytes) (static : Bool) : Nat × Nat :=
  if static then (scUnit d * scRefresh d / scStatic d, scStatic d) else (scUnit d, scRefresh d)

/-- L(x): the length of a visit that shows a chunk (R346). -/
def visitTicks (d : Bytes) (unit plane : Nat) : Nat :=
  scLatch d + max (chunkWeight (scChunk d) plane * unit) (scShift d) + scHem d

/-- The length of a detection slot in ticks (R356). -/
def slotTicks (d : Bytes) : Nat :=
  2 * scShift d + scHem d + max (u8 d 44) (u8 d 45) * scClk d + u16 d 46 + u16 d 48

/-- The length of refresh 0 in ticks, with the detection slot when the port has one (R346). -/
def refreshTicks (d : Bytes) (static : Bool) : Nat :=
  scShift d + scLines d * (((chunkList (scPlanes d) (scChunk d)).map (visitTicks d (scPace d static).1)).foldl (· + ·) 0) +
    (if scDetect d then slotTicks d else 0)

/-- The ticks available to a refresh: floor(P / (R x 2.5 ns)) - 8 (R346). -/
def refreshLimit (c : Cfg) (d : Bytes) (static : Bool) : Nat :=
  400000000 * c.rateD / (c.rateN * (scPace d static).2) - 8

/-- LW: the line-write time in ticks (R351). -/
def lineWriteTicks (d : Bytes) : Nat := scHem d + (16 * scChain d + scWriteClks d) * scClk d

/-- The time a memory-type port needs and has to write a frame, in tenths of a ns times the rate's numerator (R352). -/
def writeNeed (c : Cfg) (d : Bytes) (lead : Nat) : Nat × Nat :=
  let w := (scLines d * lineWriteTicks d + if scDetect d then slotTicks d else 0) * 25
  (c.rateN * (w + (w / (10 * scTePeriod d) + 1) * (10 * scTeBusy d)), c.rateD * 10000000000 - c.rateN * (10 * lead + 10000))

/-- The output latency of a port in ns: RX under R298 (R350, R353). -/
def scLatency (d : Bytes) : Nat :=
  if scMemory d then scSwapClks d * scClk d * 5 / 2 + scDrvNs d
  else
    let first := (chunkList (scPlanes d) (scChunk d)).getD 0 0
    (scShift d + (scLines d - 1) * visitTicks d (scUnit d) first + scLatch d) * 5 / 2

/-- The display value of a channel in refresh r (R348). -/
def displayValue (p code r i k : Nat) : Nat :=
  let q := code * (2 ^ p - 1)
  let ph := (i * 40503 + k * 9973) % 65536
  let t := bitrev16 ((r + ph) % 65536) * 65535 / 65536
  q / 65535 + if q % 65535 > t then 1 else 0

/-! ## Admission (R344, R346, R352) -/

/-- The flow that feeds a scan port (R344). -/
def Cfg.scanFlow (c : Cfg) (port : Nat) : Option (Nat × Bytes) := (c.all .flow).find? fun e => flKind e.2 = 3 && flUnit e.2 = port

/-- The receive records that feed a scan port (R333, R344). -/
def Cfg.scanFeeds (c : Cfg) (port : Nat) : List (Nat × Bytes) :=
  (c.all .ixRx).filter fun e => ixFormat e.2 = 1 && ixTarget e.2 = port

/-- Two of the ranges share a pixel. -/
def anyMeet : List (Nat × Nat) → Bool
  | [] => false
  | r :: rest => rest.any (rangesMeet r) || anyMeet rest

/-- The failures of rule 0x08 for one port, a record each: no flow; both sources or neither; receive records that overlap;
the refresh rate; and its timings, with the time needed and available in ticks (R344, R346, R352, R559). -/
def Cfg.scanRule (c : Cfg) (lead : Nat) (port : Nat) (d : Bytes) : List AdmitRec :=
  let bad : Bool → Nat → Nat → List AdmitRec := fun fails demand limit =>
    if fails then [{ check := 9, ruleNo := 8, ownerA := 0x02 * 2 ^ 24 + port, demand, limit }] else []
  let w := writeNeed c d lead
  let plain := c.rateN ≠ 0 && !scMemory d
  bad (c.scanFlow port).isNone 0 0 ++
  bad (c.has .pixmap (pixNum true port) == !(c.scanFeeds port).isEmpty) 0 0 ++
  bad (anyMeet ((c.scanFeeds port).map fun e => (ixFirst e.2, ixTotal e.2))) 0 0 ++
  bad (plain && scRefresh d * c.rateN > 7680 * c.rateD) 0 0 ++
  bad (plain && refreshTicks d false > refreshLimit c d false) (refreshTicks d false) (refreshLimit c d false) ++
  bad (plain && scStatic d ≠ 0 && refreshTicks d true > refreshLimit c d true) (refreshTicks d true) (refreshLimit c d true) ++
  bad (c.rateN ≠ 0 && scMemory d && w.1 > w.2) (ceilDiv w.1 (25 * c.rateN)) (w.2 / (25 * c.rateN))

/-! ## Preparation (R358-R360) -/

/-- The seam gains of a tile with no entry (R360). -/
abbrev seamDefault : Nat × Nat := (0x1000_1000, 0x1000_1000)

/-- The gain of a pixel on one axis: its low gain in the near edge band, its high gain in the far one (R360). -/
def edgeGain (pair x size edge : Nat) : Nat :=
  if x < edge then pair % 65536 else if x + edge ≥ size then pair / 65536 else 0x1000

/-- The seam gain of pixel i (R360). -/
def seamGain (d : Bytes) (gains : Tab (Nat × Nat)) (i : Nat) : Nat :=
  if scTileW d = 0 then 0x1000
  else
    let x := i % scWidth d
    let y := i / scWidth d
    let tile := y / scTileH d * ceilDiv (scWidth d) (scTileW d) + x / scTileW d
    let g := Tab.getD gains tile seamDefault
    let gx := edgeGain g.1 (x % scTileW d) (scTileW d) (scEdge d)
    let gy := edgeGain g.2 (y % scTileH d) (scTileH d) (scEdge d)
    (gx * gy + 0x800) / 4096

/-- The neighbours of a pixel on the panel (R358). -/
def neighbours (d : Bytes) (i : Nat) : List Nat :=
  let w := scWidth d
  (if i ≥ w then [i - w] else []) ++ (if i + w < scPixels d then [i + w] else []) ++
  (if i % w ≠ 0 then [i - 1] else []) ++ (if i % w + 1 < w then [i + 1] else [])

/-- The prepared code of channel k of pixel i (R358). `code` gives the 16-bit codes and `grp` the groups. -/
def prepareCode (d : Bytes) (m : ScanMarks) (grp : Nat → Option Nat) (code : Nat → Nat → Nat) (i k : Nat) : Nat :=
  let dead := fun (i : Nat) => m.dead.contains (4 * i + k)
  let off := (grp i).any m.off.contains
  let own := if off then 0 else if dead i && (grp i).isNone then 0 else code i k
  let add := if dead i || (grp i).isSome then 0
    else ((neighbours d i).map fun j => if dead j && (grp j).isNone then (code j k * scDarn d + 0x800) / 4096 else 0).foldl (· + ·) 0
  if own = 0 ∧ add = 0 then 0
  else min ((min (own + add) 0xFFFF * seamGain d m.gains i + 0x800) / 4096) 0xFFFF

/-- A frame's codes, two bytes a component, as prepared codes (R358). -/
def Cfg.prepare (c : Cfg) (port : Nat) (d : Bytes) (m : ScanMarks) (codes : Bytes) : Bytes :=
  let code := fun (i k : Nat) => u16 codes (6 * i + 2 * k)
  (List.range (scPixels d)).flatMap fun i =>
    (List.range 3).flatMap fun k => leBytes 2 (prepareCode d m (c.groupOf port) code i k)

/-- The channels that darning conceals (R358): dead, and in no group. -/
def Cfg.darned (c : Cfg) (port : Nat) (m : ScanMarks) : Nat := (m.dead.filter fun ch => (c.groupOf port (ch / 4)).isNone).length

/-! ## Ports -/

/-- What a port shows leaves the block. -/
def State.scanOut (n : Nat) (kind : String) (v : List Nat) (s : State) : State := s.drive (if n < 8 then 0 else 1) (.scan n kind v)

/-- OE takes a level at a port tick: active or inactive under OE_LOW (R349). -/
def State.scanOe (n : Nat) (d : Bytes) (tick : Nat) (active : Bool) (s : State) : State :=
  s.scanOut n "OE" [tick, flag (active != scOeLow d) 0]

/-- LAT is active for a number of port ticks from one on, under LAT_LOW (R349). -/
def State.scanLat (n : Nat) (d : Bytes) (tick ticks : Nat) (s : State) : State :=
  (s.scanOut n "LAT" [tick, flag (!scLatLow d) 0]).scanOut n "LAT" [tick + ticks, flag (scLatLow d) 0]

/-- The address lines that a port uses: A0 up to the highest that LINES needs (R340). -/
def scAddressBits (d : Bytes) : Nat := if scLines d ≤ 1 then 0 else Nat.log2 (scLines d - 1) + 1

/-- The address lines take a line's number at a port tick, inverted with ADDR_INV (R343). -/
def State.scanAddress (n : Nat) (d : Bytes) (tick line : Nat) (s : State) : State :=
  s.scanOut n "A" [tick, if scAddrInv d then 2 ^ scAddressBits d - 1 - line else line]

/-- A port drives OE, LAT, CLK and the data lines inactive and stops (R361, R362). -/
def State.scanStop (n : Nat) (d : Bytes) (s : State) : State :=
  ((s.scanOut n "stop" []).scanOe n d 0 false).scanOut n "LAT" [0, flag (scLatLow d) 0]

/-- The record of a fault (R357). -/
def faultWord (ch kind host cleared : Nat) : Nat := ch / 4 + ch % 4 * 2 ^ 16 + kind * 2 ^ 20 + host * 2 ^ 21 + cleared * 2 ^ 22

/-- Fault records go to FAULT_WINDOW (R357). -/
def State.recordFaults (n : Nat) (l : List Nat) (s : State) : State :=
  l.foldl (fun (s : State) w => s.arrive (.faults n) 256 [(w, true)]) s

/-- Channels that report a fault of a kind in two consecutive slots that test them are latched dead (R357): a record for
each, and SCAN_FAULT at most once in any 1 s. -/
def State.latchFaults (n kind : Nat) (chs : List Nat) (s : State) : State :=
  let new_ := chs.filter fun ch => !(s.port n).latched.contains ch
  if new_.isEmpty then s
  else
    let s := (s.updPort n fun x => { x with latched := x.latched ++ new_ }).recordFaults n (new_.map fun ch => faultWord ch kind 0 0)
    match (s.port n).faultAt with
    | some t => if s.now < t + secT 1 then s else (s.updPort n fun x => { x with faultAt := some s.now }).raise Ev.scanFault n 0
    | none => (s.updPort n fun x => { x with faultAt := some s.now }).raise Ev.scanFault n 0

/-- The oldest packet of the return FIFO is evaluated: frame n's slot tests line s mod S on data line floor(s / S) mod D,
open LEDs in even frames and shorts in odd ones; the first bit is that of channel Ch - 1 (R356, R357). -/
def State.evaluateSlot (n : Nat) (d : Bytes) (e : Nat × List Bool) (s : State) : State :=
  let slot := e.1 / 2
  let line := slot % scLines d
  let dl := slot / scLines d % scDataLines d
  let kind := e.1 % 2
  let bad := ((List.range (scChain d)).filter fun k => e.2.getD (scChain d - 1 - k) false).map (scChannel d line dl)
  let key := (kind * 32 + line) * 64 + dl
  let before := Tab.getD (s.port n).seen key []
  let s := s.updPort n fun x => { x with seen := Tab.put x.seen key bad }
  s.latchFaults n kind (bad.filter before.contains)

/-- The packets of the return FIFO are evaluated, as long as the fabric runs (R356, R361). -/
def State.drainReturn (n : Nat) (s : State) : State :=
  match s.cfg.get .scan n with
  | none => s
  | some d =>
    if s.gl.device = .updatePause then s
    else
      let l := (s.port n).ret
      l.foldl (fun s e => s.evaluateSlot n d e) (s.updPort n fun x => { x with ret := [] })

/-- A detection slot of frame `frame` has run: its packet enters the return FIFO of 64, or is dropped, and then the slot
counts as not run (R356). -/
def State.detectionSlot (n frame : Nat) (bits : List Bool) (s : State) : State :=
  let s := s.updPort n fun x =>
    if x.ret.length ≥ 64 then { x with retDrop := satInc x.retDrop } else { x with ret := x.ret ++ [(frame, bits)] }
  s.drainReturn n

/-! ## The cut (R357, R359, R360) -/

/-- The groups of a port, each once. -/
def Cfg.scanGroupsOf (c : Cfg) (port : Nat) : List Nat :=
  (((c.all .scanGroup).filter fun e => e.1 / 2 ^ 24 = port).map fun e => e.1 / 65536 % 256).eraseDups

/-- The groups of a port that hold a channel latched dead. -/
def State.deadGroups (s : State) (n : Nat) : List Nat :=
  (s.cfg.scanGroupsOf n).filter fun g => (s.port n).latched.any fun ch => s.cfg.groupOf n (ch / 4) = some g

/-- The cut of a frame freezes fault marks, group states, seam gains and a test level (R301) for it; a group with a dead channel goes off,
and INTEGRITY_OFF names port and group (R357, R359, R360). -/
def State.cutPort (frame n : Nat) (s : State) : State :=
  let new_ := (s.deadGroups n).filter fun g => !(s.port n).groupsOff.contains g
  let s := s.updPort n fun x => { x with groupsOff := x.groupsOff ++ new_ }
  let s := new_.foldl (fun s g => s.raise Ev.integrityOff n g) s
  s.updPort n fun x => { x with marks := Tab.put x.marks frame {
    dead := x.latched, off := x.groupsOff, gains := x.gains, test := (Tab.find s.col.tests (2 ^ 24 + n)).bind List.head? } }

/-- The cut of a frame for every scan port. -/
def State.cutScan (frame : Nat) (s : State) : State := ((s.cfg.all .scan).map Prod.fst).foldl (fun s n => s.cutPort frame n) s

/-- The codes and the static key of a port's frame at its cut: the 16-bit codes of its pixel map, and the 20-bit values
before stage 7 (R344, R354). -/
def State.scanBody (frame n : Nat) (s : State) : List Bytes :=
  let v := s.pixelValues (pixNum true n)
  [(codesOf frame v).flatMap fun p => leBytes 2 p.1 ++ leBytes 2 p.2.1 ++ leBytes 2 p.2.2,
   v.flatMap fun p => leBytes 3 p.1.toNat ++ leBytes 3 p.2.1.toNat ++ leBytes 3 p.2.2.toNat]

/-! ## Host writes (R357, R359, R360, R365) -/

/-- The channels that a FAULT_CTRL word names (R364). -/
def faultTargets (d : Bytes) (w : Nat) : List Nat :=
  let pixels := if bit w 29 then List.range (scPixels d) else if w % 2 ^ 15 < scPixels d then [w % 2 ^ 15] else []
  let comps := if field w 17 16 = 3 then [0, 1, 2] else [field w 17 16]
  pixels.flatMap fun i => comps.map fun k => 4 * i + k

/-- FAULT_CTRL is written: the host marks or clears channels, with a record for each that changes (R357). -/
def State.faultCtrl (n w : Nat) (s : State) : State :=
  match s.cfg.get .scan n with
  | none => s
  | some d =>
    let mark := bit w 30
    let chs := (faultTargets d w).filter fun ch => (s.port n).latched.contains ch != mark
    let s := s.updPort n fun x => { x with latched := if mark then x.latched ++ chs else x.latched.filter fun ch => !chs.contains ch }
    s.recordFaults n (chs.map fun ch => faultWord ch 0 1 (if mark then 0 else 1))

/-- FAULT_CTRL_WRITE (R357). -/
def execFaultCtrlWrite (port : Nat) (w : Reg) (s : State) : Outcome :=
  if port ≥ s.lanes then .next s else .next (s.faultCtrl port w.toNat)

/-- A live seam gain register is written: it holds the value, clamped to its range, which becomes the gain of the tile of
SEAM_IDX (R360). -/
def State.seamWrite (n : Nat) (vertical : Bool) (w : Nat) (s : State) : State :=
  let v := clampN 0x0800 0x1800 (w % 65536) + clampN 0x0800 0x1800 (w / 65536 % 65536) * 65536
  s.updPort n fun x =>
    let g := Tab.getD x.gains x.seamIdx seamDefault
    if vertical then { x with seamTb := v, gains := Tab.put x.gains x.seamIdx (g.1, v) }
    else { x with seamLr := v, gains := Tab.put x.gains x.seamIdx (v, g.2) }

/-- SEAM_GAIN_WRITE (R360). -/
def execSeamGainWrite (port : Nat) (vertical : Bool) (w : Reg) (s : State) : Outcome :=
  if port ≥ s.lanes then .next s else .next (s.seamWrite port vertical w.toNat)

/-- FULL_WRITE is set on a memory-type port (R365). -/
def State.fullWrite (n : Nat) (s : State) : State :=
  if (s.cfg.get .scan n).any scMemory then s.updPort n fun x => { x with fullWrite := true } else s

/-- FULL_WRITE_REQUEST (R365). -/
def execFullWriteRequest (port : Nat) (s : State) : Outcome :=
  if port ≥ s.lanes then .next s else .next (s.fullWrite port)

/-- The return FIFO is rinsed: its consumer is between packets, so that the discard point is the request (R26, R356). -/
def State.retRinse (n : Nat) (s : State) : State :=
  s.updPort n fun x => { x with retRinsed := satAdd x.retRinsed x.ret.length, ret := [] }

/-- RET_RINSE (R365). -/
def execRetRinse (port : Nat) (s : State) : Outcome :=
  if port ≥ s.lanes then .next s else .next (s.retRinse port)

/-- GROUP_OFFk is written: each group whose bit is 1 is re-armed if none of its channels is latched dead (R359). -/
def State.groupRearm (n k w : Nat) (s : State) : State :=
  let dead := s.deadGroups n
  s.updPort n fun x => { x with
    groupsOff := x.groupsOff.filter fun g => !(g / 32 = k && bit w (g % 32) && !dead.contains g) }

/-- GROUP_REARM (R359). -/
def execGroupRearm (port k : Nat) (w : Reg) (s : State) : Outcome :=
  if port ≥ s.lanes ∨ k ≥ 8 then .next s else .next (s.groupRearm port k w.toNat)

/-! ## TE and the supply (R352, R362) -/

/-- TE_STUCK_TIMEOUT: TE was busy for longer than TE_PERIOD_NS; TE_STUCK at most once in any 1 s (R352). -/
def execTeStuckTimeout (port : Nat) (s : State) : Outcome :=
  if port ≥ s.lanes then .next s
  else if !(s.cfg.get .scan port).any scMemory then .next s
  else
    let s := s.updPort port fun x => { x with te := some (s.now, false), teStuck := satInc x.teStuck }
    let quiet := match (s.port port).stuckAt with
      | some t => decide (s.now < t + secT 1)
      | none => false
    .next (if quiet then s else (s.updPort port fun x => { x with stuckAt := some s.now }).raise Ev.teStuck port 0)

/-- A feeder trips: every port on it stops, counts the trip and raises SCAN_TRIPPED (R362). -/
def State.tripPorts (feeder : Nat) (s : State) : State :=
  (((s.cfg.all .scan).filter fun e => scFeeder e.2 = feeder).map Prod.fst).foldl (fun s n =>
    if (s.port n).tripped then s
    else
      let s := s.updPort n fun x => { x with
        tripped := true, trips := satInc x.trips, codes := none, static := false, still := 0, owed := true, dark := false
        writing := none, lines := 0 }
      (s.scanStop n ((s.cfg.get .scan n).getD [])).raise Ev.scanTripped n 0) s

/-- A feeder closes: its ports take frames again (R362). -/
def State.untripPorts (feeder : Nat) (s : State) : State :=
  (((s.cfg.all .scan).filter fun e => scFeeder e.2 = feeder).map Prod.fst).foldl (fun s n =>
    s.updPort n fun x => { x with tripped := false }) s

/-! ## The press (R363) -/

/-- The gains of a port's kind 2 records. -/
def Cfg.seamGains (c : Cfg) (port : Nat) : Tab (Nat × Nat) :=
  ((c.all .seam).filter fun e => e.1 / 1024 = port).map fun e => (e.1 % 1024, (u32 e.2 6, u32 e.2 10))

/-- A port at the press: with its kind 0 record unchanged it goes on, its redefined groups re-armed and the gains of
changed kind 2 entries replaced; otherwise its faults and group states are cleared, and it restarts at the issue instant
of the press's frame (R363). -/
def State.pressPort (c c' : Cfg) (frame n : Nat) (s : State) : ScanPort :=
  let x := s.port n
  let old := c.seamGains n
  let new_ := c'.seamGains n
  if c.get .scan n = c'.get .scan n then
    let groupRecs := fun (c : Cfg) (g : Nat) => (c.all .scanGroup).filter fun e => e.1 / 65536 = n * 256 + g
    let changed := (old.filter fun e => Tab.find new_ e.1 ≠ some e.2).foldl (fun t e => Tab.del t e.1) x.gains
    { x with
      groupsOff := x.groupsOff.filter fun g => groupRecs c g = groupRecs c' g
      gains := (new_.filter fun e => Tab.find old e.1 ≠ some e.2).foldl (fun t e => Tab.put t e.1 e.2) changed }
  else
    let same := (c.get .scan n).map scFeeder = (c'.get .scan n).map scFeeder
    { x with
      restart := some frame, tripped := same && x.tripped, latched := [], seen := [], groupsOff := [], gains := new_ }

/-- A port restarts (R363). -/
def ScanPort.restarted (x : ScanPort) : ScanPort :=
  { x with
    restart := none, codes := none, key := [], used := {}, period := none, refresh := 0, still := 0, static := false
    writing := none, lines := 0, owed := true, late := false, darned := 0, dark := false }

/-- A port that is no longer defined holds no fault; its registers and FIFOs stay (R12, R363). -/
def ScanPort.undefined (x : ScanPort) : ScanPort :=
  { x with tripped := false, latched := [], seen := [], groupsOff := [], gains := [] }

/-- The scan ports at a press (R363). A port that is no longer defined shows the frames before the press's frame, and drives
nothing from its issue instant on. -/
def State.pressScan (c c' : Cfg) (running : Bool) (frame : Nat) (s : State) : State :=
  let gone := (c.all .scan).filter fun e => !c'.has .scan e.1
  let s := gone.foldl (fun s e =>
    if running then s.updPort e.1 fun x => { x.undefined with restart := some frame }
    else (s.updPort e.1 fun x => { x.undefined.restarted with marks := [] }).scanStop e.1 e.2) s
  ((c'.all .scan).map Prod.fst).foldl (fun s n => s.updPort n fun _ => s.pressPort c c' frame n) s

/-- The issue instant of the press's frame at a port that is no longer defined: it stops (R363). -/
def State.endScan (port n : Nat) (d : Bytes) (s : State) : State :=
  if (s.port port).restart.any fun f => f ≤ n then (s.updPort port fun x => { x.restarted with marks := [] }).scanStop port d else s

/-! ## SCAN block (R364, R365) -/

/-- SCANn.STATUS.STATE (R365). -/
def State.scanState (s : State) (n : Nat) : Nat :=
  match s.cfg.get .scan n with
  | none => 0
  | some _ =>
    if (s.port n).tripped then 4
    else if (s.cfg.scanFlow n).any fun f => s.mutedAt f.1 ((s.port n).period.getD s.frameNow) then 3
    else if (s.port n).static then 2 else 1

/-- A feeder is closed, or there is none (R365). -/
def State.feederClosed (s : State) (f : Nat) : Bool :=
  f = 0xFF || (Tab.find s.met.feeders f).any fun x => x.st = .closed

/-- TE_READY: the present TE level of a memory-type port is ready (R365). A command that saw the level at this time says so;
at other times it is an input that no command carries, and free (log entry 135). -/
def State.teReady (s : State) (n : Nat) : Bool :=
  (s.cfg.get .scan n).any scMemory && match (s.port n).te with
    | some (t, ready) => if t = s.now then ready else Config.teLevel n s.now = 1
    | none => Config.teLevel n s.now = 1

/-- A SCAN register at an offset of its port's block (R364). -/
def State.scanRead (s : State) (n off : Nat) : Nat :=
  let x := s.port n
  let d := s.cfg.get .scan n
  match off with
  | 0x000 => (d.map fun d => (scPixels d - 1) + (scLines d - 1) * 2 ^ 16 + flag (scMemory d) 24 + 2 ^ 31).getD 0
  | 0x004 => s.scanState n + flag (s.teReady n) 4 + flag x.late 5 + flag (d.any fun d => s.feederClosed (scFeeder d)) 8
  | 0x008 => flag x.fullWrite 0 + flag x.noStatic 2
  | 0x00C => (d.map scLatency).getD 0
  | 0x010 => x.frame % 2 ^ 32
  | 0x014 => x.frameHi
  | 0x018 => x.teStalls
  | 0x01C => x.teStuck
  | 0x020 => x.retDrop
  | 0x024 => x.latched.length
  | 0x030 => x.faults.drops
  | 0x038 => x.darned
  | 0x03C => x.seamIdx
  | 0x040 => x.seamLr
  | 0x044 => x.seamTb
  | 0x048 => x.trips
  | 0x04C => x.retRinsed
  | 0x050 => (d.map fun d => scHem d + scAddrAt d * 2 ^ 16).getD 0
  | _ =>
    if 0x080 ≤ off ∧ off < 0x0A0 ∧ off % 4 = 0 then packBits ((List.range 32).map fun i => x.groupsOff.contains ((off - 0x080) / 4 * 32 + i))
    else 0

/-- A SCAN register is written (R364, R365). -/
def State.scanWrite (n off v : Nat) (s : State) : State :=
  match off with
  | 0x008 =>
    let s := s.updPort n fun x => { x with noStatic := bit v 2 }
    let s := if bit v 1 then s.retRinse n else s
    if bit v 0 then s.fullWrite n else s
  | 0x034 => s.faultCtrl n v
  | 0x03C => s.updPort n fun x => { x with seamIdx := v % 1024 }
  | 0x040 => s.seamWrite n false v
  | 0x044 => s.seamWrite n true v
  | _ => if 0x080 ≤ off ∧ off < 0x0A0 ∧ off % 4 = 0 then s.groupRearm n ((off - 0x080) / 4) v else s

def execScanDefine (r : Req) (s : State) : Outcome := hostCommand scanDefineOp r s

end Sys2Proof.Machine
end

