-- ==== Sys2Proof/Machine/Dmx.lean ====
section
/-! DEFINITION. DMX ports (R366-R380): DMX_DEFINE and its admission rules, slot times, the DMX block. RDM stands in
`Rdm.lean`, and sending the packets in `Launch.lean`. -/

namespace Sys2Proof.Machine

/-- The I/O bank of a port (R533). -/
abbrev dmxBank (port : Nat) : Nat := if port < 16 then 2 else 3

/-! ## The fields of a record (R368) -/

/-- RDM: the controller is enabled. -/
abbrev dxRdm (d : Bytes) : Bool := bit (u8 d 1) 0
/-- BREAK_US. -/
def dxBreak (d : Bytes) : Nat := if u16 d 4 = 0 then 176 else u16 d 4
/-- MAB_US. -/
def dxMab (d : Bytes) : Nat := if u16 d 6 = 0 then 16 else u16 d 6
/-- The slot time in us: 44 us and MBS_US (R367). -/
def dxSlotUs (d : Bytes) : Nat := 44 + u16 d 8
/-- DIVIDER. -/
def dxDivider (d : Bytes) : Nat := if u8 d 10 = 0 then 1 else u8 d 10
/-- PHASE. -/
abbrev dxPhase (d : Bytes) : Nat := u8 d 11
/-- RESP_TIMEOUT_US. -/
def dxResp (d : Bytes) : Nat := if u16 d 12 = 0 then 2800 else u16 d 12
/-- LEAD_US. -/
abbrev dxLead (d : Bytes) : Nat := u16 d 14

/-- Frame n is a port frame (R370). -/
def dxPortFrame (d : Bytes) (n : Nat) : Bool := n % dxDivider d = dxPhase d

/-- Dp: the length of a packet in us (R370). -/
def dxPacketUs (d : Bytes) : Nat := dxBreak d + dxMab d + (dxSlots d + 1) * dxSlotUs d

/-- The duration of an RDM request in us (R375). -/
def dxRequestUs (d : Bytes) (pdl : Nat) : Nat := dxBreak d + dxMab d + (26 + pdl) * dxSlotUs d

/-- SLOT: the time in ns from the break to the end of the last of `slots` slots (R372). -/
def dxSlotNs (d : Bytes) (slots : Nat) : Nat := 1000 * (dxBreak d + dxMab d + (slots + 1) * dxSlotUs d)

/-! ## DMX_DEFINE (R368) -/

/-- The receive records that feed a DMX port, with the position of its first slot in the feed (R333, R369). -/
def Cfg.dmxFeeds (c : Cfg) (port : Nat) : List (Nat × Bytes) :=
  (c.all .ixRx).filter fun e => ixFormat e.2 = 0x10 && ixTarget e.2 ≤ port && port < ixTarget e.2 + ceilDiv (ixTotal e.2) 512

/-- DMX_DEFINE (R368). -/
def dmxDefineOp : Op where
  code := 0x0808
  cls := .staged
  layout := countLayout 16
  body := .staged fun r c s =>
    foldIdx (records r.payload 8 16 (u32 r.payload 0)) 0 c fun i c d => do
      let off := 8 + 16 * i
      unitField 32 s.dmxPorts (u8 d 0) off
      inRange (1 ≤ u16 d 2 ∧ u16 d 2 ≤ 512) (off + 2)
      inRange (u16 d 4 = 0 ∨ (92 ≤ u16 d 4 ∧ u16 d 4 ≤ 10000)) (off + 4)
      inRange (u16 d 6 = 0 ∨ (12 ≤ u16 d 6 ∧ u16 d 6 ≤ 1000)) (off + 6)
      inRange (u16 d 8 ≤ 1000) (off + 8)
      inRange (u8 d 10 ≤ 120) (off + 10)
      inRange (dxPhase d < dxDivider d) (off + 11)
      inRange (u16 d 12 = 0 ∨ (2000 ≤ u16 d 12 ∧ u16 d 12 ≤ 10000)) (off + 12)
      inRange ((c.dmxFeeds (u8 d 0)).isEmpty ∨ dxLead d * 1000 + 10000 ≤ c.periodNs) (off + 14)
      .ok (c.put .dmx (u8 d 0) d)

/-! ## Admission (R369, R371) -/

/-- The flow that feeds a DMX port (R369). -/
def Cfg.dmxFlow (c : Cfg) (port : Nat) : Option (Nat × Bytes) := (c.all .flow).find? fun e => flKind e.2 = 4 && flUnit e.2 = port

/-- The failures of rules 0x09 and 0x0A for one port, a record each: no flow; both sources or neither (R369); the packet,
the longest mark, and, with RDM, the longest transaction (R371, R559). -/
def Cfg.dmxRule (c : Cfg) (port : Nat) (d : Bytes) : List AdmitRec :=
  let bad : Nat → Bool → List AdmitRec := fun rule fails =>
    if fails then [{ check := 9, ruleNo := rule, ownerA := 0x03 * 2 ^ 24 + port }] else []
  let q := dxDivider d * c.rateD * 1000000
  let n := c.rateN
  let x := dxRequestUs d 32 + dxResp d + 12000
  bad 9 (c.dmxFlow port).isNone ++
  bad 9 (((c.all .patch).any fun e => paKind e.2 = 2 && paDest e.2 = port) == !(c.dmxFeeds port).isEmpty) ++
  bad 10 (n ≠ 0 && n * (dxPacketUs d + 10) > q) ++
  bad 10 (n ≠ 0 && q > n * (dxPacketUs d + 1000000)) ++
  bad 10 (n ≠ 0 && dxRdm d && n * (dxPacketUs d + 10 + x) > q)

/-! ## Ports and the DMX block (R379, R380) -/

/-- A port sends its held frame: in SAFE_HOLD or a pause (R373, R380). -/
def State.dmxHolding (s : State) : Bool := s.gl.show_ = .safeHold || s.gl.device = .updatePause

/-- DMXn.STATUS.STATE (R380). -/
def State.dmxState (s : State) (n : Nat) : Nat :=
  match s.cfg.get .dmx n with
  | none => 0
  | some _ =>
    if (s.cfg.dmxFlow n).any fun f => s.mutedAt f.1 s.frameNow then 2
    else if s.dmxHolding then 3 else 1

/-- A DMX register at an offset of its port's block (R379). -/
def State.dmxRead (s : State) (n off : Nat) : Nat :=
  let x := s.dmxOf n
  let d := s.cfg.get .dmx n
  match off with
  | 0x000 => (d.map fun d => dxSlots d + flag (dxRdm d) 16 + 2 ^ 31).getD 0
  | 0x004 => s.dmxState n + flag x.request.isSome 4 + flag x.disc.isSome 5 + flag x.late 6
  | 0x008 => flag x.uids.rinse 0
  | 0x00C => (d.map fun d => 1000 * dxSlotUs d).getD 0
  | 0x010 => x.frame % 2 ^ 32
  | 0x014 => x.frameHi
  | 0x018 => x.packets
  | 0x01C => x.txns
  | 0x020 => x.rdmLate
  | 0x024 => x.rdmBad
  | 0x028 => x.collisions
  | 0x038 => x.uids.drops
  | 0x03C => x.uids.rinsed
  | 0x040 => x.found
  | _ => 0

/-- UID_RINSE is set (R378, R26). -/
def State.uidRinse (n : Nat) (s : State) : State := s.updDmx n fun x => { x with uids := x.uids.request }

/-- UID_RINSE (R378). -/
def execUidRinse (port : Nat) (s : State) : Outcome := if port ≥ s.dmxPorts then .next s else .next (s.uidRinse port)

/-- A DMX register is written (R379). -/
def State.dmxWrite (n off v : Nat) (s : State) : State := if off = 0x008 ∧ bit v 0 then s.uidRinse n else s

/-- The DMX ports at a press: every port keeps its counters and its FIFO; one that is not defined any more has no packet
before it (log entry 146). -/
def State.pressDmx (c' : Cfg) (s : State) : State :=
  { s with dmx := s.dmx.map fun e => (e.1, { e.2 with packetAt := if c'.has .dmx e.1 then e.2.packetAt else none }) }

def execDmxDefine (r : Req) (s : State) : Outcome := hostCommand dmxDefineOp r s

end Sys2Proof.Machine
end

