-- ==== Sys2Proof/Machine/Latency.lean ====
section
/-! DEFINITION. The latency model and issue instants (R295-R305, R319), LATENCY_MEASURE, LATENCY_TABLE, probes, and the
edges of the TTI inputs. -/

namespace Sys2Proof.Machine

/-! ## Destinations (R298) -/

/-- The destinations of a flow, keyed as TARGET of LATENCY_MEASURE: patched instances in rising number, or its scan
port, or itself as a pixel flow (R298, R300). -/
def Cfg.destinations (c : Cfg) (n : Nat) (f : Bytes) : List Nat :=
  let insts := fun (kind : Nat) (p : Nat → Bool) => ((c.all .patch).filter fun e => paKind e.2 = kind && p (paDest e.2)).map Prod.fst
  match flKind f with
  | 0 => match c.get .sacnFlow n with
    | some d => insts 1 fun u => (saUniverses d).contains u
    | none => []
  | 1 => [2 ^ 25 + n]
  | 2 => insts 3 fun x => x = n
  | 3 => [2 ^ 24 + flUnit f]
  | _ => insts 2 fun x => x = flUnit f

/-- The components of a destination's latency in ns, with their sources: 0 none, 1 declared, 2 measured (R298, R305). -/
structure LatParts where
  net     : Nat := 0
  rx      : Nat := 0
  emit    : Nat := 0
  slot    : Nat := 0
  netSrc  : Nat := 0
  rxSrc   : Nat := 0
  emitSrc : Nat := 0
  deriving DecidableEq, Repr

/-- λ of a destination (R298). -/
def LatParts.total (p : LatParts) : Nat := p.net + p.rx + p.emit + p.slot

/-- A measured value, or else a declared one, with the source. -/
def orDeclared (m : Option Nat) (d : Nat) : Nat × Nat :=
  match m with
  | some v => (v, 2)
  | none => (d, 1)

/-- The last packet of a frame of a network flow that carries a destination (R319). -/
def Cfg.lastPacket (c : Cfg) (n : Nat) (f : Bytes) (key : Nat) : Nat :=
  let packets := (c.flowPackets n f).1.length
  match flKind f with
  | 0 => match c.get .sacnFlow n with
    | some d => if saSync d ≠ 0 then packets - 1 else ((c.get .patch key).map paDest).getD 0 - saFirst d
    | none => 0
  | 1 => packets - 1
  | _ => match c.get .ixTx n, c.get .patch key, c.instType key with
    | some d, some p, some t => (paStart p + ftFootprint t - 2) / max 1 (ixPerPacket d)
    | _, _, _ => 0

/-- The wire time from the first packet's time-stamp point to that of the last packet with a destination, rounded up to
a whole ns (R319). -/
def Cfg.wireNs (c : Cfg) (n : Nat) (f : Bytes) (key : Nat) : Nat :=
  match c.get .lane (flLane f) with
  | none => 0
  | some l =>
    let p := c.flowPackets n f
    ceilDiv ((packetStarts (laRate l) p.2 0 0 p.1).getD (c.lastPacket n f key) 0) (laRate l)

/-- SLOT of an instance on a node's DMX port, from the timing that the node reports of the port, the 512 slots of the feed
that hold the instance's first slot (R298, R333, R372). -/
def nodeSlotNs (timing : Option (List Nat)) (p t : Bytes) : Nat :=
  match timing with
  | none => 0
  | some all =>
    let l := all.drop (4 * ((paStart p - 1) / 512))
    1000 * (l.getD 0 0 + l.getD 1 0 + ((paStart p - 1) % 512 + 1 + ftFootprint t) * l.getD 2 0)

/-- The components of a destination of a flow (R298, R319, R350, R353, R372). -/
def Cfg.latParts (c : Cfg) (lat : Latency) (n : Nat) (f : Bytes) (key : Nat) : LatParts :=
  let network : Nat × Nat := orDeclared (if lat.noNet.contains (n, key) then none else (Tab.find lat.net n).map Prod.fst) (flTransit f)
  let wire := c.wireNs n f key
  let node := if lat.noRx.contains (n, key) then none else Tab.find lat.rx n
  let emit := Tab.find lat.emit key
  match c.instType key, c.get .patch key with
  | some t, some p =>
    let e := orDeclared emit (ftEmitLatency t)
    match flKind f with
    | 4 =>
      let slot := ((c.get .dmx (flUnit f)).map fun d => dxSlotNs d (paStart p + ftFootprint t - 1)).getD 0
      { rx := ftRxLatency t, rxSrc := 1, emit := e.1, emitSrc := e.2, slot }
    | 2 =>
      { net := network.1 + wire, netSrc := network.2, rx := node.getD 0, rxSrc := if node.isSome then 2 else 0
        emit := e.1, emitSrc := e.2, slot := nodeSlotNs (if lat.noRx.contains (n, key) then none else Tab.find lat.timing n) p t }
    | _ =>
      let r := orDeclared node (ftRxLatency t)
      { net := network.1 + wire, netSrc := network.2, rx := r.1, rxSrc := r.2, emit := e.1, emitSrc := e.2 }
  | _, _ =>
    let e := orDeclared emit (flEmit f)
    if flKind f = 3 then
      { rx := ((c.get .scan (flUnit f)).map scLatency).getD 0, rxSrc := 1, emit := e.1, emitSrc := e.2 }
    else
      { net := network.1 + wire, netSrc := network.2, rx := node.getD 0, rxSrc := if node.isSome then 2 else 0
        emit := e.1, emitSrc := e.2 }

/-- The latencies of a flow's destinations, in the order of R305. -/
def Cfg.lambdas (c : Cfg) (lat : Latency) (n : Nat) (f : Bytes) : List (Nat × LatParts) :=
  (c.destinations n f).map fun k => (k, c.latParts lat n f k)

/-- The greatest and the least λ of a flow. -/
def lambdaRange (l : List (Nat × LatParts)) : Nat × Nat :=
  let t := l.map fun e => e.2.total
  (t.foldl max 0, t.foldl min (t.headD 0))

/-- L_f in ns (R299). -/
def Cfg.lead (c : Cfg) (lat : Latency) (n : Nat) (f : Bytes) : Nat :=
  let l := c.lambdas lat n f
  if l.isEmpty then (if flNetwork f then flTransit f else 0)
  else ((lambdaRange l).1 + (lambdaRange l).2) / 2

/-- How long before T_n a flow issues, in ns: L_f, or LEAD_US at a node's DMX port that receive records feed (R295, R372). -/
def Cfg.leadNs (c : Cfg) (lat : Latency) (n : Nat) (f : Bytes) : Nat :=
  if flKind f = 4 && !(c.dmxFeeds (flUnit f)).isEmpty then ((c.get .dmx (flUnit f)).map dxLead).getD 0 * 1000
  else c.lead lat n f

/-! ## Issue instants (R48, R49, R295, R297) -/

/-- The frame period in 2^-16 ns, rounded down. -/
def Cfg.periodT (c : Cfg) : Nat := 1000000000 * 65536 * c.rateD / c.rateN

/-- The limit of a lead in ns: P - 10 us (R48). -/
def Cfg.leadLimit (c : Cfg) : Nat := c.periodNs - 10000

/-- The lead of a flow for frame n, before any clamp: the newest that holds from n or an earlier frame (R297). -/
def State.leadAt (s : State) (flow frame : Nat) : Nat :=
  match (Tab.getD s.lat.leads flow []).find? fun e => e.1 ≤ frame with
  | some e => e.2
  | none => ((s.cfg.get .flow flow).map fun f => s.cfg.leadNs s.lat flow f).getD 0

/-- The issue instant of frame n of a flow as a counter value: T_n less the lead, clamped to P - 10 us (R49, R295). -/
def State.issueAt (s : State) (flow frame : Nat) : Nat :=
  let c := s.cfgAt frame
  (c.instant frame - (min (s.leadAt flow frame) c.leadLimit * 65536 : Nat)).toNat

/-! ## Leads at cuts and presses (R297, R302) -/

/-- The values of a flow's row in LATENCY_TABLE: SOURCES, lead, components of the reference destination, and spread
(R299, R305). -/
def Cfg.latencyValues (c : Cfg) (lat : Latency) (n : Nat) (f : Bytes) : List Nat :=
  let l := c.lambdas lat n f
  let ref := (l.find? fun e => e.2.total = (lambdaRange l).1).map Prod.snd
  let p := ref.getD { net := flTransit f, netSrc := 1 }
  [p.netSrc + 4 * p.rxSrc + 16 * p.emitSrc, c.lead lat n f, p.net, p.rx, p.emit, (lambdaRange l).1 - (lambdaRange l).2]

/-- The leads and the values of the table that hold from frame n, where they changed, and LEAD_CLAMPED where a lead leaves
the limit (R49, R297, R305). -/
def State.settleLeads (n : Nat) (s : State) : State :=
  (s.cfg.all .flow).foldl (fun (s : State) (e : Nat × Bytes) =>
    let lead := s.cfg.leadNs s.lat e.1 e.2
    let old := Tab.getD s.lat.leads e.1 []
    let leads := if (old.head?).map Prod.snd = some lead then s.lat.leads else Tab.put s.lat.leads e.1 ((n, lead) :: old.take 7)
    let values := s.cfg.latencyValues s.lat e.1 e.2
    let rows := if (Tab.find s.lat.rows e.1).map Prod.snd = some values then s.lat.rows else Tab.put s.lat.rows e.1 (n, values)
    let rate := max 1 (((s.cfg.get .lane (flLane e.2)).map laRate).getD 0)
    let span := (s.cfg.flowPackets e.1 e.2).2
    let wire := if flNetwork e.2 then
        Tab.put s.lat.wire e.1 (wireT (wireSpan rate span (s.cfg.flowPackets e.1 e.2).1) rate) else s.lat.wire
    let s := { s with lat := { s.lat with leads, rows, wire } }
    let clamped := decide (lead > s.cfg.leadLimit)
    let was := (s.flowOf e.1).clamped
    let s := s.updFlow e.1 fun f => { f with clamped }
    if clamped && !was then s.raise Ev.leadClamped e.1 0 else s) s

/-- The flow that carries a destination (R302). -/
def Cfg.carrier (c : Cfg) (key : Nat) : Option (Nat × Bytes) := (c.all .flow).find? fun e => (c.destinations e.1 e.2).contains key

/-- A latency value comes into force; the answer names the flow concerned (R302). -/
def State.applyLatency (u : LatUpdate) (s : State) : State × Option Nat :=
  match u with
  | .net flow ns jitter => ({ s with lat := { s.lat with net := Tab.put s.lat.net flow (ns, jitter) } }, some flow)
  | .rx flow ns timing =>
    ({ s with lat := { s.lat with
        rx := Tab.put s.lat.rx flow ns
        timing := if timing.isEmpty then s.lat.timing else Tab.put s.lat.timing flow timing } }, some flow)
  | .emit dest ns => ({ s with lat := { s.lat with emit := Tab.put s.lat.emit dest ns } }, (s.cfg.carrier dest).map Prod.fst)

/-- What the cut of frame n does to the latency model: completed measurements come into force, leads follow, and
LATENCY_UPDATED carries the flow, its lead and the frame (R297, R302). -/
def State.cutLatency (n : Nat) (s : State) : State :=
  let (s, flows) := s.lat.updates.foldl (fun (e : State × List Nat) u =>
    let (s, f) := e.1.applyLatency u
    (s, e.2 ++ f.toList)) (s, [])
  let s := { s with lat := { s.lat with updates := [] } }.settleLeads n
  flows.foldl (fun s f => s.raiseFrame Ev.latencyUpdated f (s.leadAt f n) n) s

/-- The drive of a KIND 2 measurement at a cut: DARK_FRAMES frames at 0, then the step (R301). -/
def LatRun.atCut (n : Nat) (r : LatRun) : LatRun :=
  match r.phase with
  | .probing => r
  | .waiting => { r with phase := .dark (u16 r.payload 18 - 1) }
  | .dark 0 => { r with phase := .lit n }
  | .dark (k + 1) => { r with phase := .dark k }
  | .lit _ => r

/-- The runs at the cut of frame n. -/
def State.cutLatRuns (n : Nat) (s : State) : State := { s with lat := { s.lat with runs := s.lat.runs.map (LatRun.atCut n) } }

/-- What identifies a destination across a press: its patch, type, flow and port records (R302). -/
def Cfg.destRecs (c : Cfg) (key : Nat) : List (Option Bytes) :=
  match c.carrier key with
  | none => [none]
  | some (n, f) =>
    [some (leBytes 2 n), some f, c.get .patch key, c.instType key, if flKind f = 3 then c.get .scan (flUnit f) else none,
      if flKind f = 4 then c.get .dmx (flUnit f) else none, c.get .sacnFlow n, c.get .ixTx n]

/-- A destination is unchanged by a press: its flow, instance, type and port are (R302). -/
def sameDest (c c' : Cfg) (key : Nat) : Bool := c.destRecs key = c'.destRecs key && (c'.carrier key).isSome

/-- The destinations of a flow whose instance, type or port a press has changed, or that are new (R302). -/
def newDests (c c' : Cfg) (n : Nat) : List (Nat × Nat) :=
  ((c'.get .flow n).map fun f => ((c'.destinations n f).filter fun k => !sameDest c c' k).map fun k => (n, k)).getD []

/-- A flow is unchanged by a press. -/
def sameFlow (c c' : Cfg) (n : Nat) : Bool := c.get .flow n = c'.get .flow n && c'.has .flow n

/-- A value that waits for a cut stays at a press as one in force does (R302). -/
def LatUpdate.stays (c c' : Cfg) : LatUpdate → Bool
  | .net flow _ _ => sameFlow c c' flow
  | .rx flow _ _ => sameFlow c c' flow
  | .emit dest _ => sameDest c c' dest

/-- The latency model at a press (R302): values stay where what they belong to is unchanged, those measured for a flow no
longer hold for its changed destinations, and repeated measurements end. -/
def State.pressLatency (c c' : Cfg) (s : State) : State :=
  let changed := (c'.all .flow).flatMap fun e => newDests c c' e.1
  { s with lat := { s.lat with
      noNet := ((s.lat.noNet.filter fun e => sameFlow c c' e.1) ++ changed).eraseDups
      noRx := ((s.lat.noRx.filter fun e => sameFlow c c' e.1) ++ changed).eraseDups
      net := s.lat.net.filter fun (e : Nat × (Nat × Nat)) => sameFlow c c' e.1
      rx := s.lat.rx.filter fun (e : Nat × Nat) => sameFlow c c' e.1
      timing := s.lat.timing.filter fun (e : Nat × List Nat) => sameFlow c c' e.1
      emit := s.lat.emit.filter fun (e : Nat × Nat) => sameDest c c' e.1
      leads := s.lat.leads.filter fun (e : Nat × List (Nat × Nat)) => c.has .flow e.1
      wire := s.lat.wire.filter fun (e : Nat × Nat) => c'.has .flow e.1
      rows := s.lat.rows.filter fun (e : Nat × (Nat × List Nat)) => c'.has .flow e.1
      updates := s.lat.updates.filter (LatUpdate.stays c c')
      runs := s.lat.runs.filter fun r => r.job.id ≠ 0
      repeats := [] } }

/-! ## Ixnik headers and probes (R332, R335) -/

/-- The 32-byte header of an Ixnik packet (R332). -/
def ixHeader (flags flow kind format seq claim frame count showNs off : Nat) : Bytes :=
  beBytes 2 0x4958 ++ beBytes 1 1 ++ beBytes 1 flags ++ beBytes 2 flow ++ beBytes 1 kind ++ beBytes 1 format ++ beBytes 4 seq ++
  beBytes 4 claim ++ beBytes 6 frame ++ beBytes 2 count ++ beBytes 4 showNs ++ beBytes 4 off

/-- The nanoseconds field of T_n. -/
def Cfg.showNs (c : Cfg) (n : Nat) : Nat := c.instantN n / 65536 % 1000000000

/-- A stamp of 12 bytes: seconds, nanoseconds and 2^-16 ns (R335). -/
def stampBytes (t : Nat) : Bytes :=
  beBytes 6 (t / 65536 / 1000000000) ++ beBytes 4 (t / 65536 % 1000000000) ++ beBytes 2 (t % 65536)

/-- A probe or a request for the processing time leaves for the node's command port on the flow's lane, with its egress stamp
at the reference plane; its SEQUENCE is that of the flow's last frame (R277, R300, R335; log entry 22). -/
def State.sendProbe (n : Nat) (f : Bytes) (kind : String) (s : State) : State :=
  s.laneSend (flLane f) kind (s.flowMac s.cfg f (flIp f)) (flDscp f) (flIp f) (some (47012, 47012))
    (ixHeader 0 n 2 0 (s.flowOf n).ixSeq (s.claim false) s.frameNow 0 (s.cfg.showNs s.frameNow) 0 ++
      stampBytes (s.egress (flLane f) (s.laneFree (flLane f) (s.eventBytes (flLane f)))).toNat)

/-- What a node reports of its receive record of a flow (R300, R372): the greatest time of its last 1,024 frames from the
ingress of the first packet to the output, and the timing of its DMX ports. The manual gives this read no packet; it goes
with the answer to a probe (log entry 257). -/
def State.reportNode (lane flow : Nat) (s : State) : State :=
  match (s.cfg.all .ixRx).find? fun e => ixLane e.2 = lane && ixFlow e.2 = flow with
  | none => s
  | some (num, d) =>
    let ports := if ixFormat d = 0x10 then (List.range (ceilDiv (ixTotal d) 512)).map fun k => ixTarget d + k else []
    let timing := ports.flatMap fun p => ((s.cfg.get .dmx p).map fun x => [dxBreak x, dxMab x, dxSlotUs x, dxLead x]).getD [0, 0, 0, 0]
    s.emit (.nodeReport lane flow ((s.tk.servo s.tk.source).st = .locked) (ceilDiv ((s.ixOf num).took.foldl max 0) 65536) timing)

/-- IXNIK_PROBE_RX: a unit with the lane defined answers a probe with its header, its TX_STAMP and the ingress stamp at the
reference plane (R277, R332, R335). -/
def execIxnikProbeRx (rx : LaneFrame) (src : Endpoint) (header stamp : Bytes) (s : State) : Outcome :=
  .next (s.receive rx.lane rx.frame fun s =>
    if !ixKnown header then s.updLane rx.lane fun l => { l with rxDrop := satInc l.rxDrop }
    else if u8 header 6 ≠ 2 then s
    else (s.laneSend rx.lane "probe reply" rx.frame.source 0 src.ip (some (47012, src.port))
      (putAt header 6 [3] ++ stamp ++ stampBytes (s.ingress rx.lane (s.frameStamp rx.lane rx.frame)).toNat)).reportNode rx.lane (beNat (slice header 4 2)))

/-! ## LATENCY_MEASURE (R300, R301) -/

/-- KIND of a run. -/
abbrev LatRun.kind (r : LatRun) : Nat := u8 r.payload 0
/-- TARGET of a run. -/
abbrev LatRun.target (r : LatRun) : Nat := u32 r.payload 4

/-- A run of KIND 0 or 1 starts. -/
def State.startProbing (j : Job) (d : Bytes) (s : State) : State :=
  let s := { s with lat := { s.lat with runs := s.lat.runs ++ [({ job := j, payload := d, since := s.now, phase := .probing } : LatRun)] } }
  match s.cfg.get .flow (u32 d 4) with
  | some f => s.sendProbe (u32 d 4) f (if u8 d 0 = 0 then "probe" else "processing request")
  | none => s

/-- LATENCY_MEASURE (R300): the show state and the pair state refuse it before its fields do (log entry 255). -/
def latencyMeasureOp : Op where
  code := 0x0905
  cls := .deferred
  layout := fixedLayout [1, 1, 1, 1, 4, 4, 4, 2, 2, 4]
  body := .run fun r s => do
    let d := r.payload
    let kind := u8 d 0
    need (s.gl.show_ ≠ .armed) Status.showArmed 0
    need (s.gl.show_ ≠ .idle && !s.standbyMember) Status.wrongState s.wrongDetail
    inRange (kind ≤ 2) 0
    if kind = 2 then
      need ((s.cfg.get .capture (u8 d 1)).any fun c => u8 c 3 = 1) Status.badReference 1
      inRange (2 ≤ u8 d 2 ∧ u8 d 2 ≤ 64) 2
      need (u32 d 4 / 2 ^ 24 ≠ 1 || u32 d 4 % 2 ^ 24 ≥ 16 || u32 d 4 % 2 ^ 24 < s.lanes) Status.unitAbsent 4
      need (s.cfg.carrier (u32 d 4)).isSome Status.badReference 4
      inRange (0x10000 ≤ u32 d 8 ∧ u32 d 8 ≤ 0xFFFFF) 8
      inRange (1 ≤ u16 d 18 ∧ u16 d 18 ≤ 600) 18
    else
      inRange (kind = 1 ∨ 1 ≤ u8 d 2) 2
      need ((s.cfg.get .flow (u32 d 4)).any flNetwork) Status.badReference 4
      inRange (u16 d 16 = 0 ∨ (10 ≤ u16 d 16 ∧ u16 d 16 ≤ 3600)) 16
    let (j, s) := s.startJob 0x0905 r.session r.tag
    let s := if kind = 2 then
        { s with lat := { s.lat with runs := s.lat.runs ++ [({ job := j, payload := d, since := s.now, phase := .waiting } : LatRun)] } }
      else s.startProbing j d
    .ok (s, .done { status := Status.acceptedDeferred, payload := leBytes 4 j.id })

/-- A run is over; a run of a repeated measurement has no command to complete. -/
def State.endLatRun (r : LatRun) (status detail : Nat) (s : State) : State :=
  let s := { s with lat := { s.lat with runs := s.lat.runs.filter fun x => x ≠ r } }
  if r.job.id = 0 then s else s.endJob r.job status detail

/-- A run changed. -/
def State.updLatRun (r r' : LatRun) (s : State) : State :=
  { s with lat := { s.lat with runs := s.lat.runs.map fun x => if x = r then r' else x } }

/-- A value waits for the next cut (R302), which sets the leads anew; it is one of every destination of its flow. -/
def State.addLatency (u : LatUpdate) (s : State) : State :=
  { s with lat := { s.lat with
      updates := s.lat.updates ++ [u]
      noNet := match u with
        | .net flow _ _ => s.lat.noNet.filter fun e => e.1 ≠ flow
        | _ => s.lat.noNet
      noRx := match u with
        | .rx flow _ _ => s.lat.noRx.filter fun e => e.1 ≠ flow
        | _ => s.lat.noRx } }

/-- Measurements of KIND 2 end when the show leaves RUNNING for SAFE_HOLD or CONFIGURED, or the member gives up the duty
(R300). -/
def State.endLatRuns (s : State) : State :=
  (s.lat.runs.filter fun r => r.kind = 2).foldl (fun s r => s.endLatRun r Status.wrongState s.wrongDetail) s

/-- LATENCY_START_TIMEOUT: the show has not started within 60 s of acceptance (R300). -/
def execLatencyStartTimeout (s : State) : Outcome :=
  match s.lat.runs.find? fun r => r.phase = .waiting with
  | none => .next s
  | some r =>
    if s.showRuns then .next s
    else
      let s := s.advanceNow (r.since + secT 60)
      .next (s.endLatRun r Status.wrongState s.wrongDetail)

/-- The mean of the results of a run, rounded to a whole ns; the results are in 2^-16 ns (R301). -/
def meanNs (l : List Int) : Int := rdiv (l.foldl (· + ·) 0) (65536 * (l.length : Nat))

/-- The spread of the results. -/
def spreadT (l : List Int) : Nat := (l.foldl max (l.headD 0) - l.foldl min (l.headD 0)).toNat

/-- A transit or node measurement is complete: its value waits for the next cut, and it repeats at its interval (R300,
R302). -/
def State.finishProbing (r : LatRun) (u : LatUpdate) (s : State) : State :=
  let s := (s.endLatRun r Status.ok 0).addLatency u
  if u16 r.payload 16 = 0 then s
  else { s with lat := { s.lat with repeats := Tab.put s.lat.repeats (2 * r.target + r.kind) (r.since, r.payload) } }

/-- The reply to a probe on the pair link gives its one-way delay, and PAIR_LINK_SLOW is raised beyond a quarter of the
heartbeat timeout, which is 200 us by default (R382, R383). -/
def State.measureLink (txStamp rxStamp : Nat) (s : State) : State :=
  match s.cfg.get .pair 0 with
  | none => s
  | some d =>
    let us := if u16 d 8 = 0 then 200 else u16 d 8
    let delay := (rxStamp - txStamp) / 65536
    let slow := decide (4 * delay > 1000 * us)
    let s := { s with pair := { s.pair with linkDelay := delay, slow } }
    if slow then s.raise Ev.pairLinkSlow 0 delay else s

/-- A reply for the oldest measurement of a flow; a node that is not LOCKED fails it. NET is the mean of the differences
rounded up to a ns, and the processing time is rounded up to a us (R300). -/
def State.useProbeReply (flow txStamp rxStamp : Nat) (locked : Bool) (processNs : Nat) (timing : List Nat) (s : State) : State :=
  match s.lat.runs.find? fun r => r.phase = .probing && r.target = flow with
  | none => s
  | some r =>
    if !locked then s.endLatRun r Status.timeNotReady 0
    else if r.kind = 1 then s.finishProbing r (.rx flow (ceilDiv processNs 1000 * 1000) timing)
    else
      let results := r.results ++ [(rxStamp : Int) - txStamp]
      if results.length ≥ u8 r.payload 2 then
        let sum := (results.foldl (· + ·) 0).toNat
        s.finishProbing r (.net flow (ceilDiv sum (65536 * results.length)) (ceilDiv (spreadT results) 65536))
      else
        let s := s.updLatRun r { r with results }
        match s.cfg.get .flow flow with
        | some f => (s.elapse (msT 1)).sendProbe flow f "probe"
        | none => s

/-- PROBE_REPLY_RX: a reply for a flow arrives on its lane; one with flow number 0xFFFF, which no flow has, on the pair link
(R300, R383). -/
def execProbeReplyRx (flow : Nat) (rx : RxFrame) (stamps : Nat × Nat) (locked : Bool) (processNs : Nat) (timing : List Nat) (s : State) : Outcome :=
  .next (match s.cfg.get .flow flow with
    | some f => s.receive (flLane f) rx fun s => s.useProbeReply flow stamps.1 stamps.2 locked processNs timing
    | none => if flow = 0xFFFF then s.measureLink stamps.1 stamps.2 else s)

/-- LATENCY_REPEAT_INTERVAL: the repeating measurements of a flow start again, INTERVAL_S after they started last (R300). -/
def execLatencyRepeatInterval (flow : Nat) (s : State) : Outcome :=
  let start := fun (kind : Nat) (s : State) =>
    match Tab.find s.lat.repeats (2 * flow + kind) with
    | some (since, d) => (s.advanceNow (since + secT (u16 d 16))).startProbing { id := 0, op := 0x0905, session := 0, tag := 0 } d
    | none => s
  .next (start 1 (start 0 s))

/-- A capture ends a cycle of a KIND 2 measurement; after its last cycle the run is accepted when the results differ by
no more than 20 us, and EMIT follows from their mean (R301). -/
def State.latCapture (r : LatRun) (frame t : Nat) (s : State) : State :=
  match s.cfg.carrier r.target with
  | none => s
  | some (n, f) =>
    let issue := s.issueAt n frame
    if t ≤ issue then s
    else
      let results := r.results ++ [(t : Int) - issue - (u32 r.payload 12 * 65536 : Nat)]
      if results.length < u8 r.payload 2 then s.updLatRun r { r with results, phase := .dark (u16 r.payload 18) }
      else
        let s := s.endLatRun r Status.ok 0
        if spreadT results > usT 20 then s
        else
          let p := s.cfg.latParts s.lat n f r.target
          s.addLatency (.emit r.target (meanNs results - (p.net + p.rx + p.slot : Nat)).toNat)

/-- LATENCY_CAPTURE_TIMEOUT: a cycle without a capture within 1 s of its issue instant ends the run (R301). -/
def execLatencyCaptureTimeout (s : State) : Outcome :=
  let lit := s.lat.runs.filterMap fun r => match r.phase with
    | .lit n => (s.cfg.carrier r.target).map fun e => (r, s.issueAt e.1 n)
    | _ => none
  match lit with
  | [] => .next s
  | (r, t) :: _ => .next ((s.advanceTo (t + secT 1)).endLatRun r Status.sensorTimeout 0)

/-- TTI_EDGE: a host input captures the edge; a calibration input ends the cycles that wait for it (R294, R301). -/
def execTtiEdge (input : Nat) (rising : Bool) (s : State) : Outcome :=
  if input ≥ 8 then .next s
  else match s.cfg.get .capture input with
    | none => .next s
    | some d =>
      if u8 d 3 = 0 then .next (s.captureEdge input d rising)
      else if !edgeSelected d rising then .next s
      else
        let t := captureTime d s.tk.counter
        .next (s.lat.runs.foldl (fun (s : State) (r : LatRun) => match r.phase with
          | .lit n => if u8 r.payload 1 = input then s.latCapture r n t else s
          | _ => s) s)

/-! ## LATENCY_TABLE (R305) -/

/-- The 32-byte record of a flow (R305). -/
def State.latencyRow (s : State) (n : Nat) (f : Bytes) : Bytes :=
  let l := s.cfg.lambdas s.lat n f
  let v := ((Tab.find s.lat.rows n).map Prod.snd).getD (s.cfg.latencyValues s.lat n f)
  let calibrated := !l.isEmpty && l.all fun e => Tab.has s.lat.emit e.1
  let first := ((Tab.find s.lat.rows n).map Prod.fst).getD 0
  leBytes 2 n ++
  leBytes 1 (flag (s.flowOf n).clamped 0 + flag (v.getD 5 0 > 40000) 1 + flag calibrated 2 + flag l.isEmpty 3) ++
  leBytes 1 (v.getD 0 0) ++ leBytes 4 (v.getD 1 0) ++ leBytes 4 (v.getD 2 0) ++ leBytes 4 (v.getD 3 0) ++
  leBytes 4 (v.getD 4 0) ++ leBytes 4 (v.getD 5 0) ++ leBytes 4 (((Tab.find s.lat.net n).map Prod.snd).getD 0) ++ leBytes 4 first

/-- LATENCY_TABLE (R303, R305). -/
def latencyTableOp : Op where
  code := 0x0906
  cls := .immediate
  layout := fixedLayout [2, 2]
  body := .run fun r s => do
    let first := u16 r.payload 0
    let count := u16 r.payload 2
    inRange (1 ≤ count ∧ count ≤ 4096) 2
    .ok (s, .ok (((s.cfg.all .flow).filter fun e => first ≤ e.1 && e.1 < first + count).flatMap fun e => s.latencyRow e.1 e.2))

def execLatencyMeasure (r : Req) (s : State) : Outcome := hostCommand latencyMeasureOp r s
def execLatencyTable (r : Req) (s : State) : Outcome := hostCommand latencyTableOp r s

end Sys2Proof.Machine
end

