-- ==== Sys2Proof/Machine/Refresh.lean ====
section
/-! DEFINITION. Scan ports at work (R345-R356, R361, R362): what a port does at an issue instant, refreshes of plain
panels, line writes of memory-type panels, and the frames of Ixnik receive records that outputs use (R334). -/

namespace Sys2Proof.Machine

/-! ## Frames of receive records (R334) -/

/-- An output uses frame n of its receive records, or issues without it, and then the frame counts as late for the
records it is the first output of (R334). -/
def State.useFeeds (l : List (Nat × Bytes)) (n : Nat) (used first : Bool) (s : State) : State :=
  l.foldl (fun (s : State) (e : Nat × Bytes) =>
    let x := s.ixOf e.1
    let x := if used then { x with
        lastUsed := some (max n (x.lastUsed.getD 0))
        took := if x.lastUsed.any fun l => n ≤ l then x.took
          else ((Tab.find x.begun n).map fun t => (s.tk.counter - t) :: x.took.take 1023).getD x.took }
      else if first && !x.terminated then { x with late := satInc x.late } else x
    let keep := fun (f : Nat) => decide (n < f + 4)
    { s with ixrx := Tab.put s.ixrx e.1 { x with
        ready := x.ready.filter fun r => keep r.1, parts := x.parts.filter fun r => keep r.1, begun := x.begun.filter fun r => keep r.1 } }) s

/-- Words of two bytes with their bytes exchanged, from network to little-endian order. -/
def swapWords : Bytes → Bytes
  | a :: b :: rest => b :: a :: swapWords rest
  | l => l

/-- The marks frozen for frame n. -/
def ScanPort.marksOf (x : ScanPort) (n : Nat) : ScanMarks := Tab.getD x.marks n x.used

/-- The codes of a port's frame from its receive records; pixels that none covers show 0 (R344). A calibration drives every
pixel with its test level instead (R301). -/
def State.fedCodes (s : State) (c : Cfg) (port n pixels : Nat) : Option Bytes :=
  let own := (c.scanFeeds port).foldl (fun (b : Option Bytes) (e : Nat × Bytes) =>
    match b, Tab.find (s.ixOf e.1).ready n with
    | some b, some data => some (putAt b (6 * ixFirst e.2) (swapWords data))
    | _, _ => none) (some (zeros (6 * pixels)))
  match ((s.port port).marksOf n).test with
  | none => own
  | some v => own.map fun _ => (codesOf n (List.replicate pixels ((v : Int), (v : Int), (v : Int)))).flatMap fun p =>
      leBytes 2 p.1 ++ leBytes 2 p.2.1 ++ leBytes 2 p.2.2

/-- The slots of a DMX port's frame from its receive records (R333). -/
def State.fedSlots (s : State) (c : Cfg) (port n : Nat) (d : Bytes) : Option Bytes :=
  (c.dmxFeeds port).foldl (fun (b : Option Bytes) (e : Nat × Bytes) =>
    match b, Tab.find (s.ixOf e.1).ready n with
    | some _, some data => some (padTo (dxSlots d) (data.drop (512 * (port - ixTarget e.2))))
    | _, _ => none) (some [])

/-- The codes and the static key of frame n for a port, where they are complete: zeros while muted (R361), those of its
receive records, or those that its flow encoded. -/
def State.portFrame (s : State) (c : Cfg) (port : Nat) (d : Bytes) (flow n : Nat) : Option (Bytes × Bytes) :=
  if s.mutedAt flow n then some (zeros (6 * scPixels d), zeros (9 * scPixels d))
  else if (c.scanFeeds port).isEmpty then
    match (s.flowOf flow).ready.find? fun e => e.frame = n with
    | some e => match e.body with
      | [codes, key] => some (codes, key)
      | _ => none
    | none => none
  else (s.fedCodes c port n (scPixels d)).map fun b => (b, b)

/-- Two lists hold the same members. -/
def sameMembers (a b : List Nat) : Bool := (a.all fun x => b.contains x) && b.all fun x => a.contains x

/-- The marks, groups and gains in force are the same; a tile without an entry has the gains 0x1000 (R354, R360). -/
def ScanMarks.same (a b : ScanMarks) : Bool :=
  sameMembers a.dead b.dead && sameMembers a.off b.off && a.test = b.test &&
  (a.gains.all fun e => Tab.getD b.gains e.1 seamDefault = e.2) && b.gains.all fun e => Tab.getD a.gains e.1 seamDefault = e.2

/-- Frame n is static for a port (R354). -/
def ScanPort.isStatic (x : ScanPort) (n : Nat) (key : Bytes) : Bool := x.codes.isSome && key = x.key && (x.marksOf n).same x.used

/-- A memory-type port writes nothing for a frame: it is, or goes, in static mode (R355). -/
def ScanPort.rests (x : ScanPort) (d : Bytes) (n : Nat) (key : Bytes) : Bool :=
  x.isStatic n key && x.still ≥ scStaticFrames d && !x.owed && !x.fullWrite && !x.noStatic

/-- What an issue instant brought: a frame put in force, a late frame, or neither. -/
inductive Issue where
  | launched | late | none
  deriving DecidableEq, Repr

/-- A frame is put in force at a port (R354, R358): a static frame reuses the prepared data. -/
def State.putInForce (port n : Nat) (c : Cfg) (d codes key : Bytes) (s : State) : State :=
  s.updPort port fun x =>
    let static := x.isStatic n key
    { x with
      frame := n
      codes := if static then x.codes else some (c.prepare port d (x.marksOf n) codes)
      key, used := x.marksOf n
      still := if static then x.still + 1 else 0
      static := static && x.still ≥ scStaticFrames d && !x.noStatic && (scMemory d || scStatic d ≠ 0)
      owed := false, fullWrite := false, late := false, darned := c.darned port (x.marksOf n) }

/-- A port keeps what it shows through the issue instant of frame n. -/
def State.keepScan (port n : Nat) (s : State) : State :=
  s.updPort port fun x => { x with marks := x.marks.filter fun e => n < e.1, period := some n, refresh := 0 }

/-- The swap of a memory-type port (R351). -/
def State.scanSwap (port n : Nat) (d : Bytes) (s : State) : State :=
  (s.scanOut port "swap" [n]).scanLat port d 0 (scSwapClks d * scClk d)

/-- The issue instant of frame n at a scan port (R345, R351, R353, R361-R363); the port takes no frame that is cut in
SAFE_HOLD or skipped. -/
def State.issueScan (port flow n : Nat) (s : State) : State × Issue :=
  let c := s.cfgAt n
  match c.get .scan port with
  | none => (s, .none)
  | some d =>
    let s := s.updPort port fun x => if x.restart.any (fun f => f ≤ n) then x.restarted else x
    let x := s.port port
    let drop := State.keepScan port n
    if x.tripped ∨ (s.frameRec n).all FrameRec.held ∨ (c.scanFeeds port).any (fun e => (s.ixOf e.1).terminated) then (drop s, .none)
    else
      let muted := s.mutedAt flow n
      match s.portFrame c port d flow n with
      | none =>
        let s := s.useFeeds (c.scanFeeds port) n false true
        (drop (s.updPort port fun x => { x with late := true, owed := x.owed || scMemory d }), .late)
      | some (codes, key) =>
        let s := if muted then s else s.useFeeds (c.scanFeeds port) n true true
        let written := x.writing = some n && x.lines ≥ scLines d
        if !scMemory d then
          if muted then
            (drop ((s.updPort port fun x => { x with codes := none, static := false, still := 0 }).scanStop port d), .none)
          else ((drop (s.putInForce port n c d codes key)).scanOut port "show" [n], .launched)
        else if muted then
          let s := s.updPort port fun x => { x with owed := true }
          if x.dark || !written then (drop s, .none)
          else
            let s := (s.putInForce port n c d codes key).scanSwap port n d
            (drop (s.updPort port fun x => { x with owed := true, static := false, still := 0, dark := true }), .none)
        else if x.rests d n key then (drop (s.updPort port fun x => { x with static := true, late := false, still := x.still + 1 }), .launched)
        else if written then
          ((drop ((s.putInForce port n c d codes key).updPort port fun x => { x with dark := false })).scanSwap port n d, .launched)
        else (drop (s.updPort port fun x => { x with late := true, owed := true, dark := false }), .late)

/-! ## Plain panels (R345-R349) -/

/-- A port tick of 2.5 ns in 2^-16 ns (R341). -/
abbrev portTick : Nat := 163840

/-- The start of refresh j of frame n, of R in the frame (R345). -/
def State.refreshAt (s : State) (flow n j r : Nat) : Nat :=
  let a := s.issueAt flow n
  let b := s.issueAt flow (n + 1)
  (a + j * (b - a) / r) / portTick * portTick

/-- The bits that a visit shows, from channel Ch - 1 down, the data lines side by side (R346, R349). -/
def visitBits (d codes : Bytes) (r line plane : Nat) : List Nat :=
  (List.range (scChain d)).reverse.map fun k =>
    packBits ((List.range (scDataLines d)).map fun dl =>
      let ch := scChannel d line dl k
      bit (displayValue (scPlanes d) (u16 codes (6 * (ch / 4) + 2 * (ch % 4))) r (ch / 4) (ch % 4)) plane)

/-- The visits of a refresh as (plane, line), in order (R346). -/
def scVisits (d : Bytes) : List (Nat × Nat) :=
  (chunkList (scPlanes d) (scChunk d)).flatMap fun plane => (List.range (scLines d)).map fun line => (plane, line)

/-- A visit from a tick of its refresh on: LAT, OE for its display time, and from the end of LAT the data of the visit after
it and in the hem that one's address; after the last visit CLK stays idle (R349). -/
def State.scanVisit (port : Nat) (d codes : Bytes) (unit r tick plane : Nat) (next : Option (Nat × Nat)) (s : State) : State :=
  let lit := tick + scLatch d
  let shown := chunkWeight (scChunk d) plane * unit
  let s := ((s.scanLat port d tick (scLatch d)).scanOe port d lit true).scanOe port d (lit + shown) false
  match next with
  | none => s
  | some (plane', line') =>
    (s.scanOut port "shift" (lit :: visitBits d codes r line' plane')).scanAddress port d (lit + max shown (scShift d) + scAddrAt d) line'

/-- Visits one after the other from a tick on (R346). -/
def State.scanVisits (port : Nat) (d codes : Bytes) (unit r : Nat) : List (Nat × Nat) → Nat → State → State
  | [], _, s => s
  | v :: rest, tick, s =>
    State.scanVisits port d codes unit r rest (tick + visitTicks d unit v.1) (s.scanVisit port d codes unit r tick v.1 rest.head?)

/-- Refresh r leaves the port: the lead-in with the address and the data of the first visit, and the visits. Each output
names its port tick within the refresh; a shift clocks Ch times from its tick on (R346, R349). -/
def State.emitRefresh (port : Nat) (d codes : Bytes) (static : Bool) (r : Nat) (s : State) : State :=
  let l := scVisits d
  let s := match l with
    | [] => s
    | (plane, line) :: _ => (s.scanAddress port d 0 line).scanOut port "shift" (0 :: visitBits d codes r line plane)
  s.scanVisits port d codes (scPace d static).1 r l (scShift d)

/-- The steps of the detection slot of frame n from a tick on (R356): the hem with the address of the line that it tests,
ones on every data line, LAT for the detect command, OE, the wait, and the clocks in which RET is sampled. -/
def State.emitSlot (port n : Nat) (d : Bytes) (tick : Nat) (s : State) : State :=
  let t1 := tick + scHem d
  let t2 := t1 + scShift d
  let clks := (if n % 2 = 0 then u8 d 44 else u8 d 45) * scClk d
  let t3 := t2 + clks
  let t4 := t3 + u16 d 46
  let s := (s.scanOut port "detect" [n]).scanAddress port d (tick + scAddrAt d) (n / 2 % scLines d)
  let s := (s.scanOut port "ones" [t1, scChain d]).scanLat port d t2 clks
  ((s.scanOe port d t3 true).scanOe port d t4 false).scanOut port "read" [t4 + u16 d 48, scChain d, u16 d 50]

/-- The detection slot of frame n runs from a tick on, where the port has one, and returns its bits (R356). -/
def State.runSlot (port n : Nat) (d : Bytes) (tick : Nat) (bits : List Bool) (s : State) : State :=
  if scDetect d then (s.emitSlot port n d tick).detectionSlot port n bits else s

/-- SCAN_REFRESH_START: the next refresh of a plain port under the record of its frame, and in refresh 0 the detection slot
with its bits (R345, R346, R348, R356, R363). -/
def execScanRefreshStart (port : Nat) (detect : List Bool) (s : State) : Outcome :=
  match (s.port port).codes, (s.port port).period with
  | some codes, some n =>
    let c := s.cfgAt n
    match c.get .scan port, c.scanFlow port with
    | some d, some (flow, _) =>
      let x := s.port port
      let pace := scPace d x.static
      if scMemory d ∨ x.tripped ∨ (x.refresh ≥ pace.2 ∧ s.showRuns) then .next s
      else
        let j := x.refresh
        let s := s.advanceTo (s.refreshAt flow n j pace.2)
        let r := n * scRefresh d + j * (if x.static then scRefresh d / scStatic d else 1)
        let s := (s.scanOut port "refresh" [x.frame, j]).emitRefresh port d codes x.static r
        let s := s.updPort port fun x => { x with refresh := j + 1 }
        .next (if j = 0 then s.runSlot port n d (refreshTicks d x.static - slotTicks d) detect else s)
    | _, _ => .next s
  | _, _ => .next s

/-! ## Memory-type panels (R351-R353, R361) -/

/-- A skipped frame: its cut fell in an activation pause, or will (R470). -/
def State.skips (s : State) (n : Nat) : Bool :=
  s.upd.skipped.contains n || (s.gl.device = .updatePause && s.frameNow < n)

/-- Frame n is not taken: the show is in SAFE_HOLD, or the frame was cut there or is skipped by a pause (R57, R361, R470). -/
def State.holdsAt (s : State) (n : Nat) : Bool :=
  s.gl.show_ = .safeHold || s.gl.device = .updatePause || s.skips n || (s.frameRec n).all FrameRec.held

/-- Line l of a memory-type port is written (R351): OE stays active, the address changes in the hem, 16 bits for each channel
are clocked, and LAT is active for WRITE_CLKS. Ticks count from the start of the line's write. -/
def State.emitLine (port n line : Nat) (d : Bytes) (words : List Nat) (s : State) : State :=
  let s := ((s.scanOut port "line" [n, line]).scanOe port d 0 true).scanAddress port d (scAddrAt d) line
  (s.scanOut port "words" (scHem d :: words)).scanLat port d (scHem d + 16 * scChain d * scClk d) (scWriteClks d * scClk d)

/-- SCAN_LINE_WRITE: the next line of the frame whose launch window is open is written while TE reads ready; `waited`
says that TE won the race and the write waited. A static frame reuses the prepared data of the last one (R354). After the
last line comes the detection slot (R351, R352, R356). -/
def execScanLineWrite (port : Nat) (waited : Bool) (detect : List Bool) (s : State) : Outcome :=
  if port ≥ s.lanes then .next s
  else match s.cfg.scanFlow port with
    | none => .next s
    | some (flow, _) =>
      match (s.flowOf flow).next with
      | none => .next s
      | some n =>
        let c := s.cfgAt n
        match c.get .scan port with
        | none => .next s
        | some d =>
          let x := s.port port
          let x := if x.restart.any (fun f => f ≤ n) then x.restarted else x
          match s.portFrame c port d flow n with
          | none => .next s
          | some (codes, key) =>
            let line := if x.writing = some n then x.lines else 0
            let muted := s.mutedAt flow n
            if !scMemory d ∨ x.tripped ∨ line ≥ scLines d ∨ (muted ∧ x.dark) ∨ (!muted ∧ x.rests d n key) ∨ s.holdsAt n then .next s
            else
              let s := s.advanceTo (c.instantN n - c.periodT + line * lineWriteTicks d * portTick)
              let prepared := if x.isStatic n key then x.codes.getD [] else c.prepare port d (x.marksOf n) codes
              let words := (List.range (scChain d)).reverse.flatMap fun k => (List.range (scDataLines d)).map fun dl =>
                let ch := scChannel d line dl k
                u16 prepared (6 * (ch / 4) + 2 * (ch % 4))
              let s := (s.updPort port fun _ => { x with
                writing := some n, lines := line + 1, te := some (s.now, true)
                teStalls := if waited then satInc x.teStalls else x.teStalls }).emitLine port n line d words
              .next (if line + 1 = scLines d then s.runSlot port n d (lineWriteTicks d) detect else s)

end Sys2Proof.Machine
end

