-- ==== Sys2Proof/Machine/Rdm.lean ====
section
/-! DEFINITION. The RDM controllers of the DMX ports (R374-R378): requests, discovery, the gaps they run in, responses and
timeouts. -/

namespace Sys2Proof.Machine

/-- A destination UID that no single device answers (R374, R375). -/
def broadcastUid (uid : Nat) : Bool := uid % 2 ^ 32 = 0xFFFF_FFFF

/-- The UID of all devices. -/
abbrev allDevices : Nat := 0xFFFF_FFFF_FFFF

/-- PDL of a request. -/
abbrev rqPdl (p : Bytes) : Nat := u8 p 3
/-- DEST_UID of a request. -/
abbrev rqUid (p : Bytes) : Nat := beNat (slice p 4 6)

/-- The reservation of a request in us (R375). -/
def requestUs (d p : Bytes) : Nat :=
  dxRequestUs d (rqPdl p) + dxResp d + (if broadcastUid (rqUid p) then 0 else 12000)

/-- PDL of a discovery step: a branch carries its two bounds. -/
def DiscStep.pdl : DiscStep → Nat
  | .unMute => 0
  | .branch _ _ => 12
  | .mute _ _ _ => 0

/-- The reservation of a discovery step in us (R375). -/
def discoveryUs (d : Bytes) (st : DiscStep) : Nat :=
  dxRequestUs d st.pdl + dxResp d + match st with
    | .unMute => 0
    | .branch _ _ => 2000
    | .mute _ _ _ => 12000

/-- The port frames near a frame, in rising order. -/
def portFrames (d : Bytes) (n : Nat) : List Nat :=
  ((List.range (4 * dxDivider d)).map fun i => n + i - dxDivider d).filter (dxPortFrame d)

/-- The gaps of a port from now on as (start, end) counter times: from the end of a packet to the next issue instant
(R370, R375). With no show running the gap after the last packet has no end, and a port that has sent no packet has none
before its first. -/
def State.gaps (s : State) (port : Nat) (d : Bytes) (flow : Nat) : List (Nat × Nat) :=
  let sent := (s.dmxOf port).packetAt.isSome
  if !s.showRuns then
    match (s.dmxOf port).packetAt with
    | some t => [(max s.tk.counter (t + usT (dxPacketUs d)), max s.tk.counter (t + usT (dxPacketUs d)) + secT 3600)]
    | none => []
  else
    let next := (s.flowOf flow).next.getD (s.frameNow + 1)
    let l := portFrames d next
    let pairs := (l.zip (l.drop 1)).filter fun e => sent || next ≤ e.1
    (pairs.map fun e => (s.issueAt flow e.1 + usT (dxPacketUs d), s.issueAt flow e.2)).filter fun e => s.tk.counter < e.2

/-- The earliest start of a transaction that needs `us`, in the first gap that has room for it (R375). -/
def State.earliest (s : State) (port : Nat) (d : Bytes) (flow us : Nat) : Option Nat :=
  ((s.gaps port d flow).find? fun e => max e.1 s.tk.counter + usT us ≤ e.2).map fun e => max e.1 s.tk.counter

/-- The start of the next transaction: in a gap after a packet, with the time it needs, and the fabric not paused (R373,
R375). -/
def State.nextTransact (s : State) (port : Nat) (d : Bytes) (flow us : Nat) : Option Nat :=
  if s.gl.device = .updatePause || (s.dmxOf port).packetAt.isNone then none else s.earliest port d flow us

/-- The refusals that RDM_REQUEST and RDM_DISCOVER share (R376, R378). -/
def State.rdmPort (s : State) (port : Nat) : Chk? (Bytes × Nat) :=
  if s.dmxPorts ≤ port ∧ port < 32 then .error ⟨Status.unitAbsent, 0⟩
  else
    match s.cfg.get .dmx port with
    | none => .error ⟨Status.badReference, 0⟩
    | some d =>
      if !dxRdm d then .error ⟨Status.outOfRange, 0⟩
      else .ok (d, ((s.cfg.dmxFlow port).map Prod.fst).getD 0)

/-- A port with a transaction or a discovery outstanding is busy with its holder's session (R376). -/
def DmxPort.rdmFree (x : DmxPort) : Chk? Unit :=
  match x.request, x.disc with
  | some q, _ => .error ⟨Status.busy, q.session⟩
  | none, some q => .error ⟨Status.busy, q.job.session⟩
  | none, none => .ok ()

/-- RDM_REQUEST (R376): the reply waits for the end of the transaction. -/
def rdmRequestOp : Op where
  code := 0x080C
  cls := .immediate
  layout := layout [1, 1, 1, 1, 6, 2, 2, 2] (some (3, fun b => u8 b 3))
  body := .run fun r s => do
    let p := r.payload
    let (d, flow) ← s.rdmPort (u8 p 0)
    inRange (u8 p 1 = 0x20 ∨ u8 p 1 = 0x30) 1
    inRange (rqPdl p ≤ 32) 3
    (s.dmxOf (u8 p 0)).rdmFree
    let us := requestUs d p
    need ((s.earliest (u8 p 0) d flow us).any fun t => t + usT us ≤ s.tk.counter + msT 45) Status.busy 0
    let s := s.updDmx (u8 p 0) fun x => { x with request := some { session := r.session, payload := p } }
    .ok (s, .wait (.rdm (u8 p 0)))

/-- RDM_DISCOVER (R378). -/
def rdmDiscoverOp : Op where
  code := 0x080D
  cls := .deferred
  layout := fixedLayout [1, 1, 2]
  body := .run fun r s => do
    let port := u8 r.payload 0
    let _ ← s.rdmPort port
    (s.dmxOf port).rdmFree
    let (j, s) := s.startJob 0x080D r.session r.tag
    let step : DiscStep := if bit (u8 r.payload 1) 0 then .unMute else .branch 0 (allDevices - 1)
    let s := s.updDmx port fun x => { x with disc := some { job := j, step } }
    .ok (s, .done { status := Status.acceptedDeferred, payload := leBytes 4 j.id })

/-! ## Requests on the line (R374) -/

/-- The controller UID of a port: the personality's RDM manufacturer ID with its device-ID base plus the port (R374). -/
def State.controllerUid (s : State) (port : Nat) : Nat :=
  u16 s.personality 14 * 2 ^ 32 + (u32 s.personality 16 + port) % 2 ^ 32

/-- An E1.20 message: 24 bytes of header, the parameter data and the checksum. -/
def State.rdmMessage (s : State) (port dest txn sub cc pid : Nat) (pd : Bytes) : Bytes :=
  let b := [0xCC, 0x01] ++ leBytes 1 (24 + pd.length) ++ beBytes 6 dest ++ beBytes 6 (s.controllerUid port) ++ leBytes 1 txn ++
    leBytes 1 (port + 1) ++ [0] ++ beBytes 2 sub ++ leBytes 1 cc ++ beBytes 2 pid ++ leBytes 1 pd.length ++ pd
  b ++ beBytes 2 ((b.map fun v => v.toNat).foldl (· + ·) 0)

/-- The message of a discovery step (R378). -/
def State.discMessage (s : State) (port txn : Nat) (st : DiscStep) : Bytes :=
  match st with
  | .unMute => s.rdmMessage port allDevices txn 0 0x10 0x0003 []
  | .branch lo hi => s.rdmMessage port allDevices txn 0 0x10 0x0001 (beBytes 6 lo ++ beBytes 6 hi)
  | .mute uid _ _ => s.rdmMessage port uid txn 0 0x10 0x0002 []

/-- A transaction starts on the line at its counter time: its number, and the time since reset at which its response
timeout expires (R374, R377). -/
def State.startRdm (port : Nat) (d : Bytes) (pdl at_ : Nat) (m : Bytes) (s : State) : State :=
  let s := s.advanceTo at_
  (s.updDmx port fun x => { x with txn := (x.txn + 1) % 256, expires := s.now + usT (dxRequestUs d pdl + dxResp d) }).drive
    (dmxBank port) (.dmx port "rdm request" (bit (u8 d 1) 1) m)

/-- RDM_TRANSACTION_START: the outstanding request or the next discovery step starts in the first gap that has room for it
(R375). -/
def execRdmTransactionStart (port : Nat) (s : State) : Outcome :=
  if port ≥ s.dmxPorts ∨ s.portHeld port then .next s
  else match s.cfg.get .dmx port, s.cfg.dmxFlow port with
    | some d, some (flow, _) =>
      let x := s.dmxOf port
      let txn := (x.txn + 1) % 256
      match x.request, x.disc with
      | some q, _ =>
        let p := q.payload
        match q.started, s.nextTransact port d flow (requestUs d p) with
        | none, some t =>
          let m := s.rdmMessage port (rqUid p) txn (u16 p 10) (u8 p 1) (u16 p 12) (p.drop 16)
          .next ((s.startRdm port d (rqPdl p) t m).updDmx port fun x => { x with request := some { q with started := some txn } })
        | _, _ => .next s
      | none, some q =>
        match q.started, s.nextTransact port d flow (discoveryUs d q.step) with
        | none, some t =>
          let m := s.discMessage port txn q.step
          .next ((s.startRdm port d q.step.pdl t m).updDmx port fun x => { x with disc := some { q with started := some txn } })
        | _, _ => .next s
      | none, none => .next s
    | _, _ => .next s

/-! ## Ends of transactions (R377, R378) -/

/-- The transaction of a request ends with its one reply (R377). -/
def State.endRequest (port : Nat) (a : Ans) (s : State) : State :=
  (s.updDmx port fun x => { x with request := none, txns := satInc x.txns }).completeAny (.rdm port) a

/-- The discovery goes on with the next branch, or completes with the count of UIDs found (R378). -/
def State.nextBranch (port : Nat) (q : Discovery) (s : State) : State :=
  match q.rest with
  | (lo, hi) :: rest => s.updDmx port fun x => { x with disc := some { q with step := .branch lo hi, started := none, rest, hits := 0 } }
  | [] => (s.updDmx port fun x => { x with disc := none, found := q.found }).endJob q.job Status.ok 0

/-- A collision in a branch: it is split; one at a single UID is tried again, 16 times in a row at most (R378). -/
def State.collide (port : Nat) (q : Discovery) (lo hi : Nat) (s : State) : State :=
  let s := s.updDmx port fun x => { x with collisions := satInc x.collisions }
  if lo < hi then
    let mid := (lo + hi) / 2
    s.updDmx port fun x => { x with disc := some { q with step := .branch lo mid, started := none, rest := (mid + 1, hi) :: q.rest, hits := 0 } }
  else if q.hits + 1 ≥ 16 then s.nextBranch port q
  else s.updDmx port fun x => { x with disc := some { q with step := .branch lo hi, started := none, hits := q.hits + 1 } }

/-- A UID that its DISC_MUTE confirms goes to the UID FIFO of 512 as one packet of two items (R378). -/
def State.foundUid (port uid : Nat) (s : State) : State :=
  s.arrive (.uids port) 512 [(uid % 2 ^ 32, false), (uid / 2 ^ 32 % 65536, true)]

/-- A response in a discovery step: one to the broadcast DISC_UN_MUTE is malformed and ends nothing; a decoded UID is
confirmed by DISC_MUTE, and its branch searched again (R377, R378). -/
def State.discResponse (port : Nat) (q : Discovery) (m : RdmResponse) (s : State) : State :=
  let bad := fun (s : State) => s.updDmx port fun x => { x with rdmBad := satInc x.rdmBad }
  let ended := s.updDmx port fun x => { x with txns := satInc x.txns }
  match q.step with
  | .unMute => bad s
  | .branch lo hi =>
    if m.cutOff then (bad ended).updDmx port fun x => { x with disc := some { q with started := none } }
    else if m.goodSum then ended.updDmx port fun x => { x with disc := some { q with step := .mute m.uid lo hi, started := none, hits := 0 } }
    else ended.collide port q lo hi
  | .mute uid lo hi =>
    if m.goodSum && !m.cutOff && some m.transaction = q.started && m.uid = uid && m.dest = s.controllerUid port then
      (ended.foundUid port uid).updDmx port fun x =>
        { x with disc := some { q with step := .branch lo hi, started := none, found := q.found + 1, hits := 0 } }
    else (bad ended).collide port q lo hi

/-- The reply payload of a response (R376). -/
def rdmReply (m : RdmResponse) : Bytes :=
  leBytes 1 m.responseType ++ leBytes 1 m.messageCount ++ zeros 2 ++ leBytes 2 m.pid ++ leBytes 1 m.pd.length ++ zeros 1 ++ m.pd.take 231

/-- The break of a port frame ends a transaction that is still open (R375, R377): its timeout lies before the issue instant, so
that a response won against it and is cut off, discarded and counted (log entry 259). Broadcasts end as at their timeout. -/
def State.cutRdm (port : Nat) (s : State) : State :=
  let x := s.dmxOf port
  let bad := fun (s : State) => s.updDmx port fun x => { x with rdmBad := satInc x.rdmBad }
  match x.request, x.disc with
  | some q, _ =>
    if q.started.isNone then s
    else if broadcastUid (rqUid q.payload) then s.endRequest port {}
    else (bad s).endRequest port { status := Status.crcBad }
  | none, some q =>
    if q.started.isNone then s
    else
      let ended := s.updDmx port fun x => { x with txns := satInc x.txns }
      match q.step with
      | .unMute => ended.updDmx port fun x => { x with disc := some { q with step := .branch 0 (allDevices - 1), started := none } }
      | .branch _ _ => (bad ended).updDmx port fun x => { x with disc := some { q with started := none } }
      | .mute _ lo hi => (bad ended).collide port q lo hi
  | none, none => s

/-- A response that begins after its transaction has ended is counted; one that the issue instant cut off is counted
already (R375, R377). -/
def State.lateResponse (port : Nat) (m : RdmResponse) (s : State) : State :=
  if m.cutOff then s else s.updDmx port fun x => { x with rdmLate := satInc x.rdmLate }

/-- RDM_RESPONSE_RX: a response before the expiry is received and checked; one after it is discarded and counted
(R377, R378). -/
def execRdmResponseRx (port : Nat) (m : RdmResponse) (s : State) : Outcome :=
  if port ≥ s.dmxPorts then .next s
  else if !(s.cfg.get .dmx port).any dxRdm then .next s
  else
    let x := s.dmxOf port
    let bad := s.updDmx port fun x => { x with rdmBad := satInc x.rdmBad }
    match x.request, x.disc with
    | some q, _ =>
      match q.started with
      | none => .next (s.lateResponse port m)
      | some txn =>
        if broadcastUid (rqUid q.payload) then .next bad
        else if m.goodSum && !m.cutOff && m.transaction = txn && m.uid = rqUid q.payload && m.dest = s.controllerUid port then
          .next (s.endRequest port { payload := rdmReply m })
        else .next (bad.endRequest port { status := Status.crcBad })
    | none, some q =>
      if q.started.isSome then .next (s.discResponse port q m)
      else .next (s.lateResponse port m)
    | none, none => .next (s.lateResponse port m)

/-- RDM_RESPONSE_TIMEOUT: the response timeout has run from the last stop bit of the request; a broadcast request replies OK, any other RDM_TIMEOUT with the port; a discovery branch without
an answer is empty (R376-R378). -/
def execRdmResponseTimeout (port : Nat) (s : State) : Outcome :=
  if port ≥ s.dmxPorts then .next s
  else
    let x := s.dmxOf port
    match x.request, x.disc with
    | some q, _ =>
      if q.started.isNone then .next s
      else if broadcastUid (rqUid q.payload) then .next ((s.advanceNow x.expires).endRequest port {})
      else .next ((s.advanceNow x.expires).endRequest port { status := Status.rdmTimeout, detail := port })
    | none, some q =>
      if q.started.isNone then .next s
      else
        let s := (s.advanceNow x.expires).updDmx port fun x => { x with txns := satInc x.txns }
        match q.step with
        | .unMute => .next (s.updDmx port fun x => { x with disc := some { q with step := .branch 0 (allDevices - 1), started := none } })
        | .branch _ _ => .next (s.nextBranch port q)
        | .mute _ lo hi => .next (s.collide port q lo hi)
    | none, none => .next s

/-- At a press, what is outstanding on a port that goes or loses its RDM controller ends: the request as timed out, the
discovery with what it found (log entry 23). -/
def State.pressRdm (c' : Cfg) (s : State) : State :=
  s.dmx.foldl (fun (s : State) (e : Nat × DmxPort) =>
    if (c'.get .dmx e.1).any dxRdm then s
    else
      let s := if e.2.request.isSome then s.endRequest e.1 { status := Status.rdmTimeout, detail := e.1 } else s
      match e.2.disc with
      | some q => (s.updDmx e.1 fun x => { x with disc := none, found := q.found }).endJob q.job Status.ok 0
      | none => s) s

def execRdmRequest (r : Req) (s : State) : Outcome := hostCommand rdmRequestOp r s
def execRdmDiscover (r : Req) (s : State) : Outcome := hostCommand rdmDiscoverOp r s

end Sys2Proof.Machine
end

