-- ==== Sys2Proof/Machine/Schedule.lean ====
section
/-! DEFINITION. Jobs and render lanes (R69, R130, R241-R265): the compile of a configuration into jobs, readiness,
dispatch, pre-emption and ordered release. -/

namespace Sys2Proof.Machine

/-! ## Elements and jobs (R69, R130, R242-R245) -/

/-- A run of equal elements of one job kind: the flows their results feed, their number and the cost of one in eighths
of an eu, the instances they read or hold, the object they make (for a window: the one it covers, with its range), and
the witness window. -/
structure Elems where
  feeds  : List Nat := []
  count  : Nat
  cost   : Nat
  insts  : List Nat := []
  object : Option (Nat × Nat) := none
  first  : Nat := 0
  win    : Option Nat := none
  deriving DecidableEq, Repr

/-- A job before it has its number. -/
structure Draft where
  kind  : Nat
  parts : List Elems
  deriving DecidableEq, Repr

/-- The elements of a job. -/
def Draft.elements (d : Draft) : Nat := (d.parts.map Elems.count).foldl (· + ·) 0
/-- The cost of a job with its 64 eu of overhead, in eighths of an eu (R69). -/
def Draft.cost (d : Draft) : Nat := (d.parts.map fun e => e.count * e.cost).foldl (· + ·) 0 + 512
/-- The flows that a job feeds (R244). -/
def Draft.feeds (d : Draft) : List Nat := (d.parts.flatMap Elems.feeds).eraseDups

/-- The job size of a kind (R246, R247). -/
def Cfg.jobSize (c : Cfg) (kind : Nat) : Nat := ((c.get .jobSize kind).map fun d => u16 d 2).getD 4096

/-- The elements from position `a` up to `b` of a sequence of runs. -/
def cutElems (a b : Nat) : List Elems → List Elems
  | [] => []
  | e :: rest =>
    let lo := min a e.count
    let hi := min b e.count
    let tail := cutElems (a - e.count) (b - e.count) rest
    if lo < hi then { e with count := hi - lo, first := e.first + lo } :: tail else tail

/-- Runs split into ceil(n / s) jobs that differ in size by at most one element (R69). -/
def splitEqual (kind size : Nat) (l : List Elems) : List Draft :=
  let n := (l.map Elems.count).foldl (· + ·) 0
  let j := ceilDiv n (max 1 size)
  (List.range j).map fun i => { kind, parts := cutElems (i * n / j) ((i + 1) * n / j) l }

/-- The parameters of an instance as runs, with the contributions of their effects (R69). -/
def Cfg.paramElems (c : Cfg) (inst : Nat) (t : Bytes) : List Elems :=
  (List.range (ftParams t)).map fun p =>
    { count := 1, cost := 8 + 4 * ((c.all .assign).filter fun e => e.1 % 2 ^ 24 = 128 * inst + p).length, insts := [inst] }

/-- Parameter jobs: whole instances as long as they fit, and an instance beyond the job size on its own (R130). -/
def paramJobs (size : Nat) : List (List Elems) → List Elems → List Draft
  | [], [] => []
  | [], cur => [{ kind := 1, parts := cur }]
  | l :: rest, cur =>
    let done : List Draft := if cur.isEmpty then [] else [{ kind := 1, parts := cur }]
    if l.length > size then
      let n := ceilDiv l.length (max 1 size)
      done ++ ((List.range n).map fun i => { kind := 1, parts := (l.drop (i * size)).take size }) ++ paramJobs size rest []
    else if cur.length + l.length > size then done ++ paramJobs size rest l
    else paramJobs size rest (cur ++ l)

/-- The cost of the colour work of an instance (R69, R242). -/
def Cfg.colourCost (c : Cfg) (inst : Nat) (t : Bytes) : Nat :=
  let n := ftEmitters t
  let deviation := (c.get .mix (u16 t 0)).any fun m => u8 m 2 = 1
  let mix := if n ≤ 3 then 32 else if deviation then 96 + 16 * (n - 4) else 48 + 8 * (n - 4)
  mix + 8 + (if (c.get .binding inst).any fun b => bdTrim b then 2 else 0) + 2 * n

/-- Colour groups of equal element cost, in the order of their lowest instances (R242). -/
def colourGroups : Nat → List Elems → List (List Elems)
  | 0, _ => []
  | _, [] => []
  | k + 1, e :: rest => (e :: rest.filter fun x => x.cost = e.cost) :: colourGroups k (rest.filter fun x => x.cost ≠ e.cost)

/-- The cost of an output pixel: sampling, compositing, YCbCr conversion and encode (R69). -/
def Cfg.pixelCost (c : Cfg) (m : Bytes) : Nat :=
  let layers := c.canvasLayers (u8 m 8)
  let sampling := match u8 m 1 with
    | 0 => 4
    | 1 => 8
    | _ => 8 + min 256 (u8 m 2 * u8 m 3)
  sampling + 2 * layers.length + (if layers.any fun e => lyVideo e.2 then 2 else 0) + 2

/-- Flows in order of launch instant, equal ones in rising number (R243). -/
def Cfg.launchOrder (c : Cfg) (lat : Latency) : List (Nat × Bytes) :=
  let l := (c.all .flow).map fun e => (c.leadNs lat e.1 e.2, e)
  let ins := fun (x : Nat × (Nat × Bytes)) (l : List (Nat × (Nat × Bytes))) =>
    (l.filter fun y => y.1 ≥ x.1) ++ [x] ++ l.filter fun y => y.1 < x.1
  (l.foldl (fun acc x => ins x acc) []).map Prod.snd

/-- The instances patched to a destination. -/
def Cfg.instsAt (c : Cfg) (kind : Nat) (p : Nat → Bool) : List Nat :=
  ((c.all .patch).filter fun e => paKind e.2 = kind && p (paDest e.2)).map Prod.fst

/-- The pixel elements of the flows (R242). Objects are (kind, number) as witness windows name them: 1 with the flow or
2^24 and the port, and 2 with 2^24 and a universe, 2^25 and a DMX port, or 3 x 2^24 and a feed. -/
def Cfg.pixelElems (c : Cfg) (l : List (Nat × Bytes)) : List Elems :=
  l.filterMap fun e =>
    let port := decide (flKind e.2 = 3)
    let n := if port then flUnit e.2 else e.1
    if flKind e.2 ≠ 1 ∧ !port then none
    else match c.get .pixmap (pixNum port n), c.destPixels port n with
      | some m, some k => some { feeds := [e.1], count := k, cost := c.pixelCost m, object := some (1, if port then 2 ^ 24 + n else n) }
      | _, _ => none

/-- The panel pixels that scan-port preparation makes (R242). -/
def Cfg.prepElems (c : Cfg) (l : List (Nat × Bytes)) : List Elems :=
  (l.filter fun e => flKind e.2 = 3).filterMap fun e =>
    (c.get .scan (flUnit e.2)).map fun d => { feeds := [e.1], count := scPixels d, cost := 4, object := some (0, flUnit e.2) }

/-- The universes of sACN flows, and for node feeds one element for each 512 slots (R242, log entry 24). -/
def Cfg.sacnElems (c : Cfg) (l : List (Nat × Bytes)) : List Elems :=
  l.flatMap fun e =>
    if flKind e.2 = 0 then match c.get .sacnFlow e.1 with
      | some d => (saUniverses d).map fun u =>
          ({ feeds := [e.1], count := 1, cost := 320, insts := c.instsAt 1 fun x => x = u, object := some (2, 2 ^ 24 + u) } : Elems)
      | none => []
    else if flKind e.2 = 2 then match c.get .ixTx e.1 with
      | some d => [{ feeds := [e.1], count := ceilDiv (ixTotal d) 512, cost := 320, insts := c.instsAt 3 fun x => x = e.1
                     object := some (2, 3 * 2 ^ 24 + e.1) }]
      | none => []
    else []

/-- The DMX port frames (R242, R372). -/
def Cfg.dmxElems (c : Cfg) (l : List (Nat × Bytes)) : List Elems :=
  (l.filter fun e => flKind e.2 = 4).map fun e =>
    { feeds := [e.1], count := 1, cost := 320, insts := c.instsAt 2 fun x => x = flUnit e.2, object := some (2, 2 ^ 25 + flUnit e.2) }

/-- The flows of a window's object (R244): those that sample the canvas, that carry the pixels, or that send the slots. -/
def Cfg.objectFlows (c : Cfg) (l : List (Nat × Bytes)) (kind object : Nat) : List Nat :=
  let fed := fun (e : Nat × Bytes) =>
    match kind with
    | 0 => (c.get .pixmap (pixNum (flKind e.2 = 3) (if flKind e.2 = 3 then flUnit e.2 else e.1))).any (fun m => u8 m 8 = object) &&
        (flKind e.2 = 1 || flKind e.2 = 3)
    | 1 => if object < 2 ^ 24 then e.1 = object else flKind e.2 = 3 && flUnit e.2 = object - 2 ^ 24
    | _ => if object < 2 ^ 25 then flKind e.2 = 0 && (c.get .sacnFlow e.1).any fun d => (saUniverses d).contains (object - 2 ^ 24)
      else flKind e.2 = 4 && flUnit e.2 = object - 2 ^ 25
  (l.filter fed).map Prod.fst

/-- The elements that a witness window covers; a canvas point is charged as an output pixel (R69, R214, R234),
without the YCbCr conversion of a video layer (log entry 206). -/
def Cfg.witnessElems (c : Cfg) (l : List (Nat × Bytes)) : List Elems :=
  (c.all .witness).map fun e =>
    let kind := u8 e.2 1
    let canvas := kind = 0
    let layers := if canvas then c.canvasLayers (u32 e.2 4) else []
    { feeds := c.objectFlows l kind (u32 e.2 4), count := if canvas then u32 e.2 16 * u32 e.2 20 else u32 e.2 16
      cost := 1 + 2 * layers.length, object := some (kind, u32 e.2 4), first := if canvas then 0 else u32 e.2 8, win := some e.1 }

/-- The drafts of all jobs in compile order: input jobs, then output jobs by the first of the flows they feed, kinds in
order within a flow, WITNESS last (R243). -/
def Cfg.drafts (c : Cfg) (lat : Latency) : List Draft :=
  let types := (c.all .patch).filterMap fun e => (c.get .ftype (paType e.2)).map fun t => (e.1, t)
  let params := paramJobs (c.jobSize 1) (types.map fun e => c.paramElems e.1 e.2) []
  let lit := (types.filter fun e => ftEmitters e.2 ≠ 0).map fun e => ({ count := 1, cost := c.colourCost e.1 e.2, insts := [e.1] } : Elems)
  let colour := (colourGroups lit.length lit).flatMap (splitEqual 2 (c.jobSize 2))
  let order := c.launchOrder lat
  let outs := splitEqual 3 (c.jobSize 3) (c.pixelElems order) ++ splitEqual 4 (c.jobSize 4) (c.prepElems order) ++
    splitEqual 5 (c.jobSize 5) (c.sacnElems order) ++ splitEqual 6 (c.jobSize 6) (c.dmxElems order) ++
    splitEqual 7 (c.jobSize 7) (c.witnessElems order)
  let first := fun (d : Draft) => (order.find? fun e => d.feeds.contains e.1).map Prod.fst
  params ++ colour ++ (order.flatMap fun e => outs.filter fun d => first d = some e.1) ++ outs.filter fun d => (first d).isNone

/-- Two runs of elements share one. -/
def elemsMeet (a b : Elems) : Bool := rangesMeet (a.first, a.count) (b.first, b.count)

/-- A job reads the results of another (R249): SACN and DMX jobs those of the input jobs of their instances, and WITNESS
jobs those of the jobs they cover. -/
def Draft.readsFrom (d x : Draft) : Bool :=
  match d.kind with
  | 5 => x.kind ≤ 2 && x.parts.any fun e => e.insts.any fun i => d.parts.any fun f => f.insts.contains i
  | 6 => x.kind ≤ 2 && x.parts.any fun e => e.insts.any fun i => d.parts.any fun f => f.insts.contains i
  | 7 => 3 ≤ x.kind && x.kind ≤ 6 && x.parts.any fun e => d.parts.any fun f =>
      e.object = f.object && (f.object.any fun o => o.1 = 1 && elemsMeet e f || o.1 = 2)
  | _ => false

/-- The level of a flow (R245, R246). -/
def Cfg.flowLevel (c : Cfg) (flow : Nat) : Nat := ((c.get .level flow).map fun d => u8 d 1).getD 8

/-- The lane that a flow is pegged to (R248). -/
def Cfg.flowPeg (c : Cfg) (flow : Nat) : Option Nat := (c.get .peg flow).map fun d => u8 d 1

/-- The jobs of a configuration with their numbers, levels and pegs (R241-R248). -/
def Cfg.compile (c : Cfg) (lat : Latency) : List SchedJob :=
  let l := (c.drafts lat).zipIdx
  let outLevel := fun (d : Draft) => (d.feeds.map c.flowLevel).foldl max 0
  l.map fun e =>
    let d := e.1
    { num := e.2, kind := d.kind, elements := d.elements, cost := d.cost
      level := if d.kind ≤ 2 then ((l.filter fun x => x.1.readsFrom d).map fun x => outLevel x.1).foldl max 0 else outLevel d
      peg := (d.feeds.filterMap c.flowPeg).head?
      feeds := d.feeds
      reads := (l.filter fun x => d.readsFrom x.1).map Prod.snd
      wins := (d.parts.filterMap Elems.win).eraseDups }

/-! ## Lanes (R246, R252-R256) -/

/-- The number of render lanes of the variant (R5). -/
def State.renderLanes (s : State) : Nat := if s.fuses.te8220 then 32 else 64

/-- A lane's group uses push dispatch (R246, R254). -/
def Cfg.pushLane (c : Cfg) (lane : Nat) : Bool := (c.get .dispatch 0).any fun d => bit (u8 d 1) (lane / 8)

/-- A job is eligible for a lane (R252). -/
def JobRun.eligible (j : JobRun) (lane : Nat) : Bool := j.peg.isNone || j.peg = some lane

/-- The job that a free lane takes from one level: one pegged to it, one of the first 16 with its affinity, or the first
(R253). -/
def pickLevel (affinity : Tab Nat) (lane : Nat) (l : List JobRun) : Option JobRun :=
  match l.find? fun j => j.peg = some lane with
  | some j => some j
  | none => match (l.take 16).find? fun j => Tab.find affinity j.num = some lane with
    | some j => some j
    | none => l.head?

/-- The job that a free lane takes: from the highest level that holds an eligible one (R253). -/
def Scheduler.pick (x : Scheduler) (lane : Nat) : Option JobRun :=
  (List.range 16).reverse.findSome? fun level => pickLevel x.affinity lane (x.ready.filter fun j => j.level = level && j.eligible lane)

/-- What a lane holds beside its job. -/
def Scheduler.lane (x : Scheduler) (lane : Nat) : RenderLane := Tab.getD x.lanes lane {}

/-- What a lane holds changed. -/
def Scheduler.updLane (lane : Nat) (f : RenderLane → RenderLane) (x : Scheduler) : Scheduler :=
  { x with lanes := Tab.upd x.lanes lane {} f }

/-- A free lane takes a job at a time, whose data its store then keeps; a mark that the job had caused is withdrawn (R252,
R256, R262). -/
def Scheduler.feed (now : Nat) (x : Scheduler) (lane : Nat) : Scheduler :=
  if Tab.has x.running lane then x
  else match x.pick lane with
    | none => x
    | some j => { x with
        ready := x.ready.filter fun k => k ≠ j
        running := Tab.put x.running lane { j with segAt := now }
        marks := x.marks.filter fun m => m.2 ≠ (j.frame, j.num) }.updLane lane fun l => { l with data := some j.num }

/-- The time at which a job reaches its next segment boundary: the segment's part of the job's element cost, at
15.625 / f_c ns for an eu (R255, R257, log entry 25). -/
def State.boundary (s : State) (j : JobRun) : Nat :=
  match (s.frameRec j.frame).bind fun f => (f.force.sched.jobs.find? fun k => k.num = j.num).map fun k => (k, f.force.sched.speed) with
  | none => j.segAt
  | some (k, speed) =>
    let here := min 256 (k.elements - 256 * j.done)
    j.segAt + (k.cost - 512) * here * 15625 * 65536 / (8 * max 1 (k.elements * speed))

/-- The victim of a job of level 12 to 15: a running job of a lower level on a push lane eligible for the new job, not
yet pre-empted in its frame nor marked; the lowest level first, then the job that reaches its next segment boundary
soonest, then the lowest lane (R255). -/
def State.victim (s : State) (x : Scheduler) (j : JobRun) : Option Nat :=
  let l := x.running.filter fun e =>
    s.cfg.pushLane e.1 && j.eligible e.1 && e.2.level < j.level && !e.2.preempted && !Tab.has x.marks e.1
  let before := fun (a b : Nat × JobRun) =>
    a.2.level < b.2.level || a.2.level = b.2.level && s.boundary a.2 < s.boundary b.2
  (l.foldl (fun (best : Option (Nat × JobRun)) e => match best with
    | none => some e
    | some b => if before e b then some e else best) none).map Prod.fst

/-- A job of level 12 to 15 that becomes ready, or returns to its list, while no lane is idle for it marks a victim, once
(R255). -/
def State.mark (s : State) (x : Scheduler) (j : JobRun) : Scheduler :=
  if j.level < 12 ∨ j.asked then x
  else match s.victim x j with
    | none => x
    | some lane => { x with marks := Tab.put x.marks lane (j.frame, j.num) }

/-! ## Background items (R75, R76, R441) -/

/-- A kind of background work has an item to run: memory is always scrubbed and telemetry always sent, while check channels
and calibration have work as long as one runs. -/
def State.hasItems (s : State) : BackgroundKind → Bool
  | .scrub => true
  | .check => s.chk.any fun (e : Nat × Chk) => decide (e.2.st = .running)
  | .calibration => !s.col.runs.isEmpty
  | .telemetry => true

/-- The kinds that share the reserve in turn: scrub one half, check channels one quarter, calibration and telemetry one
quarter (R441, log entry 226). -/
def reserveTurns : List BackgroundKind :=
  [.scrub, .check, .scrub, .calibration, .scrub, .check, .scrub, .telemetry]

/-- The reserve's turns as they fall: calibration and telemetry have one quarter together, which is telemetry's while no
calibration runs (R441, log entry 226). -/
def State.reserveKinds (s : State) : List BackgroundKind :=
  reserveTurns.map fun k => if k = .calibration && !s.hasItems .calibration then .telemetry else k

/-- The kinds that share slack in rotation (R441). -/
def slackTurns : List BackgroundKind := [.scrub, .check, .calibration, .telemetry]

/-- The first place at or after `at_` of a rotation whose kind has an item. -/
def State.turnFrom (s : State) (turns : List BackgroundKind) (at_ : Nat) : Option (Nat × BackgroundKind) :=
  (List.range turns.length).findSome? fun i =>
    let k := (at_ + i) % turns.length
    (turns[k]?).bind fun kind => if s.hasItems kind then some (k, kind) else none

/-- What is left of a lane's 2 % of the slot, in 2^-16 ns (R75, R76). -/
def State.reserveLeft (s : State) (l : RenderLane) : Nat := s.cfg.periodT / 50 - l.share

/-- The rest of the slot is no longer than what is left of the lane's reserve, so that the lane runs background items
(R76). -/
def State.reserveDue (s : State) (l : RenderLane) : Bool :=
  s.showRuns && decide (0 < s.reserveLeft l) &&
    decide (s.cfg.instantN (s.cfg.slotAt s.tk.counter + 1) ≤ s.tk.counter + s.reserveLeft l)

/-- A lane without an item starts one where no foreground job runs on it, in the rotation of slack, or where its reserve is
due, in that of the reserve (R75, R76, R441). An item never delays a job: the lane counts as idle for R252 (log entry
226). -/
def State.startItem (s : State) (x : Scheduler) (lane : Nat) : Scheduler :=
  let l := x.lane lane
  if l.item.isSome then x
  else if s.reserveDue l then match s.turnFrom s.reserveKinds l.reserveAt with
    | some (k, kind) => x.updLane lane fun l => { l with item := some kind, reserveAt := k + 1 }
    | none => x
  else if Tab.has x.running lane then x
  else match s.turnFrom slackTurns l.slackAt with
    | some (k, kind) => x.updLane lane fun l => { l with item := some kind, slackAt := k + 1 }
    | none => x

/-! ## Dispatch (R252-R256) -/

/-- Every free lane takes work, urgent jobs that found none mark their victims, and lanes without foreground work start
background items (R75, R252-R255). -/
def State.dispatch (s : State) : State :=
  let lanes := List.range s.renderLanes
  let x := lanes.foldl (Scheduler.feed s.now) s.sch
  let x := x.ready.foldl s.mark x
  let x := { x with ready := x.ready.map fun j => { j with asked := true } }
  { s with sch := lanes.foldl s.startItem x }

/-! ## Completion and release (R249, R251, R258) -/

/-- A job put among jobs of rising number, and of one number after those of earlier frames (R250). -/
def insertJob (j : JobRun) : List JobRun → List JobRun
  | [] => [j]
  | k :: rest => if j.num < k.num ∨ (j.num = k.num ∧ j.frame < k.frame) then j :: k :: rest else k :: insertJob j rest

/-- Jobs that wait for nothing more become ready together, and enter their lists in rising number (R249, R250). -/
def Scheduler.wake (x : Scheduler) : Scheduler :=
  { x with
    ready := x.ready ++ (x.waiting.filter fun j => j.waits.isEmpty).foldl (fun l j => insertJob j l) []
    waiting := x.waiting.filter fun j => !j.waits.isEmpty }

/-- Jobs that wait for nothing more become ready, and lanes take them (R249, R252). -/
def State.startReady (s : State) : State := ({ s with sch := s.sch.wake } : State).dispatch

/-- A frame of a flow is complete: it waits for its issue instant, or is discarded where that has passed (R53, R258). -/
def State.releaseFrame (flow : Nat) (f : FrameRec) (s : State) : State :=
  match Tab.find f.bodies flow with
  | none => s
  | some body =>
    s.updFlow flow fun x =>
      if x.next.any (fun n => f.frame < n) ∨ x.ready.any (fun e => e.frame = f.frame) ∨ x.dropped.contains f.frame then x
      else { x with ready := x.ready ++ [{ frame := f.frame, body }] }

/-- The flows that none of the frame's jobs still feeds, among `flows`, are released (R258). -/
def State.releaseFlows (n : Nat) (flows : List Nat) (s : State) : State :=
  match s.frameRec n with
  | none => s
  | some f =>
    let open_ := fun (flow : Nat) => f.force.sched.jobs.any fun j => j.feeds.contains flow && f.left.contains j.num
    (flows.filter fun x => !open_ x).foldl (fun s x => s.releaseFrame x f) s

/-! ## Witness windows (R234, R235) -/

/-- The object of a window is a port whose frames come from receive records (R333, R344, R369). -/
def Cfg.fedObject (c : Cfg) (d : Bytes) : Bool :=
  let n := u32 d 4 % 2 ^ 24
  match u8 d 1, u32 d 4 / 2 ^ 24 with
  | 1, 1 => !(c.scanFeeds n).isEmpty
  | 2, 2 => !(c.dmxFeeds n).isEmpty
  | _, _ => false

/-- The value of a window for a frame (R234): of what the frozen inputs give, or, for a port fed by receive records, of
the frame that they brought; none while that is not complete. -/
def State.windowValue (s : State) (f : FrameRec) (w : Nat) (d : Bytes) : Option Nat :=
  let c := f.force.cfg
  let n := u32 d 4 % 2 ^ 24
  if !c.fedObject d then Tab.find f.wits w
  else if u8 d 1 = 1 then
    ((c.get .scan n).bind fun p => s.fedCodes c n f.frame (scPixels p)).map fun b => crc32c (slice b (6 * u32 d 8) (6 * u32 d 16))
  else ((c.get .dmx n).bind fun p => s.fedSlots c n f.frame p).map fun b => crc32c (slice b (u32 d 8 - 1) (u32 d 16))

/-- A frame is late for a window's object: the issue instants of all flows of the object have passed (R235, log entry
225). -/
def State.lateFor (s : State) (f : FrameRec) (d : Bytes) : Bool :=
  let l := f.force.cfg.objectFlows (f.force.cfg.all .flow) (u8 d 1) (u32 d 4)
  !l.isEmpty && l.all fun x => (s.flowOf x).next.any fun n => f.frame < n

/-- A window is compared for a frame (R235): it is enabled, its definition is still that of the frame, and the frame is
not late; where the frame is to come from receive records, the compare waits for it. -/
def State.compareWindow (f : FrameRec) (w : Nat) (bad : Bool) (s : State) : State :=
  match f.force.cfg.get .witness w with
  | none => s
  | some d =>
    if !(s.window w).enable || s.cfg.get .witness w ≠ some d || s.lateFor f d then s
    else match s.windowValue f w d with
      | some v => s.compareWitness w v f.frame bad
      | none => if f.force.cfg.fedObject d then s.updFrame f.frame fun x => { x with owed := x.owed ++ [(w, bad)] } else s

/-- The windows whose last job has completed are compared (R235, R249). -/
def State.compareWindows (n : Nat) (wins bad : List Nat) (s : State) : State :=
  match s.frameRec n with
  | none => s
  | some f =>
    let open_ := fun (w : Nat) => f.force.sched.jobs.any fun j => j.wins.contains w && f.left.contains j.num
    (wins.filter fun w => !open_ w).foldl (fun s w => s.compareWindow f w (bad.contains w)) s

/-- A frame has come from receive records: the compares that waited for it are made (R235). -/
def State.compareOwed (n : Nat) (s : State) : State :=
  match s.frameRec n with
  | none => s
  | some f => f.owed.foldl (fun s e => s.compareWindow f e.1 e.2) (s.updFrame n fun x => { x with owed := [] })

/-! ## Jobs and items that end -/

/-- JOB_COMPLETE: the job of a lane completes, what it feeds is released in order, jobs that waited for it become ready,
and the lane takes new work (R249, R252, R258). `badParity` names windows whose stored reference fails its parity
(R237). -/
def execJobComplete (lane : Nat) (badParity : List Nat) (s : State) : Outcome :=
  if lane ≥ s.renderLanes then .next s
  else match Tab.find s.sch.running lane with
    | none => .next s
    | some j =>
      let wake := fun (k : JobRun) => if k.frame = j.frame then { k with waits := k.waits.filter fun n => n ≠ j.num } else k
      let s := { s with sch := { s.sch with
        running := Tab.del s.sch.running lane, marks := Tab.del s.sch.marks lane
        affinity := Tab.put s.sch.affinity j.num lane, waiting := s.sch.waiting.map wake } }
      let s := s.updFrame j.frame fun f => { f with left := f.left.filter fun n => n ≠ j.num }
      let job := (s.frameRec j.frame).bind fun f => f.force.sched.jobs.find? fun k => k.num = j.num
      let s := match job with
        | some k => (s.compareWindows j.frame k.wins badParity).releaseFlows j.frame k.feeds
        | none => s
      .next s.startReady

/-- A segment of a job has ended on a lane: the next begins, or, where the job is marked, it is pre-empted and goes back to
the head of its list (R255, R256). The last segment ends with JOB_COMPLETE. -/
def State.endSegment (lane : Nat) (j : JobRun) (s : State) : State :=
  if j.done + 1 ≥ j.segments then s
  else
    let j := { j with done := j.done + 1 }
    let x := { s.sch with affinity := Tab.put s.sch.affinity j.num lane }
    if Tab.has x.marks lane then
      ({ s with sch := { x with
        running := Tab.del x.running lane, marks := Tab.del x.marks lane
        ready := { j with preempted := true, asked := false } :: x.ready } } : State).dispatch
    else { s with sch := { x with running := Tab.put x.running lane { j with segAt := s.now } } }

/-- The jobs that wait for a job of the frame that has stopped, directly or through others, with it. -/
def deadJobs (frame num : Nat) (waiting : List JobRun) : List Nat :=
  waiting.foldl (fun dead k => if k.frame = frame && k.waits.any dead.contains then dead ++ [k.num] else dead) [num]

/-- The job of a lane stops and its results are discarded: it never counts as complete, so that what it feeds is late, and
the jobs that would read them do not run (R439). -/
def State.stopJob (lane : Nat) (j : JobRun) (s : State) : State :=
  let dead := deadJobs j.frame j.num s.sch.waiting
  ({ s with sch := { s.sch with
    running := Tab.del s.sch.running lane, marks := Tab.del s.sch.marks lane
    waiting := s.sch.waiting.filter fun k => !(k.frame = j.frame && dead.contains k.num) } } : State).dispatch

/-- The longest time of a background item in 2^-16 ns, which the model counts for each (R75, log entry 226). -/
def itemT : Nat := usT 2

/-- BACKGROUND_ITEM_COMPLETE: the item that a lane runs is over and counts toward the lane's share of the slot, and the
lane takes foreground work that is ready, or the next item (R75, R76, R441). An idle lane has an item of the kind whose
turn it is. What the item did is the effect of its own unit. -/
def execBackgroundItemComplete (lane : Nat) (kind : BackgroundKind) (s : State) : Outcome :=
  if lane ≥ s.renderLanes then .next s
  else
    let x := s.startItem s.sch lane
    if (x.lane lane).item ≠ some kind then .next s
    else .next ({ s with sch := x.updLane lane fun l => { l with item := none, share := l.share + itemT } } : State).dispatch

/-! ## Slots -/

/-- The jobs of a frame start on their way: input jobs are ready at the end of the cut, and output jobs wait for their
slot, at depth 3 the next one, and for what they read (R47, R249). The number 262,144, which no job has, stands for the
slot. -/
def State.queueJobs (f : FrameRec) (s : State) : State :=
  let gate := if f.force.cfg.depth = 3 then [262144] else []
  let run := fun (k : SchedJob) => ({
    frame := f.frame, num := k.num, level := k.level, peg := k.peg, segments := ceilDiv k.elements 256
    waits := if k.kind ≤ 2 then [] else gate ++ k.reads } : JobRun)
  { s with sch := { s.sch with waiting := s.sch.waiting ++ f.force.sched.jobs.map run } }

/-- A new slot begins: the output jobs of the frames cut before it lose their wait for it, and the lanes' background shares
begin again (R47, R75, R249). Jobs become ready at the end of the cut. -/
def State.openSlot (s : State) : State :=
  { s with sch := { s.sch with
    waiting := s.sch.waiting.map fun j => { j with waits := j.waits.filter fun n => n ≠ 262144 }
    lanes := Tab.mapV s.sch.lanes fun _ (l : RenderLane) => { l with share := 0 } } }

end Sys2Proof.Machine
end

