-- ==== Sys2Proof/Machine/Launch.lean ====
section
/-! DEFINITION. The launch stage (R48-R57, R295, R296, R315-R326, R332, R337, R370, R373): what each flow issues at the
issue instant of a frame, and the launch queues of the host. -/

namespace Sys2Proof.Machine

/-! ## The frame of an issue instant -/

/-- The configuration under which frame n of a flow is issued: that of its cut, or, once the flow has ended, the last one
that had it (R63, R322). -/
def State.launchCfg (s : State) (flow n : Nat) : Cfg :=
  match (s.flowOf flow).ended with
  | some e => if e ≤ n then s.cfgAt (e - 1) else s.cfgAt n
  | none => s.cfgAt n

/-- The issue instant of frame n of a flow (R295), also for a flow that has ended. -/
def State.launchAt (s : State) (flow n : Nat) : Nat :=
  let c := s.launchCfg flow n
  (c.instant n - (min (s.leadAt flow n) c.leadLimit * 65536 : Nat)).toNat

/-- The objects of witness windows whose HOLD withholds a frame of a flow (R235). -/
def Cfg.flowObjects (c : Cfg) (n : Nat) (f : Bytes) : List (Nat × Nat) :=
  match flKind f with
  | 0 => ((c.get .sacnFlow n).map saUniverses |>.getD []).map fun u => (2, 2 ^ 24 + u)
  | 1 => [(1, n)]
  | 3 => [(1, 2 ^ 24 + flUnit f)]
  | 4 => [(2, 2 ^ 25 + flUnit f)]
  | _ => []

/-- A window with HOLD withholds frame n of a flow (R235). -/
def State.withheldAt (s : State) (c : Cfg) (flow n : Nat) (f : Bytes) : Bool :=
  (c.flowObjects flow f).any fun o => s.held n o.1 o.2

/-! ## Packets (R324-R326, R332, R333) -/

/-- The next sequence number of a universe: 0 for its first packet, then one more (R325). -/
def nextSeq (seqs : Tab Nat) (u : Nat) : Nat :=
  match Tab.find seqs u with
  | some q => (q + 1) % 256
  | none => 0

/-- The destination address of the sACN packets of a flow: its unicast address, or the multicast address of the universe
or synchronization address (R324, R326). -/
def sacnDest (f : Bytes) (u : Nat) : Nat := if flIp f = 0 then sacnGroup u else flIp f

/-- A packet of a frame: its kind, IPv4 destination, UDP port and payload. -/
structure FlowPacket where
  kind : String
  ip   : Nat
  port : Nat
  body : Bytes
  deriving DecidableEq, Repr

/-- The packets of one frame of a flow leave on its lane, the first at `start` and the others under its pace (R295, R318). -/
def State.place (c : Cfg) (f : Bytes) (start rate pace : Nat) (sizes : List Nat) (l : List FlowPacket) (s : State) : State :=
  (l.zip (packetStarts rate pace 0 0 sizes)).foldl (fun s e =>
    s.emit (.lanePacket (flLane f) e.1.kind
      (s.head c (flLane f) (start + wireT e.2 rate) (s.flowMac c f e.1.ip) (flDscp f) e.1.ip (some (e.1.port, e.1.port))) e.1.body)) s

/-- The data packet of a universe: CID, name, priority, synchronization address, sequence number, options, universe, START
code and slots (R324, R325). -/
def sacnData (cid name d : Bytes) (options u seq : Nat) (slots : Bytes) : Bytes :=
  cid ++ name ++ beBytes 1 (saPriority d) ++ beBytes 2 (saSync d) ++ beBytes 1 seq ++ beBytes 1 options ++ beBytes 2 u ++ [0] ++ slots

/-- The packets of a frame of an sACN flow, or of a termination of it, and their sequence numbers: one for each universe and
the synchronization packet (R322, R325, R326). -/
def State.sacnPackets (s : State) (flow : Nat) (f d : Bytes) (terminate : Bool) (body : List Bytes) : List FlowPacket × List Nat :=
  let x := s.flowOf flow
  let options := flag (bit (u8 d 12) 0) 7 + flag terminate 6 + flag (bit (u8 d 12) 1) 5
  let l := (saUniverses d).zip body
  let seqs := l.map fun e => nextSeq x.seqs e.1
  ((l.zip seqs).map (fun e => ⟨"sacn", sacnDest f e.1.1, 5568, sacnData s.cid s.sacnName d options e.1.1 e.2 e.1.2⟩) ++
    (if saSync d = 0 then [] else [⟨"sacn sync", sacnDest f (saSync d), 5568, s.cid ++ beBytes 2 (saSync d) ++ beBytes 1 (nextSeq x.syncs (saSync d))⟩]),
    seqs)

/-- The sequence numbers of an sACN flow after a frame (R325). -/
def Flow.advanceSeqs (x : Flow) (d : Bytes) (seqs : List Nat) : Flow :=
  { x with
    seqs := ((saUniverses d).zip seqs).foldl (fun t e => Tab.put t e.1 e.2) x.seqs
    syncs := if saSync d = 0 then x.syncs else Tab.put x.syncs (saSync d) (nextSeq x.syncs (saSync d)) }

/-- The claim of a flow's next packets (R385): raised for the first 3 frames after the duty was gained. -/
def State.flowClaim (s : State) (flow : Nat) : Nat := s.claim (s.pairActive && decide (Tab.getD s.pair.raised flow 0 < 3))

/-- A frame of a flow is launched under the active duty (R385). -/
def State.useRaised (flow : Nat) (s : State) : State :=
  if !s.pairActive then s
  else { s with pair := { s.pair with raised := Tab.put s.pair.raised flow (min 3 (Tab.getD s.pair.raised flow 0 + 1)) } }

/-- The packets of one frame of an Ixnik flow, or its termination, under one sequence number (R322, R332, R333). -/
def ixPackets (d : Bytes) (kind flow seq claim n showNs : Nat) (repeated terminate : Bool) (body : Bytes) : List Bytes :=
  let size := ixSize (ixFormat d)
  let per := max 1 (ixPerPacket d)
  let flags := flag repeated 1
  if terminate then [ixHeader 4 flow kind (ixFormat d) seq claim n 0 showNs 0]
  else
    let packets := ceilDiv (ixTotal d) per
    (List.range packets).map fun i =>
      let count := min per (ixTotal d - i * per)
      ixHeader (flags + flag (i + 1 = packets) 0) flow kind (ixFormat d) seq claim n count showNs (i * per) ++
        slice body (i * per * size) (count * size)

/-- The packets of one frame of a network flow, or of a termination of it, their sequence numbers, and the state after them
(R322-R326, R332, R333). -/
def State.flowFrame (c : Cfg) (flow n : Nat) (f : Bytes) (repeated terminate : Bool) (body : List Bytes) (s : State) :
    List FlowPacket × List Nat × State :=
  if flKind f = 0 then
    match c.get .sacnFlow flow with
    | none => ([], [], s)
    | some d =>
      let (l, seqs) := s.sacnPackets flow f d terminate body
      (l, seqs, s.updFlow flow fun x => x.advanceSeqs d seqs)
  else
    match c.get .ixTx flow with
    | none => ([], [], s)
    | some d =>
      let seq := (s.flowOf flow).ixSeq
      let l := ixPackets d (if flKind f = 1 then 0 else 1) flow seq (s.flowClaim flow) n (c.showNs n) repeated terminate (body.headD [])
      (l.map fun p => ⟨"ixnik", flIp f, 47011, p⟩, [seq], (s.useRaised flow).updFlow flow fun x => { x with ixSeq := (seq + 1) % 2 ^ 32 })

/-- The on-wire sizes and the pace of what a flow sends: a frame, an sACN termination, which is as large, or an Ixnik
termination, which is a header alone (R318, R322). -/
def Cfg.sentSizes (c : Cfg) (flow : Nat) (f : Bytes) (terminate : Bool) : List Nat × Nat :=
  if terminate ∧ flKind f ≠ 0 then ([wireBytes ((c.get .lane (flLane f)).any fun l => laVlan l ≠ 0) 32], 0) else c.flowPackets flow f

/-- A launch of a flow on its lane from `start` to `stop`: a delay beyond 1 us is a slip, which is counted, and LAUNCH_SLIP is
raised at most once in 1 s (R296). -/
def State.countLaunch (flow lane due start stop : Nat) (s : State) : State :=
  let slip := decide (start > due + usT 1)
  let may := slip && match (s.flowOf flow).slipAt with
    | some a => decide (s.now ≥ a + secT 1)
    | none => true
  let s := s.updLane lane fun l => { l with busyUntil := stop, slip := if slip then satInc l.slip else l.slip }
  let s := s.updFlow flow fun x => { x with
    busyUntil := stop, slips := if slip then satInc x.slips else x.slips, slipAt := if may then some s.now else x.slipAt }
  if may then s.raise Ev.launchSlip flow 0 else s

/-- The packets of a frame of a network flow leave, after any frame that the lane still carries (R296, R318). A member
without the sACN duty advances the numbers and sends nothing (R325, R326, R396). -/
def State.sendFrame (c : Cfg) (flow n : Nat) (f : Bytes) (repeated terminate : Bool) (body : List Bytes) (s : State) : State :=
  let due := s.launchAt flow n
  let start := max due (s.laneOf (flLane f)).busyUntil
  let sends := flKind f ≠ 0 || s.sendsSacn n
  let rate := ((c.get .lane (flLane f)).map laRate).getD 0
  let (sizes, pace) := c.sentSizes flow f terminate
  let (l, seqs, s) := s.flowFrame c flow n f repeated terminate body
  let s := if sends then
      (s.place c f start rate pace sizes l).countLaunch flow (flLane f) due start (start + wireT (wireSpan rate pace sizes) rate)
    else s
  s.emit (.launch flow n repeated seqs body)

/-! ## What is issued in place of a frame -/

/-- DMXn.STATUS.LATE of a port flow's port follows its port frame (R380). -/
def State.markLate (f : Bytes) (late : Bool) (s : State) : State :=
  if flKind f = 4 then s.updDmx (flUnit f) fun x => { x with late } else s

/-- A late frame is counted, and FRAME_LATE raised at most once in 1 s with the first late frame and their number (R55). -/
def State.countLate (flow n : Nat) (f : Bytes) (s : State) : State :=
  let s := s.markLate f true
  let x := s.flowOf flow
  let first := x.lateFirst.getD n
  let number := x.lateSince + 1
  let may := match x.lateAt with
    | some a => decide (s.now ≥ a + secT 1)
    | none => true
  let s := s.updFlow flow fun x => { x with
    late := satInc x.late, lateAt := if may then some s.now else x.lateAt
    lateFirst := if may then none else some first, lateSince := if may then 0 else number }
  if may then s.raiseFrame Ev.frameLate flow number first else s

/-- The packet of a DMX port starts (R370): a transaction still open is cut off (R375), and the port's registers follow it. On
a ball that its old owner has not released nothing is output (R539). -/
def State.sendDmx (c : Cfg) (port n : Nat) (slots : Bytes) (s : State) : State :=
  let d := (c.get .dmx port).getD []
  if s.portHeld port then s
  else
    ((s.cutRdm port).updDmx port fun x => { x with
      frame := n, packets := satInc x.packets, packetAt := some s.tk.counter, busyUntil := s.now + usT (dxPacketUs d) }).drive
      (dmxBank port) (.dmx port "packet" (bit (u8 d 1) 1) (0 :: slots))

/-- The last launched frame is issued again, and counted as a repeat (R53, R57, R470); with none launched nothing is
(R54), nor where the last one is of an earlier configuration. -/
def State.repeatLast (c : Cfg) (flow n : Nat) (f : Bytes) (s : State) : State :=
  match (s.flowOf flow).last.filter fun _ => !(s.flowOf flow).stale with
  | none => s
  | some e =>
    let s := if flNetwork f then s.sendFrame c flow n f true false e.body
      else if flKind f = 4 then (s.sendDmx c (flUnit f) e.frame (e.body.headD [])).emit (.launch flow n true [] e.body)
      else s.emit (.launch flow n true [] [])
    s.updFlow flow fun x => { x with launched := satInc x.launched, repeats := satInc x.repeats }

/-- A frame that is not launched is replaced under the flow's late policy (R53); SKIP acts on network flows only. -/
def State.replace (c : Cfg) (flow n : Nat) (f : Bytes) (s : State) : State :=
  if flNetwork f && flSkip f then s else s.repeatLast c flow n f

/-- A new frame is launched, and is the last launched one from now on. -/
def State.launchNew (c : Cfg) (flow n : Nat) (f : Bytes) (body : List Bytes) (s : State) : State :=
  let s := if flNetwork f then s.sendFrame c flow n f false false body
    else if flKind f = 4 then (s.sendDmx c (flUnit f) n (body.headD [])).emit (.launch flow n false [] body)
    else s.emit (.launch flow n false [] [])
  s.updFlow flow fun x => { x with launched := satInc x.launched, last := some { frame := n, body }, stale := false }

/-! ## Where a frame cannot be sent (R315, R317) -/

/-- The destination of a network flow is known (R317). -/
def State.resolved (s : State) (c : Cfg) (f : Bytes) : Bool :=
  if flIp f = 0 || !isUnicast (flIp f) || beNat (flMac f) ≠ 0 then true
  else match c.get .lane (flLane f) with
    | none => false
    | some l => nextHop l (flIp f) ≠ 0 && Tab.has (s.laneOf (flLane f)).arp (nextHop l (flIp f))

/-- A frame is not sent for want of its destination (R317). -/
def State.countUnresolved (flow : Nat) (f : Bytes) (s : State) : State :=
  let may := match (s.flowOf flow).unresAt with
    | some a => decide (s.now ≥ a + secT 1)
    | none => true
  let s := s.updLane (flLane f) fun l => { l with unresolved := satInc l.unresolved }
  let s := s.updFlow flow fun x => { x with unsent := satInc x.unsent, unresAt := if may then some s.now else x.unresAt }
  if may then s.raise Ev.destUnresolved flow 0 else s

/-- A network frame that can be sent is, and any other is counted UNSENT (R315, R317). A member without the sACN duty sends
nothing, and its numbers advance whatever its lane does (R325). -/
def State.ifSendable (c : Cfg) (flow n : Nat) (f : Bytes) (act : State → State) (s : State) : State :=
  if !flNetwork f || (decide (flKind f = 0) && !s.sendsSacn n) then act s
  else if !(s.laneOf (flLane f)).link then s.updFlow flow fun x => { x with unsent := satInc x.unsent }
  else if !s.resolved c f then s.countUnresolved flow f
  else act s

/-! ## The issue instant of a flow -/

/-- Frame n of the flow is one of the three of a termination: after the flow has ended, muted or not, or after a mute with
TERMINATE (R320, R322; log entry 253). -/
def State.terminates (s : State) (flow n : Nat) : Bool :=
  let x := s.flowOf flow
  let muted := (x.switchAt n).any fun w => !w.enable && w.terminate && decide (n < w.frame + 3)
  match x.ended with
  | some e => if e ≤ n then decide (n < e + 3) else muted
  | none => muted

/-- A frame that a window's HOLD withholds at its issue instant: it is counted, and the late policy replaces it (R235). -/
def State.withhold (c : Cfg) (flow n : Nat) (f : Bytes) (s : State) : State :=
  (s.updFlow flow fun x => { x with withheldN := satInc x.withheldN }).replace c flow n f

/-- The issue instant of a DMX port with feeds (R235, R334, R369): its frame, or its late policy. -/
def State.issueFed (c : Cfg) (flow n : Nat) (f d : Bytes) (s : State) : State :=
  let port := flUnit f
  let feeds := c.dmxFeeds port
  let first := feeds.any fun e => ixTarget e.2 = port
  if feeds.any fun e => (s.ixOf e.1).terminated then s.repeatLast c flow n f
  else match s.fedSlots c port n d with
    | some slots =>
      let s := s.useFeeds feeds n true first
      if s.withheldAt c flow n f then s.withhold c flow n f else s.launchNew c flow n f [slots]
    | none => ((s.useFeeds feeds n false first).countLate flow n f).replace c flow n f

/-- A frame of the flow at its issue instant: rinsed, withheld, launched, or late (R52, R53, R235, R321). -/
def State.issueFrame (c : Cfg) (flow n : Nat) (f : Bytes) (s : State) : State :=
  let x := s.flowOf flow
  if x.dropped.contains n then
    (s.updFlow flow fun x => { x with rinsedN := satInc x.rinsedN }).replace c flow n f
  else if s.withheldAt c flow n f then s.withhold c flow n f
  else match x.ready.find? fun e => e.frame = n with
    | some e => s.launchNew c flow n f e.body
    | none => (s.countLate flow n f).replace c flow n f

/-- The issue instant of a scan port's flow: the port takes the frame or keeps its last (R345, R351-R353). -/
def State.issuePanel (c : Cfg) (flow n : Nat) (f : Bytes) (s : State) : State :=
  let port := flUnit f
  let rinsed := (s.flowOf flow).dropped.contains n
  let withheld := s.withheldAt c flow n f
  let s := if withheld then s.updFlow flow fun x => { x with ready := x.ready.filter fun e => e.frame ≠ n } else s
  match s.issueScan port flow n with
  | (s, .launched) => s.launchNew c flow n f []
  | (s, .none) => s
  | (s, .late) =>
    let s := if rinsed then s.updFlow flow fun x => { x with rinsedN := satInc x.rinsedN }
      else if withheld then s.updFlow flow fun x => { x with withheldN := satInc x.withheldN }
      else s.countLate flow n f
    s.replace c flow n f

/-- A port flow has a frame at every issue instant of its port: every frame of a scan port, the port frames of a DMX
port (R370). -/
def Cfg.hasFrame (c : Cfg) (n : Nat) (f : Bytes) : Bool :=
  if flKind f = 4 then (c.get .dmx (flUnit f)).any fun d => dxPortFrame d n else true

/-- What a flow issues at the issue instant of frame n (R48-R57, R320-R322, R373, R470); on a DMX port whose ball is not
released, the frame is late (R539). -/
def State.issue (c : Cfg) (flow n : Nat) (f : Bytes) (s : State) : State :=
  let ended := (s.flowOf flow).ended.any fun e => e ≤ n
  if s.terminates flow n then
    if !flNetwork f then
      if flKind f = 3 then
        if ended then s.endScan (flUnit f) n (((s.cfgAt (n - 1)).get .scan (flUnit f)).getD []) else s.issuePanel c flow n f
      else s
    else s.ifSendable c flow n f fun s =>
      if flKind f = 0 && (s.flowOf flow).last.isNone then s
      else s.sendFrame c flow n f false true (((s.flowOf flow).last.map Encoded.body).getD [])
  else if ended then s
  else if s.mutedAt flow n then (if flKind f = 3 then s.issuePanel c flow n f else s)
  else if !c.hasFrame n f then s
  else if s.skips n ∨ s.gl.show_ = .safeHold ∨ (s.frameRec n).any FrameRec.held then
    let s := s.markLate f false
    let s := if flKind f = 3 then s.keepScan (flUnit f) n else s
    s.ifSendable c flow n f (State.repeatLast c flow n f)
  else
    (s.markLate f false).ifSendable c flow n f fun s =>
      match flKind f, c.get .dmx (flUnit f) with
      | 3, _ => s.issuePanel c flow n f
      | 4, some d => if s.portHeld (flUnit f) then s.countLate flow n f else if (c.dmxFeeds (flUnit f)).isEmpty then s.issueFrame c flow n f else s.issueFed c flow n f d
      | _, _ => s.issueFrame c flow n f

/-- After its issue instant the flow goes on to the next frame, or is over with its third termination (R322). -/
def State.afterIssue (flow n : Nat) (s : State) : State :=
  let x := s.flowOf flow
  let done := x.ended.any fun e => n + 1 ≥ e + 3
  let x := { x with
    next := if done then none else some (n + 1), ended := if done then none else x.ended
    ready := x.ready.filter fun e => n < e.frame, dropped := x.dropped.filter fun k => n < k }
  if done && !s.cfg.has .flow flow then { s with flow := Tab.del s.flow flow }
  else { s with flow := Tab.put s.flow flow x }

/-- The issue instant of a flow's next frame has come to be issued: the frame has been cut, or skipped, or the flow has
ended before it. -/
def State.issuable (s : State) (flow n : Nat) : Bool :=
  (s.frameRec n).isSome || s.skips n || (s.flowOf flow).ended.any fun e => e ≤ n

/-- The lane and the issue instant of a flow's next frame, where it is a network flow and its frame can be issued. -/
def State.nextLaunch (s : State) (flow : Nat) : Option (Nat × Nat) :=
  match (s.flowOf flow).next with
  | none => none
  | some n =>
    if !s.issuable flow n then none
    else match (s.launchCfg flow n).get .flow flow with
      | some f => if flNetwork f then some (flLane f, s.launchAt flow n) else none
      | none => none

/-- Another flow of the lane has its turn before this one: by issue instant, then by number (R296). -/
def State.outranked (s : State) (flow : Nat) : Bool :=
  match s.nextLaunch flow with
  | none => false
  | some (lane, t) => s.flow.any fun e => match s.nextLaunch e.1 with
    | some (l, u) => e.1 ≠ flow && l = lane && (u < t || (u = t && e.1 < flow))
    | none => false

/-- LAUNCH_INSTANT: the issue instant of the flow's next frame (R295). Frames of a lane are taken in the order of their issue
instants and flow numbers (R296): one that is not the next waits (log entry 230). -/
def execLaunchInstant (flow : Nat) (s : State) : Outcome :=
  match (s.flowOf flow).next with
  | none => .next s
  | some n =>
    if !s.issuable flow n || s.outranked flow then .next s
    else
      let c := s.launchCfg flow n
      match c.get .flow flow with
      | none => .next (s.afterIssue flow n)
      | some f =>
        let s := s.advanceTo (s.launchAt flow n)
        let s := s.updFlow flow fun x => if x.restart.any fun r => r ≤ n then
            { x with stale := true, restart := none, last := if x.renew then none else x.last, renew := false } else x
        .next ((s.issue c flow n f).afterIssue flow n)

/-! ## Ixnik receive (R37, R332-R334, R386) -/

/-- The unit takes packets of a receive record: node feeds are for a node alone (R37; log entry 231). -/
def State.takesFeed (s : State) (d : Bytes) : Bool := ixFormat d ≠ 0x10 || s.role = 3

/-- IXNIK_PACKET_RX (R37, R332-R334, R386): a completed frame may be owed to a witness window (R235). -/
def execIxnikPacketRx (rx : LaneFrame) (header body : Bytes) (s : State) : Outcome :=
  .next (s.receive rx.lane rx.frame fun s =>
    if !ixKnown header then s.updLane rx.lane fun l => { l with rxDrop := satInc l.rxDrop }
    else
      let num := beNat (slice header 4 2) * 256 + rx.lane
      match (s.cfg.get .ixRx num).filter s.takesFeed with
      | none => s
      | some d => (s.useIxnik num d header body).compareOwed (beNat (slice header 16 6)))

/-! ## Launch queues (R336, R337) -/

/-- A pulse of a unit with TARGET 2: the head packet of its queue leaves, and its stamp is captured; a queue without a
complete packet counts (R337). On a lane that is down the packet is not sent (R315). -/
def State.launchQueue (lane : Nat) (s : State) : State :=
  let s := s.updLane lane fun l => l.current s.tk.counter
  match (s.laneOf lane).queue with
  | [] => s.updLane lane fun l => { l with qempty := satInc l.qempty }
  | p :: rest =>
    let l := s.laneOf lane
    let start := max s.tk.counter l.busyUntil
    let rate := ((s.cfg.get .lane lane).map laRate).getD 0
    let stop := start + wireT (8000 * (max 64 (p.length + 4) + 20)) rate
    let after := fun (l : Lane) => (({ l with queue := rest } : Lane)).current s.tk.counter
    if !l.link then s.updLane lane after
    else
      let s := (s.emit (.queuePacket lane start p)).updLane lane fun l =>
        after { l with
          busyUntil := stop, queueUntil := stop
          slip := if start > s.tk.counter + usT 1 then satInc l.slip else l.slip }
      s.arrive (.stamps lane) 64 (captureItems true start)

/-- TTU_PULSE: an armed unit fires; in FRAME mode only while the show runs (R292, R337). -/
def execTtuPulse (unit : Nat) (s : State) : Outcome :=
  if unit ≥ 32 then .next s
  else match s.cfg.get .trigger unit with
    | none => .next s
    | some d =>
      if !(s.unit unit).due s.showRuns then .next s
      else
        let s := s.fireUnit unit d
        .next (if u8 d 2 = 2 then s.launchQueue (u16 d 4) else s)

end Sys2Proof.Machine
end

