-- ==== Sys2Proof/Machine/Meter.lean ====
section
/-! DEFINITION. Energy metering, pulse outputs, energy-limited feeders, the night meter, the RTC and the tamper inputs
(R403-R434), with the METER block. -/

namespace Sys2Proof.Machine

/-! ## Records (R406, R418, R422, R424, R430) -/

/-- TYPE of a meter record. -/
abbrev mtType (d : Bytes) : Nat := u8 d 2
/-- MCLK rate of a meter record. -/
abbrev mtClock (d : Bytes) : Nat := u8 d 3
/-- N: line cycles per interval. -/
abbrev mtCycles (d : Bytes) : Nat := u16 d 4
/-- CLEAR of a meter record. -/
abbrev mtClear (d : Bytes) : Bool := bit (u16 d 6) 0
/-- HPF of an AC meter. -/
def mtHpf (d : Bytes) : Bool := bit (u16 d 6) 1 && mtType d ≠ 2
/-- Full-scale voltage in mV. -/
abbrev mtV (d : Bytes) : Nat := u32 d 8
/-- Full-scale current in mA. -/
abbrev mtI (d : Bytes) : Nat := u32 d 12
/-- Input number j of V1, V2, V3, I1, I2, I3, IN; 0xFF is unused. -/
abbrev mtIn (d : Bytes) (j : Nat) : Nat := u8 d (16 + j)
/-- GAIN of input j. -/
abbrev mtGain (d : Bytes) (j : Nat) : Nat := u32 d (24 + 4 * j)
/-- Input j is inverted. -/
def mtInvert (d : Bytes) (j : Nat) : Bool := 3 ≤ j && bit (u8 d 23) (j - 3)
/-- The phases of a meter. -/
def mtPhases (d : Bytes) : Nat := if mtType d = 1 then 3 else 1
/-- The sets of a meter: with a total for three phases (R405). -/
def mtSets (d : Bytes) : Nat := if mtType d = 1 then 4 else 1
/-- The input positions that a meter must use (R405). -/
def mtUsed (type : Nat) : List Nat := if type = 1 then [0, 1, 2, 3, 4, 5] else [0, 3]
/-- The input positions in use. -/
def mtInputs (d : Bytes) : List Nat := (List.range 7).filter fun j => mtIn d j ≠ 0xFF

/-- K: 2^-64 Wh per full-scale sample (R408), rounded. -/
def mtK (d : Bytes) : Nat := (2 * mtV d * mtI d * 2 ^ 33 + 140625000000000) / (2 * 140625000000000)

/-- A meter record (R406, R407) at a payload offset. -/
def meterRecord (off : Nat) (c : Cfg) (d : Bytes) : Chk? Cfg := do
  let m := u8 d 1
  inRange (m ≤ 7) (off + 1)
  if mtType d = 0xFF then .ok (c.del .meter m)
  else
    inRange (mtType d ≤ 2) (off + 2)
    inRange (mtClock d ≤ 1) (off + 3)
    inRange (1 ≤ mtCycles d ∧ mtCycles d ≤ 1024) (off + 4)
    inRange (250000000 ≤ mtV d * mtI d ∧ mtV d * mtI d ≤ 1600000000000) (off + 8)
    eachIdx (List.range 7) 0 fun _ j => do
      inRange (mtIn d j ≤ 15 ∨ mtIn d j = 0xFF) (off + 16 + j)
      inRange (if (mtUsed (mtType d)).contains j then mtIn d j ≠ 0xFF else mtIn d j = 0xFF ∨ (mtType d = 1 ∧ j = 6)) (off + 16 + j)
    eachIdx (List.range 7) 0 fun _ j => inRange (0x20000000 ≤ mtGain d j ∧ mtGain d j ≤ 0x60000000) (off + 24 + 4 * j)
    eachIdx (List.range 3) 0 fun _ p => inRange (-2047 ≤ iAt d (52 + 2 * p) 2 ∧ iAt d (52 + 2 * p) 2 ≤ 2047) (off + 52 + 2 * p)
    .ok (c.put .meter m d)

/-- A pulse record (R418). -/
def pulseRecord (off : Nat) (c : Cfg) (d : Bytes) : Chk? Cfg := do
  inRange (u8 d 1 ≤ 3) (off + 1)
  if u8 d 2 = 0xFF then .ok (c.del .pulse (u8 d 1))
  else
    match c.get .meter (u8 d 2) with
    | none => .error ⟨Status.badReference, off + 2⟩
    | some m =>
      inRange (u8 d 3 < mtSets m) (off + 3)
      inRange (u8 d 4 ≤ 1) (off + 4)
      inRange (1 ≤ u16 d 6 ∧ u16 d 6 ≤ 100) (off + 6)
      inRange (1 ≤ u32 d 8) (off + 8)
      .ok (c.put .pulse (u8 d 1) d)

/-- One record of METER_DEFINE (R406). -/
def meterDefineRecord (off : Nat) (c : Cfg) (d : Bytes) : Chk? Cfg :=
  match u8 d 0 with
  | 0 => meterRecord off c d
  | 1 => pulseRecord off c d
  | 2 => do
    inRange (1 ≤ u8 d 2 ∧ u8 d 2 ≤ 60) (off + 2)
    .ok (c.put .night 0 d)
  | 3 => .ok (c.put .tamper 0 d)
  | _ => .error ⟨Status.outOfRange, off⟩

/-- METER_DEFINE (R406). -/
def meterDefineOp : Op where
  code := 0x0B01
  cls := .staged
  layout := countLayout 64
  body := .staged fun r c _ =>
    foldIdx (records r.payload 8 64 (u32 r.payload 0)) 0 c fun i c d => meterDefineRecord (8 + 64 * i) c d

/-- P_LIMIT_W of a feeder record. -/
def fdLimit (d : Bytes) : Nat := if u16 d 4 = 0 then 100 else u16 d 4
/-- BLEED_MS of a feeder record. -/
def fdBleed (d : Bytes) : Nat := if u16 d 6 = 0 then 100 else u16 d 6
/-- WINDOW of a feeder record. -/
abbrev fdWindow (d : Bytes) : Nat := u8 d 3

/-- One record of FEEDER_DEFINE (R424). -/
def feederRecord (off : Nat) (c : Cfg) (d : Bytes) : Chk? Cfg := do
  inRange (u8 d 0 ≤ 7) off
  if u8 d 1 = 0xFF then .ok (c.del .feeder (u8 d 0))
  else
    match c.get .meter (u8 d 1) with
    | none => .error ⟨Status.badReference, off + 1⟩
    | some m =>
      inRange (mtType m ≠ 1) (off + 1)
      inRange (32 ≤ fdWindow d ∧ fdWindow d ≤ 128) (off + 3)
      inRange (fdLimit d ≤ 10000) (off + 4)
      inRange (fdBleed d ≤ 10000) (off + 6)
      .ok (c.put .feeder (u8 d 0) d)

/-- FEEDER_DEFINE (R424). -/
def feederDefineOp : Op where
  code := 0x0B02
  cls := .staged
  layout := countLayout 16
  body := .staged fun r c _ =>
    foldIdx (records r.payload 8 16 (u32 r.payload 0)) 0 c fun i c d => feederRecord (8 + 16 * i) c d

/-! ## Admission (R405, R407, R420, R422, R424) -/

/-- The failures of rule codes 0x0D, 0x0E and 0x0F (R559). Which meter a record of 0x0D names is the model's choice (log
entry 207), and so is the record of 0x0F for a feeder whose meter has since been removed or has a type that takes none (log
entry 242). -/
def Cfg.meterRules (c : Cfg) : List AdmitRec :=
  let fail := fun (code inst demand limit : Nat) => ({ check := 9, ruleNo := code, ownerA := 0x0E000000 + inst, demand, limit } : AdmitRec)
  let l := c.all .meter
  let rates := l.filter fun e => l.any fun x => x.1 < e.1 && mtClock x.2 ≠ mtClock e.2
  let three := (l.filter fun e => mtType e.2 = 1).drop 2
  let inputs := (l.map fun e => (mtInputs e.2).length).foldl (· + ·) 0
  let excess := if inputs > 16 then l.drop (l.length - 1) else []
  let current := fun (n : Nat) => l.any fun e => (mtInputs e.2).any fun j => 3 ≤ j && mtIn e.2 j = n
  let night := (c.get .night 0).any fun d => (List.range 4).any fun i => bit (u8 d 1) i && !current (12 + i)
  let pulses := (c.all .pulse).filterMap fun e => match c.get .meter (u8 e.2 2) with
    | none => none
    | some m =>
      let micro := mtV m * mtI m * (if u8 e.2 3 = 3 then 3 else 1)
      let need := micro * 65536 * 2 * u16 e.2 6
      if need > 1000 * 3600 * u32 e.2 8 * 1000000 then
        some (fail 0x0E (0x40 + e.1) (micro * 65536 * 1000 / (3600 * u32 e.2 8 * 1000000)) (1000000 / (2 * u16 e.2 6)))
      else none
  let feeders := (c.all .feeder).filter fun e => match c.get .meter (u8 e.2 1) with
    | none => true
    | some m => mtType m = 1 || decide (fdLimit e.2 * 1000000 ≥ mtV m * mtI m)
  ((rates ++ three ++ excess).map fun e => fail 0x0D e.1 0 0) ++ (if night then [fail 0x0D 0 0 0] else []) ++ pulses ++
  feeders.map fun e => fail 0x0F (0x80 + e.1) 0 0

/-! ## Samples (R404, R408) -/

/-- Limited to 32-bit symmetric range. -/
def clamp31 (x : Int) : Int := clampI (-2147483647) 2147483647 x

/-- The decimation ratio at MCLK's rate, as a power of two (R404). -/
def mtRatio (d : Bytes) : Nat := if mtClock d = 0 then 8 else 9

/-- MCLK cycles by which input position j is delayed: a positive DELAY acts on the current, a negative one on the voltage
(R406). -/
def mtDelay (d : Bytes) (j : Nat) : Nat :=
  let v := iAt d (52 + 2 * (j % 3)) 2
  if j = 6 then 0 else if j < 3 then (-v).toNat else v.toNat

/-- One bit of a bitstream enters the integrators. -/
def Decimator.push (x : Decimator) (b : Bool) : Decimator :=
  let s1 := if b then x.sum1 + 1 else x.sum1 - 1
  let s2 := x.sum2 + s1
  { x with sum1 := s1, sum2 := s2, sum3 := x.sum3 + s2 }

/-- The combs: a value in units of one part in the cube of the ratio, and the filter after the sample. -/
def Decimator.comb (x : Decimator) : Decimator × Int :=
  let y1 := x.sum3 - x.old1
  let y2 := y1 - x.old2
  ({ x with old1 := x.sum3, old2 := y1, old3 := y2 }, (y2 - x.old3).toInt)

/-- A sample period of a bitstream, the first bit as bit 0, delayed by `delay` bits: the sinc^3 filter of ratio 2^`log`, whose
output has full scale 2^31 and is clamped (R404). Before its first bit a stream reads as zeros (log entry 262). -/
def Decimator.period (x : Decimator) (log delay bits : Nat) : Decimator × Int :=
  let stream := x.past + bits % 2 ^ 2 ^ log * 2 ^ 2047
  let seen := stream / 2 ^ (2047 - delay)
  let (y, v) := ((List.range (2 ^ log)).foldl (fun (x : Decimator) k => x.push (bit seen k)) x).comb
  ({ y with past := stream / 2 ^ 2 ^ log }, clamp31 (v * 2 ^ (31 - 3 * log)))

/-- The samples that the inputs of a meter give in one period, by input position (R404-R406). -/
def Meter.decimate (x : Meter) (d : Bytes) (bits : List Nat) : Meter × List Int :=
  let l := (List.range 7).map fun j =>
    let f := x.filters.getD j {}
    if mtIn d j = 0xFF then (f, 0) else f.period (mtRatio d) (mtDelay d j) (bits.getD (mtIn d j) 0)
  ({ x with filters := l.map Prod.fst }, l.map Prod.snd)

/-- A sample after INVERT, GAIN and the high pass, with the new high-pass state, and whether it clipped (R404, R408). -/
def conditioned (d : Bytes) (j : Nat) (dc raw : Int) : Int × Int × Bool :=
  let x := if mtInvert d j then -raw else raw
  let g := (x * mtGain d j + 0x20000000) / 2 ^ 30
  let clip := decide (raw.natAbs ≥ 2147483647 ∨ g.natAbs ≥ 2147483647)
  let x := clamp31 g
  if mtHpf d then
    let y := x - dc / 65536
    (clamp31 y, signed 48 (unsigned 48 (dc + y)), clip)
  else (x, dc, clip)

/-- The value of a delta register before its limit: the energy since its base, in 2^-10 Wh (R417). -/
def deltaOf (r base : Nat) : Nat := (r / 2 ^ 40 + 2 ^ 64 - base) % 2 ^ 64 / 2 ^ 14

/-- The DELTA_IMP or DELTA_EXP of a set before its limit. -/
def MeterSet.delta (x : MeterSet) (exported : Bool) : Nat := if exported then deltaOf x.exp x.baseExp else deltaOf x.imp x.baseImp

/-- Energy added to the registers of a set; registers of 104 bits (R408). -/
def MeterSet.add (x : MeterSet) (inc : Int) : MeterSet :=
  if 0 ≤ inc then { x with imp := (x.imp + inc.toNat) % 2 ^ 104 } else { x with exp := (x.exp + inc.natAbs) % 2 ^ 104 }

/-- The accumulator of a register of 104 bits: its upper 64 bits. -/
abbrev accOf (r : Nat) : Nat := r / 2 ^ 40

/-- The RMS of an input over the interval in the unit of its full scale, rounded (R414). -/
def rmsOf (full squares samples : Nat) : Nat :=
  if samples = 0 then 0 else (isqrt (4 * full ^ 2 * squares / (samples * 2 ^ 62)) 64 0 + 1) / 2

/-- A set of the snapshot at a latch (R414). -/
def Meter.snapSet (x : Meter) (d : Bytes) (a : Nat) : SnapSet :=
  let r := x.sets.getD a {}
  let sq := fun (j : Nat) => x.squares.getD j 0
  { imp := accOf r.imp, exp := accOf r.exp
    intImp := accOf r.imp / 256 - accOf r.startImp / 256, intExp := accOf r.exp / 256 - accOf r.startExp / 256
    vRms := if a = 3 then 0 else rmsOf (mtV d) (sq a) x.samples
    iRms := rmsOf (mtI d) (sq (if a = 3 then 6 else 3 + a)) x.samples }

/-- The line frequency in mHz, rounded, of N cycles that took `num / den` samples (R414). -/
def lineFreq (n num den : Nat) : Nat := if num = 0 then 0 else (2 * n * 39062500 * den + num) / (2 * num)

/-- The energy record of a meter is written: over the older of its two copies (R412, R444). -/
def NonVolatile.putAcc (m : Nat) (sets : List MeterSet) (nv : NonVolatile) : NonVolatile :=
  { nv with
    meterAcc := Tab.put nv.meterAcc m sets
    meterOld := match Tab.find nv.meterAcc m with
      | some x => Tab.put nv.meterOld m x
      | none => nv.meterOld }

/-- A latch: the snapshot is formed, the ledger keeps it with the accumulators, and a new interval begins (R412-R414). -/
def State.latchMeter (m : Nat) (d : Bytes) (freq : Nat) (x : Meter) (s : State) : State :=
  let sets := (List.range (mtSets d)).map fun a => x.snapSet d a
  let both := packBits (sets.map fun y => y.intImp ≠ 0 && y.intExp ≠ 0)
  let snap : Snap := {
    seq := (x.seq + 1) % 2 ^ 32, samples := x.samples, freq, stamp := s.tk.counter, sets
    flags := flag x.noLine 0 + flag x.gap 1 + both * 16 + flag x.clip 8 + flag x.cleared 9 }
  let x := { x with
    seq := snap.seq, samples := 0, squares := [], cycles := 0, gap := false, clip := false, cleared := false
    sets := x.sets.map fun r => { r with startImp := r.imp, startExp := r.exp } }
  { s with
    met := { s.met with meters := Tab.put s.met.meters m x }
    nv := { s.nv.putAcc m x.sets with
      epoResidue := s.met.epos.foldl (fun t (e : Nat × Epo) => Tab.put t e.1 e.2.residue) s.nv.epoResidue
      snaps := Tab.put s.nv.snaps m ((snap :: Tab.getD s.nv.snaps m []).take 64) } }

/-- What a sample of the voltage does to the cycle detector: the meter, and the frequency of a latch that falls on it
(R413, R414). The answer's second part is present at a latch, the third says that the line is restored. -/
def Meter.detect (x : Meter) (d : Bytes) (now : Nat) (v : Int) : Meter × Option Nat × Bool :=
  let crossed := x.low && decide (0 ≤ v)
  let step := { x with
    low := if crossed then false else x.low || decide (v < -134217728), prev := v
    since := x.since.map (· + 1), crossing := x.crossing.map fun e => (e.1 + 1, e.2) }
  if !crossed then (step, none, false)
  else
    let num := v.toNat
    let den := (v - x.prev).toNat
    let valid := step.since.any fun n => decide (600 ≤ n ∧ n ≤ 868)
    let y := { step with since := some 0, validAt := if valid then now else step.validAt }
    let start := some (0, num, den)
    if x.noLine then
      let good := if valid then x.good + 1 else x.good
      if good ≥ 2 then ({ y with noLine := false, good := 0, line := true, cycles := 0, crossing := start }, none, true)
      else ({ y with good }, none, false)
    else
      let cycles := if valid then x.cycles + 1 else x.cycles
      let y := { y with cycles, line := y.line || valid, crossing := if step.crossing.isNone then start else step.crossing }
      if valid ∧ cycles ≥ mtCycles d then
        let freq := match step.crossing with
          | some (n, n0, d0) => lineFreq cycles (n * d0 * den + n0 * den - num * d0) (d0 * den)
          | none => 0
        ({ y with crossing := start }, some freq, false)
      else (y, none, false)

/-! ## Pulse outputs (R419) -/

/-- The energy of a sample reaches a pulse output: at the threshold a pulse is placed at its fraction of the sample. -/
def Epo.add (x : Epo) (d : Bytes) (t e : Nat) : Epo :=
  let th := u32 d 8 * 2 ^ 48
  if x.residue + e ≥ th ∧ e ≠ 0 then
    let at_ := t + (th - x.residue) * nsT 25600 / e + usT 100
    { x with residue := x.residue + e - th, due := x.due ++ [(2 * at_ + nsT 5) / (2 * nsT 5) * nsT 5] }
  else { x with residue := x.residue + e }

/-- The increments of a meter's sets reach the pulse outputs (R419). -/
def State.addPulses (m : Nat) (incs : List Int) (t : Nat) (s : State) : State :=
  (s.cfg.all .pulse).foldl (fun (s : State) (e : Nat × Bytes) =>
    if u8 e.2 2 ≠ m then s
    else
      let inc := incs.getD (u8 e.2 3) 0
      let part := if (u8 e.2 4 = 0) = decide (0 ≤ inc) then inc.natAbs else 0
      { s with met := { s.met with epos := Tab.upd s.met.epos e.1 {} fun x => x.add e.2 t part } }) s

/-- WIDTH_MS of a pulse output (R418). -/
def Cfg.epoWidth (c : Cfg) (output : Nat) : Nat := ((c.get .pulse output).map fun d => u16 d 6).getD 0

/-- A pulse leaves an energy output: its start and, WIDTH_MS later, its end (R418, R419). -/
def State.pulseOut (output : Nat) (s : State) : State :=
  let low := (s.cfg.get .pulse output).any fun d => bit (u8 d 5) 0
  (s.drive 4 (.power "pulse" output true low s.now)).drive 4
    (.power "pulse" output false low (s.now + msT (s.cfg.epoWidth output)))

/-- EPO_PULSE: the next pulse of an output (R419); a ball that its old owner has not released does not show it (R539). -/
def execEpoPulse (output : Nat) (s : State) : Outcome :=
  if output ≥ 4 then .next s
  else
    let x := Tab.getD s.met.epos output {}
    match x.due with
    | [] => .next s
    | t :: rest =>
      let s := s.advanceNow t
      let held := s.ballHeld (ttoBall (4 + output))
      let y := { x with
        count := (x.count + 1) % 2 ^ 32, due := rest, high := if held then x.high else s.now + msT (s.cfg.epoWidth output) }
      let s := { s with met := { s.met with epos := Tab.put s.met.epos output y } }
      .next (if held then s else s.pulseOut output)

/-! ## Feeders (R424-R428) -/

/-- Feeder f. -/
def State.feeder (s : State) (f : Nat) : Feeder := Tab.getD s.met.feeders f {}

/-- A feeder changed. -/
def State.updFeeder (f : Nat) (g : Feeder → Feeder) (s : State) : State := { s with met := { s.met with feeders := Tab.upd s.met.feeders f {} g } }

/-- The trip threshold of a feeder on its meter (R425). -/
def tripLimit (d m : Bytes) : Nat := fdLimit d * fdWindow d * 2 ^ 31 * 1000000 / (mtV m * mtI m)

/-- A switch or bleed output of a feeder goes active or inactive, at the polarity of its record (R424). -/
def State.feederOut (c : Cfg) (f : Nat) (bleed on : Bool) (t : Nat) (s : State) : State :=
  s.drive 4 (.power (if bleed then "bleed" else "switch") f on ((c.get .feeder f).any fun d => bit (u8 d 2) (if bleed then 2 else 1)) t)

/-- The outputs of a feeder that opens: the bleed goes active 1 us after the switch goes inactive (R427). -/
def State.openOutputs (c : Cfg) (f : Nat) (s : State) : State :=
  (s.feederOut c f false false s.now).feederOut c f true true (s.now + usT 1)

/-- The outputs of a feeder at reset, and when its bank's supply is back: as its state has them (R427, R551). -/
def State.feederLevels (f : Nat) (s : State) : State :=
  let x := s.feeder f
  (s.feederOut s.cfg f false (decide (x.st = .closed)) s.now).feederOut s.cfg f true
    (decide (x.st ≠ .closed) && (x.bleed.isSome || decide (x.st = .bleedFault))) s.now

/-- A feeder opens under configuration `c`, and bleeds (R427). -/
def State.openFeeder (c : Cfg) (f : Nat) (st : FeederState) (s : State) : State :=
  (s.updFeeder f fun x => { x with st, bleed := some s.now, safe := 0 }).openOutputs c f

/-- A feeder closes: the bleed is released 1 us before the switch goes active, and its ports take frames again (R362,
R427). -/
def State.closeFeeder (f : Nat) (s : State) : State :=
  let s := s.updFeeder f fun x => { x with st := .closed, bleed := none }
  ((s.feederOut s.cfg f true false s.now).feederOut s.cfg f false true (s.now + usT 1)).untripPorts f

/-- A sample at a feeder; a trip stops its ports (R362, R425-R427). -/
def State.sampleFeeder (f : Nat) (d m : Bytes) (v p : Int) (s : State) : State :=
  let x := s.feeder f
  let below := decide (v.natAbs * mtV m < u32 d 8 * 2 ^ 31)
  let window := (p.natAbs :: x.window).take (fdWindow d)
  let s := s.updFeeder f fun x => { x with window, below, safe := if below then x.safe + 1 else 0 }
  if x.st = .closed ∧ window.foldl (· + ·) 0 > tripLimit d m then
    (((s.updFeeder f fun x => { x with trips := satInc x.trips }).openFeeder s.cfg f .tripped).tripPorts f).raise Ev.feederTrip f 0
  else s

/-- FEEDER_BLEED_DONE: the voltage has stayed below V_SAFE_MV for 32 samples, and the feeder is open (R427). -/
def execFeederBleedDone (f : Nat) (s : State) : Outcome :=
  if f ≥ 8 then .next s
  else if (s.feeder f).bleed.isNone ∨ (s.feeder f).safe < 32 then .next s
  else .next ((s.updFeeder f fun x => { x with st := .open_, bleed := none }).feederOut s.cfg f true false s.now)

/-- FEEDER_BLEED_TIMEOUT: BLEED_MS wins (R427). -/
def execFeederBleedTimeout (f : Nat) (s : State) : Outcome :=
  if f ≥ 8 then .next s
  else match (s.feeder f).bleed, s.cfg.get .feeder f with
    | some t, some d =>
      let s := s.advanceNow (t + msT (fdBleed d))
      .next ((s.updFeeder f fun x => { x with st := .bleedFault, bleed := none, faults := satInc x.faults }).raise Ev.feederBleedFault f 0)
    | _, _ => .next s

/-- The code of a feeder's state (R433). -/
def FeederState.code : FeederState → Nat
  | .open_ => 1
  | .closed => 2
  | .tripped => 3
  | .bleedFault => 4

/-- FEEDER_RESET (R428); while the main supply is in hold-up a feeder's switch stays inactive (R427, log entry 263). -/
def feederResetOp : Op where
  code := 0x0B04
  cls := .immediate
  layout := fixedLayout [1, 1, 2]
  body := .run fun r s => do
    let f := u8 r.payload 0
    need (s.cfg.has .feeder f) Status.badReference 0
    inRange (u8 r.payload 1 ≤ 1) 1
    let x := s.feeder f
    let s := if u8 r.payload 1 = 0 then (if x.st ≠ .closed && x.below && !s.mon.holdup then s.closeFeeder f else s)
      else if x.st = .closed then s.openFeeder s.cfg f .open_ else s
    .ok (s, .ok (leBytes 4 (s.feeder f).st.code))

/-! ## METER_SAMPLE (R403, R408) -/

/-- The inputs of a sample that clip set their bits, and METER_CLIP is raised at most once in 1 s (R433). -/
def State.clipInput (n : Nat) (s : State) : State :=
  let may := match s.met.clipAt with
    | some t => decide (s.now ≥ t + secT 1)
    | none => true
  let was := bit s.met.clip n
  let s := { s with met := { s.met with clip := s.met.clip ||| 2 ^ n, clipAt := if may && !was then some s.now else s.met.clipAt } }
  if may && !was then s.raise Ev.meterClip n 0 else s

/-- The bit of a set's import or export in DELTA_SAT (R433). -/
abbrev deltaBit (m a : Nat) (exported : Bool) : Nat := 8 * m + 2 * a + if exported then 1 else 0

/-- A delta register is saturated: its bit is set, and METER_DELTA_SAT is raised unless it was set before (R417, log entry
260). -/
def State.saturateDelta (m a : Nat) (exported : Bool) (s : State) : State :=
  if s.met.deltaSat.getLsbD (deltaBit m a exported) then s
  else ({ s with met := { s.met with deltaSat := s.met.deltaSat ||| (1#64 <<< deltaBit m a exported) } } : State).raise
    Ev.meterDeltaSat m (2 * a + if exported then 1 else 0)

/-- The delta registers that a sample takes past their limit, as set and direction (R417). -/
def newlySaturated (old new : List MeterSet) : List (Nat × Bool) :=
  ((List.range new.length).flatMap fun a => [(a, false), (a, true)]).filter fun e =>
    decide ((old.getD e.1 {}).delta e.2 ≤ 0xFFFF_FFFF) && decide ((new.getD e.1 {}).delta e.2 > 0xFFFF_FFFF)

/-- A sample of every input of a meter, from a period of the 16 bitstreams: energy, cycle detection and latches, its pulse
outputs and feeders. -/
def State.sampleMeter (bits : List Nat) (t : Nat) (m : Nat) (d : Bytes) (s : State) : State :=
  let (x, samples) := (Tab.getD s.met.meters m {}).decimate d bits
  let c : List (Int × Int × Bool) := (List.range 7).map fun j =>
    if mtIn d j = 0xFF then ((0 : Int), (0 : Int), false) else conditioned d j (x.dc.getD j 0) (samples.getD j 0)
  let value := fun (j : Nat) => (c.getD j (0, 0, false)).1
  let clipped := (mtInputs d).filter fun j => (c.getD j (0, 0, false)).2.2
  let power := (List.range (mtPhases d)).map fun a => value a * value (3 + a) / 2 ^ 31
  let phases := power.map fun p => p * (mtK d : Int)
  let incs := if mtType d = 1 then phases ++ [phases.foldl (· + ·) 0] else phases
  let sets := (List.range (max (mtSets d) x.sets.length)).map fun a => (x.sets.getD a {}).add (incs.getD a 0)
  let full := newlySaturated x.sets sets
  let x := { x with
    dc := c.map fun e => e.2.1
    sets
    samples := x.samples + 1
    squares := (List.range 7).map fun j => x.squares.getD j 0 + (value j).natAbs ^ 2
    clip := x.clip || !clipped.isEmpty }
  let (x, latch, restored) := if mtType d = 2 then (x, none, false) else x.detect d s.now (value 0)
  let timed := (mtType d = 2 || x.noLine) && decide (x.samples ≥ mtCycles d * 1024)
  let s := match latch, timed with
    | some freq, _ => s.latchMeter m d freq x
    | none, true => s.latchMeter m d 0 { x with crossing := none }
    | none, false => { s with met := { s.met with meters := Tab.put s.met.meters m x } }
  let s := if restored then s.raise Ev.meterLineRestored m 0 else s
  let s := (clipped.map (mtIn d)).foldl (fun (s : State) (n : Nat) => s.clipInput n) s
  let s := full.foldl (fun (s : State) (e : Nat × Bool) => s.saturateDelta m e.1 e.2) s
  let s := s.addPulses m incs t
  ((s.cfg.all .feeder).filter fun e => u8 e.2 1 = m).foldl (fun (s : State) (e : Nat × Bytes) =>
    s.sampleFeeder e.1 e.2 d (value 0) (power.getD 0 0)) s

/-- Meters and feeders work: in every state but reset and BOOT (R403). -/
def State.measuring (s : State) : Bool := s.gl.device ≠ .boot

/-- METER_SAMPLE: the bits of one sample period on MDAT0 to MDAT15, at whose end, 25.6 us after the one before, every meter
takes a sample (R404, R408). -/
def execMeterSample (bits : List Nat) (s : State) : Outcome :=
  if !s.measuring ∨ (s.cfg.all .meter).isEmpty then .next s
  else
    let t := s.met.sampleAt.getD (s.now - nsT 25600)
    let s := s.advanceNow (t + nsT 25600)
    let s := { s with met := { s.met with sampleAt := some (t + nsT 25600) } }
    .next ((s.cfg.all .meter).foldl (fun s e => s.sampleMeter bits t e.1 e.2) s)

/-- METER_LINE_TIMEOUT: no valid cycle has completed for 100 ms (R413). -/
def execMeterLineTimeout (m : Nat) (s : State) : Outcome :=
  if m ≥ 8 then .next s
  else match s.cfg.get .meter m, Tab.find s.met.meters m with
    | some d, some x =>
      if mtType d = 2 ∨ x.noLine then .next s
      else
        let s := s.advanceNow (x.validAt + msT 100)
        let x := { x with noLine := true, line := false, good := 0, crossing := none }
        .next ({ s with met := { s.met with meters := Tab.put s.met.meters m x } }.raise Ev.meterLineFault m 0)
    | _, _ => .next s

/-! ## Reads (R415-R417) -/

/-- METER_SEQ_READ: the latest snapshot is copied into the read buffer (R415). -/
def State.readSeq (m : Nat) (s : State) : State × Nat :=
  let x := Tab.getD s.met.meters m {}
  let snap := if x.seq = 0 then {} else ((Tab.getD s.nv.snaps m []).head?).getD {}
  ({ s with met := { s.met with meters := Tab.put s.met.meters m { x with buffer := snap } } }, snap.seq)

/-- METER_SEQ_READ (R415). -/
def execMeterSeqRead (m : Nat) (s : State) : Outcome :=
  let (s', v) := if s.cfg.has .meter m then s.readSeq m else (s, 0)
  .next (s'.emit (.readData [word v]))

/-- A read of a delta register: the energy since the base in 2^-10 Wh, saturating; the base follows what was read
(R417). -/
def State.readDelta (m a : Nat) (exported : Bool) (s : State) : State × Nat :=
  match (Tab.find s.met.meters m).filter fun _ => (s.cfg.get .meter m).any fun d => a < mtSets d with
  | none => (s, 0)
  | some x =>
    let r := x.sets.getD a {}
    let base := if exported then r.baseExp else r.baseImp
    let sat := decide (r.delta exported > 0xFFFF_FFFF)
    let v := min (r.delta exported) 0xFFFF_FFFF
    let base := (base + v * 2 ^ 14) % 2 ^ 64
    let r := if exported then { r with baseExp := base } else { r with baseImp := base }
    let s := { s with met := { s.met with meters := Tab.put s.met.meters m { x with sets := x.sets.set a r } } }
    (if sat then s.saturateDelta m a exported else s, v)

/-- DELTA_READ (R417). -/
def execDeltaRead (m a : Nat) (exported : Bool) (s : State) : Outcome :=
  let (s', v) := s.readDelta m a exported
  .next (s'.emit (.readData [word v]))

/-- A set's registers as 32 bytes (R416, R433). -/
def SnapSet.bytes (x : SnapSet) : Bytes :=
  leBytes 8 x.imp ++ leBytes 8 x.exp ++ leBytes 4 x.intImp ++ leBytes 4 x.intExp ++ leBytes 4 x.vRms ++ leBytes 4 x.iRms

/-- A snapshot as METER_READ returns it (R416). -/
def Snap.bytes (x : Snap) (sets : List SnapSet) : Bytes :=
  leBytes 4 x.seq ++ leBytes 4 x.flags ++ leBytes 4 x.samples ++ leBytes 4 x.freq ++
  leBytes 4 (x.stamp / 65536 % 1000000000) ++ leBytes 4 (x.stamp / 65536 / 1000000000) ++ zeros 8 ++ sets.flatMap SnapSet.bytes

/-- METER_READ (R416). -/
def meterReadOp : Op where
  code := 0x0B03
  cls := .immediate
  layout := fixedLayout [1, 1, 2]
  body := .run fun r s => do
    let m := u8 r.payload 0
    match s.cfg.get .meter m with
    | none => .error ⟨Status.badReference, 0⟩
    | some d =>
      inRange (u8 r.payload 1 ≤ 63) 1
      let snap := (Tab.getD s.nv.snaps m []).getD (u8 r.payload 1) {}
      let x := Tab.getD s.met.meters m {}
      let live := bit (u16 r.payload 2) 0
      let sets := (List.range (mtSets d)).map fun a =>
        let y := snap.sets.getD a {}
        let r := x.sets.getD a {}
        if live then { y with imp := accOf r.imp, exp := accOf r.exp } else y
      .ok (s, .ok (snap.bytes sets))

/-! ## The press (R411, R424, R430) -/

/-- A meter at a press: unchanged it goes on; otherwise it starts a new interval on its accumulators, those of sets that its
TYPE does not use among them, or on zero with CLEAR (R411). GAP marks the first interval on accumulators that come back from
the ledger (R412, R434). -/
def State.pressMeter (c : Cfg) (frame m : Nat) (d : Bytes) (s : State) : State :=
  if c.get .meter m = some d ∧ Tab.has s.met.meters m then s
  else
    let old := Tab.find s.met.meters m
    let sets := (old.map Meter.sets).getD (Tab.getD s.nv.meterAcc m [])
    let sets := (List.range (max (mtSets d) sets.length)).map fun a => sets.getD a {}
    let sets : List MeterSet := if mtClear d then sets.map fun _ => {} else sets.map fun r => { r with startImp := r.imp, startExp := r.exp }
    let gap := !c.has .meter m && !mtClear d && (old.isSome || Tab.has s.nv.meterAcc m) || s.nv.gapNext.contains m
    let x : Meter := { filters := (old.map Meter.filters).getD [], sets, seq := (old.map Meter.seq).getD 0, gap
                       cleared := mtClear d, validAt := s.now, buffer := (old.map Meter.buffer).getD {} }
    let s := { s with met := { s.met with meters := Tab.put s.met.meters m x }, nv := { s.nv with gapNext := s.nv.gapNext.filter fun k => k ≠ m } }
    if mtClear d then
      { s with nv := { s.nv.putAcc m sets with
        meterClear := Tab.put s.nv.meterClear m (satInc (Tab.getD s.nv.meterClear m (0, 0)).1, frame) } }
    else s

/-- A feeder at a press: a new one starts OPEN, and AUTO_CLOSE closes one that is new or whose record changed. -/
def State.pressFeeder (c : Cfg) (f : Nat) (d : Bytes) (s : State) : State :=
  if c.get .feeder f = some d then s
  else
    let s := if c.has .feeder f then s else s.updFeeder f fun x => { trips := x.trips, faults := x.faults }
    if bit (u8 d 2) 0 && (s.feeder f).st ≠ .closed && !s.mon.holdup then s.closeFeeder f else s

/-- A pulse output at a press: COUNT goes on, and the residue of a changed record starts anew, that of one that comes back
from the ledger (log entry 153). -/
def State.pressPulse (c : Cfg) (output : Nat) (d : Bytes) (s : State) : State :=
  if c.get .pulse output = some d then s
  else
    let residue := if c.has .pulse output then 0 else Tab.getD s.nv.epoResidue output 0
    { s with met := { s.met with epos := Tab.upd s.met.epos output {} fun x => { x with residue } } }

/-- I_FS_MA and GAIN of MDAT12 to MDAT15 under a configuration (R421, R422). -/
def Cfg.nightIn (c : Cfg) : List (Nat × Nat) :=
  (List.range 4).map fun i =>
    match (c.all .meter).find? fun e => (mtInputs e.2).any fun j => 3 ≤ j && mtIn e.2 j = 12 + i with
    | none => (0, 0)
    | some e => (mtI e.2, mtGain e.2 (((mtInputs e.2).find? fun j => 3 ≤ j && mtIn e.2 j = 12 + i).getD 3))

/-- The metering island and the island's records at the press of frame `frame`. -/
def State.pressMeters (c c' : Cfg) (frame : Nat) (s : State) : State :=
  let gone := s.met.meters.filter fun (e : Nat × Meter) => !c'.has .meter e.1
  let s := gone.foldl (fun (s : State) (e : Nat × Meter) => { s with nv := s.nv.putAcc e.1 e.2.sets }) s
  let open_ := ((c.all .feeder).filter fun e => !c'.has .feeder e.1 && (s.feeder e.1).st = .closed).map Prod.fst
  let s := open_.foldl (fun s f => s.openFeeder c f .open_) s
  let s := { s with met := { s.met with
    epos := s.met.epos.map fun (e : Nat × Epo) => (e.1, { e.2 with due := if c'.has .pulse e.1 then e.2.due else [] }) } }
  let s := (c'.all .pulse).foldl (fun (s : State) (e : Nat × Bytes) => s.pressPulse c e.1 e.2) s
  let s := (c'.all .meter).foldl (fun s e => s.pressMeter c frame e.1 e.2) s
  let s := (c'.all .feeder).foldl (fun s e => s.pressFeeder c e.1 e.2) s
  let s := { s with bak := { s.bak with night := c'.get .night 0, nightIn := c'.nightIn } }
  match c'.get .tamper 0 with
  | none => s
  | some d => { s with bak := { s.bak with
      tampOn := u8 d 1 % 4, tampPol := u8 d 2 % 4, debounce := if u8 d 3 = 0 then 2 else u8 d 3 } }

/-- The RTC in 1/32,768 s since the island last received power (R429). -/
def State.rtc (s : State) : Nat := if s.bak.powered then (s.now - s.bak.rtcZero) * 32768 / secT 1 else 0

/-- The latest accumulators and residues in the ledger, with the counter and the RTC together (R412, R423). -/
def State.energyWrite (s : State) : State :=
  { s with nv := { s.met.meters.foldl (fun (nv : NonVolatile) (e : Nat × Meter) => nv.putAcc e.1 e.2.sets) s.nv with
    epoResidue := s.met.epos.foldl (fun t (e : Nat × Epo) => Tab.put t e.1 e.2.residue) s.nv.epoResidue
    nightPair := (s.tk.counter, s.rtc) } }

/-! ## Night meter (R421-R423) -/

/-- An activity record of 32 bytes: RTC seconds at start and end, then peak in mA and charge in mA s of each input. -/
def nightRecord (start stop : Nat) (l : List NightIn) : Bytes :=
  leBytes 4 start ++ leBytes 4 stop ++ l.flatMap (fun x => leBytes 2 (min x.peak 0xFFFF)) ++ l.flatMap fun x => leBytes 4 (min x.charge 0xFFFF_FFFF)

/-- A record joins the 128 of the ledger, or is dropped and counted (R423). -/
def State.addNight (b : Bytes) (s : State) : State :=
  if s.nv.nightLog.length ≥ 128 then { s with nv := { s.nv with nightDrop := satInc s.nv.nightDrop } }
  else { s with nv := { s.nv with nightLog := s.nv.nightLog ++ [b], nightAdded := true } }

/-- I_RMS in mA of an input of the night meter from its decimated samples, as R408 and R414 form it (R421, log entry
261). -/
def Backup.nightRms (b : Backup) (samples : List (List Int)) (i : Nat) : Nat :=
  let (full, gain) := b.nightIn.getD i (0, 0)
  let l := (samples.getD i []).map fun x => (clamp31 ((clamp31 x * gain + 0x20000000) / 2 ^ 30)).natAbs ^ 2
  rmsOf full (l.foldl (· + ·) 0) l.length

/-- MCLK1 runs from the start of a window of the night meter for 10 ms and 250 ms (R421). -/
def State.nightClock (s : State) : State :=
  (s.emit (.power "mclk1" 1 true false s.now)).emit (.power "mclk1" 1 false false (s.now + msT 260))

/-- NIGHT_METER_WINDOW: while the main supply is lost, a window that starts PERIOD_S after the one before, with the 1,024
decimated samples of each of MDAT12 to MDAT15 (R421-R423). -/
def execNightMeterWindow (samples : List (List Int)) (s : State) : Outcome :=
  match s.bak.night with
  | none => .next s
  | some d =>
    if !s.boot.supplyLost ∨ !s.bak.powered ∨ u8 d 1 % 16 = 0 then .next s
    else
      let s := (s.elapse (secT (u8 d 2))).nightClock
      let rms := (List.range 4).map (s.bak.nightRms samples)
      let armed := (List.range 4).map fun i => if bit (u8 d 1) i then rms.getD i 0 else 0
      let hot := (List.range 4).any fun i => bit (u8 d 1) i && decide (rms.getD i 0 ≥ u32 d 4)
      let add := fun (l : List NightIn) => (l.zip armed).map fun e =>
        ({ peak := max e.1.peak e.2, charge := e.1.charge + e.2 * u8 d 2 } : NightIn)
      let above := if hot then s.bak.above + 1 else 0
      let below := if hot then 0 else s.bak.below + 1
      let seconds := s.rtc / 32768
      let s := { s with bak := { s.bak with above, below } }
      match s.bak.activity with
      | none =>
        if above ≥ 2 then .next { s with bak := { s.bak with activity := some (seconds, add (List.replicate 4 {})) } } else .next s
      | some (start, l) =>
        let l := add l
        if below ≥ 2 then .next ({ s with bak := { s.bak with activity := none } }.addNight (nightRecord start seconds l))
        else .next { s with bak := { s.bak with activity := some (start, l) } }

/-- The header of NIGHT_METER_READ, for tamper records or for activity records (R423, R431). -/
def State.nightHead (tamper : Bool) (s : State) : Bytes :=
  let l := if tamper then s.nv.tamperLog else s.nv.nightLog
  leBytes 2 l.length ++ leBytes 2 (min (if tamper then s.bak.dropped else s.nv.nightDrop) 0xFFFF) ++
    leBytes 4 (s.nv.nightPair.1 / 65536 / 1000000000) ++ leBytes 8 s.nv.nightPair.2

/-- NIGHT_METER_READ (R423, R431). -/
def nightMeterReadOp : Op where
  code := 0x0B05
  cls := .immediate
  layout := fixedLayout [2, 2, 4]
  body := .run fun r s => do
    let first := u16 r.payload 0
    let count := u16 r.payload 2
    let tamper := bit (u32 r.payload 4) 1
    let l := if tamper then s.nv.tamperLog else s.nv.nightLog
    let got := (l.drop first).take count
    let left := l.take first ++ l.drop (first + count)
    let head := s.nightHead tamper
    let s := if !bit (u32 r.payload 4) 0 then s
      else if tamper then { s with nv := { s.nv with tamperLog := left } }
      else { s with nv := { s.nv with nightLog := left } }
    .ok (s, .ok (head ++ got.flatten))

/-! ## RTC and tamper inputs (R429-R432) -/

/-- RTC_FRAC_READ: the fraction, with the seconds latched (R429). -/
def State.readRtc (s : State) : State × Nat :=
  ({ s with met := { s.met with rtcSec := s.rtc / 32768 } }, s.rtc % 32768)

/-- RTC_FRAC_READ (R429). -/
def execRtcFracRead (s : State) : Outcome := .next (s.readRtc.1.emit (.readData [word s.readRtc.2]))

/-- BACKUP_POWER_LOSS: both supplies of the island fall below 2.0 V (R429). -/
def execBackupPowerLoss (s : State) : Outcome :=
  .next (if s.bak.powered then { s with bak := { ({} : Backup) with powered := false, rtcLost := s.bak.rtcLost } } else s)

/-- BACKUP_POWER_RETURN: the RTC starts again from 0, RTC_LOST is set, and the tamper inputs take their first-power settings
(R429, R430). -/
def execBackupPowerReturn (s : State) : Outcome :=
  .next (if s.bak.powered then s else { s with bak := { rtcZero := s.now, rtcLost := true } })

/-- A tamper record is written into the retained latches, or dropped (R431). -/
def Backup.record (b : Backup) (i edge rtc : Nat) : Backup :=
  if b.held.length ≥ 16 then { b with dropped := min (b.dropped + 1) 0xFFFF }
  else { b with held := b.held ++ [leBytes 1 i ++ leBytes 1 edge ++ zeros 2 ++ leBytes 8 rtc ++ zeros 4] }

/-- A sample of one input: DEBOUNCE samples in a row at the other level decide a change (R430). -/
def Backup.sample (b : Backup) (rtc i : Nat) (high : Bool) : Backup :=
  if !bit b.tampOn i then b
  else
    let x := Tab.getD b.tampIn i {}
    let reads := high ≠ bit b.tampPol i
    if reads = x.tampered then { b with tampIn := Tab.put b.tampIn i { x with count := 0 } }
    else if x.count + 1 < b.debounce then { b with tampIn := Tab.put b.tampIn i { x with count := x.count + 1 } }
    else ({ b with tampIn := Tab.put b.tampIn i { tampered := reads } }).record i (if reads then 1 else 0) rtc

/-- TAMPER_SAMPLE: the levels of TAMP0 and TAMP1, a quarter of a second after the sample before (R430). -/
def execTamperSample (levels : List Bool) (s : State) : Outcome :=
  if !s.bak.powered then .next s
  else
    let s := s.elapse (secT 1 / 4)
    .next { s with bak := (s.bak.sample s.rtc 0 (levels.getD 0 false)).sample s.rtc 1 (levels.getD 1 false) }

/-- The oldest record of the latches goes to the ledger, which keeps the 64 newest, and TAMPER is raised (R431). -/
def State.moveTamper (s : State) : State :=
  match s.bak.held with
  | [] => s
  | r :: rest =>
    let full := decide (s.nv.tamperLog.length ≥ 64)
    let s := { s with
      bak := { s.bak with held := rest, dropped := if full then min (s.bak.dropped + 1) 0xFFFF else s.bak.dropped }
      nv := { s.nv with tamperLog := (if full then s.nv.tamperLog.drop 1 else s.nv.tamperLog) ++ [r] } }
    s.raise Ev.tamper (u8 r 0) (u8 r 1)

/-- TAMPER_RECORD_MOVE: with main power present, a record moves to the ledger (R431). -/
def execTamperRecordMove (s : State) : Outcome := .next (if s.boot.hold then s else s.moveTamper)

/-- All held records move, at boot (R431). -/
def State.moveTampers (s : State) : State := (List.range s.bak.held.length).foldl (fun s _ => s.moveTamper) s

/-! ## The METER block (R432-R434) -/

/-- METER.STATUS (R433). -/
def State.meterStatus (s : State) : Nat :=
  packBits ((List.range 8).map fun m => s.measuring && s.cfg.has .meter m) +
  256 * packBits ((List.range 8).map fun m => s.cfg.has .meter m && (Tab.getD s.met.meters m {}).line) +
  flag (s.bak.night.any fun d => u8 d 1 % 16 ≠ 0) 16

/-- METER.TAMPER (R432). -/
def State.tamperWord (s : State) : Nat :=
  flag (Tab.getD s.bak.tampIn 0 {}).tampered 0 + flag (Tab.getD s.bak.tampIn 1 {}).tampered 1 + flag s.bak.rtcLost 8 + s.bak.dropped * 65536

/-- POWER of a feeder: the mean over its window in W (R433). -/
def State.feederPower (s : State) (f : Nat) : Nat :=
  match s.cfg.get .feeder f with
  | none => 0
  | some d => match s.cfg.get .meter (u8 d 1) with
    | none => 0
    | some m => (s.feeder f).window.foldl (· + ·) 0 * mtV m * mtI m / (fdWindow d * 2 ^ 31 * 1000000)

/-- A snapshot register of a meter, from its read buffer (R415, R433). -/
def Snap.read (x : Snap) (off : Nat) : Nat :=
  if off < 0x100 then
    match off with
    | 0x004 => x.flags
    | 0x008 => x.samples
    | 0x00C => x.freq
    | 0x010 => x.stamp / 65536 % 1000000000
    | 0x014 => x.stamp / 65536 / 1000000000 % 2 ^ 32
    | _ => 0
  else if off < 0x200 then
    match x.sets[(off - 0x100) / 0x40]? with
    | none => 0
    | some y => if off % 0x40 < 0x20 then u32 y.bytes (off % 0x40) else 0
  else 0

/-- A register of the METER block that reads without effect (R433). -/
def State.meterRead (s : State) (off : Nat) : Nat :=
  if off < 0x1000 then
    match off with
    | 0x0000 => s.meterStatus
    | 0x0008 => s.met.deltaSat.toNat % 2 ^ 32
    | 0x000C => s.met.deltaSat.toNat / 2 ^ 32
    | 0x0010 => s.met.clip
    | 0x0024 => s.met.rtcSec % 2 ^ 32
    | 0x0028 => s.met.rtcSec / 2 ^ 32 % 65536
    | 0x002C => s.tamperWord
    | _ => 0
  else if off < 0x3000 then
    if s.cfg.has .meter ((off - 0x1000) / 0x400) then (Tab.getD s.met.meters ((off - 0x1000) / 0x400) {}).buffer.read (off % 0x400) else 0
  else if off < 0x3200 then
    let f := (off - 0x3000) / 0x40
    if !s.cfg.has .feeder f then 0
    else match off % 0x40 with
      | 0x00 => (s.feeder f).st.code
      | 0x04 => s.feederPower f
      | 0x08 => (s.feeder f).trips
      | 0x0C => (s.feeder f).faults
      | _ => 0
  else if 0x3800 ≤ off ∧ off < 0x3880 ∧ off % 0x20 = 0 then (Tab.getD s.met.epos ((off - 0x3800) / 0x20) {}).count
  else 0

/-- A write to the METER block (R432, R433). -/
def State.meterWrite (off v : Nat) (s : State) : State :=
  match off with
  | 0x0008 => { s with met := { s.met with deltaSat := clear64 s.met.deltaSat false v } }
  | 0x000C => { s with met := { s.met with deltaSat := clear64 s.met.deltaSat true v } }
  | 0x0010 => { s with met := { s.met with clip := s.met.clip &&& (0xFFFF - v % 65536) } }
  | 0x002C => if bit v 8 then { s with bak := { s.bak with rtcLost := false } } else s
  | _ => s

def execMeterDefine (r : Req) (s : State) : Outcome := hostCommand meterDefineOp r s
def execFeederDefine (r : Req) (s : State) : Outcome := hostCommand feederDefineOp r s
def execMeterRead (r : Req) (s : State) : Outcome := hostCommand meterReadOp r s
def execFeederReset (r : Req) (s : State) : Outcome := hostCommand feederResetOp r s
def execNightMeterRead (r : Req) (s : State) : Outcome := hostCommand nightMeterReadOp r s

end Sys2Proof.Machine
end

