-- ==== Sys2Proof/Machine/Memory.lean ====
section
/-! DEFINITION. The external flash as memory (R455-R457), the ledger window (R443-R445), and the bytes of an event
record (R490). -/

namespace Sys2Proof.Machine

/-! ## Flash -/

/-- The byte at an address; an address that is not listed is erased and reads 0xFF. -/
def Memory.read (m : Memory) (a : Nat) : Byte :=
  match m with
  | [] => 0xFF
  | (k, b) :: rest => if k = a then b else Memory.read rest a

/-- A byte written at an address in the canonical form: rising addresses, no erased byte listed. -/
def Memory.write (m : Memory) (a : Nat) (v : Byte) : Memory :=
  match m with
  | [] => if v = 0xFF then [] else [(a, v)]
  | (k, b) :: rest =>
    if a < k then (if v = 0xFF then (k, b) :: rest else (a, v) :: (k, b) :: rest)
    else if a = k then (if v = 0xFF then rest else (a, v) :: rest)
    else (k, b) :: Memory.write rest a v

/-- The canonical form: addresses strictly rising, no erased byte listed. -/
def Memory.wf (m : Memory) : Bool :=
  match m with
  | [] => true
  | (k, b) :: rest => b ≠ 0xFF && (rest.all fun e => k < e.1) && Memory.wf rest

/-- A range of bytes read. -/
def Memory.range (m : Memory) (a len : Nat) : Bytes := (List.range len).map fun i => m.read (a + i)

/-- Bytes written from an address on. -/
def Memory.put (m : Memory) (a : Nat) (l : Bytes) : Memory :=
  match l with
  | [] => m
  | v :: rest => Memory.put (m.write a v) (a + 1) rest

/-- A program operation, which turns bits from 1 to 0 only (R457). -/
def Memory.program (m : Memory) (a : Nat) (l : Bytes) : Memory :=
  match l with
  | [] => m
  | v :: rest => Memory.program (m.write a (m.read a &&& v)) (a + 1) rest

/-- A range erased to 0xFF. -/
def Memory.erase (m : Memory) (a len : Nat) : Memory := m.filter fun e => e.1 < a || a + len ≤ e.1

/-- The flash size in bytes. -/
def State.flashBytes (s : State) : Nat := s.fuses.flashMiB * 1048576

/-- The saved copy that an address of flash lies in (R456, R476): CONFIG A and B, CALSTORE A and B. -/
def State.savedAt (s : State) (a : Nat) : Option Saved :=
  if 0x0210_0000 ≤ a ∧ a < 0x02D0_0000 then s.nv.configA
  else if 0x02D0_0000 ≤ a ∧ a < 0x0390_0000 then s.nv.configB
  else if 0x0390_0000 ≤ a ∧ a < 0x03C0_0000 then s.nv.calA
  else if 0x03C0_0000 ≤ a ∧ a < 0x03F0_0000 then s.nv.calB
  else none

/-- The byte of flash at an address; the bytes of a saved copy are free (log entry 12). -/
def State.flashAt (s : State) (a : Nat) : Byte :=
  match s.savedAt a with
  | some c => Config.savedByte a c.seq
  | none => s.nv.flash.read a

/-- A range of flash bytes. -/
def State.flashRange (s : State) (a len : Nat) : Bytes := (List.range len).map fun i => s.flashAt (a + i)

/-- The flash address of a slot: false A, true B (R456). -/
def slotBase (slot : Bool) : Nat := if slot then 0x0110_0000 else 0x0010_0000

/-! ## The boot record (R444, R460) -/

/-- The newer valid copy of the boot record, with its sequence number. -/
def NonVolatile.newestBoot (nv : NonVolatile) : Option (Nat × BootRecord) :=
  match nv.bootA, nv.bootB with
  | some a, some b => if b.1 > a.1 then some b else some a
  | some a, none => some a
  | none, b => b

/-- Copy A is the newer valid one. -/
def NonVolatile.bootInA (nv : NonVolatile) : Bool := nv.bootA.isSome && nv.newestBoot = nv.bootA

/-- The boot record is written, over the older copy (R444). -/
def NonVolatile.putBoot (r : BootRecord) (nv : NonVolatile) : NonVolatile :=
  let x := some ((nv.newestBoot.map Prod.fst).getD 0 + 1, r)
  if nv.bootInA then { nv with bootB := x } else { nv with bootA := x }

/-- The newer copy of the boot record fails its CRC. -/
def NonVolatile.dropBoot (nv : NonVolatile) : NonVolatile :=
  if nv.bootInA then { nv with bootA := none } else { nv with bootB := none }

/-! ## The LEDGER block (R443-R445) -/

/-- The logged record with an entry number, while the log still holds it (R498). -/
def State.logEntry (s : State) (n : Nat) : Option EventRec :=
  if n < s.nv.logNext ∧ s.nv.logNext ≤ n + s.nv.log.length then s.nv.log[n + s.nv.log.length - s.nv.logNext]? else none

/-- A boot record as numbers. -/
def bootNumbers : Option (Nat × BootRecord) → List Nat
  | none => [0]
  | some (n, r) => [1, n, flag r.active 0 + flag r.previous 1 + flag r.trial 2, match r.cause with
      | none => 0
      | some .timeout => 1
      | some .coreStall => 2
      | some .reset => 3
      | some .badSlot => 4]

/-- Energy records as numbers. -/
def energyNumbers (t : Tab (List MeterSet)) : List Nat :=
  t.length :: t.flatMap fun e => e.1 :: e.2.length :: e.2.flatMap fun x => [x.imp, x.exp, x.baseImp, x.baseExp]

/-- A table of numbers as numbers. -/
def tabNumbers (t : Tab Nat) : List Nat := t.flatMap fun e => [e.1, e.2]

/-- What a ledger region whose layout is not given holds, by the region's offset (R443). -/
def NonVolatile.region (nv : NonVolatile) (base : Nat) : List Nat :=
  match base with
  | 0x0000 => bootNumbers nv.bootA ++ bootNumbers nv.bootB
  | 0x1000 => nv.epoch :: (nv.seq.map Nat.succ).getD 0 :: nv.meterClear.flatMap fun e => [e.1, e.2.1, e.2.2]
  | 0x2000 => energyNumbers nv.meterAcc ++ energyNumbers nv.meterOld ++ tabNumbers nv.epoResidue
  | 0x26000 => tabNumbers nv.expects
  | _ => tabNumbers nv.counters

/-- The bytes of region SNAP for a meter's place: the snapshot whose interval number has that place among 64 (R443, log
entry 265). -/
def NonVolatile.snapBytes (nv : NonVolatile) (m place : Nat) : Bytes :=
  match (Tab.getD nv.snaps m []).find? fun x => x.seq % 64 = place with
  | some x => padTo 160 (x.bytes x.sets)
  | none => zeros 160

/-- The bytes of region NIGHT: the header of NIGHT_METER_READ, 128 activity records and 64 tamper records (R423, R443, log
entry 265). -/
def State.nightBytes (s : State) : Bytes :=
  s.nightHead false ++ padTo 4096 s.nv.nightLog.flatten ++ padTo 1024 s.nv.tamperLog.flatten

/-- A word of the ledger at a byte offset (R443): the regions as what they hold gives them, the firmware region 0, a log
entry its record. The layouts of BOOT, IDENT, ENERGY, EXPECT and COUNTERS are not given (log entry 12). -/
def State.ledgerAt (s : State) (off : Nat) : Reg :=
  let free := fun (base : Nat) => Config.ledgerWord base (s.nv.region base) (off - base)
  if off < 0x1000 then free 0x0000
  else if off < 0x2000 then free 0x1000
  else if off < 0x4000 then free 0x2000
  else if off < 0x24000 then
    let at_ := off - 0x4000
    if at_ < 81920 then word (u32 (s.nv.snapBytes (at_ / 10240) (at_ % 10240 / 160)) (at_ % 160 / 4 * 4)) else 0
  else if off < 0x26000 then word (u32 s.nightBytes ((off - 0x24000) / 4 * 4))
  else if off < 0x27000 then free 0x26000
  else if off < 0x37000 then free 0x27000
  else if off < 0x200000 then 0
  else
    let i := (off - 0x200000) / 32
    let newest := s.nv.logNext - 1
    let n := newest - (newest % 65536 + 65536 - i) % 65536
    if s.nv.logNext = 0 ∨ n % 65536 ≠ i then 0
    else match s.logEntry n with
      | some r => word (u32 (r.bytes false) (off % 32 / 4 * 4))
      | none => 0

/-- A byte of the ledger. -/
def State.ledgerByte (s : State) (off : Nat) : Byte := (leBytes 4 (s.ledgerAt (off / 4 * 4)).toNat).getD (off % 4) 0

/-- A read of the LEDGER block (R445). -/
def State.ledgerRead (s : State) (off : Nat) : Reg :=
  if off = 0 then word s.ledgerPage
  else if 0x8000 ≤ off ∧ off < 0x10000 then s.ledgerAt (32768 * s.ledgerPage + (off - 0x8000))
  else 0

/-- A write to the LEDGER block: PAGE alone takes it (R445). -/
def State.ledgerWrite (off v : Nat) (s : State) : State := if off = 0 then { s with ledgerPage := v % 128 } else s

end Sys2Proof.Machine
end

