-- ==== Sys2Proof/Machine/Check.lean ====
section
/-! DEFINITION. Memory errors and scrub (R438-R442), the configuration image (R436), the check channels (R446-R454) with
their commands, and the CHK block. -/

namespace Sys2Proof.Machine

/-! ## Memory errors (R438, R439) -/

/-- A corrected error: counted, and MEM_CORRECTED at most once in 1 s per memory (R438). -/
def State.memCorrected (k : MemKind) (address : Nat) (s : State) : State :=
  let g := s.chkg
  let may := match Tab.find g.corrected (memCode k) with
    | some t => decide (s.now ≥ t + secT 1)
    | none => true
  let g := { g with corrected := if may then Tab.put g.corrected (memCode k) s.now else g.corrected }
  let g := match k with
    | .dram => { g with dramCe := satInc g.dramCe }
    | .sram => { g with sramCe := satInc g.sramCe }
    | .ledger => { g with ledgerCe := satInc g.ledgerCe }
  let s := { s with chkg := g }
  if may then s.raise Ev.memCorrected (memCode k) address else s

/-- A cause inside the device sends the show to SAFE_HOLD at the next cut (R34, R56, R439). -/
def State.forceHold (s : State) : State :=
  if s.gl.show_ = .running ∨ s.gl.show_ = .armed then
    let r : Req := { pair := 0, flags := 0, session := 0, tag := 0, timeoutMs := 0, atFrame := none, payload := [], rplSize := 0 }
    s.enqueue { op := 0x020A, req := r, frame := none, fixed := s.nextCut, order := s.hq.accepted }
  else s

/-- The fades of a playback that a test picks by address complete at their targets (R439). -/
def Playback.finishFades (p : Playback) (pick : Nat → Bool) : Playback :=
  { p with held := (Tab.mapV p.held fun a h => match h.fade with
      | some f => if pick a then { h with v := f.target, fade := none } else h
      | none => h).filter fun e => !(e.2.leaving && pick e.1) }

/-- The size ramp of a generator completes at its target (R169, R439). -/
def Gen.finishRamp (g : Gen) : Gen :=
  match g.ramp with
  | some (_, target, _, _) => { g with size := target, ramp := none }
  | none => g

/-- The image is lost: both copies are bad at one address (R439). -/
def State.loseImage (s : State) : State := { s with img := { s.img with lost := true, rewriting := false } }.forceHold

/-- A copy of the image has an uncorrectable word (R439). -/
def State.badCopy (copyB : Bool) (a : Nat) (s : State) : State :=
  if s.img.losesTo (.imageCopy copyB a) then s.loseImage
  else if copyB then { s with img := { s.img with badB := s.img.badB ++ [a] } }
  else { s with img := { s.img with badA := s.img.badA ++ [a] } }

/-- A core restarts as under R34, and the restart is counted (R500). -/
def State.restartCore (c : Nat) (s : State) : State :=
  ({ s with gl := { s.gl with restarting := if s.gl.restarting.contains c then s.gl.restarting else s.gl.restarting ++ [c] } } : State).count 0x0002

/-- What the device does about poisoned data (R439). -/
def State.repair (row : PoisonRow) (s : State) : State :=
  match row with
  | .schedule => { s with img := { s.img with restoring := true } }.forceHold
  | .image => s
  | .bothCopies => s.loseImage
  | .imageCopy b a => s.badCopy b a
  | .parameter a => s.updPar a fun _ => s.cfg.freshPar a
  | .fade b a => s.updPb b fun _ p => p.finishFades fun k => k = a
  | .playbackState b => s.updPb b fun _ p => p.finishFades fun _ => true
  | .generatorState g => s.updGen g Gen.finishRamp
  | .cueEntry b cue a => s.updPb b fun _ p => match Tab.find p.cues cue with
    | some q => { p with cues := Tab.put p.cues cue { q with entries := Tab.del q.entries a } }
    | none => p
  | .assignment g a => { s with force := s.force.map fun f => { f with cfg := f.cfg.del .assign (assignNum g a) } }
  | .transient => s
  | .coreData c => s.restartCore c

/-- Poisoned data that waits is handled: what a read for a reply met, by the next cut (R439, log entry 163). -/
def State.repairAll (s : State) : State :=
  s.chkg.repairs.foldl (fun (s : State) row => s.repair row) { s with chkg := { s.chkg with repairs := [] } }

/-- An uncorrectable error, with the handling of the data (R439, R491). -/
def State.memPoisoned (p : Poison) (s : State) : State := (s.foundPoison p).repairAll

/-- Usable DRAM in bytes: 7/8 of the installed capacity (R435). -/
def State.dramBytes (s : State) : Nat := s.fuses.dramGiB * 2 ^ 30 * 7 / 8

/-- The scrubber has done an item of 8 KiB; after the last one of a memory a pass is complete (R440). -/
def State.scrubbed (k : MemKind) (s : State) : State :=
  let g := s.chkg
  match k with
  | .dram =>
    if g.dramItem + 1 ≥ s.dramBytes / 8192 then { s with chkg := { g with dramItem := 0, dramPasses := satInc g.dramPasses } }
    else { s with chkg := { g with dramItem := g.dramItem + 1 } }
  | .sram =>
    if g.sramItem + 1 ≥ 6144 then { s with chkg := { g with sramItem := 0, sramPasses := satInc g.sramPasses } }
    else { s with chkg := { g with sramItem := g.sramItem + 1 } }
  | .ledger => s

/-- The time between two items of a memory, which are paced evenly over PERIOD_S, or 1/64 of it (R440). -/
def State.scrubEvery (s : State) (k : MemKind) : Nat :=
  match k with
  | .dram => secT s.chkg.period / (s.dramBytes / 8192)
  | .sram => secT s.chkg.period / 64 / 6144
  | .ledger => 0

/-- The scrubber comes to its next item of a memory (R440). -/
def State.scrubStart (k : MemKind) (s : State) : State :=
  match k with
  | .dram =>
    let s := s.advanceNow (s.chkg.dramAt + s.scrubEvery .dram)
    { s with chkg := { s.chkg with dramAt := s.now } }
  | .sram =>
    let s := s.advanceNow (s.chkg.sramAt + s.scrubEvery .sram)
    { s with chkg := { s.chkg with sramAt := s.now } }
  | .ledger => s

/-- The energy record of a meter fails in both copies: the meter is restored from its latest snapshot, and its next interval
carries GAP (R444). -/
def NonVolatile.restoreAcc (m : Nat) (nv : NonVolatile) : NonVolatile :=
  let nv := { nv with meterOld := Tab.del nv.meterOld m, gapNext := if nv.gapNext.contains m then nv.gapNext else nv.gapNext ++ [m] }
  match (Tab.getD nv.snaps m []).head? with
  | some x => { nv with
      meterAcc := Tab.put nv.meterAcc m (x.sets.map fun y => ({ imp := y.imp * 2 ^ 40, exp := y.exp * 2 ^ 40 } : MeterSet)) }
  | none => { nv with meterAcc := Tab.del nv.meterAcc m }

/-- A record of the ledger fails its CRC (R444, R453): of a boot or an energy record the older copy stands, where that is
good; a log entry is marked corrupt. -/
def State.badRecord (r : LedgerRecord) (s : State) : State :=
  let s := { s with chkg := { s.chkg with ledgerUe := satInc s.chkg.ledgerUe } }
  match r with
  | .boot both => { s with nv := if both then { s.nv with bootA := none, bootB := none } else s.nv.dropBoot }
  | .energy m both =>
    match both, Tab.find s.nv.meterOld m with
    | false, some x => { s with nv := { s.nv with meterAcc := Tab.put s.nv.meterAcc m x, meterOld := Tab.del s.nv.meterOld m } }
    | _, _ => { s with nv := s.nv.restoreAcc m }
  | .logEntry n =>
    if n < s.nv.logNext ∧ s.nv.logNext ≤ n + s.nv.log.length then
      { s with nv := { s.nv with log := s.nv.log.modify (n + s.nv.log.length - s.nv.logNext) fun e => { e with corrupt := true } } }
    else s

/-- The address of the scrubber's next item; reads of the ledger count from its start (R440). -/
def State.scrubBase (s : State) (k : MemKind) : Nat :=
  match k with
  | .dram => s.chkg.dramItem * 8192
  | .sram => s.chkg.sramItem * 8192
  | .ledger => 0

/-- What a read of a memory found at an address: a word corrected, or what an uncorrectable word held (R438, R439). -/
def State.memFound (k : MemKind) (address : Nat) (held : Option PoisonRow) (s : State) : State :=
  match held with
  | none => s.memCorrected k address
  | some row => s.memPoisoned ⟨k, address, row⟩

/-- SCRUB_ITEM: the next item of DRAM or state SRAM in ascending address order, at its time, with what it found word by word;
or what reads of the ledger found (R438-R440, R444). -/
def execScrubItem (item : ScrubResult) (s : State) : Outcome :=
  match item with
  | .item k found =>
    let base := s.scrubBase k
    .next ((found.foldl (fun (s : State) e => s.memFound k (base + 8 * e.1) e.2) (s.scrubStart k)).scrubbed k)
  | .badRecord r => .next (s.badRecord r)

/-- JOB_SEGMENT_COMPLETE: a segment of a job ends; single-bit errors of the lane's store are corrected and counted, and
with one that cannot be corrected the segment is computed again (R263); a poisoned word stops the job (R439). -/
def execJobSegmentComplete (lane : Nat) (reads : StoreRead) (s : State) : Outcome :=
  if lane ≥ s.renderLanes then .next s
  else match Tab.find s.sch.running lane, reads with
    | none, _ => .next s
    | some j, .clean => .next (s.endSegment lane j)
    | some j, .corrected n =>
      .next (({ s with sch := s.sch.updLane lane fun l => { l with corrected := satAdd l.corrected n } } : State).endSegment lane j)
    | some j, .uncorrectable =>
      .next ({ s with sch := { s.sch with running := Tab.put s.sch.running lane { j with segAt := s.now } } }.raise Ev.laneStoreError lane 0)
    | some j, .memCorrected k a => .next ((s.memCorrected k a).endSegment lane j)
    | some j, .poisoned p => .next ((s.memPoisoned p).stopJob lane j)

/-- The image as it stands in state SRAM (R436). -/
def State.image (s : State) : Option ImageCopy :=
  s.force.map fun f => { force := f, sets := s.col.sets, palettes := s.layer.map fun (e : Nat × Layer) => (e.1, e.2.pal) }

/-- IMAGE_REWRITE_DONE: both copies hold the image as it stands (R436). -/
def execImageRewriteDone (s : State) : Outcome :=
  .next (if s.img.rewriting then
    { s with img := { s.img with copyA := s.image, copyB := s.image, badA := [], badB := [], lost := false, rewriting := false } } else s)

/-- The copy of the image from which a schedule is restored: A, or B if A is bad (R439). -/
def Image.source (x : Image) : Option ImageCopy := if x.badA.isEmpty then x.copyA else if x.badB.isEmpty then x.copyB else x.copyA

/-- SCHEDULE_RESTORE_DONE: the admitted schedule is back from a copy of the image (R439); a rewrite under way comes first
(log entry 264). -/
def execScheduleRestoreDone (s : State) : Outcome :=
  .next (if s.img.restoring && !s.img.lost && !s.img.rewriting then
    { s with
      img := { s.img with restoring := false }
      force := s.force.map fun f => { f with sched := (s.img.source.map fun c => c.force.sched).getD f.sched } } else s)

/-! ## CRCs (R446) -/

/-- One byte of a CRC of 16 bits that is not reflected. -/
def crc16Byte (c : Nat) (b : Byte) : Nat :=
  (List.range 8).foldl (fun c _ => if c.testBit 15 then (c * 2 % 65536) ^^^ 0x1021 else c * 2 % 65536) (c ^^^ (b.toNat * 256))

/-- The CRC of a byte string by POLY (R446). -/
def crcOf (poly : Nat) (b : Bytes) : Nat :=
  match poly with
  | 0 => (b.foldl (crcByte 0xEDB88320) 0xFFFFFFFF) ^^^ 0xFFFFFFFF
  | 1 => crc32c b
  | 2 => b.foldl crc16Byte 0xFFFF
  | _ => (b.foldl (crcByte 0xC96C5795D7870F42) 0xFFFFFFFFFFFFFFFF) ^^^ 0xFFFFFFFFFFFFFFFF

/-- The width of a POLY in bits. -/
def crcWidth (poly : Nat) : Nat := [32, 32, 16, 64].getD poly 64

/-! ## Channels (R447-R451) -/

/-- Channel c. -/
def State.chan (s : State) (c : Nat) : Chk := Tab.getD s.chk c {}

/-- A channel changed. -/
def State.updChan (c : Nat) (f : Chk → Chk) (s : State) : State := { s with chk := Tab.upd s.chk c {} f }

/-- SOURCE of a channel. -/
abbrev Chk.source (x : Chk) : Nat := x.config % 4
/-- POLY of a channel. -/
abbrev Chk.poly (x : Chk) : Nat := field x.config 3 2
/-- A channel is in TE5100 mode. -/
abbrev Chk.te5100 (x : Chk) : Bool := bit x.config 4
/-- REGION of a channel. -/
abbrev Chk.region (x : Chk) : Nat := field x.config 15 8

/-- The size of a source in bytes (R435, R437, R443, R447, R455). -/
def State.sourceSize (s : State) (source : Nat) : Nat :=
  match source with
  | 0 => s.dramBytes
  | 1 => 48 * 1048576
  | 2 => 4 * 1048576
  | _ => s.flashBytes

/-- START lies in its source. -/
def State.startOk (s : State) (source start : Nat) : Bool := start < s.sourceSize source
/-- LENGTH is 1 to the source size minus START (R447). -/
def State.lengthOk (s : State) (source start len : Nat) : Bool := 1 ≤ len && start + len ≤ s.sourceSize source

/-- What a region holds at present, as a number: the rewrites of the image, or the header of the running firmware image. -/
def State.regionKey (s : State) (region : Nat) : Nat :=
  if region = 3 then crc32c (s.nv.flash.range (slotBase s.boot.running) 256) else s.img.version

/-- A region's source, start and length, which the device fills in; where the region lies in its source is not given, and is
free for each content (R447, log entry 12). -/
def State.fillRegion (c region : Nat) (s : State) : State :=
  let source := if region = 3 then 1 else 0
  let size := s.sourceSize source
  let start := Config.regionStart region (s.regionKey region) % size
  s.updChan c fun x => { x with
    config := x.config / 4 * 4 + source, start, length := 1 + Config.regionLength region (s.regionKey region) % (size - start) }

/-- A channel that is not running starts with the range that its registers hold; the starter is a session, or 0 for a
register start (R448, R450; log entry 26). -/
def State.startChan (c starter : Nat) (s : State) : State :=
  let s := if (s.chan c).region = 0 then s else s.fillRegion c (s.chan c).region
  s.updChan c fun x => { x with
    st := .running, arm := true, reloading := false, starter, scanStart := x.start, scanLength := x.length, passAt := s.now }

/-- CTRL.START (R447, R448). -/
def State.chanRegStart (c : Nat) (s : State) : State :=
  let x := s.chan c
  if x.st = .running then s.updChan c fun x => { x with error := x.error ||| 1 }
  else if x.region > 3 ∨ (x.region = 0 ∧ !s.lengthOk x.source x.start x.length) then s.updChan c fun x => { x with error := x.error ||| 2 }
  else s.startChan c 0

/-- CHK_REG_START (R448). -/
def execChkRegStart (c : Nat) (s : State) : Outcome := if c ≥ 4 then .next s else .next (s.chanRegStart c)

/-- CTRL.ABORT (R448). -/
def State.chanAbort (c : Nat) (s : State) : State :=
  s.updChan c fun x => if x.st = .running then { x with st := .aborted, reloading := false } else x

/-- CHK_ABORT (R448). -/
def execChkAbort (c : Nat) (s : State) : Outcome := if c ≥ 4 then .next s else .next (s.chanAbort c)

/-- A value is committed as EXPECTED, with a holding copy until the ledger has it (R450, R451). -/
def State.commitExpected (c v : Nat) (s : State) : State := s.updChan c fun x => { x with expected := v, expectLo := v % 2 ^ 32, holding := some v }

/-- CHK_EXPECTED_COMMIT: a write of EXPECTED_HI commits both halves (R451). -/
def execChkExpectedCommit (c : Nat) (w : Reg) (s : State) : Outcome :=
  if c ≥ 4 then .next s else .next (s.commitExpected c ((s.chan c).expectLo + w.toNat * 2 ^ 32))

/-- The bytes that a pass reads: those of flash and of the ledger as they stand, or as they were read before they were
written during the pass; those of DRAM and state SRAM as they come with the pass (R447, log entry 265). -/
def State.scanBytes (s : State) (x : Chk) (o : PassOutcome) : Bytes :=
  let now := if x.source = 3 then s.flashRange x.scanStart x.scanLength
    else if x.source = 2 then (List.range x.scanLength).map fun i => s.ledgerByte (x.scanStart + i)
    else padTo x.scanLength o.read
  o.earlier.foldl (fun b e => b.set e.1 e.2) now

/-- The held result is compared with EXPECTED (R450). -/
def State.compareChan (c : Nat) (s : State) : State :=
  let x := s.chan c
  if x.result = x.expected then s.updChan c fun x => { x with match_ := true, arm := true }
  else
    let s := s.updChan c fun x => { x with match_ := false, arm := false, mismatches := satInc x.mismatches }
    if x.arm then s.raise Ev.chkMismatch c x.result else s

/-- The least time of a pass: a scan of flash reads no more than 160 MB/s (R447, R455). -/
def Chk.passT (x : Chk) : Nat := if x.source = 3 then nsT (x.scanLength * 1000) / 160 else 0

/-- CHK_PASS_COMPLETE: a pass of a running channel ends (R448-R450). -/
def execChkPassComplete (c : Nat) (o : PassOutcome) (s : State) : Outcome :=
  if c ≥ 4 then .next s
  else
    let x := s.chan c
    if x.st ≠ .running ∨ s.gl.device = .updatePause then .next s
    else match o.poisoned with
    | some p => .next ((s.memPoisoned p).updChan c fun x => { x with st := .dataError, reloading := false })
    | none =>
      let s := s.advanceNow (x.passAt + x.passT)
      let v := crcOf x.poly (s.scanBytes x o)
      let s := s.updChan c fun x => { x with
        result := v, valid := true, passes := satInc x.passes, passAt := s.now }
      if !x.te5100 then .next ((s.updChan c fun x => { x with st := .done }).raise Ev.chkDone c v)
      else if x.reloading then .next s
      else if o.parityOk then .next (s.compareChan c)
      else .next ((s.updChan c fun x => { x with corrupts := satInc x.corrupts, reloading := true }).raise Ev.expectedCorrupt (2 ^ 24 + c) 0)

/-- CHK_EXPECTED_RELOAD_DONE: EXPECTED is back from the holding copy or the ledger, and the held result is compared; a bad
ledger copy disables the channel (R450). -/
def execChkExpectedReloadDone (c : Nat) (ledgerGood : Bool) (s : State) : Outcome :=
  if c ≥ 4 then .next s
  else
    let x := s.chan c
    if !x.reloading then .next s
    else match x.holding, ledgerGood with
      | some v, _ => .next ((s.updChan c fun x => { x with expected := v, reloading := false }).compareChan c)
      | none, true =>
        .next ((s.updChan c fun x => { x with expected := Tab.getD s.nv.expects (64 + c) 0, reloading := false }).compareChan c)
      | none, false => .next ((s.badExpected.updChan c fun x => { x with st := .disabled, reloading := false }).raise Ev.chkFault c 0)

/-- EXPECTED_LEDGER_COPY: firmware has copied an expected value into the ledger (R236, R451). -/
def execExpectedLedgerCopy (owner : ExpectOwner) (s : State) : Outcome :=
  match owner with
  | .witness w =>
    if w ≥ 64 then .next s
    else .next (if s.cfg.has .witness w && !(s.window w).reloading then
        { s with nv := { s.nv with expects := Tab.put s.nv.expects w (s.window w).expected } }
      else s)
  | .channel c =>
    if c ≥ 4 then .next s
    else match (s.chan c).holding with
      | some v => .next ({ s with nv := { s.nv with expects := Tab.put s.nv.expects (64 + c) v } }.updChan c fun x => { x with holding := none })
      | none => .next s

/-! ## Commands (R452) -/

/-- CHK_START (R447, R448, R452). -/
def chkStartOp : Op where
  code := 0x0E01
  cls := .immediate
  layout := fixedLayout [1, 1, 1, 1, 4, 8, 8]
  body := .run fun r s => do
    let d := r.payload
    let c := u8 d 0
    inRange (c ≤ 3) 0
    inRange (u8 d 1 ≤ 3) 1
    inRange (u8 d 2 ≤ 3) 2
    inRange (u8 d 3 ≤ 3) 3
    inRange (u8 d 3 ≠ 0 ∨ s.startOk (u8 d 1) (u64 d 8)) 8
    inRange (u8 d 3 ≠ 0 ∨ s.lengthOk (u8 d 1) (u64 d 8) (u64 d 16)) 16
    need ((s.chan c).st ≠ .running) Status.busy (s.chan c).starter
    let s := s.updChan c fun x => { x with
      config := u8 d 1 + 4 * u8 d 2 + flag x.te5100 4 + 256 * u8 d 3, start := u64 d 8, length := u64 d 16 }
    .ok (s.startChan c r.session, .ok)

/-- CHK_RESULT (R452). -/
def chkResultOp : Op where
  code := 0x0E02
  cls := .immediate
  layout := fixedLayout [1, 3]
  body := .run fun r s => do
    let c := u8 r.payload 0
    inRange (c ≤ 3) 0
    let x := s.chan c
    need (x.st ≠ .dataError) Status.dataUncorrectable 0
    .ok (s, .ok (leBytes 4 x.statusWord ++ leBytes 4 x.passes ++ leBytes 1 x.source ++ leBytes 1 x.poly ++
      leBytes 1 (if x.te5100 then 1 else 0) ++ zeros 1 ++ leBytes 4 x.mismatches ++ leBytes 8 x.start ++ leBytes 8 x.length ++
      leBytes 8 x.result ++ leBytes 8 x.expected))

/-- CHK_EXPECT (R451, R452). -/
def chkExpectOp : Op where
  code := 0x0E03
  cls := .immediate
  layout := fixedLayout [1, 7, 8]
  body := .run fun r s => do
    inRange (u8 r.payload 0 ≤ 3) 0
    .ok (s.commitExpected (u8 r.payload 0) (u64 r.payload 8), .ok)

/-- CHK_MODE (R450, R452). -/
def chkModeOp : Op where
  code := 0x0E04
  cls := .immediate
  layout := fixedLayout [1, 1, 2]
  body := .run fun r s => do
    let c := u8 r.payload 0
    inRange (c ≤ 3) 0
    inRange (u8 r.payload 1 ≤ 1) 1
    need ((s.chan c).st ≠ .running) Status.busy (s.chan c).starter
    .ok (s.updChan c fun x => { x with config := x.config % 16 + 16 * u8 r.payload 1 + 256 * x.region }, .ok)

/-! ## The CHK block (R453, R454) -/

/-- A register of a channel that reads without effect. -/
def Chk.read (x : Chk) (off : Nat) : Nat :=
  match off with
  | 0x04 => x.config
  | 0x08 => x.start % 2 ^ 32
  | 0x0C => x.start / 2 ^ 32
  | 0x10 => x.length % 2 ^ 32
  | 0x14 => x.length / 2 ^ 32
  | 0x18 => x.statusWord
  | 0x1C => x.expectLo
  | 0x20 => x.expected / 2 ^ 32
  | 0x24 => x.result % 2 ^ 32
  | 0x28 => x.resultHi
  | 0x2C => x.passes
  | 0x30 => x.mismatches
  | 0x34 => x.corrupts
  | 0x38 => x.error
  | _ => 0

/-- A read of the CHK block (R453). -/
def State.chkRead (s : State) (off : Nat) : Nat :=
  let g := s.chkg
  if off < 0x1000 then
    match off with
    | 0x0000 => g.period
    | 0x0004 => g.dramPasses
    | 0x0008 => g.dramCe
    | 0x000C => g.dramUe
    | 0x0010 => g.sramPasses
    | 0x0014 => g.sramCe
    | 0x0018 => g.sramUe
    | 0x001C => g.ledgerCe
    | 0x0020 => g.ledgerUe
    | 0x0024 => g.ueAddr % 2 ^ 32
    | 0x0028 => g.ueHi
    | 0x002C => g.dramItem * 1000 / (s.dramBytes / 8192)
    | _ => 0
  else if off < 0x1100 then (s.chan ((off - 0x1000) / 0x40)).read (off % 0x40)
  else 0

/-- What reading a CHK register latches: UE_ADDR_HI and RESULT_HI (R453). -/
def State.chkLatch (off : Nat) (s : State) : State :=
  if off = 0x0024 then { s with chkg := { s.chkg with ueHi := s.chkg.ueAddr / 2 ^ 32 % 256 + s.chkg.ueMem * 2 ^ 28 } }
  else if 0x1000 ≤ off ∧ off < 0x1100 ∧ off % 0x40 = 0x24 then
    s.updChan ((off - 0x1000) / 0x40) fun x => { x with resultHi := x.result / 2 ^ 32 }
  else s

/-- A write to a channel's registers (R453, R454). -/
def State.chanWrite (c off v : Nat) (s : State) : State :=
  match off with
  | 0x00 =>
    let s := if bit v 0 then s.chanRegStart c else s
    if bit v 1 then s.chanAbort c else s
  | 0x04 => s.updChan c fun x => if x.st = .running then x else { x with config := v % 65536 - field v 7 5 * 32 }
  | 0x08 => s.updChan c fun x => { x with start := x.start / 2 ^ 32 * 2 ^ 32 + v }
  | 0x0C => s.updChan c fun x => { x with start := x.start % 2 ^ 32 + v * 2 ^ 32 }
  | 0x10 => s.updChan c fun x => { x with length := x.length / 2 ^ 32 * 2 ^ 32 + v }
  | 0x14 => s.updChan c fun x => { x with length := x.length % 2 ^ 32 + v * 2 ^ 32 }
  | 0x1C => s.updChan c fun x => { x with expectLo := v }
  | 0x20 => s.commitExpected c ((s.chan c).expectLo + v * 2 ^ 32)
  | 0x38 => s.updChan c fun x => { x with error := x.error &&& (3 - v % 4) }
  | _ => s

/-- A write to the CHK block (R453). -/
def State.chkWrite (off v : Nat) (s : State) : State :=
  if off = 0 then { s with chkg := { s.chkg with period := clampN 60 86400 (v % 2 ^ 17) } }
  else if 0x1000 ≤ off ∧ off < 0x1100 then s.chanWrite ((off - 0x1000) / 0x40) (off % 0x40) v
  else s

def execChkStart (r : Req) (s : State) : Outcome := hostCommand chkStartOp r s
def execChkResult (r : Req) (s : State) : Outcome := hostCommand chkResultOp r s
def execChkExpect (r : Req) (s : State) : Outcome := hostCommand chkExpectOp r s
def execChkMode (r : Req) (s : State) : Outcome := hostCommand chkModeOp r s

end Sys2Proof.Machine
end

