-- ==== Sys2Proof/Machine/Digest.lean ====
section
/-! DEFINITION. SHA-256 and Ed25519 (R463, R464, R475), which the manual names and does not define: SHA-256 and SHA-512 as
FIPS 180-4 has them, and the verification of RFC 8032. PRESUMED (log entry 9). -/

namespace Sys2Proof

/-! ## SHA-2 -/

/-- The round constants of SHA-512: 64 bits of the fractions of the cube roots of the first 80 primes. -/
def sha2K : List Nat :=
  [
  0x428A2F98D728AE22, 0x7137449123EF65CD, 0xB5C0FBCFEC4D3B2F, 0xE9B5DBA58189DBBC, 0x3956C25BF348B538,
  0x59F111F1B605D019, 0x923F82A4AF194F9B, 0xAB1C5ED5DA6D8118, 0xD807AA98A3030242, 0x12835B0145706FBE,
  0x243185BE4EE4B28C, 0x550C7DC3D5FFB4E2, 0x72BE5D74F27B896F, 0x80DEB1FE3B1696B1, 0x9BDC06A725C71235,
  0xC19BF174CF692694, 0xE49B69C19EF14AD2, 0xEFBE4786384F25E3, 0x0FC19DC68B8CD5B5, 0x240CA1CC77AC9C65] ++
  [
  0x2DE92C6F592B0275, 0x4A7484AA6EA6E483, 0x5CB0A9DCBD41FBD4, 0x76F988DA831153B5, 0x983E5152EE66DFAB,
  0xA831C66D2DB43210, 0xB00327C898FB213F, 0xBF597FC7BEEF0EE4, 0xC6E00BF33DA88FC2, 0xD5A79147930AA725,
  0x06CA6351E003826F, 0x142929670A0E6E70, 0x27B70A8546D22FFC, 0x2E1B21385C26C926, 0x4D2C6DFC5AC42AED,
  0x53380D139D95B3DF, 0x650A73548BAF63DE, 0x766A0ABB3C77B2A8, 0x81C2C92E47EDAEE6, 0x92722C851482353B] ++
  [
  0xA2BFE8A14CF10364, 0xA81A664BBC423001, 0xC24B8B70D0F89791, 0xC76C51A30654BE30, 0xD192E819D6EF5218,
  0xD69906245565A910, 0xF40E35855771202A, 0x106AA07032BBD1B8, 0x19A4C116B8D2D0C8, 0x1E376C085141AB53,
  0x2748774CDF8EEB99, 0x34B0BCB5E19B48A8, 0x391C0CB3C5C95A63, 0x4ED8AA4AE3418ACB, 0x5B9CCA4F7763E373,
  0x682E6FF3D6B2B8A3, 0x748F82EE5DEFB2FC, 0x78A5636F43172F60, 0x84C87814A1F0AB72, 0x8CC702081A6439EC] ++
  [
  0x90BEFFFA23631E28, 0xA4506CEBDE82BDE9, 0xBEF9A3F7B2C67915, 0xC67178F2E372532B, 0xCA273ECEEA26619C,
  0xD186B8C721C0C207, 0xEADA7DD6CDE0EB1E, 0xF57D4F7FEE6ED178, 0x06F067AA72176FBA, 0x0A637DC5A2C898A6,
  0x113F9804BEF90DAE, 0x1B710B35131C471B, 0x28DB77F523047D84, 0x32CAAB7B40C72493, 0x3C9EBE0A15C9BEBC,
  0x431D67C49C100D4C, 0x4CC5D4BECB3E42B6, 0x597F299CFC657E2A, 0x5FCB6FAB3AD6FAEC, 0x6C44198C4A475817]

/-- The initial words of SHA-512: 64 bits of the fractions of the square roots of the first 8 primes. -/
def sha2Init : List Nat := [
  0x6A09E667F3BCC908, 0xBB67AE8584CAA73B, 0x3C6EF372FE94F82B, 0xA54FF53A5F1D36F1, 0x510E527FADE682D1,
  0x9B05688C2B3E6C1F, 0x1F83D9ABFB41BD6B, 0x5BE0CD19137E2179]

/-- The message padded to whole blocks: a one bit, zeros and its length in bits. -/
def sha2Pad (block lenBytes : Nat) (m : Bytes) : Bytes :=
  m ++ [0x80] ++ zeros ((2 * block - (m.length + 1 + lenBytes) % block) % block) ++ beBytes lenBytes (8 * m.length)

/-- The exclusive or of two rotations and of a third rotation, or of a shift. -/
def sha2Mix {w : Nat} (shift : Bool) (r : Nat × Nat × Nat) (x : BitVec w) : BitVec w :=
  x.rotateRight r.1 ^^^ x.rotateRight r.2.1 ^^^ (if shift then x >>> r.2.2 else x.rotateRight r.2.2)

/-- The message schedule: `n` more words, newest first. -/
def sha2Schedule {w : Nat} (r0 r1 : Nat × Nat × Nat) : Nat → List (BitVec w) → List (BitVec w)
  | 0, l => l
  | n + 1, l => sha2Schedule r0 r1 n
    ((sha2Mix true r1 (l.getD 1 0) + l.getD 6 0 + sha2Mix true r0 (l.getD 14 0) + l.getD 15 0) :: l)

/-- One round, of a constant and a word of the schedule, over the eight working words. -/
def sha2Round {w : Nat} (r0 r1 : Nat × Nat × Nat) (s : List (BitVec w)) (kw : BitVec w × BitVec w) : List (BitVec w) :=
  match s with
  | [a, b, c, d, e, f, g, h] =>
    let t := h + sha2Mix false r1 e + ((e &&& f) ^^^ (~~~e &&& g)) + kw.1 + kw.2
    [t + sha2Mix false r0 a + ((a &&& b) ^^^ (a &&& c) ^^^ (b &&& c)), a, b, c, d + t, e, f, g]
  | s => s

/-- One block: the rounds, and the sum with the words before. -/
def sha2Block {w : Nat} (big0 big1 small0 small1 : Nat × Nat × Nat) (k : List (BitVec w)) (s : List (BitVec w)) (block : Bytes) :
    List (BitVec w) :=
  let l := (records block 0 (w / 8) 16).map fun b => BitVec.ofNat w (beNat b)
  let t := (sha2Schedule small0 small1 (k.length - 16) l.reverse).reverse
  List.zipWith (· + ·) s ((k.zip t).foldl (sha2Round big0 big1) s)

/-- SHA-512. -/
def sha512 (m : Bytes) : Bytes :=
  let p := sha2Pad 128 16 m
  let s := (records p 0 128 (p.length / 128)).foldl
    (sha2Block (w := 64) (28, 34, 39) (14, 18, 41) (1, 8, 7) (19, 61, 6) (sha2K.map (BitVec.ofNat 64))) (sha2Init.map (BitVec.ofNat 64))
  padTo 64 (s.flatMap fun x => beBytes 8 x.toNat)

/-- SHA-256 (R463, R464, R475): its constants are the upper halves of those of SHA-512. -/
@[irreducible] def sha256 (m : Bytes) : Bytes :=
  let p := sha2Pad 64 8 m
  let high := fun (n : Nat) => BitVec.ofNat 32 (n / 2 ^ 32)
  let s := (records p 0 64 (p.length / 64)).foldl
    (sha2Block (w := 32) (2, 13, 22) (6, 11, 25) (7, 18, 3) (17, 19, 10) ((sha2K.take 64).map high)) (sha2Init.map high)
  padTo 32 (s.flatMap fun x => beBytes 4 x.toNat)

/-! ## Ed25519 -/

/-- The field prime of the curve. -/
def edP : Nat := 2 ^ 255 - 19

/-- The order of the base point. -/
def edL : Nat := 2 ^ 252 + 27742317777372353535851937790883648493

/-- A difference in the field. -/
def edSub (a b : Nat) : Nat := (a + (edP - b % edP)) % edP

/-- A power in the field, by the binary digits of the exponent, of which there are at most `n`. -/
def edPow : Nat → Nat → Nat → Nat
  | 0, _, _ => 1
  | n + 1, a, e => (if e % 2 = 1 then a else 1) * edPow n (a * a % edP) (e / 2) % edP

/-- The inverse in the field. -/
def edInv (a : Nat) : Nat := edPow 255 a (edP - 2)

/-- The constant d of the curve. -/
def edD : Nat := edSub 0 (121665 * edInv 121666)

/-- The sum of two points in the extended coordinates X, Y, Z, T of RFC 8032. -/
def edAdd (p q : Nat × Nat × Nat × Nat) : Nat × Nat × Nat × Nat :=
  let a := edSub p.2.1 p.1 * edSub q.2.1 q.1 % edP
  let b := (p.2.1 + p.1) * (q.2.1 + q.1) % edP
  let c := 2 * p.2.2.2 * q.2.2.2 * edD % edP
  let d := 2 * p.2.2.1 * q.2.2.1 % edP
  let e := edSub b a
  let f := edSub d c
  let g := (d + c) % edP
  let h := (b + a) % edP
  (e * f % edP, g * h % edP, f * g % edP, e * h % edP)

/-- A multiple of a point, by the binary digits of the factor, of which there are at most `n`. -/
def edMul : Nat → Nat → Nat × Nat × Nat × Nat → Nat × Nat × Nat × Nat
  | 0, _, _ => (0, 1, 1, 0)
  | n + 1, k, p =>
    let rest := edMul n (k / 2) (edAdd p p)
    if k % 2 = 1 then edAdd p rest else rest

/-- Two points are the same. -/
def edSame (p q : Nat × Nat × Nat × Nat) : Bool :=
  p.1 * q.2.2.1 % edP = q.1 * p.2.2.1 % edP && p.2.1 * q.2.2.1 % edP = q.2.1 * p.2.2.1 % edP

/-- The point that 32 bytes encode, where they encode one. -/
def edPoint (bytes : Bytes) : Option (Nat × Nat × Nat × Nat) :=
  let n := leNat bytes
  let y := n % 2 ^ 255
  let u := edSub (y * y) 1
  let v := (edD * (y * y) + 1) % edP
  let x := u * (v * v % edP * v % edP) % edP * edPow 255 (u * edPow 3 v 7 % edP) ((edP - 5) / 8) % edP
  let root := if v * (x * x) % edP = u then some x
    else if v * (x * x) % edP = edSub 0 u then some (x * edPow 255 2 ((edP - 1) / 4) % edP) else none
  if edP ≤ y then none
  else match root with
    | none => none
    | some x =>
      if x = 0 ∧ n / 2 ^ 255 = 1 then none
      else
        let x := if x % 2 = n / 2 ^ 255 then x else edP - x
        some (x, y, 1, x * y % edP)

/-- The base point. -/
def edBase : Nat × Nat × Nat × Nat := (edPoint (leBytes 32 (4 * edInv 5 % edP))).getD (0, 1, 1, 0)

/-- The signature of 64 bytes verifies for a message under a public key of 32 bytes (R464). -/
@[irreducible] def ed25519 (key message signature : Bytes) : Bool :=
  let s := leNat (slice signature 32 32)
  match edPoint (slice signature 0 32), edPoint key with
  | some r, some a =>
    let k := leNat (sha512 (slice signature 0 32 ++ key ++ message)) % edL
    s < edL && edSame (edMul 256 8 (edMul 256 s edBase)) (edMul 256 8 (edAdd r (edMul 256 k a)))
  | _, _ => false

end Sys2Proof
end

