-- ==== Sys2Proof/Machine/Storage.lean ====
section
/-! DEFINITION. The flash commands (R455-R457), the personality (R458), image headers and slots (R463, R464), staging an
update (R465-R469), HEALTH_CONFIRM (R472, R474), the owner lock (R475) and the saved configuration (R476). -/

namespace Sys2Proof.Machine

/-! ## Flash commands (R456, R457) -/

/-- A range meets another, both as (first, past the end). -/
def meets (a b c d : Nat) : Bool := a < d && c < b

/-- A write or erase of a range may be made: OUT_OF_RANGE beyond the flash or in a region marked refused, the personality
only in SERVICE with the owner lock clear (R456, R457). -/
def State.flashWritable (s : State) (a len : Nat) : Chk? Unit := do
  need (a + len ≤ s.flashBytes) Status.outOfRange 0
  need (len = 0 ∨ !(meets a (a + len) 0 0x20000 || meets a (a + len) 0x40000 0x03F0_0000)) Status.outOfRange 0
  let pers := len ≠ 0 && meets a (a + len) 0x20000 0x40000
  need (!pers || s.gl.device = .service) Status.wrongState s.wrongDetail
  need (!pers || s.nv.ownerHash.isNone) Status.ownerLocked 0

/-- An operation on a range of flash: done, with its answer, or not completed in time, which leaves the range free (R457,
log entry 12). -/
def State.flashOp (a len : Nat) (f : Memory → Memory) (answer : Memory → Ans) (s : State) : State × Res :=
  let k := s.fresh
  let m := if Config.flashDone k then f s.nv.flash
    else s.nv.flash.put a ((List.range len).map fun i => Config.flashByte k (a + i))
  let s := { s with fresh := k + 1, nv := { s.nv with flash := m } }
  (s, .done (if Config.flashDone k then answer m else { status := Status.flashTimeout }))

/-- FLASH_READ (R457). -/
def flashReadOp : Op where
  code := 0x0C07
  cls := .exempt
  layout := fixedLayout [8, 4, 4]
  body := .run fun r s => do
    let a := u64 r.payload 0
    let len := u32 r.payload 8
    inRange (1 ≤ len ∧ len ≤ 65536) 8
    need (a + len ≤ s.flashBytes) Status.outOfRange 0
    .ok (s, .ok (s.flashRange a len))

/-- FLASH_WRITE: bits go from 1 to 0 only, and a byte that reads back differently gives CRC_BAD (R457). -/
def flashWriteOp : Op where
  code := 0x0C08
  cls := .exempt
  layout := layout [8, 4, 4] (some (8, fun b => u32 b 8))
  body := .run fun r s => do
    let a := u64 r.payload 0
    let d := r.payload.drop 16
    s.flashWritable a d.length
    .ok (s.flashOp a d.length (fun m => m.program a d) fun m =>
      { status := if m.range a d.length = d then Status.ok else Status.crcBad })

/-- FLASH_ERASE (R457). -/
def flashEraseOp : Op where
  code := 0x0C09
  cls := .exempt
  layout := fixedLayout [8, 4, 4]
  body := .run fun r s => do
    let a := u64 r.payload 0
    let len := u32 r.payload 8
    inRange (a % 65536 = 0) 0
    inRange (len % 65536 = 0) 8
    s.flashWritable a len
    .ok (s.flashOp a len (fun m => m.erase a len) fun _ => {})

/-! ## Personality (R458) -/

/-- The personality record at a flash address, if its CRC is valid. -/
def Memory.personalityAt (m : Memory) (a : Nat) : Option Bytes :=
  let b := m.range a 256
  if u32 b 252 = crc32c (b.take 252) then some (putAt b 6 (leBytes 2 (u16 b 6 / 2 * 2))) else none

/-- The personality that a boot reads: PERS A if its CRC is valid, and PERS B otherwise. -/
def Memory.personality (m : Memory) : Option Bytes := (m.personalityAt 0x20000).or (m.personalityAt 0x30000)

/-- PERSONALITY_READ (R458). -/
def personalityReadOp : Op where
  code := 0x0C0B
  cls := .immediate
  layout := noPayload
  body := .run fun _ s => .ok (s, .ok s.personality)

/-! ## Slots and image headers (R456, R463, R464) -/

/-- BODY_LEN of a header. -/
abbrev hdBody (h : Bytes) : Nat := u32 h 8
/-- FW_VERSION of a header. -/
abbrev hdVersion (h : Bytes) : Nat := u32 h 12
/-- SECURITY_VERSION of a header. -/
abbrev hdSecurity (h : Bytes) : Nat := u16 h 16
/-- SCHEDULE_FORMAT of a header. -/
abbrev hdFormat (h : Bytes) : Nat := u16 h 18

/-- The header in a slot. -/
def State.slotHeader (s : State) (slot : Bool) : Bytes := s.nv.flash.range (slotBase slot) 256

/-- BODY_LEN is in its range (R463). -/
def bodyLenOk (n : Nat) : Bool := 4096 ≤ n && n ≤ 16776960

/-- The checks of R464 in order, with the length given to UPDATE_OPEN during an update: OK or the status of the first that
fails. -/
def State.checkHeader (s : State) (len : Option Nat) (h : Bytes) : Nat :=
  if u32 h 0 ≠ 0x5746_4454 ∨ u16 h 4 ≠ 1 then Status.headerBad
  else if u32 h 124 ≠ crc32c (h.take 124) then Status.crcBad
  else if !(bit (u8 h 6) (if s.fuses.te8220 then 1 else 0)) ∨ u8 h 20 > s.fuses.stepping ∨ !bodyLenOk (hdBody h) ∨
      len.any (fun n => n ≠ hdBody h) then Status.headerBad
  else
    let key := slice h 64 32
    let good := match Tab.find s.nv.keys (u8 h 7) with
      | some k => u8 h 7 ≤ 3 && !k.revoked && k.hash = some (sha256 key)
      | none => false
    if !good then Status.signatureBad
    else if !ed25519 key (sha256 (h.take 128)) (slice h 128 64) then Status.signatureBad
    else if hdSecurity h < s.nv.minVersion then Status.headerBad
    else Status.ok

/-- A slot passes (R460): its header passes, and the digest of its body is the header's. -/
def State.passes (s : State) (slot : Bool) : Bool :=
  let h := s.slotHeader slot
  s.checkHeader none h = Status.ok &&
    sha256 (s.nv.flash.range (slotBase slot + 256) (hdBody h)) = slice h 32 32

/-- The boot record in the ledger: its newer valid copy, with the values of R460 where none is valid. -/
def State.bootRecord (s : State) : BootRecord := (s.nv.newestBoot.map Prod.snd).getD {}

/-- FW_VERSION of the running image, or of the recovery loader (log entry 4). -/
def State.runningVersion (s : State) : Nat :=
  if s.boot.recovery then Config.loaderVersion % 2 ^ 32 else hdVersion (s.slotHeader s.boot.running)

/-! ## Staging an update (R465-R468) -/

/-- VBAT reads below 2,600 mV (R481); before the first sweep there is no reading. -/
def State.batteryLow (s : State) : Bool := s.mon.raw.volts.getD 22 2600 < 2600

/-- A SHOW_ARM has a frame fixed that is not yet cut (R465). -/
def State.armFixed (s : State) : Bool := s.rt.queue.any fun q => q.op = 0x0207

/-- Checks 1 to 4 of R465. -/
def State.updateChecks (s : State) : Chk? Unit := do
  need (s.gl.show_ ≠ .armed && !s.armFixed) Status.showArmed 0
  need (!s.batteryLow) Status.supplyLow 1
  need (!s.mon.holdup) Status.supplyLow 2
  need s.nv.ownerHash.isNone Status.ownerLocked 0
  need (!s.pairActive || s.pair.maintenance) Status.pairActiveUnit 0

/-- Checks 6 and 7 of R465 for a command of the holder; WRONG_STATE when no session holds the slot (R466). -/
def State.holdsUpdate (s : State) (r : Req) : Chk? Unit :=
  match s.upd.holder with
  | none => .error ⟨Status.wrongState, s.wrongDetail⟩
  | some h =>
    if h = r.session then .ok ()
    else if (s.ring r.pair).source = some s.upd.source then .error ⟨Status.busy, h⟩
    else .error ⟨Status.busyOtherSource, h⟩

/-- UPDATE_OPEN (R465). -/
def updateOpenOp : Op where
  code := 0x0C01
  cls := .immediate
  layout := fixedLayout [4, 4]
  body := .run fun r s => do
    s.updateChecks
    need s.boot.trialSince.isNone Status.wrongState s.wrongDetail
    match s.upd.holder with
    | some _ => s.holdsUpdate { r with session := 0 }
    | none => .ok ()
    need (bodyLenOk (u32 r.payload 0)) Status.outOfRange 0
    let s := s.freeUpdate
    .ok ({ s with upd := { s.upd with
      holder := some r.session, source := (s.ring r.pair).source.getD .pcie, bodyLen := u32 r.payload 0, last := s.now } }, .ok)

/-- The number of blocks of the staged image. -/
def Update.total (u : Update) : Nat := ceilDiv (u.bodyLen + 256) 4096

/-- The blocks still missing. -/
def Update.missing (u : Update) : Nat := u.total - u.blocks.length

/-- UPDATE_BLOCK (R467). -/
def updateBlockOp : Op where
  code := 0x0C02
  cls := .immediate
  layout := layout [4, 2, 2] (some (4, fun b => u16 b 4))
  body := .run fun r s => do
    s.holdsUpdate r
    let off := u32 r.payload 0
    let size := s.upd.bodyLen + 256
    let data := r.payload.drop 8
    inRange (off % 4096 = 0 ∧ off < size) 0
    inRange (data.length = min 4096 (size - off)) 4
    need (off = 0 ∨ s.upd.header.isSome) Status.wrongState s.wrongDetail
    if off = 0 then
      match s.upd.header with
      | some h => need (h = data.take 256) Status.headerBad 0
      | none =>
        let st := s.checkHeader (some s.upd.bodyLen) (data.take 256)
        need (st = Status.ok) st 0
    let u := { s.upd with
      header := if off = 0 then some (data.take 256) else s.upd.header, blocks := Tab.put s.upd.blocks (off / 4096) data }
    .ok ({ s with upd := u }, .ok (leBytes 4 u.missing))

/-- UPDATE_CLOSE (R465, R468); one at a time writes (log entry 27). -/
def updateCloseOp : Op where
  code := 0x0C03
  cls := .deferred
  layout := fixedLayout [4]
  body := .run fun r s => do
    s.updateChecks
    s.holdsUpdate r
    need (s.upd.missing = 0) Status.outOfRange 0
    need s.upd.closing.isNone Status.busy r.session
    let (j, s) := s.startJob 0x0C03 r.session r.tag
    .ok ({ s with upd := { s.upd with closing := some (j, s.upd.blocks.flatMap Prod.snd), verified := false } },
      .done { status := Status.acceptedDeferred, payload := leBytes 4 j.id })

/-- The target slot of an update: the one that is not ACTIVE. -/
def State.targetSlot (s : State) : Bool := !s.bootRecord.active

/-- The staged image's body has the digest of its header (R468 step 1). -/
def digestOk (image : Bytes) : Bool := sha256 (image.drop 256) = slice image 32 32

/-- A slot whose writing did not complete, or that reads back differently: its bytes are free, and where the writing was
cut short its header is erased (R468, log entry 12). -/
def State.spoilSlot (short : Bool) (s : State) : State :=
  let base := slotBase s.targetSlot
  let m := s.nv.flash.put base ((List.range 0x0100_0000).map fun i => Config.flashByte s.fresh (base + i))
  { s with fresh := s.fresh + 1, nv := { s.nv with flash := if short then m.erase base 256 else m } }

/-- The running UPDATE_CLOSE is over; with OK the slot is verified for its holder, whose 30 s start (R466, R468). -/
def State.endClose (j : Job) (status detail : Nat) (s : State) : State :=
  { s with upd := { s.upd with
    closing := none, last := s.now, verified := status = Status.ok && s.upd.holder = some j.session } }.endJob j status detail

/-- UPDATE_CLOSE_COMPLETE (R468). -/
def execUpdateCloseComplete (o : WriteOutcome) (s : State) : Outcome :=
  match s.upd.closing with
  | none => .next s
  | some (j, image) =>
    if !digestOk image then .next (s.endClose j Status.crcBad 0)
    else match o with
      | .done =>
        let base := slotBase s.targetSlot
        .next ({ s with nv := { s.nv with flash := (s.nv.flash.erase base 0x0100_0000).program base image } }.endClose j Status.ok 0)
      | .badReadBack => .next ((s.spoilSlot false).endClose j Status.crcBad 0)
      | .flashTimeout => .next ((s.spoilSlot true).endClose j Status.flashTimeout 0)

/-- The main supply enters hold-up while an image is written: writing stops (R468). -/
def State.stopClose (s : State) : State :=
  match s.upd.closing with
  | none => s
  | some (j, image) => if digestOk image then (s.spoilSlot true).endClose j Status.supplyLow 2 else s

/-- A reset or a loss of power while an image is written: the slot holds no valid header (R468). -/
def State.cutClose (s : State) : State := if s.upd.closing.any fun c => digestOk c.2 then s.spoilSlot true else s

/-- UPDATE_ABORT (R466). -/
def updateAbortOp : Op where
  code := 0x0C04
  cls := .immediate
  layout := noPayload
  body := .run fun r s => do
    s.holdsUpdate r
    .ok (s.freeUpdate, .ok)

/-- UPDATE_SLOT_IDLE_TIMEOUT (R466). -/
def execUpdateSlotIdleTimeout (s : State) : Outcome :=
  if s.upd.holder.isNone ∨ s.upd.closing.isSome then .next s
  else .next ((s.advanceNow (s.upd.last + secT 30)).freeUpdate.raise Ev.updateAborted 0 1)

/-! ## Activation and trial (R469, R470, R472-R474) -/

/-- The activation pause begins (R466, R470): the staging slot is released, and the device state is UPDATE_PAUSE. -/
def State.beginPause (s : State) : State :=
  match s.upd.activate with
  | none => s
  | some a =>
    let s := s.freeUpdate
    { s with
      gl := { s.gl with device := .updatePause }
      upd := { s.upd with activate := none, pausing := some a, service := s.gl.device = .service } }

/-- An activation or a fallback is due: its pause begins at the next cut, and where no show runs at once (R470, log entry
28). -/
def State.activateSlot (slot : Bool) (cause : Option FallbackCause) (s : State) : State :=
  let s := { s with upd := { s.upd with activate := some (slot, cause) } }
  if s.showRuns ∨ s.gl.firstCut.isSome then s else s.beginPause

/-- A fallback begins (R473): the trial is over, and the image of PREVIOUS is activated. -/
def State.fallBack (cause : FallbackCause) (s : State) : State :=
  if s.boot.trialSince.isNone then s
  else { s with boot := { s.boot with trialSince := none } }.activateSlot s.bootRecord.previous (some cause)

/-- UPDATE_ACTIVATE (R465, R469, R470); in recovery the device resets into the new slot (R462). -/
def updateActivateOp : Op where
  code := 0x0C05
  cls := .exempt
  layout := fixedLayout [4]
  body := .run fun r s => do
    s.updateChecks
    s.holdsUpdate r
    need s.upd.verified Status.wrongState s.wrongDetail
    let slot := s.targetSlot
    if s.boot.recovery then
      let s := { s with
        nv := s.nv.putBoot { s.bootRecord with active := slot, previous := !slot, trial := false }
        boot := { s.boot with resetAt := some s.now } }.freeUpdate
      .ok (s, .ok (leBytes 4 (hdVersion (s.slotHeader slot))))
    else
      let same := hdFormat (s.slotHeader slot) = hdFormat (s.slotHeader s.boot.running)
      need (same || !(s.gl.show_ = .running || s.gl.show_ = .safeHold)) Status.wrongState s.wrongDetail
      .ok (s.activateSlot slot none, .wait .activation)

/-- TRIAL_TIMEOUT (R473). -/
def execTrialTimeout (s : State) : Outcome :=
  match s.boot.trialSince with
  | none => .next s
  | some t => .next ((s.advanceNow (t + secT 90)).fallBack .timeout)

/-- HEALTH_CONFIRM (R472, R474). -/
def healthConfirmOp : Op where
  code := 0x0C06
  cls := .immediate
  layout := fixedLayout [4]
  body := .run fun _ s => do
    need s.boot.trialSince.isSome Status.wrongState s.wrongDetail
    let s := { s with
      boot := { s.boot with trialSince := none }
      nv := { s.nv.putBoot { s.bootRecord with trial := false } with
        minVersion := max s.nv.minVersion (hdSecurity (s.slotHeader s.boot.running)) } }
    .ok (s.raise Ev.updateConfirmed 0 0, .ok)

/-! ## Owner lock (R475) -/

/-- OWNER_LOCK (R475); a clear without a lock gives no digest that CODE could match (log entry 29). -/
def ownerLockOp : Op where
  code := 0x0C0A
  cls := .immediate
  layout := fixedLayout [1, 3, 8]
  body := .run fun r s => do
    inRange (u8 r.payload 0 ≤ 1) 0
    let h := sha256 (slice r.payload 4 8)
    if u8 r.payload 0 = 1 then
      need s.nv.ownerHash.isNone Status.ownerLocked 0
      .ok ({ s with nv := { s.nv with ownerHash := some h } }, .ok)
    else
      need s.lock.lockout.isNone Status.ownerLocked 0
      need s.nv.ownerHash.isSome Status.ownerLocked 0
      if s.nv.ownerHash = some h then
        .ok ({ s with nv := { s.nv with ownerHash := none }, lock := {} }, .ok)
      else
        let n := s.lock.wrong + 1
        .ok ({ s with lock := { wrong := n, lockout := if n ≥ 8 then some s.now else none } }, .done { status := Status.ownerLocked })

/-- OWNER_LOCK_LOCKOUT_END (R475). -/
def execOwnerLockLockoutEnd (s : State) : Outcome :=
  match s.lock.lockout with
  | none => .next s
  | some t => .next { s.advanceNow (t + secT 60) with lock := {} }

/-! ## Saved configuration (R476) -/

/-- The newer of two saved copies. -/
def newerSaved (a b : Option Saved) : Option Saved :=
  match a, b with
  | some x, some y => if x.seq ≥ y.seq then some x else some y
  | some x, none => some x
  | none, y => y

/-- Records are written into the older of two copies with the next sequence number (R476): both copies after it, and
whether the first was replaced. -/
def saveCopy (recs : List Rec) (a b : Option Saved) : Option Saved × Option Saved :=
  let c := { seq := ((newerSaved a b).map fun x => x.seq + 1).getD 1, recs : Saved }
  let first := match a, b with
    | none, _ => true
    | some _, none => false
    | some x, some y => x.seq < y.seq
  if first then (some c, b) else (a, some c)

/-- A save that the flash does not complete in time leaves the copy it was writing invalid (log entry 12). -/
def spoilCopy (a b a' : Option Saved) : Option Saved × Option Saved := if a' = a then (a, none) else (none, b)

/-- CONFIG_SAVE (R476): calibration sets reach flash only through CALSET_SAVE (R195). -/
def configSaveOp : Op where
  code := 0x0210
  cls := .exempt
  layout := noPayload
  body := .run fun _ s => do
    need (s.gl.show_ ≠ .armed) Status.showArmed 0
    let recs := s.cfg.recs.filter fun x => x.kind ≠ .calSet
    need ((recs.map fun x => x.data.length).foldl (· + ·) 0 ≤ 12582912) Status.outOfRange 0
    let c := saveCopy recs s.nv.configA s.nv.configB
    let good := Config.flashDone s.fresh
    let c := if good then c else spoilCopy s.nv.configA s.nv.configB c.1
    .ok ({ s with fresh := s.fresh + 1, nv := { s.nv with configA := c.1, configB := c.2 } },
      .done { status := if good then Status.ok else Status.flashTimeout })

/-- CONFIG_LOAD (R476): the records are taken as they were saved, also those that name a unit which the variant lacks (log
entry 241). -/
def configLoadOp : Op where
  code := 0x0211
  cls := .exempt
  layout := noPayload
  body := .run fun r s => do
    need (s.stage.holder = some r.session) Status.notBasting (s.stage.holder.getD 0)
    match newerSaved s.nv.configA s.nv.configB with
    | none => .error ⟨Status.badReference, 0⟩
    | some c => .ok ({ s with stage := { s.stage with area := s.withSets { recs := c.recs } } }, .ok)

/-- CALSET_SAVE (R476). -/
def calsetSaveOp : Op where
  code := 0x060A
  cls := .exempt
  layout := noPayload
  body := .run fun _ s => do
    need (s.gl.show_ ≠ .armed) Status.showArmed 0
    let recs := s.col.sets.map fun (e : Nat × Bytes) => ({ kind := .calSet, num := e.1, data := e.2 } : Rec)
    let c := saveCopy recs s.nv.calA s.nv.calB
    let good := Config.flashDone s.fresh
    let c := if good then c else spoilCopy s.nv.calA s.nv.calB c.1
    .ok ({ s with fresh := s.fresh + 1, nv := { s.nv with calA := c.1, calB := c.2 } },
      .done { status := if good then Status.ok else Status.flashTimeout })

/-! ## Meanings -/

def execFlashRead (r : Req) (s : State) : Outcome := hostCommand flashReadOp r s
def execFlashWrite (r : Req) (s : State) : Outcome := hostCommand flashWriteOp r s
def execFlashErase (r : Req) (s : State) : Outcome := hostCommand flashEraseOp r s
def execPersonalityRead (r : Req) (s : State) : Outcome := hostCommand personalityReadOp r s
def execUpdateOpen (r : Req) (s : State) : Outcome := hostCommand updateOpenOp r s
def execUpdateBlock (r : Req) (s : State) : Outcome := hostCommand updateBlockOp r s
def execUpdateClose (r : Req) (s : State) : Outcome := hostCommand updateCloseOp r s
def execUpdateAbort (r : Req) (s : State) : Outcome := hostCommand updateAbortOp r s
def execUpdateActivate (r : Req) (s : State) : Outcome := hostCommand updateActivateOp r s
def execHealthConfirm (r : Req) (s : State) : Outcome := hostCommand healthConfirmOp r s
def execOwnerLock (r : Req) (s : State) : Outcome := hostCommand ownerLockOp r s
def execConfigSave (r : Req) (s : State) : Outcome := hostCommand configSaveOp r s
def execConfigLoad (r : Req) (s : State) : Outcome := hostCommand configLoadOp r s
def execCalsetSave (r : Req) (s : State) : Outcome := hostCommand calsetSaveOp r s

end Sys2Proof.Machine
end

