-- ==== Sys2Proof/Machine/Health.lean ====
section
/-! DEFINITION. Reset (R102, R458, R535, R548), monitors and the envelope (R67, R68, R478-R483), adaptive voltage
(R484-R486), the supervisor watchdogs (R34), hold-up (R412, R481, R550), and the event commands, log and registers
(R490-R503, R521). -/

namespace Sys2Proof.Machine

/-! ## Reset -/

/-- The device is reset: every field takes its reset value but what the manual keeps in OTP, flash, the ledger and the
backup island, and the model's own fields; SEQUENCE goes on 2^20 above the stored value (R490). `thermal` holds it in
reset (R483). -/
def State.restart (thermal : Bool) (s : State) : State :=
  { fuses := s.fuses, bak := s.bak, nv := s.nv, pending := s.pending, out := s.out, now := s.now, fresh := s.fresh
    evt := { seq := (s.nv.seq.map fun q => (q + 2 ^ 20 - 1) % 2 ^ 32).getD 0 }, boot := { hold := true, thermal } }

/-- A reset of the device: its sessions end (R102), the writing of an image is cut short (R468), every ball takes its reset state (R362, R535), and so do the outputs of
the feeders (R427). -/
def State.selfReset (thermal : Bool) (s : State) : State :=
  let s := (List.range 64).foldl (fun (s : State) n => s.endSession n .reset) s
  let s := (s.cfg.all .feeder).foldl (fun (s : State) (e : Nat × Bytes) => s.openOutputs s.cfg e.1) s
  (s.cutClose.emit (.ballsReset none s.now)).restart thermal

/-- The main supply is lost while the device is in reset: the night meter runs (R421). -/
def State.loseSupply (s : State) : State := { s with boot := { s.boot with supplyLost := true } }

/-- PORST_N_ASSERT: the device is held in reset, and its sessions end (R102, R548). In hold-up, the main supply is lost with
it (log entry 261). -/
def execPorstNAssert (s : State) : Outcome :=
  .next (if s.mon.holdup || s.boot.supplyLost then (s.selfReset false).loseSupply else s.selfReset false)

/-- RESET_DETECTOR_TRIP: the detector, which watches VCORE and VIO4, acts together with PORST_N (R548). -/
def execResetDetectorTrip (s : State) : Outcome := .next (s.selfReset false).loseSupply

/-- DEVICE_RESET_TIMER (R520). -/
def execDeviceResetTimer (s : State) : Outcome :=
  match s.boot.resetAt with
  | none => .next s
  | some t => .next ((s.advanceNow t).selfReset false)

/-! ## The envelope (R65-R68) -/

/-- The VCORE floor of a configuration's envelope in mV (R65). -/
def Cfg.floorMv (c : Cfg) : Nat := ((c.get .envelope 0).map fun d => u16 d 0).getD 700

/-- The maximum Tj of a configuration's envelope in degrees (R65). -/
def Cfg.tjMax (c : Cfg) (f : Fuses) : Int := ((c.get .envelope 0).map fun d => iAt d 2 1).getD f.tjHi

/-- The rated-corner cycle times of the process monitors (R482). -/
def State.pmRefs (s : State) : List Nat := (List.range 8).map fun p => Config.pmRef p s.cfg.floorMv (s.cfg.tjMax s.fuses)

/-- The device leaves the envelope (R67): the event names the first monitor concerned. -/
def State.leaveEnvelope (monitor : Nat) (s : State) : State :=
  match s.mon.outside with
  | some _ => { s with mon := { s.mon with inside := 0 } }
  | none => ({ s with mon := { s.mon with outside := some monitor, inside := 0 } }.count 0x0003).raise Ev.envelopeExit monitor 0

/-- The first position of a list whose element meets a test with its position. -/
def firstIdx {α : Type} (l : List α) (i : Nat) (f : Nat → α → Bool) : Option Nat :=
  match l with
  | [] => none
  | x :: rest => if f i x then some i else firstIdx rest (i + 1) f

/-- The first monitor outside the envelope in a sweep (R67, R501): a sensor above the maximum Tj, or a cycle time longer
than predicted. -/
def State.sweepOutside (s : State) (x : Readings) : Option Nat :=
  (firstIdx x.temps 0 fun _ t => t > 16 * s.cfg.tjMax s.fuses).or
    ((firstIdx x.cycles 0 fun p c => c > x.preds.getD p 0).map (· + 0x28))

/-- Every monitor of a sweep is inside the envelope as ENVELOPE_RETURN asks (R68). -/
def State.sweepInside (s : State) (x : Readings) : Bool :=
  (s.sweepOutside x).isNone && x.temps.all (fun t => t ≤ 16 * (s.cfg.tjMax s.fuses - 1)) &&
  (x.volts.take 8).all fun v => v ≥ s.cfg.floorMv

/-- The envelope after a sweep of 1 ms: the exit, and the return after 100 ms inside without a break. -/
def State.checkEnvelope (x : Readings) (s : State) : State :=
  match s.sweepOutside x with
  | some m => s.leaveEnvelope m
  | none =>
    if s.mon.outside.isNone then s
    else if !s.sweepInside x then { s with mon := { s.mon with inside := 0 } }
    else if s.mon.inside + 1 < 100 then { s with mon := { s.mon with inside := s.mon.inside + 1 } }
    else { s with mon := { s.mon with outside := none, inside := 0 } }.raise Ev.envelopeReturn 0 0

/-- VCORE_UNDERVOLTAGE: a VCORE monitor below the floor for 10 us (R67, R481). -/
def execVcoreUndervoltage (monitor : Nat) (s : State) : Outcome :=
  if monitor ≥ 8 then .next s
  else .next (if s.gl.device = .boot then s else s.leaveEnvelope (0x10 + monitor))

/-! ## Alarms (R480, R481, R483) -/

/-- The default limits of a voltage monitor (R480); a bank outside both classes takes those of 1.8 V (log entry 4). -/
def State.vmDefault (s : State) (v : Nat) : Nat × Nat :=
  if v < 8 then (650, 850)
  else if v < 10 then (1000, 1100)
  else if v < 12 then (475, 525)
  else if v < 14 then (855, 945)
  else if v < 16 then (1140, 1260)
  else if v < 22 then (if s.boot.banks.getD (v - 16) 1800 = 3300 then (3135, 3465) else (1710, 1890))
  else if v = 22 then (2200, 3600)
  else (900, 1100)

/-- VM_LOv (R501). -/
def State.vmLo (s : State) (v : Nat) : Nat := ((Tab.find s.mon.vmLo v).map BitVec.toNat).getD (s.vmDefault v).1
/-- VM_HIv (R501). -/
def State.vmHi (s : State) (v : Nat) : Nat := ((Tab.find s.mon.vmHi v).map BitVec.toNat).getD (s.vmDefault v).2
/-- TS_LIMITi as its register reads (R501). -/
def State.tsLimit (s : State) (i : Nat) : Nat :=
  ((Tab.find s.mon.tsLimit i).map BitVec.toNat).getD (if s.fuses.gradeI then 0x640 else 0x5A0)

/-- A sensor against its limit (R483). -/
def State.checkTemp (i : Nat) (t : Int) (s : State) : State :=
  let lim := signed 16 (s.tsLimit i)
  if t ≥ lim then
    let s := { s with mon := { s.mon with alarmTs := s.mon.alarmTs ||| 2 ^ i } }
    if s.mon.tsHeld.contains i then s
    else { s with mon := { s.mon with tsHeld := s.mon.tsHeld ++ [i] } }.raise Ev.tempHigh i 0
  else if t ≤ lim - 32 then { s with mon := { s.mon with tsHeld := s.mon.tsHeld.filter fun k => k ≠ i } }
  else s

/-- A voltage against its limits (R481). -/
def State.checkVolt (v x : Nat) (s : State) : State :=
  let low := decide (x < s.vmLo v)
  let high := decide (x > s.vmHi v)
  let m := s.mon
  let s := { s with mon := { m with
    alarmLo := if low then m.alarmLo ||| 2 ^ v else m.alarmLo
    alarmHi := if high then m.alarmHi ||| 2 ^ v else m.alarmHi
    loHeld := if low then (if m.loHeld.contains v then m.loHeld else m.loHeld ++ [v]) else m.loHeld.filter fun k => k ≠ v
    hiHeld := if high then (if m.hiHeld.contains v then m.hiHeld else m.hiHeld ++ [v]) else m.hiHeld.filter fun k => k ≠ v } }
  if (low || high) && !m.loHeld.contains v && !m.hiHeld.contains v then s.raise Ev.voltageAlarm v 0 else s

/-- Every element of a list with its position acts on a state. -/
def eachIndexed {α : Type} (l : List α) (i : Nat) (f : Nat → α → State → State) (s : State) : State :=
  match l with
  | [] => s
  | x :: rest => eachIndexed rest (i + 1) f (f i x s)

/-! ## Hold-up (R412, R468, R481, R550) -/

/-- The main supply enters hold-up: the ledger write, the feeders open, and writing of an image stops (R412, R427, R468). -/
def State.enterHoldup (s : State) : State :=
  if s.mon.holdup then s
  else
    let s := { s.energyWrite with mon := { s.mon with holdup := true } }
    ((s.cfg.all .feeder).foldl (fun (s : State) (e : Nat × Bytes) =>
      if (s.feeder e.1).st = .closed then s.openFeeder s.cfg e.1 .open_ else s.openOutputs s.cfg e.1) s).stopClose

/-- HOLDUP_ENTER (R412); of a device held in reset, the main supply is lost (R421, log entry 261). -/
def execHoldupEnter (s : State) : Outcome :=
  .next (if s.boot.hold then s.loseSupply else if s.gl.device = .boot then s else s.enterHoldup)

/-- HOLDUP_EXIT (R550). -/
def execHoldupExit (s : State) : Outcome := .next { s with mon := { s.mon with holdup := false } }

/-! ## The supplies of the I/O banks (R551) -/

/-- The supply below which the outputs of I/O bank b are not driven, in mV, by the level read at boot. -/
def State.bankFloor (s : State) (b : Nat) : Nat := if s.boot.banks.getD b 1800 = 3300 then 2600 else 1450

/-- The supplies of I/O banks 0-4 in a sweep: the balls of a bank that falls too low go to their reset states, and the
feeders are driven again when bank 4 is back (R536, R551, log entry 263). -/
def State.checkBanks (x : Readings) (s : State) : State :=
  let low := (List.range 5).filter fun b => x.volts.getD (16 + b) 1800 < s.bankFloor b
  let new := low.filter fun b => !s.mon.lowBanks.contains b
  let back := s.mon.lowBanks.contains 4 && !low.contains 4
  let s := { s with mon := { s.mon with lowBanks := low } }
  let s := new.foldl (fun (s : State) b => s.emit (.ballsReset (some b) s.now)) s
  if back then (s.cfg.all .feeder).foldl (fun (s : State) (e : Nat × Bytes) => s.feederLevels e.1) s else s

/-! ## Adaptive voltage (R484, R485) -/

/-- The PMBus readback of a sweep (R485): AVS_FAULT when the transaction fails or the readback has been off by more than
20 mV in 10 sweeps in a row, and again only after 10 good sweeps. -/
def State.checkAvs (ok : Bool) (vout : Nat) (s : State) : State :=
  let m := s.mon
  let off := decide (vout > m.avsReq + 20 ∨ m.avsReq > vout + 20)
  let bad := if ok && off then m.avsBad + 1 else 0
  let good := if ok && !off then m.avsGood + 1 else 0
  let fault := !ok || bad ≥ 10
  let s := { s with mon := { m with avsBad := bad, avsGood := good, avsFault := fault || (m.avsFault && good < 10) } }
  if fault && !m.avsFault then
    { s with mon := { s.mon with avsFaults := satInc s.mon.avsFaults } }.raise Ev.avsFault 0 0
  else s

/-- The request after a sweep (R484). -/
def State.avsStep (s : State) (x : Readings) : Nat :=
  let req := s.mon.avsReq
  let floor := s.cfg.floorMv
  let pairs := x.cycles.zip s.pmRefs
  if s.force.isNone then req
  else if req < floor ∨ pairs.any (fun e => 100 * e.1 > 98 * e.2) then min 850 (req + 5)
  else if pairs.all (fun e => 100 * e.1 < 95 * e.2) && req > floor && !s.mon.avsFault then max floor (req - 5)
  else req

/-- VOUT_COMMAND for a number of mV in the format that VOUT_MODE gives (R485): in the linear one, of PMBus, the voltage is
the word times 2^N, with N in bits 4:0 of VOUT_MODE in two's complement (log entry 267). -/
def voutWord (mode mv : Nat) : Nat :=
  let n := mode % 32
  if mode / 32 ≠ 0 then Config.voutWord mode mv
  else if n < 16 then (mv + 500 * 2 ^ n) / (1000 * 2 ^ n)
  else (mv * 2 ^ (32 - n) + 500) / 1000 % 65536

/-- The request for VCORE is sent over PMBus (R485). -/
def State.sendVcore (s : State) : State := s.drive 4 (.bus "VOUT_COMMAND" [voutWord s.mon.voutMode s.mon.avsReq])

/-- The request is stepped, and sent when it changes. -/
def State.stepAvs (x : Readings) (s : State) : State :=
  let v := s.avsStep x
  if v = s.mon.avsReq then s else ({ s with mon := { s.mon with avsReq := v } } : State).sendVcore

/-! ## The sweep (R479) -/

/-- The threshold of a thermal trip in 1/16 degree (R483). -/
def State.tripTemp (s : State) : Int := 16 * (s.fuses.tjHi + 15)

/-- A sensor has read at the trip threshold for 1 ms: THERMAL_TRIP, and the device resets itself (R483). -/
def State.checkTrip (temps : List Int) (s : State) : State :=
  let hot := (List.range temps.length).filter fun i => temps.getD i 0 ≥ s.tripTemp
  match hot.find? fun i => s.mon.hot.contains i with
  | some i => ((s.count 0x0004).raise Ev.thermalTrip i 0).selfReset true
  | none => { s with mon := { s.mon with hot } }

/-- MONITOR_SWEEP (R479-R485). -/
def execMonitorSweep (r : SweepReadings) (s : State) : Outcome :=
  if s.gl.device = .boot then .next s
  else
    let s := s.advanceNow (s.mon.sweepAt + msT 1)
    let hottest := r.temps.foldl max (r.temps.headD 0)
    let x : Readings := {
      temps := r.temps, volts := r.volts, cycles := r.cycles
      preds := (List.range r.cycles.length).map fun p => Config.pmPredict p (r.volts.getD p 0) hottest
      refs := s.pmRefs
      vout := if r.pmbus then r.vout else s.mon.raw.vout, iout := if r.pmbus then r.iout else s.mon.raw.iout }
    let s := { s with mon := { s.mon with sweep := (s.mon.sweep + 1) % 2 ^ 32, raw := x, sweepAt := s.now } }
    let s := eachIndexed x.temps 0 State.checkTemp s
    let s := eachIndexed x.volts 0 State.checkVolt s
    let s := s.checkBanks x
    let s := if x.volts.getD 23 900 < s.vmLo 23 then s.enterHoldup else s
    let s := s.checkEnvelope x
    let s := (s.checkAvs r.pmbus r.vout).stepAvs x
    .next (s.checkTrip x.temps)

/-- THERMAL_HOLD_STEP: the hold ends once every sensor reads below the grade limit (R483). -/
def execThermalHoldStep (temps : List Int) (s : State) : Outcome :=
  if !s.boot.thermal then .next s
  else
    let s := s.elapse (secT 1)
    .next (if temps.all (fun t => t < 16 * s.fuses.tjHi) then { s with boot := { s.boot with thermal := false } } else s)

/-! ## Supervisor cores (R34) -/

/-- CORE_WATCHDOG_EXPIRE: CORE_STALL, the restart, SAFE_HOLD after two expiries within 10 s, and the fallback of a trial
(R34, R473, R500). -/
def execCoreWatchdogExpire (core : Nat) (s : State) : Outcome :=
  if core ≥ 4 then .next s
  else if s.gl.device = .boot then .next s
  else
    let again := match Tab.find s.gl.coreLast core with
      | some t => decide (s.now ≤ t + secT 10)
      | none => false
    let s := { s with gl := { s.gl with
      coreLast := Tab.put s.gl.coreLast core s.now
      restarting := if s.gl.restarting.contains core then s.gl.restarting else s.gl.restarting ++ [core] } }
    let s := (s.count 0x0002).raise Ev.coreStall core 0
    let s := if again then s.forceHold else s
    .next (s.fallBack .coreStall)

/-- CORE_RESTART_DONE (R34). -/
def execCoreRestartDone (core : Nat) (s : State) : Outcome :=
  if core ≥ 4 then .next s
  else .next { s with gl := { s.gl with restarting := s.gl.restarting.filter fun k => k ≠ core } }

/-! ## Commands (R486, R487, R492, R499, R500) -/

/-- ALARMS of HEALTH_READ (R487). -/
def Mon.alarms (m : Mon) : Nat :=
  m.alarmTs + flag (m.alarmLo ≠ 0 || m.alarmHi ≠ 0) 16 + flag m.outside.isSome 31

/-- A number of 16-bit values of a list, 0 where it has none. -/
def words16 (n : Nat) (l : List Nat) : Bytes := (List.range n).flatMap fun i => leBytes 2 (l.getD i 0)

/-- The 120 bytes of one sweep (R487). -/
def State.healthBytes (s : State) : Bytes :=
  let x := s.mon.raw
  leBytes 4 s.mon.sweep ++ leBytes 4 s.mon.alarms ++ ((List.range 16).flatMap fun i => leInt 2 (x.temps.getD i 0)) ++
  words16 24 x.volts ++ words16 8 x.cycles ++ words16 8 x.refs

/-- HEALTH_READ (R487). -/
def healthReadOp : Op where
  code := 0x0D01
  cls := .immediate
  layout := noPayload
  body := .run fun _ s => .ok (s, .ok s.healthBytes)

/-- STATE of AVS_STATUS (R486). -/
def State.avsState (s : State) : Nat :=
  if s.mon.avsFault then 4
  else if s.force.isNone then 0
  else if s.mon.avsReq ≥ 850 then 3
  else if s.mon.avsReq ≤ s.cfg.floorMv then 2
  else 1

/-- The 16 bytes of AVS_STATUS (R486). -/
def State.avsBytes (s : State) : Bytes :=
  leBytes 2 s.mon.avsReq ++ leBytes 2 s.mon.raw.vout ++ leBytes 2 s.cfg.floorMv ++ leBytes 2 s.mon.raw.iout ++
    leBytes 1 s.avsState ++ zeros 3 ++ leBytes 4 s.mon.avsFaults

/-- AVS_STATUS (R486). -/
def avsStatusOp : Op where
  code := 0x0D06
  cls := .immediate
  layout := noPayload
  body := .run fun _ s => .ok (s, .ok s.avsBytes)

/-- FIRST and COUNT of a range of event sources (R492). -/
def sourceRange (d : Bytes) : Chk? Unit := do
  inRange (u16 d 0 ≤ 0x1FF) 0
  inRange (1 ≤ u16 d 2 ∧ u16 d 0 + u16 d 2 ≤ 0x200) 2

/-- The bits of a range of event sources. -/
def rangeBits (first count : Nat) : BitVec 512 := BitVec.ofNat 512 ((2 ^ count - 1) * 2 ^ first)

/-- EVENT_ROUTE (R492, R503). -/
def eventRouteOp : Op where
  code := 0x0D02
  cls := .immediate
  layout := fixedLayout [2, 2, 1, 1, 1, 1]
  body := .run fun r s => do
    let d := r.payload
    let bits := rangeBits (u16 d 0) (u16 d 2)
    sourceRange d
    inRange (u8 d 4 ≤ 2 ∧ (u8 d 4 = 0 ∨ (s.ring r.pair).ml)) 4
    if u8 d 4 = 0 then
      inRange (u8 d 6 ≤ 63) 6
      let w := word (u8 d 6 + flag (bit (u8 d 5) 0) 8 + flag (bit (u8 d 5) 1) 9 + flag (bit (u8 d 5) 2) 10)
      .ok ({ s with evt := { s.evt with
        routes := (List.range (u16 d 2)).foldl (fun t i => Tab.put t (u16 d 0 + i) w) s.evt.routes } }, .ok)
    else
      let slot := r.session % 64
      let change := fun (x : Sub) => { x with sources := if u8 d 4 = 1 then x.sources ||| bits else x.sources &&& ~~~bits }
      .ok ({ s with evt := { s.evt with subs := Tab.upd s.evt.subs slot {} change } }, .ok)

/-- EVENT_MASK (R492). -/
def eventMaskOp : Op where
  code := 0x0D03
  cls := .immediate
  layout := fixedLayout [2, 2, 1, 3]
  body := .run fun r s => do
    let d := r.payload
    let bits := rangeBits (u16 d 0) (u16 d 2)
    sourceRange d
    inRange (u8 d 4 ≤ 1) 4
    .ok ({ s with evt := { s.evt with mask := if u8 d 4 = 1 then s.evt.mask ||| bits else s.evt.mask &&& ~~~bits } }, .ok)

/-- The entry number of the oldest retained record. -/
def NonVolatile.logOldest (n : NonVolatile) : Nat := n.logNext - n.log.length

/-- LOG_READ (R499). -/
def logReadOp : Op where
  code := 0x0D04
  cls := .immediate
  layout := fixedLayout [8, 2, 1, 5]
  body := .run fun r s => do
    let d := r.payload
    inRange (1 ≤ u16 d 8 ∧ u16 d 8 ≤ 2046) 8
    inRange (u8 d 10 ≤ 1) 10
    let oldest := s.nv.logOldest
    let start :=
      if u8 d 10 = 0 then min (max (u48 d 0) oldest) s.nv.logNext
      else match firstIdx s.nv.log 0 fun _ e =>
          let diff := (e.seq + 2 ^ 32 - u32 d 0) % 2 ^ 32
          1 ≤ diff && diff ≤ 2 ^ 31 with
        | some i => oldest + i
        | none => s.nv.logNext
    let l := (s.nv.log.drop (start - oldest)).take (u16 d 8)
    .ok (s, .ok (leBytes 8 start ++ leBytes 8 (start + l.length) ++ l.flatMap fun e => e.bytes false))

/-- The counter with an id (R500); receive records count in rising flow and lane (log entry 30). -/
def State.counterValue (s : State) (id : Nat) : Nat :=
  if id ≤ 5 then Tab.getD s.nv.counters id 0
  else if 0x0100 ≤ id ∧ id ≤ 0x01FF then
    match (s.cfg.all .ixRx)[id - 0x0100]? with
    | some e => (s.ixOf e.1).claimDrops
    | none => 0
  else 0

/-- COUNTERS_READ (R500). -/
def countersReadOp : Op where
  code := 0x0D05
  cls := .immediate
  layout := fixedLayout [2, 2]
  body := .run fun r s => do
    let first := u16 r.payload 0
    let n := u16 r.payload 2
    inRange (1 ≤ n ∧ n ≤ 512 ∧ first + n ≤ 65536) 2
    .ok (s, .ok ((List.range n).flatMap fun i => leBytes 2 (first + i) ++ zeros 2 ++ leBytes 4 (s.counterValue (first + i))))

/-! ## Delivery (R496, R497, R521) -/

/-- EVENT_DATAGRAM_SEND (R497). -/
def execEventDatagramSend (slot : Nat) (s : State) : Outcome :=
  if slot ≥ 64 then .next s
  else match Tab.find s.evt.subs slot with
    | none => .next s
    | some x => .next (if x.waiting.isEmpty then s else (s.advanceNow (x.since + msT 1)).sendEvents slot)

/-- VECTOR_HOLDOFF_EXPIRE: the signal that covers the events of the holdoff, and the next holdoff (R496). -/
def execVectorHoldoffExpire (v : Nat) (s : State) : Outcome :=
  if v ≥ 64 then .next s
  else match Tab.find s.evt.holding v with
    | none => .next s
    | some h =>
      let s := s.advanceNow h.ends
      let s := { s with evt := { s.evt with holding := Tab.del s.evt.holding v } }
      .next (if h.due then s.signal v else s)

/-- UART1_LOG_LINE: the oldest record not yet sent leaves, or is dropped 1 s after its record (R521). -/
def execUart1LogLine (late : Bool) (s : State) : Outcome :=
  match s.evt.uart1 with
  | [] => .next s
  | x :: rest =>
    if s.gl.device = .boot then .next s
    else
      let s := if late then s.advanceNow (x.since + secT 1) else s
      if s.now ≥ x.since + secT 1 then .next { s with evt := { s.evt with uart1 := rest, uart1Drops := s.evt.uart1Drops + 1 } }
      else .next ({ s with evt := { s.evt with uart1 := rest, uart1Drops := 0 } }.drive 4 (.uart1 s.evt.uart1Drops x.entry x.event))

/-! ## The MON block (R501) -/

/-- A read of the MON block, but for its latching. -/
def State.monRead (s : State) (off : Nat) : Nat :=
  let (n, x) := s.mon.latched
  if off = 0x0000 then n
  else if off = 0x0004 then s.mon.alarmTs
  else if off = 0x0008 then s.mon.alarmLo
  else if off = 0x000C then s.mon.alarmHi
  else if off = 0x0010 then s.monEnvelope
  else if off = 0x0020 then s.mon.avsReq
  else if off = 0x0024 then x.vout % 65536
  else if off = 0x0028 then s.mon.avsFaults
  else if 0x0100 ≤ off ∧ off < 0x0140 then unsigned 16 (x.temps.getD ((off - 0x0100) / 4) 0)
  else if 0x0140 ≤ off ∧ off < 0x0180 then s.tsLimit ((off - 0x0140) / 4)
  else if 0x0200 ≤ off ∧ off < 0x0260 then x.volts.getD ((off - 0x0200) / 4) 0 % 65536
  else if 0x0280 ≤ off ∧ off < 0x02E0 then s.vmLo ((off - 0x0280) / 4)
  else if 0x0300 ≤ off ∧ off < 0x0360 then s.vmHi ((off - 0x0300) / 4)
  else if 0x0400 ≤ off ∧ off < 0x0420 then
    x.cycles.getD ((off - 0x0400) / 4) 0 % 65536 + x.preds.getD ((off - 0x0400) / 4) 0 % 65536 * 65536
  else if 0x0420 ≤ off ∧ off < 0x0440 then x.refs.getD ((off - 0x0420) / 4) 0 % 65536
  else 0

/-- A read of SWEEP latches its sweep into every monitor register (R479). -/
def State.sweepLatch (s : State) : State := { s with mon := { s.mon with latched := (s.mon.sweep, s.mon.raw) } }

/-- SWEEP_READ (R479). -/
def execSweepRead (s : State) : Outcome := .next (s.sweepLatch.emit (.readData [word s.mon.sweep]))

/-- A write to the MON block. -/
def State.monWrite (off v : Nat) (s : State) : State :=
  let m := s.mon
  if off = 0x0004 then { s with mon := { m with alarmTs := m.alarmTs &&& (0xFFFF_FFFF - v) } }
  else if off = 0x0008 then { s with mon := { m with alarmLo := m.alarmLo &&& (0xFFFF_FFFF - v) } }
  else if off = 0x000C then { s with mon := { m with alarmHi := m.alarmHi &&& (0xFFFF_FFFF - v) } }
  else if 0x0140 ≤ off ∧ off < 0x0180 then { s with mon := { m with tsLimit := Tab.put m.tsLimit ((off - 0x0140) / 4) (word (v % 65536)) } }
  else if 0x0280 ≤ off ∧ off < 0x02E0 then { s with mon := { m with vmLo := Tab.put m.vmLo ((off - 0x0280) / 4) (word (v % 65536)) } }
  else if 0x0300 ≤ off ∧ off < 0x0360 then { s with mon := { m with vmHi := Tab.put m.vmHi ((off - 0x0300) / 4) (word (v % 65536)) } }
  else s

/-! ## The EVT block (R502, R503) -/

/-- Word w of a 512-bit register. -/
def word512 (x : BitVec 512) (w : Nat) : Nat := x.toNat / 2 ^ (32 * w) % 2 ^ 32

/-- A 512-bit register with its word w replaced. -/
def putWord512 (x : BitVec 512) (w v : Nat) : BitVec 512 :=
  (x &&& ~~~(BitVec.ofNat 512 (0xFFFF_FFFF * 2 ^ (32 * w)))) ||| BitVec.ofNat 512 (v % 2 ^ 32 * 2 ^ (32 * w))

/-- A read of the EVT block, but for its latching. -/
def State.evtRead (s : State) (off : Nat) : Nat :=
  let e := s.evt
  if off = 0x0000 then 0x0040_0200
  else if off = 0x0004 then flag e.enable 0
  else if off = 0x0008 then (if e.enable then e.latched.1 else e.base) % 2 ^ 32
  else if off = 0x000C then (if e.enable then e.latched.1 else e.base) / 2 ^ 32
  else if off = 0x0010 then (if e.enable then e.latched.2 else e.k)
  else if off = 0x0014 then e.head
  else if off = 0x0018 then e.tail
  else if off = 0x001C then e.drop
  else if off = 0x0020 then e.seq
  else if off = 0x0024 then s.nv.logNext % 2 ^ 32
  else if off = 0x0028 then e.logHi
  else if off = 0x002C then e.logOverrun
  else if off = 0x0030 then e.mlDrop
  else if 0x0100 ≤ off ∧ off < 0x0140 then word512 e.pending ((off - 0x0100) / 4)
  else if 0x0200 ≤ off ∧ off < 0x0240 then word512 e.mask ((off - 0x0200) / 4)
  else if 0x0400 ≤ off ∧ off < 0x0500 then Tab.getD e.holdoff ((off - 0x0400) / 4) 0
  else if 0x1000 ≤ off ∧ off < 0x1800 then e.route ((off - 0x1000) / 4)
  else 0

/-- A read of LOG_NEXT_LO latches LOG_NEXT_HI (R502). -/
def State.evtLatch (off : Nat) (s : State) : State :=
  if off = 0x0024 then { s with evt := { s.evt with logHi := s.nv.logNext / 2 ^ 32 % 65536 } } else s

/-- EVT.CTRL.ENABLE is set: the ring is in service with its base and size latched (R502); it stays disabled until the
host enables it in D0 with Bus Master Enable set (R512). -/
def State.evtEnable (s : State) : State :=
  if s.evt.enable || !s.pcie.canDma then s
  else { s with evt := { s.evt with enable := true, latched := (s.evt.base, s.evt.k) } }

/-- EVT_RING_ENABLE (R502), by the host in D0 (R512, log entry 31). -/
def execEvtRingEnable (s : State) : Outcome := .next s.busMaster.evtEnable

/-- A write to the EVT block. -/
def State.evtWrite (off v : Nat) (s : State) : State :=
  let e := s.evt
  if off = 0x0004 then (if bit v 0 then s.evtEnable else { s with evt := { e with enable := false } })
  else if off = 0x0008 then (if e.enable then s else { s with evt := { e with base := e.base / 2 ^ 32 * 2 ^ 32 + v / 32 * 32 } })
  else if off = 0x000C then (if e.enable then s else { s with evt := { e with base := e.base % 2 ^ 32 + v * 2 ^ 32 } })
  else if off = 0x0010 then (if e.enable then s else { s with evt := { e with k := clampN 6 15 (v % 16) } })
  else if off = 0x0018 then { s with evt := { e with tail := v % 65536 } }
  else if 0x0100 ≤ off ∧ off < 0x0140 then
    let w := (off - 0x0100) / 4
    { s with evt := { e with pending := putWord512 e.pending w (word512 e.pending w &&& (0xFFFF_FFFF - v)) } }
  else if 0x0200 ≤ off ∧ off < 0x0240 then { s with evt := { e with mask := putWord512 e.mask ((off - 0x0200) / 4) v } }
  else if 0x0400 ≤ off ∧ off < 0x0500 then { s with evt := { e with holdoff := Tab.put e.holdoff ((off - 0x0400) / 4) (v % 65536) } }
  else if 0x1000 ≤ off ∧ off < 0x1800 then
    { s with evt := { e with routes := Tab.put e.routes ((off - 0x1000) / 4) (word (v % 64 + field v 10 8 * 256)) } }
  else s

/-! ## Meanings -/

def execHealthRead (r : Req) (s : State) : Outcome := hostCommand healthReadOp r s
def execEventRoute (r : Req) (s : State) : Outcome := hostCommand eventRouteOp r s
def execEventMask (r : Req) (s : State) : Outcome := hostCommand eventMaskOp r s
def execLogRead (r : Req) (s : State) : Outcome := hostCommand logReadOp r s
def execCountersRead (r : Req) (s : State) : Outcome := hostCommand countersReadOp r s
def execAvsStatus (r : Req) (s : State) : Outcome := hostCommand avsStatusOp r s

end Sys2Proof.Machine
end

