-- ==== Sys2Proof/Machine/Session.lean ====
section
/-! DEFINITION. Sessions and tags (R100-R102, R110, R558), timed withdrawals (R108), and the ring pairs of HOSTQ: their
registers, faults, rinse and timeouts (R91-R109). -/

namespace Sys2Proof.Machine

/-! ## Timed withdrawals (R108) -/

/-- Why a queued timed command is withdrawn, coded in the order of R108. -/
inductive WithdrawCause where
  | cancel | stopped | safeHold
  deriving DecidableEq, Repr

/-- The code of a withdrawal's cause. -/
def WithdrawCause.code : WithdrawCause → Nat
  | .cancel => 0
  | .stopped => 1
  | .safeHold => 2

/-- A queued timed command is withdrawn: it is counted, and TIMED_WITHDRAWN carries session, tag and cause (R108). -/
def State.withdrawn (cause : WithdrawCause) (q : Queued) (s : State) : State :=
  (s.count 0x0001).raise Ev.timedWithdrawn q.req.session (q.req.tag + 65536 * cause.code)

/-- The queued timed commands that a test picks are withdrawn (R108). -/
def State.withdraw (cause : WithdrawCause) (p : Queued → Bool) (s : State) : State :=
  let pick := fun (q : Queued) => q.frame.isSome && p q
  let gone := s.rt.queue.filter pick
  let s := { s with rt := { queue := s.rt.queue.filter fun q => !pick q } }
  gone.foldl (fun (s : State) q => s.withdrawn cause q) s

/-- The opcodes of class T that use the timed queue (R106, R112). -/
def timedCodes : List Nat := [0x0207, 0x0208, 0x0209, 0x020A, 0x020B, 0x0306, 0x0307, 0x0402, 0x0403, 0x0404, 0x0405, 0x0406,
  0x0407, 0x0408, 0x0503, 0x0504, 0x0505, 0x0506, 0x0507, 0x0608, 0x0809, 0x0A04]

/-! ## Family 0x01 (R558) -/

/-- IDENTIFY's 64 bytes (R558). -/
def State.identity (s : State) : Bytes :=
  let slot := fun b => if s.passes b then hdVersion (s.slotHeader b) else 0
  leBytes 4 s.globalId ++ leBytes 4 s.runningVersion ++ leBytes 4 (slot false) ++ leBytes 4 (slot true) ++
  leBytes 1 (if s.bootRecord.active then 1 else 0) ++ leBytes 1 (flag s.bootRecord.trial 0 + flag s.boot.recovery 1) ++ zeros 14 ++
  slice s.personality 36 16 ++ zeros 16

/-- IDENTIFY (R558). -/
def identifyOp : Op where
  code := 0x0101
  cls := .immediate
  noSession := true
  layout := noPayload
  body := .run fun _ s => .ok (s, .ok s.identity)

/-- The lowest session slot that is free (R100). -/
def State.freeSession (s : State) : Option Nat := (List.range 64).find? fun i => !(Tab.getD s.ses i {}).isOpen

/-- SESSION_OPEN (R100, R102): also in a command of an open session, which stays open (log entry 215). -/
def sessionOpenOp : Op where
  code := 0x0102
  cls := .immediate
  noSession := true
  layout := fixedLayout [2, 2]
  body := .run fun r s => do
    let keep := u16 r.payload 0
    inRange (keep ≤ 3600) 0
    match (s.ring r.pair).source, s.freeSession with
    | some src, some slot =>
      inRange (keep ≠ 0 || src = .pcie) 0
      let x : Session := { isOpen := true, gen := (Tab.getD s.ses slot {}).gen % 1023 + 1, source := src, keepalive := keep, lastUse := s.now }
      .ok ({ s with ses := Tab.put s.ses slot x }, .ok (leBytes 2 (x.id slot) ++ zeros 2))
    | some src, none =>
      inRange (keep ≠ 0 || src = .pcie) 0
      .error ⟨Status.sessionLimit, 0⟩
    | none, _ => .error ⟨Status.sessionLimit, 0⟩

/-- SESSION_CLOSE (R102): PURGE withdraws the session's timed commands. -/
def sessionCloseOp : Op where
  code := 0x0103
  cls := .immediate
  flags := 1
  layout := fixedLayout [4]
  body := .run fun r s =>
    let s := s.endSession (r.session % 64) .close
    .ok (if r.opFlag 8 then s.withdraw .cancel fun q => q.req.session = r.session else s, .ok)

/-- SESSION_KEEPALIVE (R102): like every command of a session, it restarts the keepalive time. -/
def sessionKeepaliveOp : Op where
  code := 0x0104
  cls := .immediate
  layout := fixedLayout [4]
  body := .run fun _ s => .ok (s, .ok)

/-- The most recent finished command of a session with a tag (R110). -/
def Session.lookup (x : Session) (tag : Nat) : Option Finished := x.finished.reverse.find? fun f => f.tag = tag

/-- TAG_STATUS (R110, R558). -/
def tagStatusOp : Op where
  code := 0x0105
  cls := .immediate
  layout := fixedLayout [2, 2]
  body := .run fun r s =>
    let id := if u16 r.payload 0 = 0 then r.session else u16 r.payload 0
    match s.session id with
    | none => .error ⟨Status.badSession, 0⟩
    | some (_, x) =>
      if (s.ring r.pair).source ≠ some x.source then .error ⟨Status.badSession, 0⟩
      else match x.lookup (u16 r.payload 2) with
        | none => .error ⟨Status.badReference, 2⟩
        | some f => .ok (s, .ok (leBytes 2 f.op ++ leBytes 2 f.status ++ leBytes 2 f.detail ++ leBytes 1 (flag f.frame.isSome 0) ++
            zeros 1 ++ leBytes 8 (f.frame.getD 0)))

/-- TIMED_CANCEL (R108, R558); the DETAIL of its BAD_REFERENCE is the offset of TAG (log entry 213). -/
def timedCancelOp : Op where
  code := 0x0106
  cls := .immediate
  layout := fixedLayout [2, 2]
  body := .run fun r s =>
    let id := u16 r.payload 0
    let tag := u16 r.payload 2
    let pick := fun (q : Queued) => decide (q.req.session = id ∧ q.req.tag = tag)
    let n := (s.rt.queue.filter fun q => q.frame.isSome && pick q).length
    if n > 0 then .ok (s.withdraw .cancel pick, .ok (leBytes 4 n))
    else
      let past := match s.session id with
        | none => false
        | some (_, x) => x.finished.any fun f => f.tag = tag && f.af && timedCodes.contains f.op
      .error ⟨if past then Status.framePassed else Status.badReference, if past then 0 else 2⟩

/-- A record of SESSION_LIST (R558). -/
def Session.row (x : Session) (slot : Nat) : Bytes :=
  let e := x.endpoint
  leBytes 2 (x.id slot) ++ leBytes 1 (if e.isSome then 1 else 0) ++ zeros 1 ++ leBytes 2 x.keepalive ++
  leBytes 2 ((e.map Endpoint.port).getD 0) ++ leBytes 4 ((e.map Endpoint.ip).getD 0) ++ zeros 4

/-- SESSION_LIST (R558). -/
def sessionListOp : Op where
  code := 0x0107
  cls := .immediate
  layout := noPayload
  body := .run fun _ s =>
    let l := s.ses.filter fun (e : Nat × Session) => e.2.isOpen
    .ok (s, .ok (leBytes 4 l.length ++ zeros 4 ++ l.flatMap fun e => e.2.row e.1))

/-- SESSION_KEEPALIVE_EXPIRE: the session has had no command for its keepalive time (R102). -/
def execSessionKeepaliveExpire (slot : Nat) (s : State) : Outcome :=
  match Tab.find s.ses slot with
  | none => .next s
  | some x =>
    if !x.isOpen || x.keepalive = 0 then .next s
    else .next ((s.advanceNow (x.lastUse + secT x.keepalive)).endSession slot .keepalive)

/-- The sessions whose source a test picks end with their source lost (R96, R102). -/
def State.loseSessions (p : Source → Bool) (s : State) : State :=
  (s.ses.map Prod.fst).foldl (fun s slot =>
    if ((Tab.find s.ses slot).map fun x => p x.source).getD false then s.endSession slot .sourceLost else s) s

/-! ## Ring pair registers (R94, R95) -/

/-- A pair is taken out of service, and BAD_INDEX is set (R95). -/
def State.badIndex (n : Nat) (s : State) : State := (s.disablePair n).pairError n 2

/-- CMD_TAIL is written (R94): a move of more than 2^k entries is BAD_INDEX. The management lane does not use it. -/
def State.writeCmdTail (n index : Nat) (s : State) : State :=
  let p := s.ring n
  let i := index % 65536
  if p.ml then s
  else
    let s := s.setRing n { p with cmdTail := i }
    if p.running && ringUsed i p.cmdTail > 2 ^ p.latched.2.2.1 then s.badIndex n else s

/-- RPL_TAIL is written (R94): a held reply can leave (R105), and a move of more than 2^k entries is BAD_INDEX. -/
def State.writeRplTail (n index : Nat) (s : State) : State :=
  let p := s.ring n
  let i := index % 65536
  if p.ml then s
  else
    let s := s.setRing n { p with rplTail := i }
    if p.running && ringUsed i p.rplTail > 2 ^ p.latched.2.2.2 then s.badIndex n else s.flush n

/-- ENABLE is set (R95): base and size are latched, and the pair is in service. -/
def State.enableRing (n : Nat) (s : State) : State :=
  let p := s.ring n
  if p.enable then s
  else (if p.ml then s else s.busMaster).setRing n { p with
    enable := true, running := true, latched := (p.cmdBase, p.rplBase, p.kCmd, p.kRpl) }

/-- The pair leaves service once ENABLE is 0 and every accepted command has replied (R95). -/
def State.settleDisable (n : Nat) (s : State) : State :=
  let p := s.ring n
  if !p.enable && p.slots.isEmpty then s.setRing n { p with running := false } else s

/-- ENABLE is cleared (R95). -/
def State.disableRing (n : Nat) (s : State) : State := (s.setRing n { s.ring n with enable := false }).settleDisable n

/-- The command ring is rinsed (R95, R26-R28): the device takes commands whole, so that the discard point is the request. -/
def State.rinseRing (n : Nat) (s : State) : State :=
  let p := s.ring n
  let gone := if p.ml then p.ring.length else ringUsed p.cmdTail p.cmdHead
  s.setRing n { p with rinse := false, cmdHead := (p.cmdHead + gone) % 65536, ring := [], rinsed := satAdd p.rinsed gone }

/-- SOURCE is written while ENABLE is 0 (R95): rings and replies of the other source are no more. -/
def State.setSource (n : Nat) (ml : Bool) (s : State) : State :=
  let p := s.ring n
  if p.enable || p.ml = ml then s else s.setRing n { p with ml, ring := [], cache := [], bound := none, idleSince := none }

/-- CTRL is written (R95). -/
def State.writeCtrl (n v : Nat) (s : State) : State :=
  let s := s.setSource n (bit v 1)
  let s := if bit v 0 then s.enableRing n else if (s.ring n).enable then s.disableRing n else s
  if bit v 2 then s.rinseRing n else s

/-- A base register of which one half is written. -/
def halfWrite (old v : Nat) (high : Bool) : Nat := if high then old % 2 ^ 32 + v * 2 ^ 32 else old / 2 ^ 32 * 2 ^ 32 + v / 32 * 32

/-- A write of a register of ring pair `n` at its offset (R94, R95). Base and size do not take a write while ENABLE is 1. -/
def State.writeRing (n off v : Nat) (s : State) : State :=
  let p := s.ring n
  let base := fun (q : RingPair) => if p.enable || p.ml then s else s.setRing n q
  match off with
  | 0x00 => s.writeCtrl n v
  | 0x08 => base { p with cmdBase := halfWrite p.cmdBase v false }
  | 0x0C => base { p with cmdBase := halfWrite p.cmdBase v true }
  | 0x10 => base { p with rplBase := halfWrite p.rplBase v false }
  | 0x14 => base { p with rplBase := halfWrite p.rplBase v true }
  | 0x18 => base { p with kCmd := clampN 4 12 (v % 16), kRpl := clampN 4 12 (field v 19 16) }
  | 0x1C => s.writeCmdTail n v
  | 0x28 => s.writeRplTail n v
  | 0x2C => if p.ml then s else s.setRing n { p with vector := word (v % 64 + flag (bit v 31) 31) }
  | 0x38 => s.setRing n { p with error := p.error &&& (0xF - v % 16) }
  | _ => s

/-- A read of a register of a ring pair at its offset (R94, R95). -/
def RingPair.read (p : RingPair) (off : Nat) : Nat :=
  let pcie := fun (v : Nat) => if p.ml then 0 else v
  match off with
  | 0x00 => p.ctrlWord
  | 0x04 => p.statusWord
  | 0x08 => pcie (p.cmdBase % 2 ^ 32)
  | 0x0C => pcie (p.cmdBase / 2 ^ 32)
  | 0x10 => pcie (p.rplBase % 2 ^ 32)
  | 0x14 => pcie (p.rplBase / 2 ^ 32)
  | 0x18 => pcie (p.kCmd + p.kRpl * 65536)
  | 0x1C => pcie p.cmdTail
  | 0x20 => p.cmdHead
  | 0x24 => p.rplHead
  | 0x28 => pcie p.rplTail
  | 0x2C => pcie p.vector.toNat
  | 0x30 => p.lateReply
  | 0x34 => p.mlDrop
  | 0x38 => p.error
  | 0x3C => p.rinsed
  | _ => 0

/-! ## The events of ring pairs -/

/-- A meaning on ring pair `n`, of which the device has 64. -/
def onPair (n : Nat) (s : State) (f : State → State) : Outcome := if n ≥ 64 then .next s else .next (f s)

/-- CMD_TAIL_WRITE (R94). -/
def execCmdTailWrite (pair index : Nat) (s : State) : Outcome := onPair pair s (State.writeCmdTail pair index)

/-- RPL_TAIL_WRITE (R94, R105). -/
def execRplTailWrite (pair index : Nat) (s : State) : Outcome := onPair pair s (State.writeRplTail pair index)

/-- REPLY_STALL_TIMEOUT: a reply has been held for 1 ms (R105). -/
def execReplyStallTimeout (pair : Nat) (s : State) : Outcome := onPair pair s fun s =>
  match (s.ring pair).heldSince with
  | none => s
  | some t =>
    if !(s.ring pair).held || (s.ring pair).stalled then s
    else
      let s := s.advanceNow (t + msT 1)
      let s := s.setRing pair { s.ring pair with stalled := true }
      (if (s.ring pair).error.testBit 3 then s else s.pairError pair 3).raise Ev.ringStall pair 0

/-- The command of a slot has not begun to execute (R109). -/
def Wait.unstarted : Wait → Bool
  | .fence _ _ => true
  | .turn _ => true
  | _ => false

/-- The command of a slot expires (R109): withdrawn while it waits for its fence or its turn, otherwise it runs on and its
own reply will be discarded. -/
def State.expireSlot (n i : Nat) (x : Slot) (s : State) : State :=
  let p := s.ring n
  let ended := fun (a : Ans) => p.slots.set i { x with wait := .nothing, ans := some a }
  if x.wait.unstarted then
    let a : Ans := { status := Status.expired }
    let s := { s with jobs := { s.jobs with waiting := s.jobs.waiting.filter fun id => some id ≠ x.job } }
    ((s.record x a).setRing n { p with slots := ended a }).flush n
  else (s.setRing n { p with slots := ended { status := Status.expired, detail := 1 }, late := p.late ++ [x] }).flush n

/-- REPLY_TIMEOUT_EXPIRE: the timeout of the accepted command at a position of a pair wins against its reply (R109). -/
def execReplyTimeoutExpire (pair position : Nat) (s : State) : Outcome := onPair pair s fun s =>
  match (s.ring pair).slots[position]? with
  | none => s
  | some x =>
    match x.deadline with
    | none => s
    | some t => if x.ans.isSome then s else ((s.advanceNow t).expireSlot pair position x)

/-- HOSTQ_ENABLE_SET (R95). -/
def execHostqEnableSet (pair : Nat) (s : State) : Outcome := onPair pair s (State.enableRing pair)

/-- HOSTQ_ENABLE_CLEAR (R95). -/
def execHostqEnableClear (pair : Nat) (s : State) : Outcome := onPair pair s (State.disableRing pair)

/-- HOSTQ_DISABLE_DONE (R95). -/
def execHostqDisableDone (pair : Nat) (s : State) : Outcome := onPair pair s (State.settleDisable pair)

/-- HOSTQ_RINSE (R95). -/
def execHostqRinse (pair : Nat) (s : State) : Outcome := onPair pair s (State.rinseRing pair)

/-- A failed DMA read is reported by Advanced Error Reporting (R508, log entry 269). -/
def State.aerError (s : State) : State :=
  let (k, s) := s.draw
  { s with pcie := { s.pcie with aer := s.pcie.aer ||| k } }

/-- DMA_READ_FAIL: the pair of the entry or packet is disabled with CMD_DMA_FAULT, or the layer's fetch fails (R512, R222). -/
def execDmaReadFail (target : DmaTarget) (s : State) : Outcome :=
  match target with
  | .ring n => onPair n s fun s => if (s.ring n).ml || !(s.ring n).running then s else (s.aerError.disablePair n).pairError n 0
  | .fetch layer =>
    if layer ≥ 32 then .next s
    else .next (if ((Tab.find s.layer layer).map fun x => x.fetching.isSome).getD false then s.aerError.fetchLate layer true else s)

/-- RPL_DMA_FAIL: the pair is disabled with RPL_DMA_FAULT, and the replies that it holds are discarded (R95, R96). -/
def execRplDmaFail (pair : Nat) (s : State) : Outcome := onPair pair s fun s =>
  if (s.ring pair).ml || !(s.ring pair).running then s else ((s.disablePair pair).pairError pair 1).flush pair

def execIdentify (r : Req) (s : State) : Outcome := hostCommand identifyOp r s
def execSessionOpen (r : Req) (s : State) : Outcome := hostCommand sessionOpenOp r s
def execSessionClose (r : Req) (s : State) : Outcome := hostCommand sessionCloseOp r s
def execSessionKeepalive (r : Req) (s : State) : Outcome := hostCommand sessionKeepaliveOp r s
def execTagStatus (r : Req) (s : State) : Outcome := hostCommand tagStatusOp r s
def execTimedCancel (r : Req) (s : State) : Outcome := hostCommand timedCancelOp r s
def execSessionList (r : Req) (s : State) : Outcome := hostCommand sessionListOp r s

end Sys2Proof.Machine
end

