-- ==== Sys2Proof/Machine/Admission.lean ====
section
/-! DEFINITION. The checks of admission and its report (R65-R80, R223, R248, R313, R383, R537, R559). -/

namespace Sys2Proof.Machine

/-! ## Owners (R77, R80) -/

/-- An owner or resource of the admission report. -/
def ownerOf (kind inst : Nat) : Nat := kind * 2 ^ 24 + inst % 2 ^ 24

/-- The configuration as a whole. -/
def ownerCfg : Nat := ownerOf 0x13 0

/-- A failure of an admission rule (R559). -/
def ruleRec (code ownerA : Nat) (ownerB : Option Nat := none) (demand limit : Nat := 0) : AdmitRec :=
  { check := 9, ruleNo := code, ownerA, ownerB, demand, limit }

/-! ## The slot bound (R66, R70) -/

/-- f_c in thousandths as the unit computes it for the envelope of a configuration: at most 1.250 (R66). -/
def State.computedSpeed (s : State) (c : Cfg) : Nat := max 1 (min 1250 (Config.laneSpeed c.floorMv (c.tjMax s.fuses)))

/-- f_c is forced to at most 1.000: FLOOR_SPEED, or a member of a pair (R66). -/
def State.speedForced (s : State) (c : Cfg) (flags : Nat) : Bool := flags.testBit 8 || (s.pairRec c).isSome

/-- f_c applied (R66). -/
def State.appliedSpeed (s : State) (c : Cfg) (flags : Nat) : Nat :=
  if s.speedForced c flags then min 1000 (s.computedSpeed c) else s.computedSpeed c

/-- An input job: rendering (R243). -/
def SchedJob.isInput (j : SchedJob) : Bool := j.kind ≤ 2

/-- W in eighths of an eu (R70). -/
def slotWork (l : List SchedJob) : Nat := (l.map SchedJob.cost).foldl (· + ·) 0

/-- J in eighths of an eu: the largest job that is not pegged (R70). -/
def slotJob (l : List SchedJob) : Nat := ((l.filter fun j => j.peg.isNone).map SchedJob.cost).foldl max 0

/-- The pegged work by lane in eighths of an eu (R70). -/
def pegWork (l : List SchedJob) : Tab Nat :=
  l.foldl (fun t j => match j.peg with
    | none => t
    | some lane => Tab.upd t lane 0 fun w => w + j.cost) []

/-- The lane with the most pegged work, the lowest among equals, and that work. -/
def pegMost (l : List SchedJob) : Option (Nat × Nat) :=
  (pegWork l).foldl (fun best (e : Nat × Nat) => match best with
    | none => some e
    | some b => if b.2 < e.2 then some e else some b) none

/-- x of R70 for jobs on m lanes, in units of 1/(8m) eu. -/
def slotX (m : Nat) (l : List SchedJob) : Nat := max (((pegMost l).map Prod.snd).getD 0 * m) (slotWork l) + slotJob l * m

/-- b_slot in ns for x in units of 1/(8m) eu and f_c in thousandths (R70). -/
def slotBound (m speed x : Nat) : Nat := ceilDiv (x * 1562500) (8 * m * 98 * speed)

/-- x of a slot: at depth 2 render and encode jobs are bounded separately and added (R70). -/
def slotTotal (m depth : Nat) (l : List SchedJob) : Nat :=
  if depth = 2 then slotX m (l.filter SchedJob.isInput) + slotX m (l.filter fun j => !j.isInput) else slotX m l

/-- The pegged work is the larger term of the slot (R71). -/
def pegRules (m depth : Nat) (l : List SchedJob) : Option Nat :=
  let l := if depth = 2 then l.filter fun j => !j.isInput else l
  match pegMost l with
  | none => none
  | some (lane, w) => if w * m > slotWork l then some lane else none

/-- The flow of the largest job that is pegged to a lane, the first among equals. -/
def pegFlow (c : Cfg) (lane : Nat) (l : List SchedJob) : Nat :=
  let best := l.foldl (fun (b : Option SchedJob) j => if j.peg ≠ some lane then b else match b with
    | none => some j
    | some x => if x.cost < j.cost then some j else some x) none
  match best with
  | none => 0
  | some j => (j.feeds.find? fun f => c.flowPeg f = some lane).getD 0

/-- The owner that SLOT names: the flow with the earliest launch instant (R71); with no flow the model names the
configuration as a whole (log entry 205). -/
def Cfg.firstFlow (c : Cfg) (lat : Latency) : Nat :=
  match c.launchOrder lat with
  | [] => ownerCfg
  | e :: _ => ownerOf 0x01 e.1

/-- What an admission computes of the slots: largest b_slot, budget, W of that slot, and the deadline checks. -/
structure Deadlines where
  slotNs : Nat := 0
  budget : Int := 0
  work   : Nat := 0
  recs   : List AdmitRec := []

/-- The deadline checks of R71, each with its slack. -/
def State.deadlines (s : State) (c : Cfg) (lat : Latency) (speed : Nat) (jobs : List SchedJob) : Deadlines :=
  let m := s.renderLanes
  let budget : Int := (c.periodNs : Int) - 20000
  let b := slotBound m speed (slotTotal m c.depth jobs)
  let mk := fun (check owner : Nat) (ownerB : Option Nat) (b : Nat) =>
    ({ check, ownerA := owner, ownerB, slack := budget - b, demand := b, limit := budget.toNat } : AdmitRec)
  let slot := match pegRules m c.depth jobs with
    | some lane => mk 0x03 (ownerOf 0x01 (pegFlow c lane jobs)) (some (ownerOf 0x07 lane)) b
    | none => mk 0x01 (c.firstFlow lat) none b
  let leads := (c.all .flow).map fun e =>
    let lead := c.leadNs lat e.1 e.2
    let limit := c.periodNs - 10000
    ({ check := 0x02, ownerA := ownerOf 0x01 e.1, slack := (limit : Int) - lead, demand := lead, limit } : AdmitRec)
  let base : Deadlines := { slotNs := b, budget, work := slotWork jobs, recs := slot :: leads }
  if s.showRuns ∧ c.depth = 3 then
    let mix := jobs.filter SchedJob.isInput ++ s.sched.jobs.filter fun j => !j.isInput
    let t := slotBound m speed (slotTotal m 3 mix)
    { base with
      slotNs := max b t, work := if t > b then slotWork mix else base.work
      recs := base.recs ++ [mk 0x08 (c.firstFlow lat) none t] }
  else base

/-! ## CONFLICT (R77, R227, R248, R313, R537, R538) -/

/-- The balls of a defined scan port (R340, R530): its data lines, CLK, LAT and OE, the address lines that LINES needs, TE of a
memory-type panel, and RET with DETECT. -/
def scanBalls (port : Nat) (d : Bytes) : List Nat :=
  ((List.range (scDataLines d)) ++ [8, 9, 10] ++ ((List.range (scAddressBits d)).map fun k => 11 + k) ++
    (if scMemory d then [16] else []) ++ if scDetect d then [17] else []).map fun k => ballIndex (20 + port) (7 + k)

/-- The multiplexed balls and their owners (R340, R366, R407, R530, R531, R537). -/
def Cfg.balls (c : Cfg) : List (Nat × Nat) :=
  ((c.all .scan).flatMap fun e => (scanBalls e.1 e.2).map fun b => (b, ownerOf 0x02 e.1)) ++
  ((c.all .trigger).filter fun e => u8 e.2 2 = 0).map (fun e => (ttoBall (u8 e.2 3), ownerOf 0x04 e.1)) ++
  (c.all .pulse).map (fun e => (ttoBall (4 + e.1), ownerOf 0x0E (0x40 + e.1))) ++
  (c.all .capture).map (fun e => (ballIndex 36 (15 + e.1), ownerOf 0x05 e.1)) ++
  (if c.fsyncRec.isSome then [(ballIndex 36 22, ownerOf 0x04 0x20)] else []) ++
  ((c.all .dmx).flatMap fun e =>
    let ball := ballIndex (20 + e.1 / 2) (25 + 3 * (e.1 % 2))
    (ball, ownerOf 0x03 e.1) :: (ball + 1, ownerOf 0x03 e.1) :: (if dxRdm e.2 then [(ball + 2, ownerOf 0x03 e.1)] else [])) ++
  (if (c.all .script).any fun e => u8 e.2 1 = 3 then [(ballIndex 35 28, ownerOf 0x0F 3), (ballIndex 35 30, ownerOf 0x0F 3)] else []) ++
  ((c.all .meter).flatMap fun e => (mtInputs e.2).map fun j =>
    let n := mtIn e.2 j
    (if n < 12 then ballIndex 37 (7 + n) else ballIndex 39 (7 + (n - 12)), ownerOf 0x0E e.1))

/-- The line buffers and their owners (R227). -/
def Cfg.lineBuffers (c : Cfg) : List (Nat × Nat) :=
  (c.all .scan).map (fun e => (e.1, ownerOf 0x02 e.1)) ++
  ((c.all .video).flatMap fun e =>
    (16 + e.1, ownerOf 0x0A e.1) :: (if viWidth e.2 > 2048 ∧ u8 e.2 15 ≠ 0xFF then [(u8 e.2 15, ownerOf 0x0A e.1)] else []))

/-- The conflicts among claims of resources of a kind: one record for each pair of owners of one resource (R538). -/
def claimsMeet (kind : Nat) : List (Nat × Nat) → List AdmitRec
  | [] => []
  | x :: rest =>
    ((rest.eraseDups.filter fun y => y.1 = x.1 ∧ y.2 ≠ x.2).map fun y =>
      ({ check := 4, ownerA := min x.2 y.2, ownerB := some (max x.2 y.2), demand := ownerOf kind x.1 } : AdmitRec)) ++
    claimsMeet kind rest

/-- The pair link and the network stack claim one lane (R313). -/
def State.laneClash (s : State) (c : Cfg) : List AdmitRec :=
  match s.pairLane c with
  | none => []
  | some lane =>
    if !c.has .lane lane then []
    else
      let flow := (c.all .flow).find? fun e => flNetwork e.2 && flLane e.2 = lane
      let b := match flow with
        | some e => ownerOf 0x01 e.1
        | none => ownerOf 0x06 lane
      [{ check := 4, ownerA := ownerOf 0x0D 0, ownerB := some b, demand := ownerOf 0x06 lane }]

/-- The conflicts of peg quotas: one record for each pair of flows (R248). -/
def Cfg.pegClash (c : Cfg) (jobs : List SchedJob) : List AdmitRec :=
  let pegs := (c.all .peg).map fun e => (e.1, u8 e.2 1)
  pegs.flatMap fun a => (pegs.filter fun b =>
    a.1 < b.1 && (a.2 = b.2 || jobs.any fun j => j.feeds.contains a.1 && j.feeds.contains b.1)).map fun b =>
      ({ check := 4, ownerA := ownerOf 0x01 a.1, ownerB := some (ownerOf 0x01 b.1), demand := ownerOf 0x07 a.2 } : AdmitRec)

/-- The failures of CONFLICT (R72). -/
def State.conflicts (s : State) (c : Cfg) (jobs : List SchedJob) : List AdmitRec :=
  (claimsMeet 0x0C c.balls.eraseDups).eraseDups ++ claimsMeet 0x11 c.lineBuffers ++ s.laneClash c ++ c.pegClash jobs

/-! ## LINK_BW and DRAM_BW (R72, R223, R318, R383) -/

/-- The bytes that the buffer layers fetch in a frame (R221). -/
def Cfg.fetchBytes (c : Cfg) : Nat := (((c.all .layer).filter fun e => !lyVideo e.2).map fun e => lyFetch e.2).foldl (· + ·) 0

/-- The on-wire bits per second that a lane sends, as a fraction: the frames of its flows, and what the pair link
carries (R72, R311, R383). -/
def State.laneSends (s : State) (c : Cfg) (lane : Nat) : Nat × Nat :=
  let flows := (c.all .flow).filter fun e => flNetwork e.2 && flLane e.2 = lane
  let sent := (flows.map fun e => (c.flowPackets e.1 e.2).1.foldl (· + ·) 0).foldl (· + ·) 0 +
    (if s.pairLane c = some lane then Config.pairBytes c.fetchBytes else 0)
  (8 * sent * c.rateN, c.rateD)

/-- A sum of rates as fractions. -/
def rateSum (l : List (Nat × Nat)) : Nat × Nat :=
  l.foldl (fun (q : Nat × Nat) e => (q.1 * e.2 + e.1 * q.2, q.2 * e.2)) (0, 1)

/-- The on-wire bits per second that a lane receives, as a fraction: the video streams that join on it, received
universes and node feeds, and what the peer sends on the pair link (R226, R311, R328, R333, R383). -/
def State.laneReceives (s : State) (c : Cfg) (lane : Nat) : Nat × Nat :=
  rateSum (
    (((c.all .video).filter fun e => u8 e.2 1 = lane).map fun e =>
      (8 * Config.videoBytes (viWidth e.2 * viHeight e.2) * viRateN e.2, viRateD e.2)) ++
    (((c.all .sacnRx).filter fun e => u8 e.2 2 = lane).map fun e => (8 * Config.universeRate e.1, 1)) ++
    (((c.all .ixRx).filter fun e => ixLane e.2 = lane).map fun e =>
      (8 * Config.feedBytes (ixTotal e.2 * ixSize (ixFormat e.2)) * c.rateN, c.rateD)) ++
    (if s.pairLane c = some lane then [(8 * Config.pairBytes c.fetchBytes * c.rateN, c.rateD)] else []))

/-- The rate in Mb/s of a lane in a configuration, as a network lane or as the pair link (R311, R382). -/
def State.laneRate (s : State) (c : Cfg) (lane : Nat) : Option Nat :=
  match c.get .lane lane, s.pairRec c with
  | some d, _ => some (laRate d)
  | none, some (d, l) => if l = lane then some (if u8 d 1 = 4 then 10000 else 25000) else none
  | none, none => none

/-- A wire time, in units of 1/mbps ns with the rate, exceeds P - 10 us (R318). -/
def Cfg.wireTooLong (c : Cfg) (w : Nat × Nat) : Bool := w.1 * c.rateN > (1000000000 * c.rateD - 10000 * c.rateN) * w.2

/-- The failures of LINK_BW: lanes beyond 95 % of the MAC data rate, and flows whose wire time exceeds P - 10 us (R72,
R318). -/
def State.linkLoads (s : State) (c : Cfg) : List AdmitRec :=
  ((List.range s.lanes).flatMap fun lane => match s.laneRate c lane with
    | none => []
    | some rate => ([s.laneSends c lane, s.laneReceives c lane].filter fun q => q.1 * 100 > 95 * rate * 1000000 * q.2).map fun q =>
      { check := 5, ownerA := ownerOf 0x06 lane, demand := ceilDiv q.1 (q.2 * 1000000), limit := 95 * rate / 100 }) ++
  ((c.all .flow).filter fun e => flNetwork e.2 && c.wireTooLong (c.flowWire e.1 e.2)).map fun e =>
    { check := 5, ownerA := ownerOf 0x01 e.1, demand := ceilDiv (c.flowWire e.1 e.2).1 (c.flowWire e.1 e.2).2, limit := c.leadLimit }

/-- D_c in MB/s as a fraction: the fetches of a canvas over its blanking less 20 us (R223). -/
def Cfg.fetchRate (c : Cfg) (canvas : Nat) (d : Bytes) : Nat × Nat :=
  let fetch := (((c.canvasLayers canvas).filter fun e => !lyVideo e.2).map fun e => lyFetch e.2).foldl (· + ·) 0
  (fetch * 1000 * cvTotal d * c.rateN, (cvTotal d - cvActive d) * 1000000000 * c.rateD - 20000 * cvTotal d * c.rateN)

/-- The failures of DRAM_BW (R72, R223). -/
def State.dramLoads (s : State) (c : Cfg) (jobs : List SchedJob) : List AdmitRec :=
  let kinds := (jobs.map SchedJob.kind).eraseDups.map fun k =>
    (k, ((jobs.filter fun j => j.kind = k).map SchedJob.elements).foldl (· + ·) 0)
  let demand := Config.dramTraffic c.periodNs c.fetchBytes kinds
  let limit := 16 * s.fuses.dramRate * 7 / 10
  let rates := (((c.all .canvas).map fun e => (e.1, c.fetchRate e.1 e.2)).filter fun e => e.2.1 ≠ 0 ∧ e.2.2 ≠ 0)
  let sum := rates.foldl (fun (q : Nat × Nat) e => (q.1 * e.2.2 + e.2.1 * q.2, q.2 * e.2.2)) (0, 1)
  let most := rates.foldl (fun (b : Nat × Nat × Nat) e => if b.2.1 * e.2.2 < e.2.1 * b.2.2 then e else b) (0, 0, 1)
  (if demand > limit then [({ check := 6, ownerA := ownerOf 0x10 0, demand, limit } : AdmitRec)] else []) ++
  if sum.1 > 6000 * sum.2 then [{ check := 6, ownerA := ownerOf 0x08 most.1, demand := ceilDiv sum.1 sum.2, limit := 6000 }] else []

/-! ## MEMORY (R72, R129, R145, R176, R204, R344) -/

/-- A sum over the records of a kind. -/
def Cfg.sumOf (c : Cfg) (k : RecKind) (f : Bytes → Nat) : Nat := ((c.all k).map fun e => f e.2).foldl (· + ·) 0

/-- Bytes of DRAM that a configuration takes (pool 0). -/
def Cfg.dramUse (c : Cfg) : Nat :=
  32 * c.addresses.length + c.sumOf .playback (fun d => 48 * pbCues d + 8 * pbEntries d + 16 * pbTracked d) +
  8 * (c.all .assign).length + 2 * c.fetchBytes + c.sumOf .video (fun d => viWidth d * viHeight d * 15 / 2) +
  c.sumOf .scan (fun d => 8 * scPixels d) +
  Config.encodedBytes (((c.all .flow).map fun e => (c.flowPackets e.1 e.2).1.foldl (· + ·) 0).foldl (· + ·) 0)

/-- Bytes of state SRAM that a configuration takes (pool 1), with 8 for each calibrated destination (R301). -/
def Cfg.sramUse (c : Cfg) (lat : Latency) (jobs : Nat) : Nat :=
  c.sumOf .ftype (fun d => 64 + 16 * (ftParams d + ftEmitters d)) + 32 * (c.all .patch).length +
  128 * (c.all .playback).length + 1028 * (c.all .curve).length + 64 * (c.all .effect).length +
  512 * (c.all .calSet).length + c.sumOf .binding (fun d => 16 + if bdTrim d then 32 else 0) +
  16 * (c.all .group).length + 1028 * (c.all .dimCurve).length + 320 * (c.all .script).length +
  256 * ((c.all .canvas).length + (c.all .layer).length) + c.sumOf .layer (fun d => 20 * palSize (lyFormat d)) +
  c.sumOf .pixmap (fun d => 32 + 16 * u32 d 12) + 64 * (c.all .witness).length + 8 * lat.emit.length +
  Config.scheduleBytes jobs

/-- The flows that more than 64 jobs feed (R244). -/
def Cfg.feedUse (c : Cfg) (jobs : List SchedJob) : List AdmitRec :=
  (c.all .flow).filterMap fun e =>
    let n := (jobs.filter fun j => j.feeds.contains e.1).length
    if n > 64 then some { check := 7, ownerA := ownerOf 0x01 e.1, demand := n, limit := 64 } else none

/-- The failures of MEMORY (R72, R80, R244, R435). A job never exceeds its working set (R262). -/
def State.memoryUse (s : State) (c : Cfg) (lat : Latency) (jobs : List SchedJob) : List AdmitRec :=
  let pools := [(ceilDiv c.dramUse 1024, (s.dramBytes - 512 * 1048576) / 1024), (ceilDiv (c.sramUse lat jobs.length) 1024, 44 * 1024),
    (jobs.length, 262144), ((c.all .flow).length, 4096), (2 * (c.all .playback).length, 65536)]
  (pools.zipIdx.filterMap fun e =>
    if e.1.1 > e.1.2 then some { check := 7, ownerA := ownerOf 0x10 e.2, demand := e.1.1, limit := e.1.2 } else none) ++
  c.feedUse jobs

/-! ## The admission rules (R559) -/

/-- Rule 0x01: rate, show offset and depth are in range (R44, R45, R47). -/
def Cfg.frameOk (c : Cfg) : Bool :=
  rateOk c.rateN c.rateD && c.offsetNs.natAbs * c.rateN < 1000000000 * c.rateD && (c.depth = 2 || c.depth = 3)

/-- Rule 0x03: canvas blanking (R206). -/
def Cfg.blankRules (c : Cfg) : List AdmitRec :=
  (c.all .canvas).filterMap fun e =>
    let num := (cvTotal e.2 - cvActive e.2) * 1000000000 * c.rateD
    let den := cvTotal e.2 * c.rateN
    if num < 100000 * den then some (ruleRec 0x03 (ownerOf 0x08 e.1) none (num / den) 100000) else none

/-- Rule 0x04: every segment of a pixel map is loaded and the pixels are those of its destination (R231). -/
def Cfg.mapRules (c : Cfg) : List AdmitRec :=
  (c.all .pixmap).filterMap fun e =>
    let segs := (c.all .pixseg).filter fun g => g.1 / 2 ^ 24 = e.1
    let pixels := (segs.map fun g => u16 g.2 12).foldl (· + ·) 0
    let isPort := u8 e.2 0 = 1
    let want := (c.destPixels isPort (u32 e.2 4)).getD 0
    if segs.length = u32 e.2 12 ∧ pixels = want then none
    else some (ruleRec 0x04 (ownerOf (if isPort then 0x02 else 0x01) (u32 e.2 4)) none pixels want)

/-- Rule 0x05: the time configuration (R290). -/
def Cfg.timeRules (c : Cfg) : List AdmitRec :=
  let shared := (c.domainPorts 0).filter fun l => (c.domainPorts 1).contains l
  let clash := match c.domainRec 0, c.domainRec 1 with
    | some a, some b => if dmNumber a = dmNumber b then shared.map fun lane => ruleRec 0x05 (ownerOf 0x12 0) (some (ownerOf 0x06 lane)) else []
    | _, _ => []
  let src := c.clockSource
  let ported := match src with
    | .domA => !(c.domainPorts 0).isEmpty
    | .domB => !(c.domainPorts 1).isEmpty
    | _ => true
  let fsync := match c.fsyncRec with
    | some d => if (iAt d 4 4).natAbs * c.rateN < 1000000000 * c.rateD then [] else [ruleRec 0x05 (ownerOf 0x12 3)]
    | none => []
  clash ++ (if c.sourceOn src && ported then [] else [ruleRec 0x05 (ownerOf 0x12 src.code)]) ++ fsync

/-- Rule 0x06: a network flow without its protocol record, and objects that name a flow of another kind, or a deleted one
(R316); an instance whose flow was never defined is rendered as usual (R126). -/
def Cfg.flowRules (c : Cfg) : List AdmitRec :=
  let kindOf := fun n => (c.get .flow n).map fun d => flKind d
  let bare := (c.all .flow).filter fun e => (flKind e.2 = 0 && !c.has .sacnFlow e.1) || ((flKind e.2 = 1 || flKind e.2 = 2) && !c.has .ixTx e.1)
  let feeds := (c.all .patch).filter fun e => paKind e.2 = 3 ∧ ((kindOf (paDest e.2)).any (· ≠ 2) ∨ c.deleted.contains (paDest e.2))
  let wins := (c.all .witness).filter fun e => u8 e.2 1 = 1 ∧ u32 e.2 4 / 2 ^ 24 = 0 ∧ kindOf (u32 e.2 4 % 2 ^ 24) ≠ some 1
  bare.map (fun e => ruleRec 0x06 (ownerOf 0x01 e.1)) ++
  feeds.map (fun e => ruleRec 0x06 (ownerOf 0x01 (paDest e.2)) (some (ownerOf 0x14 e.1))) ++
  wins.map fun e => ruleRec 0x06 (ownerOf 0x01 (u32 e.2 4)) (some (ownerOf 0x0B e.1))

/-- Rule 0x07: PER_PACKET and the MTU of the flow's lane (R333). -/
def Cfg.packetRules (c : Cfg) : List AdmitRec :=
  (c.all .ixTx).filterMap fun e => match (c.get .flow e.1).map fun f => flLane f with
    | none => none
    | some lane => match c.get .lane lane with
      | none => none
      | some l =>
        let most := maxPerPacket l (ixFormat e.2)
        if ixPerPacket e.2 > most then some (ruleRec 0x07 (ownerOf 0x01 e.1) (some (ownerOf 0x06 lane)) (ixPerPacket e.2) most) else none

/-- Rule 0x0B: an instance lies within the slots that its destination carries (R125). -/
def Cfg.slotRules (c : Cfg) : List AdmitRec :=
  (c.all .patch).filterMap fun e => match c.instType e.1, c.destSlots (paKind e.2) (paDest e.2) with
    | some t, some slots =>
      let last := paStart e.2 + ftFootprint t - 1
      let owner := match paKind e.2 with
        | 1 => ownerOf 0x01 (((c.universeFlow (paDest e.2)).map Prod.fst).getD 0)
        | 2 => ownerOf 0x03 (paDest e.2)
        | _ => ownerOf 0x01 (paDest e.2)
      if last > slots then some (ruleRec 0x0B (ownerOf 0x14 e.1) (some owner) last slots) else none
    | _, _ => none

/-- HB_TIMEOUT_US of a pair record (R382). -/
def pdTimeout (d : Bytes) : Nat := if u16 d 8 = 0 then 200 else u16 d 8

/-- Rule 0x0C: the pair definition, a record for each failure: a node, the heartbeat timeout, the sentinel (R383). -/
def State.pairRules (s : State) (c : Cfg) : List AdmitRec :=
  match s.pairRec c with
  | none => []
  | some (d, _) =>
    let sent := (c.all .sacnFlow).any fun e => (saUniverses e.2).contains (u16 d 12) &&
      ((c.get .flow e.1).map fun f => flLane f) = some (u8 d 14)
    let bad := fun (fails : Bool) => if fails then [ruleRec 0x0C (ownerOf 0x0D 0)] else []
    bad (c.role = 3) ++ bad (pdTimeout d * 4000 * c.rateN ≥ 1000000000 * c.rateD) ++ bad (u16 d 12 ≠ 0 && !sent)

/-- Rule 0x10: a record for each received universe on a lane that is not defined (R328). -/
def Cfg.rxRules (c : Cfg) : List AdmitRec :=
  ((c.all .sacnRx).filter fun e => !c.has .lane (u8 e.2 2)).map fun e => ruleRec 0x10 (ownerOf 0x06 (u8 e.2 2))

/-- Every rule of R559. -/
def State.admitRules (s : State) (c : Cfg) (lat : Latency) : List AdmitRec :=
  let tj := c.tjMax s.fuses
  (if c.frameOk then [] else [ruleRec 0x01 ownerCfg]) ++
  (if s.fuses.tjLo ≤ tj ∧ tj ≤ s.fuses.tjHi then [] else
    [ruleRec 0x02 ownerCfg none (unsigned 32 tj) (unsigned 32 s.fuses.tjHi)]) ++
  c.blankRules ++ c.mapRules ++ c.timeRules ++ c.flowRules ++ c.packetRules ++
  ((c.all .scan).flatMap fun e =>
    c.scanRule (((c.scanFlow e.1).map fun f => c.leadNs lat f.1 f.2).getD 0) e.1 e.2) ++
  ((c.all .dmx).flatMap fun e => c.dmxRule e.1 e.2) ++ c.slotRules ++ s.pairRules c ++ c.meterRules ++ c.rxRules

/-! ## Verdict and report (R73, R78, R79) -/

/-- The place of a check's status in the order of R73, and the status. -/
def checkStatus (check : Nat) : Nat × Nat :=
  match check with
  | 9 => (0, Status.outOfRange)
  | 4 => (1, Status.admitConflict)
  | 7 => (2, Status.admitMemory)
  | 5 => (3, Status.admitBandwidth)
  | 6 => (3, Status.admitBandwidth)
  | _ => (4, Status.admitDeadline)

/-- Record a comes before record b in the report (R78). -/
def AdmitRec.before (a b : AdmitRec) : Bool :=
  let key := fun (r : AdmitRec) => [(checkStatus r.check).1, (r.slack + 2 ^ 63).toNat, r.ownerA, r.ownerB.getD 0]
  listLt (key a) (key b)

/-- A record put in its place. -/
def insertAdmit (x : AdmitRec) : List AdmitRec → List AdmitRec
  | [] => [x]
  | y :: rest => if x.before y then x :: y :: rest else y :: insertAdmit x rest

/-- The records in the order of R78. -/
def sortAdmit (l : List AdmitRec) : List AdmitRec := l.foldl (fun acc x => insertAdmit x acc) []

/-- A change that only a stopped show takes: rate, show offset, depth or role (R64). -/
def rateDiffers (c c' : Cfg) : Bool :=
  c.rateN ≠ c'.rateN || c.rateD ≠ c'.rateD || c.offsetNs ≠ c'.offsetNs || c.depth ≠ c'.depth || c.role ≠ c'.role

/-- The verdict of an admission: the report and the schedule (R60, R70-R78). A change that needs a stopped show is refused
also where the show has started since ADMIT was accepted (R64, log entry 203). -/
def State.verdict (s : State) (c : Cfg) (id flags : Nat) : Report × Sched :=
  let lat := (s.pressLatency s.cfg c).lat
  let speed := s.appliedSpeed c flags
  let jobs := c.compile lat
  let rules := s.admitRules c lat
  let d := if c.frameOk then s.deadlines c lat speed jobs else {}
  let late := d.recs.filter fun r => r.slack < 0
  let fails := rules ++ s.conflicts c jobs ++ s.memoryUse c lat jobs ++ (if c.frameOk then s.linkLoads c else []) ++
    s.dramLoads c jobs ++ late
  let status := if s.showRuns && rateDiffers s.cfg c then Status.rateLocked
    else (((sortAdmit fails).head?).map fun r => (checkStatus r.check).2).getD Status.ok
  let recs := sortAdmit (if fails.isEmpty ∧ flags.testBit 9 then d.recs else fails)
  let period := if c.frameOk then c.periodNs else 0
  ({ id, status, recs := recs.take 64, period, speed, depth := c.depth
     flags := flag (s.speedForced c flags) 0 + flag (recs.length > 64) 1 + flag (s.pairRec c).isSome 2 +
       flag (s.computedSpeed c < 1000) 3
     slotNs := d.slotNs, budget := d.budget, work := d.work, floor := c.floorMv, tjMax := c.tjMax s.fuses },
   { jobs, period, speed, slotNs := d.slotNs, budget := d.budget, work := d.work })

/-- A record in the layout of R79. -/
def AdmitRec.bytes (r : AdmitRec) : Bytes :=
  leBytes 1 r.check ++ leBytes 1 (flag r.ownerB.isSome 0) ++ leBytes 2 r.ruleNo ++ leBytes 4 r.ownerA ++
  leBytes 4 (r.ownerB.getD 0) ++ leInt 4 (clampI (-2147483648) 2147483647 r.slack) ++ leBytes 4 (min r.demand 0xFFFF_FFFF) ++
  leBytes 4 (min r.limit 0xFFFF_FFFF)

/-- The report in the layout of R78. -/
def Report.bytes (r : Report) : Bytes :=
  leBytes 4 r.id ++ leBytes 2 r.status ++ leBytes 2 r.recs.length ++ leBytes 4 (min r.period 0xFFFF_FFFF) ++ leBytes 2 r.speed ++
  leBytes 1 r.depth ++ leBytes 1 r.flags ++ leBytes 4 (min r.slotNs 0xFFFF_FFFF) ++ leBytes 4 (min r.budget.toNat 0xFFFF_FFFF) ++
  leBytes 4 (min r.work 0xFFFF_FFFF) ++ leBytes 2 r.floor ++ leInt 1 r.tjMax ++ zeros 1 ++ r.recs.flatMap AdmitRec.bytes

end Sys2Proof.Machine
end

