-- ==== Sys2Proof/Machine/Basting.lean ====
section
/-! DEFINITION. Basting (R56-R65, R78, R246, R247, R382, R558): the staged records of chapters 02 and 13, the staging
area, ADMIT, PRESS_CONFIG and the report. -/

namespace Sys2Proof.Machine

/-! ## Staged records -/

/-- One record of SET_FRAME at a payload offset (R246, R247). -/
def frameRecord (s : State) (off : Nat) (c : Cfg) (d : Bytes) : Chk? Cfg :=
  match u8 d 0 with
  | 0 => do
    inRange (u8 d 1 = 2 ∨ u8 d 1 = 3) (off + 1)
    .ok (c.put .frame 0 d)
  | 1 => do
    need (!s.fuses.te8220 || u8 d 1 < 16) Status.unitAbsent (off + 1)
    .ok (c.put .dispatch 0 d)
  | 2 => do
    inRange (1 ≤ u8 d 1 ∧ u8 d 1 ≤ 7) (off + 1)
    inRange (1 ≤ u16 d 2 ∧ u16 d 2 ≤ 4096) (off + 2)
    .ok (c.put .jobSize (u8 d 1) d)
  | 3 => do
    inRange (u8 d 1 ≤ 15) (off + 1)
    need (c.has .flow (u16 d 2)) Status.badReference (off + 2)
    .ok (c.put .level (u16 d 2) d)
  | 4 => do
    let lane := u8 d 1
    inRange (lane ≤ 63 ∨ lane = 0xFF) (off + 1)
    need (lane = 0xFF || lane < s.renderLanes) Status.unitAbsent (off + 1)
    need (c.has .flow (u16 d 2)) Status.badReference (off + 2)
    .ok (if lane = 0xFF then c.del .peg (u16 d 2) else c.put .peg (u16 d 2) d)
  | _ => .error ⟨Status.outOfRange, off⟩

/-- SET_FRAME (R246, R247). -/
def setFrameOp : Op where
  code := 0x020D
  cls := .staged
  layout := countLayout 16
  body := .staged fun r c s =>
    foldIdx (records r.payload 8 16 (u32 r.payload 0)) 0 c fun i c d => frameRecord s (8 + 16 * i) c d

/-- SET_ENVELOPE (R65). -/
def setEnvelopeOp : Op where
  code := 0x020C
  cls := .staged
  layout := fixedLayout [2, 1, 1]
  body := .staged fun r c s => do
    let mv := u16 r.payload 0
    let tj := iAt r.payload 2 1
    inRange (650 ≤ mv ∧ mv ≤ 850 ∧ mv % 5 = 0) 0
    inRange (s.fuses.tjLo ≤ tj ∧ tj ≤ s.fuses.tjHi) 2
    .ok (c.put .envelope 0 r.payload)

/-- SET_ROLE (R64). -/
def setRoleOp : Op where
  code := 0x020E
  cls := .staged
  layout := fixedLayout [1, 3]
  body := .staged fun r c _ => do
    inRange (1 ≤ u8 r.payload 0 ∧ u8 r.payload 0 ≤ 3) 0
    .ok (c.put .role 0 r.payload)

/-- PAIR_DEFINE (R382, R383). -/
def pairDefineOp : Op where
  code := 0x0A01
  cls := .staged
  layout := fixedLayout [1, 1, 1, 1, 1, 1, 2, 2, 2, 2, 1, 17]
  body := .staged fun r c s => do
    let d := r.payload
    let lane := u8 d 0
    let act := if u8 d 4 = 0 then 0xC0 else u8 d 4
    inRange (lane ≤ 15 ∨ lane = 0xFE ∨ lane = 0xFF) 0
    need (15 < lane || lane < s.lanes) Status.unitAbsent 0
    inRange (4 ≤ u8 d 1 ∧ u8 d 1 ≤ 6) 1
    inRange (1 ≤ u8 d 2) 2
    inRange (1 ≤ u8 d 3 ∧ u8 d 3 ≠ u8 d 2) 3
    inRange (act ≤ 0xFE) 4
    inRange (u8 d 5 < act) 5
    inRange (u16 d 6 ≤ 3600 ∨ u16 d 6 = 0xFFFF) 6
    inRange (u16 d 8 = 0 ∨ (50 ≤ u16 d 8 ∧ u16 d 8 ≤ 2000)) 8
    inRange (u16 d 10 = 0 ∨ (100 ≤ u16 d 10 ∧ u16 d 10 ≤ 60000)) 10
    inRange (u16 d 12 ≤ 63999) 12
    inRange (u16 d 12 = 0 ∨ u8 d 14 ≤ 15) 14
    need (u16 d 12 = 0 || u8 d 14 < s.lanes) Status.unitAbsent 14
    let c := c.put .pair 0 d
    inRange (c.rxUniverses ≤ 1024) 12
    .ok c

/-! ## STAGE_READ (R558) -/

/-- The kinds of record that a staged opcode puts into an area, in the order of its KIND; `none` for an opcode that is not
staged. The staged opcodes that only remove hold none. -/
def stagedKinds (code : Nat) : Option (List RecKind) :=
  match code with
  | 0x020C => some [.envelope]
  | 0x020D => some [.frame, .dispatch, .jobSize, .level, .peg]
  | 0x020E => some [.role]
  | 0x0301 => some [.ftype]
  | 0x0302 => some []
  | 0x0303 => some [.patch]
  | 0x0304 => some []
  | 0x0309 => some [.rxMap]
  | 0x0401 => some [.playback]
  | 0x0409 => some [.curve]
  | 0x0501 => some [.effect]
  | 0x0502 => some [.assign]
  | 0x0601 => some [.space]
  | 0x0602 => some [.mix]
  | 0x0603 => some [.dimCurve]
  | 0x0604 => some [.calSet, .binding, .group]
  | 0x0605 => some [.script]
  | 0x0701 => some [.canvas]
  | 0x0702 => some [.layer]
  | 0x0703 => some [.pixmap]
  | 0x0704 => some [.video]
  | 0x0705 => some [.witness]
  | 0x0801 => some [.lane]
  | 0x0802 => some [.flow]
  | 0x0803 => some []
  | 0x0804 => some [.sacnSource, .sacnFlow]
  | 0x0805 => some [.sacnRx]
  | 0x0806 => some [.ixTx, .ixRx]
  | 0x0807 => some [.scan, .scanGroup, .seam]
  | 0x0808 => some [.dmx]
  | 0x0901 => some [.clock, .domain, .port, .ltc, .fsync]
  | 0x0904 => some [.trigger, .capture]
  | 0x0A01 => some [.pair]
  | 0x0B01 => some [.meter, .pulse, .night, .tamper]
  | 0x0B02 => some [.feeder]
  | _ => none

/-- The record that stands for a kind with defaults (R558): of SET_FRAME, the kinds that have defaults, 0 and 1 (log entry
214). -/
def State.defaultRec (s : State) (c : Cfg) (k : RecKind) : Option Bytes :=
  match k with
  | .frame => some c.frameRec
  | .dispatch => some ([1] ++ zeros 15)
  | .envelope => some (leBytes 2 700 ++ leInt 1 s.fuses.tjHi ++ zeros 1)
  | .role => some [1, 0, 0, 0]
  | .space => some c.spaceRec
  | .clock => some c.clockRec
  | _ => none

/-- The records of a kind as STAGE_READ returns them: a pixel map and the assignments of a generator are one record
each, in the layout of the whole payload. -/
def State.kindRecs (s : State) (c : Cfg) (k : RecKind) : List Bytes :=
  match k with
  | .pixmap => (c.all .pixmap).map fun e =>
      let segs := (c.all .pixseg).filter fun g => g.1 / 2 ^ 24 = e.1
      let first := ((segs.head?).map fun g => g.1 % 2 ^ 24).getD 0
      e.2.take 16 ++ leBytes 4 first ++ leBytes 4 segs.length ++ segs.flatMap Prod.snd
  | .assign => (((c.all .assign).map fun e => e.1 / 2 ^ 24).eraseDups).map fun g =>
      let l := c.assigns g
      leBytes 2 g ++ zeros 2 ++ leBytes 4 l.length ++ l.flatMap Prod.snd
  | .space => [c.spaceRec]
  | _ =>
    let l := (c.all k).map Prod.snd
    if l.isEmpty then (s.defaultRec c k).toList else l

/-- STAGE_READ (R558). -/
def stageReadOp : Op where
  code := 0x020F
  cls := .immediate
  layout := fixedLayout [2, 1, 1, 4, 4]
  body := .run fun r s => do
    let d := r.payload
    match stagedKinds (u16 d 0) with
    | none => .error ⟨Status.outOfRange, 0⟩
    | some kinds =>
      inRange (u8 d 2 ≤ 1) 2
      need (u8 d 2 = 1 || s.stage.holder.isSome) Status.notBasting 0
      inRange (1 ≤ u32 d 8 ∧ u32 d 8 ≤ 65535) 8
      let c := if u8 d 2 = 0 then s.stage.area else s.cfg
      let l := kinds.flatMap fun k => s.kindRecs c k
      let some_ := (l.drop (u32 d 4)).take (u32 d 8)
      .ok (s, .ok (leBytes 4 some_.length ++ leBytes 4 l.length ++ some_.flatten))

/-! ## The staging area (R58-R61) -/

/-- What a new staging area starts as: the configuration in force, or, before the first admission, nothing but the
calibration sets that boot loaded (R58, R476). -/
def State.areaStart (s : State) : Cfg :=
  match s.force with
  | some f => { recs := f.cfg.recs }
  | none => s.withSets {}

/-- BASTE_BEGIN (R58, R61). -/
def basteBeginOp : Op where
  code := 0x0202
  cls := .immediate
  flags := 1
  layout := noPayload
  body := .run fun r s => do
    need s.stage.pending.isNone Status.pressPending 0
    need (s.stage.holder.isNone || s.stage.holder = some r.session) Status.busy (s.stage.holder.getD 0)
    .ok ({ s with stage := { s.stage with holder := some r.session, area := if r.opFlag 8 then {} else s.areaStart } }, .ok)

/-- BASTE_ABORT (R61). -/
def basteAbortOp : Op where
  code := 0x0203
  cls := .immediate
  layout := noPayload
  body := .run fun r s =>
    match s.stage.holder with
    | some h => do
      need (h = r.session) Status.notBasting h
      .ok ({ s with stage := { s.stage with holder := none, area := {} } }, .ok)
    | none => .ok ({ s with stage := { s.stage with pending := none } }, .ok)

/-- The compile of the staging area starts for the session that holds it: the admission id, and the state (R56, R60, R64). -/
def State.startAdmission (session tag flags : Nat) (frame : Option Nat) (s : State) : Chk? (Nat × State) := do
  need (s.gl.show_ ≠ .armed) Status.showArmed 0
  need (s.stage.holder = some session) Status.notBasting (s.stage.holder.getD 0)
  need s.stage.pending.isNone Status.pressPending 0
  need s.stage.admitting.isNone Status.busy ((s.stage.admitting.map fun a => a.job.session).getD 0)
  need (!s.showRuns || !rateDiffers s.cfg s.stage.area) Status.rateLocked 0
  let (j, s) := s.startJob 0x0201 session tag
  let a : Admitting := { job := j, flags, frame, area := s.stage.area }
  .ok (j.id, { s with stage := { s.stage with admitting := some a } })

/-- ADMIT: the compile starts, and the reply carries the admission id (R60). -/
def admitOp : Op where
  code := 0x0201
  cls := .deferred
  af := true
  flags := 3
  layout := noPayload
  body := .run fun r s => do
    let (id, s) ← s.startAdmission r.session r.tag r.flags r.atFrame
    .ok (s, .done { status := Status.acceptedDeferred, payload := leBytes 4 id })

/-- A frame's cut has begun (R62). -/
def State.cutBegun (s : State) (n : Nat) : Bool :=
  s.showRuns && (match s.cutFrame with
    | some f => n ≤ f
    | none => false)

/-- PRESS_CONFIG (R56, R62): the reply carries the press frame where it is known. -/
def pressConfigOp : Op where
  code := 0x0204
  cls := .immediate
  af := true
  layout := noPayload
  body := .run fun r s => do
    need (s.gl.show_ ≠ .armed) Status.showArmed 0
    match s.stage.pending with
    | none => .error ⟨Status.wrongState, s.wrongDetail⟩
    | some p =>
      let passed := (r.atFrame.map s.cutBegun).getD false
      need (!passed || r.opFlag 1) Status.framePassed 0
      let frame := if passed then none else r.atFrame
      .ok ({ s with stage := { s.stage with pending := some { p with frame } } },
        .done { frame := frame.or (if s.showRuns then s.nextCut else none) })

/-- ADMIT_REPORT (R78). -/
def admitReportOp : Op where
  code := 0x0205
  cls := .immediate
  layout := noPayload
  body := .run fun _ s => match s.stage.report with
    | none => .error ⟨Status.badReference, 0⟩
    | some p => .ok (s, .ok p.bytes)

def execSetFrame (r : Req) (s : State) : Outcome := hostCommand setFrameOp r s
def execSetEnvelope (r : Req) (s : State) : Outcome := hostCommand setEnvelopeOp r s
def execSetRole (r : Req) (s : State) : Outcome := hostCommand setRoleOp r s
def execPairDefine (r : Req) (s : State) : Outcome := hostCommand pairDefineOp r s
def execStageRead (r : Req) (s : State) : Outcome := hostCommand stageReadOp r s
def execBasteBegin (r : Req) (s : State) : Outcome := hostCommand basteBeginOp r s
def execBasteAbort (r : Req) (s : State) : Outcome := hostCommand basteAbortOp r s
def execAdmit (r : Req) (s : State) : Outcome := hostCommand admitOp r s
def execPressConfig (r : Req) (s : State) : Outcome := hostCommand pressConfigOp r s
def execAdmitReport (r : Req) (s : State) : Outcome := hostCommand admitReportOp r s

end Sys2Proof.Machine
end

