-- ==== Sys2Proof/Machine/Press.lean ====
section
/-! DEFINITION. The press of a configuration (R61-R63, R290, R302, R312, R317, R322, R401, R436): every part takes force
together. -/

namespace Sys2Proof.Machine

/-! ## Lanes and flows at a press -/

/-- Mode and speed of a lane under a configuration, as a network lane or as the pair link. -/
def State.lanePhy (s : State) (c : Cfg) (lane : Nat) : Option (Nat × Nat) :=
  match c.get .lane lane, s.pairRec c with
  | some d, _ => some (laMode d, laSpeed d)
  | none, some (d, l) => if l = lane then some (u8 d 1, 0) else none
  | none, none => none

/-- A lane that is no longer defined, or changes its mode, loses its link (R312, R315) and its address resolutions. -/
def State.pressLanes (c c' : Cfg) (s : State) : State :=
  (s.lane.filter fun (e : Nat × Lane) => decide (s.lanePhy c e.1 ≠ s.lanePhy c' e.1)).foldl (fun (s : State) (e : Nat × Lane) =>
    let s := s.updLane e.1 fun l => { l with arp := [] }
    if e.2.link then s.dropLink e.1 else s) s

/-- A flow that both configurations have keeps its state, and starts afresh with its first frame; with a changed record
its switches count no more from the press frame on (R54, R63, R316). `frame` is that frame, where a show runs; `renew` says
that the record has another kind or other universes. -/
def Flow.kept (x : Flow) (same renew running : Bool) (frame : Nat) : Flow :=
  { x with
    switches := if same then x.switches
      else if running then x.switches ++ [{ frame, enable := true, terminate := false, reset := true }] else []
    renew := x.renew || renew
    restart := some (if running then frame else 2 ^ 48) }

/-- The kind of a flow and the universes that it carries. -/
def Cfg.carries (c : Cfg) (n : Nat) : Option (Nat × List Nat) :=
  (c.get .flow n).map fun f => (flKind f, ((c.get .sacnFlow n).map saUniverses).getD [])

/-- The flows at a press: deleted ones of a running show end with a termination (R322), new ones start afresh. -/
def State.pressFlows (c c' : Cfg) (running : Bool) (frame : Nat) (s : State) : State :=
  let old := s.flow.filterMap fun (e : Nat × Flow) =>
    if c'.has .flow e.1 then none
    else if e.2.ended.isSome then some e
    else if running ∧ c.has .flow e.1 then some (e.1, { e.2 with ended := some frame })
    else none
  let now_ := (c'.all .flow).map fun e =>
    (e.1, if c.has .flow e.1 then (s.flowOf e.1).kept (decide (c.get .flow e.1 = some e.2)) (decide (c.carries e.1 ≠ c'.carries e.1)) running frame else {})
  { s with flow := now_.foldl (fun t e => Tab.put t e.1 e.2) old }

/-- Received universes and receive records: those with an unchanged record keep their state, and those with a changed one
their counters (R328, R333, R386). -/
def State.pressReceive (c c' : Cfg) (s : State) : State :=
  { s with
    rx := (s.rx.filter fun e => c'.has .sacnRx e.1).map fun (e : Nat × Rx) =>
      if c.get .sacnRx e.1 = c'.get .sacnRx e.1 then e else (e.1, { dropped := e.2.dropped })
    ixrx := (s.ixrx.filter fun e => c'.has .ixRx e.1).map fun (e : Nat × IxRx) =>
      if c.get .ixRx e.1 = c'.get .ixRx e.1 then e
      else (e.1, { claimDrops := e.2.claimDrops, dropped := e.2.dropped, late := e.2.late }) }

/-- What the network stack sends at a press: ARP requests for destinations to resolve (R317), and reports for the groups
that lanes join (R226, R314). -/
def State.pressSends (c c' : Cfg) (s : State) : State :=
  let s := (c'.all .flow).foldl (fun (s : State) (e : Nat × Bytes) => match c'.get .lane (flLane e.2) with
    | none => s
    | some l =>
      let hop := nextHop l (flIp e.2)
      if !flNetwork e.2 || flIp e.2 = 0 || !isUnicast (flIp e.2) || beNat (flMac e.2) ≠ 0 || hop = 0 ||
        Tab.has (s.laneOf (flLane e.2)).arp hop then s
      else s.arpRequest (flLane e.2) hop) s
  (c'.all .lane).foldl (fun (s : State) (e : Nat × Bytes) =>
    ((c'.laneGroups e.1).filter fun g => !(c.laneGroups e.1).contains g).foldl (fun s g => s.igmpReport e.1 g) s) s

/-- The replies that wait for a mirror acknowledgement that a test picks go out (R387, R395). -/
def State.releaseMirrors (p : Nat → Bool) (s : State) : State :=
  s.hq.pairs.foldl (fun (s : State) (e : Nat × RingPair) =>
    (e.2.slots ++ e.2.late).foldl (fun (s : State) (x : Slot) => match x.wait with
      | .mirror q a => if p q then s.complete e.1 (.mirror q a) a else s
      | _ => s) s) s

/-- The pair at a press (R401). -/
def State.pressPair (c' : Cfg) (s : State) : State :=
  match s.pairRec c' with
  | none => ({ s with pair := { s.pair with
      st := .unpaired, peerState := none, misses := 0, raised := [], handover := none, awaits := none, peerOuts := [], syncFrom := none } } : State).releaseMirrors fun _ => true
  | some _ => if s.pair.st ≠ .unpaired then s else { s with pair := { s.pair with st := .waiting, waitSince := s.now } }

/-! ## Balls (R539) -/

/-- The function that owns a ball under a configuration (R77, R537). -/
def Cfg.ballOwner (c : Cfg) (ball : Nat) : Option Nat := (c.balls.find? fun e => e.1 = ball).map Prod.snd

/-- When the last pulse of a trigger output's owner ends: of the units on the pin, or of the pulse output that shares it. -/
def State.pulseEnd (s : State) (c : Cfg) (pin : Nat) : Nat :=
  ((c.all .trigger).filter fun e => u8 e.2 2 = 0 && u8 e.2 3 = pin).foldl (fun t e => max t (s.unit e.1).high)
    (if 4 ≤ pin && c.has .pulse (pin - 4) then (Tab.getD s.met.epos (pin - 4) {}).high else 0)

/-- When the last stop bit of a DMX port's packets of frames before a press frame ends (R539): of the packet on the line, and
of the frames cut and not yet issued. -/
def State.dmxEnd (c : Cfg) (frame port : Nat) (s : State) : Nat :=
  let busy := (s.dmxOf port).busyUntil
  match c.get .dmx port, c.dmxFlow port with
  | some d, some f =>
    let n := (s.flowOf f.1).next.getD frame
    match (((List.range (frame - n)).map fun k => n + k).filter fun k => dxPortFrame d k).getLast? with
    | none => busy
    | some k => max busy (s.now + (s.launchAt f.1 k - s.tk.counter) + usT (dxPacketUs d))
  | _, _ => busy

/-- When the output of a shared ball's old owner ends (R539); that of I2C bus 3 does at once (log entry 200). -/
def State.ownerEnd (c : Cfg) (frame ball : Nat) (s : State) : Nat :=
  if ball ≥ ttoBall 0 then s.pulseEnd c (ball - ttoBall 0)
  else if c.ballOwner ball = some (ownerOf 0x03 31) then s.dmxEnd c frame 31
  else s.now

/-- The shared balls at the press of a frame: one that goes from an owner to another is driven 1 us after its release
(R539). -/
def State.pressBalls (c c' : Cfg) (frame : Nat) (s : State) : State :=
  let freed := sharedBalls.filterMap fun ball =>
    match c.ballOwner ball, c'.ballOwner ball with
    | some x, some y =>
      if x = y then (Tab.find s.gl.freed ball).map fun t => (ball, t)
      else some (ball, max s.now (s.ownerEnd c frame ball) + usT 1)
    | _, _ => none
  { s with gl := { s.gl with freed } }

/-! ## The press (R61-R63) -/

/-- A configuration comes into force, with `frame` the first frame rendered under it (R63). -/
def State.takeForce (c' : Cfg) (sched : Sched) (running : Bool) (frame : Nat) (s : State) : State :=
  let c := s.cfg
  let s := { s with force := some { cfg := c', sched }, img := { s.img with rewriting := true, version := s.img.version + 1 } }
  let s := (((s.pressBalls c c' frame).pressParams c c').pressPlaybacks c c').pressEffects c c'
  let s := (((s.pressTime c c').pressLanes c c').ptpPorts).firstLock
  let s := ((s.pressFlows c c' running frame).pressReceive c c').pressSends c c'
  let s := ((s.pressColour c c').pressCanvases c c').pressVideo c c'
  let s := ((s.pressWitness c c').pressLatency c c').settleLeads frame
  let s := ((s.pressScan c c' running frame).pressRdm c').pressDmx c'
  (s.pressMeters c c' frame).pressPair c'

/-- The pending configuration is pressed at the cut of frame F: CONFIG_PRESSED carries F, and SAFE_HOLD ends (R56, R62,
R63). -/
def State.pressPending (p : Pending) (frame : Nat) (s : State) : State :=
  let s := { s with stage := { s.stage with pending := none } }
  let s := s.takeForce p.cfg p.sched true frame
  let s := if s.gl.show_ = .safeHold then { s with gl := { s.gl with show_ := .running } } else s
  s.raiseFrame Ev.configPressed 0 0 frame

/-- An admitted configuration comes into force at once while no show runs, and the show is CONFIGURED (R56, R61); the frame
number and its latch read 0 until the first cut after it (R43). CONFIG_PRESSED names the first cut of a started show, or else the frame
whose slot holds the counter (R63). -/
def State.configure (c' : Cfg) (sched : Sched) (s : State) : State :=
  let f := s.gl.firstCut.getD (c'.slotAt s.tk.counter)
  let s := s.takeForce c' sched false f
  { s with gl := { s.gl with show_ := .configured, frame := none, frameHi := 0 } }.raiseFrame Ev.configPressed 0 0 f

/-! ## ADMISSION_COMPLETE (R60-R62) -/

/-- An admitted configuration is pending while a show runs, and otherwise in force at once (R61). A press frame whose cut
has begun is missed (R62). -/
def State.admitted (a : Admitting) (sched : Sched) (s : State) : State :=
  let s := if s.stage.holder = some a.job.session then { s with stage := { s.stage with holder := none, area := {} } } else s
  if s.showRuns then
    let p : Pending := { cfg := a.area, sched, frame := a.frame, id := a.job.id }
    let s := { s with stage := { s.stage with pending := some p } }
    match a.frame with
    | some f => if s.cutBegun f then s.raiseFrame Ev.pressMissed 0 0 f else s
    | none => s
  else s.configure a.area sched

/-- The end of an admission for its session: the report, and the final status for TAG_STATUS (R60, R78, R90). -/
def State.endAdmission (a : Admitting) (v : Report × Sched) (s : State) : State :=
  let s := { s with stage := { s.stage with admitting := none, report := some v.1 } }
  let s := { s with jobs := { s.jobs with active := s.jobs.active.filter fun (x : Job) => x.id ≠ a.job.id } }
  s.finish a.job.session { tag := a.job.tag, op := a.job.op, status := v.1.status, detail := 0, frame := none }

/-- ADMIT_DONE; an admission of AUTOLOAD that fails raises AUTOSTART_FAILED, and no start follows (R73, R477). -/
def State.admitEvents (id status : Nat) (s : State) : State :=
  let s := s.raise Ev.admitDone id status
  if s.boot.autoload = some id ∧ status ≠ Status.ok then
    ({ s with boot := { s.boot with autoload := none } } : State).raise Ev.autostartFailed 0 status
  else s

/-- The end of an admission: ADMIT_DONE, then what its verdict brings; the session of AUTOLOAD ends (R60-R62, R90, R477). -/
def State.completeAdmission (a : Admitting) (s : State) : State :=
  let v := s.verdict a.area a.job.id a.flags
  let own := s.boot.autoload = some a.job.id
  let s := (s.endAdmission a v).admitEvents a.job.id v.1.status
  let s := if v.1.status = Status.ok then s.admitted a v.2 else s
  if own then s.endSession (a.job.session % 64) .close else s

/-- ADMISSION_COMPLETE. -/
def execAdmissionComplete (s : State) : Outcome :=
  match s.stage.admitting with
  | none => .next s
  | some a => .next (s.completeAdmission a)

end Sys2Proof.Machine
end

