-- ==== Sys2Proof/Machine/PairLink.lean ====
section
/-! DEFINITION. What a member of a pair keeps and sends (R381-R402): its record, digests, cut record and heartbeats,
changes of duty, and the commands PAIR_STATUS, PAIR_MAINTENANCE and PAIR_HANDOVER. -/

namespace Sys2Proof.Machine

/-! ## The record in force (R382) -/

/-- UNIT_ID. -/
abbrev pdUnit (d : Bytes) : Nat := u8 d 2
/-- PEER_ID. -/
abbrev pdPeer (d : Bytes) : Nat := u8 d 3
/-- HOLD_OFF_S, `none` for a pair that does not revert. -/
def pdHold (d : Bytes) : Option Nat := if u16 d 6 = 0xFFFF then none else some (if u16 d 6 = 0 then 10 else u16 d 6)
/-- JOIN_WAIT_MS. -/
def pdJoin (d : Bytes) : Nat := if u16 d 10 = 0 then 2000 else u16 d 10
/-- SENTINEL universe. -/
abbrev pdSentinel (d : Bytes) : Nat := u16 d 12
/-- SENTINEL_LANE. -/
abbrev pdSentinelLane (d : Bytes) : Nat := u8 d 14

/-- The unit is the primary of its pair: its configuration has the role engine (R381). -/
def State.primary (s : State) : Bool := s.cfg.role = 1

/-- The pair record in force, where it names a lane, with the lane. -/
def State.pairNow (s : State) : Option (Bytes × Nat) := s.pairRec s.cfg

/-! ## Digests (R381, R389) -/

/-- The records of a configuration in bytes, without its role and its pair record; how the digest lays them out is the
free `Config.digestImage` (log entry 13). -/
def Cfg.image (c : Cfg) : Bytes :=
  (c.recs.filter fun r => r.kind ≠ .role && r.kind ≠ .pair).flatMap fun r =>
    leBytes 1 r.kind.ctorIdx ++ leBytes 4 r.num ++ leBytes 4 r.data.length ++ r.data

/-- The configuration digest (R381). -/
def Cfg.digest (c : Cfg) : Nat := crc32c (Config.digestImage c.image)

/-- The digest of the pending configuration, or 0 (R389). -/
def State.pendingDigest (s : State) : Nat := (s.stage.pending.map fun p => p.cfg.digest).getD 0

/-- The output digest of a frame whose encoding has completed: over every encoded flow frame (R389). -/
def FrameRec.digest (f : FrameRec) : Nat := crc32c (f.bodies.flatMap fun e => e.2.flatten)

/-- The most recent frame whose encoding has completed. -/
def State.lastEncoded (s : State) : Option FrameRec := (s.sch.frames.filter fun f => f.left.isEmpty).getLast?

/-- The output digest of frame n, where its encoding has completed. -/
def State.outputDigest (s : State) (n : Nat) : Option Nat :=
  ((s.frameRec n).filter fun f => f.left.isEmpty).map FrameRec.digest

/-- The fields of a layer's press set in the order of their registers. -/
def LayerRegs.words (g : LayerRegs) : List Nat := [g.ctrl, g.pos, g.cropXy, g.cropWh, g.opacity, g.buffer]

/-- A layer's press set from its words. -/
def LayerRegs.ofWords (l : List Nat) : LayerRegs :=
  { ctrl := l.getD 0 0, pos := l.getD 1 0, cropXy := l.getD 2 0, cropWh := l.getD 3 0, opacity := l.getD 4 0, buffer := l.getD 5 0 }

/-- The cut record of the frame just frozen from received universes (R389, R210): what a standby member cannot derive
itself. -/
def State.cutRecord (s : State) (rx : Tab Rx) (press : Option Nat) : CutRecord :=
  { sacn := ((s.cfg.all .rxMap).map fun e => u16 e.2 4).eraseDups.filterMap fun u =>
      (currentSource (Tab.getD rx u {}).sources).map fun x => (u, x.cid, x.seq)
    rtp := (s.video.filter fun (e : Nat × Video) => e.2.frozen.isSome).map fun (e : Nat × Video) => (e.1, e.2.rtp)
    copies := s.layer.filterMap fun (e : Nat × Layer) => e.2.copy.map fun b => (e.1, b)
    temps := s.col.held
    trims := s.col.trim.map fun (e : Nat × Trim) => (e.1, e.2.du, e.2.dv, e.2.g)
    levels := s.col.tests
    canvases := s.canvas.map fun (e : Nat × Canvas) => (e.1, e.2.bg)
    layers := s.layer.map fun (e : Nat × Layer) => (e.1, e.2.force.words)
    palettes := s.layer.map fun (e : Nat × Layer) => (e.1, e.2.pal)
    press }

/-- A cut record in bytes. -/
def cutImage (r : CutRecord) : Bytes :=
  (r.sacn.flatMap fun e => leBytes 2 e.1 ++ e.2.1 ++ leBytes 1 e.2.2) ++
  (r.rtp.flatMap fun e => leBytes 1 e.1 ++ leBytes 4 e.2) ++ (r.copies.flatMap fun e => leBytes 1 e.1 ++ e.2) ++
  (r.temps.flatMap fun e => leBytes 1 e.1 ++ leInt 4 e.2) ++
  (r.trims.flatMap fun e => leBytes 4 e.1 ++ leInt 4 e.2.1 ++ leInt 4 e.2.2.1 ++ leBytes 4 e.2.2.2) ++
  (r.levels.flatMap fun e => leBytes 4 e.1 ++ e.2.flatMap (leBytes 4)) ++
  (r.canvases.flatMap fun e => leBytes 1 e.1 ++ leBytes 4 e.2.1 ++ leBytes 4 e.2.2.1 ++ leBytes 4 e.2.2.2) ++
  (r.layers.flatMap fun e => leBytes 1 e.1 ++ e.2.flatMap (leBytes 4)) ++
  (r.palettes.flatMap fun e => leBytes 1 e.1 ++ e.2.flatMap fun w => leBytes 4 w.1 ++ leBytes 4 w.2) ++
  match r.press with
  | some n => leBytes 8 n
  | none => []

/-- The digest of a cut record. -/
def cutDigest (r : CutRecord) : Nat := crc32c (Config.digestImage (cutImage r))

/-- INPUT_DIGEST: over the cut records of the last two frames (R389). -/
def State.inputDigest (s : State) : Nat := crc32c (leBytes 4 s.pair.inDigest.1 ++ leBytes 4 s.pair.inDigest.2)

/-! ## Messages -/

/-- A message goes out on the pair link, if it is up. -/
def State.toPeer (kind : String) (values : List Nat) (body : Bytes) (s : State) : State :=
  match s.pairNow with
  | some (_, lane) => if (s.laneOf lane).link then s.emit (.pairLink kind values body) else s
  | none => s

/-- The heartbeat of frame n (R389); the active member sends its cut record with it. -/
def State.sendHeartbeat (n : Nat) (r : CutRecord) (s : State) : State :=
  let unit := (s.pairNow.map fun p => pdUnit p.1).getD 0
  let out := s.lastEncoded
  let ready := s.rt.queue.filterMap fun q => if q.frame.any fun f => f ≤ n then q.seq else none
  s.toPeer "heartbeat"
    [n, s.pair.st.code, s.claim false, unit, s.cfg.digest, s.pendingDigest, ready.foldl max s.pair.mirrorDone, s.inputDigest,
      (out.map FrameRec.digest).getD 0, (out.map FrameRec.frame).getD 0, flag s.pair.maintenance 0, s.pair.gainTime,
      s.gl.show_.code]
    (if s.pairActive then cutImage r else [])

/-! ## Changes of duty (R385, R394-R398) -/

/-- The causes of PAIR_DUTY, coded in the order of R398. -/
inductive DutyCause where
  | handover | reversion | takeover | yield | abandoned
  deriving DecidableEq, Repr

/-- The code of a cause. -/
def DutyCause.code : DutyCause → Nat
  | .handover => 0
  | .reversion => 1
  | .takeover => 2
  | .yield => 3
  | .abandoned => 4

/-- The duty changes, from a frame on (R398, R402). -/
def State.dutyChanged (cause : DutyCause) (frame : Nat) (s : State) : State :=
  let s := { s with pair := { s.pair with
    dutyChanges := satInc s.pair.dutyChanges, dutyFrame := frame, handover := none, holdSince := none } }
  s.raiseFrame Ev.pairDuty 0 cause.code frame

/-- The member gains the duty in a state: its claim is raised on the first 3 frames that it launches on each flow (R385). -/
def State.gainDuty (st : PairState) (cause : DutyCause) (frame : Nat) (s : State) : State :=
  let s := { s with pair := { s.pair with
    st, raised := [], gainTime := s.tk.counter, byTakeover := decide (cause = DutyCause.takeover), byLoss := false, misses := 0 } }
  s.dutyChanged cause frame

/-- The member gives up the duty, and with it runs and measurements (R190, R300). -/
def State.loseDuty (st : PairState) (cause : DutyCause) (frame : Nat) (s : State) : State :=
  let s := { s with pair := { s.pair with st, raised := [], byTakeover := false } }
  ((s.releaseMirrors fun _ => true).endCalRuns.endLatRuns).dutyChanged cause frame

/-- The member enters SOLO from ACTIVE: its replies wait for no acknowledgement any more (R395, R401). -/
def State.enterSolo (s : State) : State :=
  ({ s with pair := { s.pair with st := .solo, byTakeover := false, byLoss := false } } : State).releaseMirrors fun _ => true

/-- The pair at SHOW_STOP: a paired member waits for its peer again (R401). -/
def State.stopPair (s : State) : State :=
  if s.pair.st = .unpaired then s
  else ({ s with pair := { s.pair with
    st := .waiting, misses := 0, raised := [], handover := none, holdSince := none, awaits := none, waitSince := s.now
    syncFrom := none, peerOuts := [], missing := [] } } : State).releaseMirrors
      fun _ => true

/-- A handover or a reversion that was fixed is not carried out (R397, R400). -/
def State.abandonHandover (s : State) : State :=
  match s.pair.handover with
  | none => s
  | some (h, _) => ({ s with pair := { s.pair with handover := none } } : State).raiseFrame Ev.pairDuty 0 DutyCause.abandoned.code h

/-! ## Commands -/

/-- PAIR_HANDOVER takes effect at its frame (R397): it is fixed for the end of that cut, unless a reversion has been
granted first for the same frame: then it is dropped, with PAIR_DUTY (R400). -/
def State.fixHandover (n : Nat) (s : State) : State :=
  if (s.pair.st = .active ∨ s.pair.st = .standby) ∧ s.pair.handover.isNone then { s with pair := { s.pair with handover := some (n, false) } }
  else s.raiseFrame Ev.pairDuty 0 DutyCause.abandoned.code n

/-- PAIR_HANDOVER (R397). -/
def pairHandoverOp : Op where
  code := 0x0A04
  cls := .timed
  af := true
  layout := fixedLayout [4]
  body := .timed (fun _ s => need (s.pair.st = .active) Status.wrongState s.wrongDetail) fun _ n s => s.fixHandover n

/-- PAIR_STATUS's 48 bytes (R402). -/
def State.pairStatus (s : State) : Bytes :=
  let p := s.pair
  let link := (s.pairNow.map fun x => (s.laneOf x.2).link).getD false
  leBytes 1 p.st.code ++ leBytes 1 (p.peerState.getD 0xFF) ++ leBytes 1 (min p.misses 255) ++
  leBytes 1 (flag p.maintenance 0 + flag s.primary 1 + flag p.unsynced 2 + flag link 3 + flag p.slow 4) ++
  leBytes 4 (s.claim false) ++ leBytes 4 p.peerClaim ++ leBytes 4 p.hbLate ++ leBytes 4 p.hbMissed ++
  leBytes 4 p.dutyChanges ++ leBytes 8 p.dutyFrame ++ leBytes 8 (p.hbFrame.getD 0) ++ leBytes 1 p.hbOutcome ++ zeros 1 ++
  leBytes 2 p.permille ++ leBytes 4 p.linkDelay

/-- PAIR_STATUS (R402). -/
def pairStatusOp : Op where
  code := 0x0A02
  cls := .immediate
  layout := noPayload
  body := .run fun _ s => .ok (s, .ok s.pairStatus)

/-- PAIR_MAINTENANCE (R399). -/
def pairMaintenanceOp : Op where
  code := 0x0A03
  cls := .immediate
  layout := fixedLayout [1, 3]
  body := .run fun r s => do
    inRange (u8 r.payload 0 ≤ 1) 0
    .ok ({ s with pair := { s.pair with maintenance := u8 r.payload 0 = 1 } }, .ok)

def execPairStatus (r : Req) (s : State) : Outcome := hostCommand pairStatusOp r s
def execPairMaintenance (r : Req) (s : State) : Outcome := hostCommand pairMaintenanceOp r s
def execPairHandover (r : Req) (s : State) : Outcome := hostCommand pairHandoverOp r s

end Sys2Proof.Machine
end

