-- ==== Sys2Proof/Machine/Show.lean ====
section
/-! DEFINITION. The show-state commands (R51, R56, R57, R89) and the commands that take effect at a cut (R87-R89, R103,
R106-R108). -/

namespace Sys2Proof.Machine

/-! ## SHOW_START -/

/-- The first cut of a show that is started now without a frame: at the first slot boundary at least 1 ms ahead (R56). -/
def State.defaultStart (s : State) : Nat := s.cfg.slotAt (s.tk.counter + msT 1 - 1) + 1 + s.cfg.depth

/-- The cut of frame n has begun, or lies before the first slot (R62). -/
def State.startPassed (s : State) (n : Nat) : Bool := n < s.cfg.depth || s.cfg.cutInstant n ≤ s.tk.counter

/-- A show starts, at a named frame within the limit of R106 or at the default one (R56, R89): the answer is its first
frame. -/
def State.startShow (at_ : Option Nat) (late : Bool) (s : State) : Chk? (Nat × State) := do
  need (s.pair.st = .unpaired || s.pairActive) Status.wrongState s.wrongDetail
  need (s.gl.show_ = .configured && s.gl.firstCut.isNone) Status.wrongState s.wrongDetail
  need s.timeReady Status.timeNotReady 0
  need (at_.all fun n => n ≤ s.cfg.slotAt s.tk.counter + 16777216) Status.badAtFrame 0
  let passed := (at_.map s.startPassed).getD false
  need (!passed || late) Status.framePassed 0
  let n := if passed then s.defaultStart else at_.getD s.defaultStart
  .ok (n, { s with gl := { s.gl with firstCut := some n } })

/-- SHOW_START (R56, R89). -/
def showStartOp : Op where
  code := 0x0206
  cls := .timed
  af := true
  layout := noPayload
  body := .run fun r s =>
    match s.startShow r.atFrame (r.opFlag 1) with
    | .error b => .error b
    | .ok (n, s) => .ok (s.mirrored 0x0206 r (some n))

/-! ## The transitions at a cut (R56) -/

/-- The show state after a show-state command, where R56 lists it in the present one. -/
def showMove (op : Nat) (st : ShowState) : Option ShowState :=
  match op, st with
  | 0x0207, .running => some .armed
  | 0x0208, .armed => some .running
  | 0x0209, .running => some .configured
  | 0x0209, .safeHold => some .configured
  | 0x020A, .running => some .safeHold
  | 0x020A, .armed => some .safeHold
  | 0x020B, .safeHold => some .running
  | _, _ => none

/-- The show state allows a show-state command, or R56's status refuses it. -/
def moveAllowed (op : Nat) (s : State) : Chk? Unit :=
  if op = 0x0209 ∧ s.gl.show_ = .armed then .error ⟨Status.showArmed, 0⟩
  else need (showMove op s.gl.show_).isSome Status.wrongState s.wrongDetail

/-- A show-state command that takes effect at a cut; the cut itself moves the show (`State.takeOne`). -/
def moveOp (op : Nat) (check : State → Chk? Unit) : Op where
  code := op
  cls := .timed
  af := true
  layout := noPayload
  body := .timed (fun _ s => do
      moveAllowed op s
      check s) fun _ _ s => s

/-- SHOW_ARM (R56): refused in a trial (R472), and once an activation is to begin (R469). -/
def showArmOp : Op := moveOp 0x0207 fun s =>
  need (s.boot.trialSince.isNone && s.upd.activate.isNone) Status.wrongState s.wrongDetail

/-- SHOW_DISARM (R56). -/
def showDisarmOp : Op := moveOp 0x0208 fun _ => .ok ()

/-- SHOW_STOP (R56). -/
def showStopOp : Op := moveOp 0x0209 fun _ => .ok ()

/-- SAFE_HOLD_ENTER (R56). -/
def safeHoldEnterOp : Op := moveOp 0x020A fun _ => .ok ()

/-- SHOW_RESUME (R56): not while the schedule is being restored, or with the configuration image lost (R439). -/
def showResumeOp : Op := moveOp 0x020B fun s =>
  need (!s.img.restoring && !s.img.lost) Status.wrongState s.wrongDetail

/-! ## The commands due at a cut (R87-R89, R103, R107, R108) -/

/-- The class T commands that take effect at a cut (R112). -/
def timedOps : List Op :=
  [showArmOp, showDisarmOp, showStopOp, safeHoldEnterOp, showResumeOp, paramWriteOp, paramReleaseOp, cueStoreOp, playbackGoOp,
   playbackBackOp, playbackGotoOp, playbackReleaseOp, playbackLevelOp, playbackRateOp, effectRateOp, effectSizeOp,
   effectStartOp, effectStopOp, effectPhaseOp, trimControlOp, flowEnableOp, pairHandoverOp]

/-- The frame in which a queued command is to take effect, where it is fixed (R87, R106). -/
def Queued.at_ (q : Queued) : Option Nat := q.frame.or q.fixed

/-- A queued command is due at the cut of frame n: its frame has come, or it was queued before any frame was known. -/
def Queued.due (n : Nat) (q : Queued) : Bool := q.at_.all fun f => f ≤ n

/-- A queued command takes effect in frame n. -/
def State.takeEffect (n : Nat) (q : Queued) (s : State) : State :=
  let s := match q.seq with
    | some k => { s with pair := { s.pair with mirrorDone := max s.pair.mirrorDone k } }
    | none => s
  match timedOps.find? fun o => o.code = q.op with
  | none => s
  | some o => match o.body with
    | .timed _ apply => apply q.req n s
    | .run _ => s
    | .staged _ => s

/-- A show that enters SAFE_HOLD ends runs and measurements (R190, R300). -/
def State.enterHold (s : State) : State :=
  ({ s with gl := { s.gl with show_ := .safeHold } } : State).endCalRuns.endLatRuns

/-- The show stops at the cut of frame n, which is not made (R56, R108, R322, R401): the flows end after the frame before,
timed commands of a running show are withdrawn, and the pair waits. -/
def State.stopShow (n : Nat) (s : State) : State :=
  let running := s.gl.show_ ≠ .safeHold
  let s := { s with
    gl := { s.gl with show_ := .configured, firstCut := none }
    flow := Tab.mapV s.flow fun _ (x : Flow) => if x.ended.isSome then x else { x with ended := some n } }
  let s := if running then s.withdraw .stopped fun _ => true else s
  s.endCalRuns.endLatRuns.stopPair

/-- One show-state command at a cut: a command that R56 does not list in the state it finds changes nothing. -/
def State.move (n : Nat) (op : Nat) (s : State) : State :=
  match showMove op s.gl.show_ with
  | none => s
  | some .configured => s.stopShow n
  | some .safeHold => s.enterHold
  | some st => { s with gl := { s.gl with show_ := st } }

/-- One command due at the cut of frame n: a show-state command moves the show. A timed one is withdrawn where the frame is
cut in SAFE_HOLD, but for SHOW_STOP and SHOW_RESUME (R89), and after a command of the same frame has stopped the show
(R108); one without a frame has its effect in the frame of its reply all the same (R87). -/
def State.takeOne (n : Nat) (q : Queued) (s : State) : State :=
  if q.frame.isSome ∧ !s.showRuns then s.withdrawn .stopped q
  else if q.frame.isSome ∧ s.gl.show_ = .safeHold ∧ q.op ≠ 0x0209 ∧ q.op ≠ 0x020B then s.withdrawn .safeHold q
  else if isShowState q.op then (s.takeEffect n q).move n q.op
  else s.takeEffect n q

/-- The cut of frame n takes a queued command that is due. A joining member keeps those that the active member mirrors until
the carried state is there (R392). -/
def State.takes (s : State) (n : Nat) (q : Queued) : Bool :=
  q.due n && !(decide (s.pair.st = .syncing) && s.pair.syncFrom.isNone && q.seq.isSome)

/-- The commands due at the cut of frame n take effect in the order of acceptance, which is ring order within a pair (R88,
R103, R138). -/
def State.takeCommands (n : Nat) (s : State) : State :=
  let due := s.rt.queue.filter fun q => s.takes n q
  let s := { s with rt := { queue := s.rt.queue.filter fun q => !s.takes n q } }
  due.foldl (fun (s : State) q => s.takeOne n q) s

/-- The show state that the commands due at the cut of frame n leave. -/
def State.showAfter (n : Nat) (s : State) : ShowState :=
  (s.rt.queue.filter fun q => s.takes n q).foldl (fun st q =>
    if st = .configured ∨ (q.frame.isSome ∧ st = .safeHold ∧ q.op ≠ 0x0209 ∧ q.op ≠ 0x020B) then st
    else (showMove q.op st).getD st) s.gl.show_

/-- A command due at the cut of frame n stops the show, and the cut is not made (R56). -/
def State.stopsAt (n : Nat) (s : State) : Bool := s.showRuns && decide (s.showAfter n = .configured)

/-- At the first cut of a show the timed commands of earlier frames have passed (R89): with LATE_OK they take effect in
it, and without they are dropped, with FRAME_PASSED for TAG_STATUS. -/
def State.dropPassed (n : Nat) (s : State) : State :=
  let gone := fun (q : Queued) => (q.frame.any fun f => f < n) && !q.req.opFlag 1
  let l := s.rt.queue.filter gone
  let s := { s with rt := { queue := s.rt.queue.filter fun q => !gone q } }
  l.foldl (fun (s : State) q =>
    s.finish q.req.session { tag := q.req.tag, op := q.op, status := Status.framePassed, detail := 0, frame := none, af := true }) s

def execShowStart (r : Req) (s : State) : Outcome := hostCommand showStartOp r s
def execShowArm (r : Req) (s : State) : Outcome := hostCommand showArmOp r s
def execShowDisarm (r : Req) (s : State) : Outcome := hostCommand showDisarmOp r s
def execShowStop (r : Req) (s : State) : Outcome := hostCommand showStopOp r s
def execSafeHoldEnter (r : Req) (s : State) : Outcome := hostCommand safeHoldEnterOp r s
def execShowResume (r : Req) (s : State) : Outcome := hostCommand showResumeOp r s

end Sys2Proof.Machine
end

