-- ==== Sys2Proof/Machine/Cut.lean ====
section
/-! DEFINITION. The cut of a frame (R47-R51, R57, R62, R63, R89, R389, R390, R470): what it freezes, the encoded flows and
witness values that its frozen inputs give (R35), and the start of its jobs. -/

namespace Sys2Proof.Machine

/-! ## What the frozen inputs give (R35) -/

/-- The frame of a flow, in the parts that its packets or port take; a DMX port with feeds takes its frame from them. -/
def State.encodeFlow (s : State) (n flow : Nat) (f : Bytes) : Option (List Bytes) :=
  let c := s.cfg
  match flKind f with
  | 0 => (c.get .sacnFlow flow).map fun d => (saUniverses d).map fun u => s.destBytes n 1 u (saSlots d)
  | 1 => some [s.pixelBytes n false flow]
  | 2 => (c.get .ixTx flow).map fun d => [s.destBytes n 3 flow (ixTotal d)]
  | 3 => some (s.scanBody n (flUnit f))
  | _ => match c.get .dmx (flUnit f) with
    | some d => if (c.dmxFeeds (flUnit f)).isEmpty then some [s.destBytes n 2 (flUnit f) (dxSlots d)] else none
    | none => none

/-- Every flow's frame. -/
def State.encodeAll (s : State) (n : Nat) : Tab (List Bytes) :=
  (s.cfg.all .flow).filterMap fun e => (s.encodeFlow n e.1 e.2).map fun b => (e.1, b)

/-- The values of the witness windows. -/
def State.witnessAll (s : State) (n : Nat) : Tab Nat := (s.cfg.all .witness).map fun e => (e.1, crc32c (s.witnessBytes n e.2))

/-! ## Frames -/

/-- A frame joins the frames that are on their way; 8 cover every frame that can still launch. -/
def State.addFrame (f : FrameRec) (s : State) : State :=
  let l := s.sch.frames ++ [f]
  { s with sch := { s.sch with frames := l.drop (l.length - 8) } }

/-- The flows in force whose issue instants begin with frame n (R54). -/
def State.openFlows (n : Nat) (s : State) : State :=
  (s.cfg.all .flow).foldl (fun (s : State) e =>
    s.updFlow e.1 fun x => if x.next.isNone && x.ended.isNone then { x with next := some n } else x) s

/-- The jobs of a frame whose inputs are frozen start on their way, and a flow that no job feeds is complete (R249,
R258). They become ready at the end of the cut. -/
def State.startJobs (f : FrameRec) (s : State) : State :=
  ((s.addFrame f).queueJobs f).releaseFlows f.frame (f.bodies.map Prod.fst)

/-! ## Received inputs (R50, R389, R390) -/

/-- A received universe as the active member selected it: by CID and sequence, where this member holds that packet. -/
def peerRx (r : CutRecord) (u : Nat) (x : Rx) : Rx :=
  match r.sacn.find? fun e => e.1 = u with
  | none => { x with current := none }
  | some (_, cid, seq) =>
    if x.sources.any fun y => y.cid = cid && y.seq = seq && y.complete.isSome then { x with current := some cid } else x

/-- Received universes are frozen (R50), on a standby member as they stood at its cut, or as the heartbeat's cut record
selects them (R390). -/
def State.freezeUniverses (n : Nat) (rx : Tab Rx) (peer : Option CutRecord) (s : State) : State :=
  let live := s.rx
  let rx := match peer with
    | some r => Tab.mapV rx (peerRx r)
    | none => rx
  let s := ({ s with rx } : State).cutSacn n
  { s with rx := live }

/-- A stream after its cut, with what has arrived since. -/
def Video.since_ (live before after : Video) : Video :=
  { live with
    frozen := after.frozen, lost := after.lost, rtp := after.rtp
    incomplete := live.incomplete + (after.incomplete - before.incomplete)
    diverge := live.diverge + (after.diverge - before.diverge) }

/-- Video streams are frozen (R228), on a standby member as they stood at its cut. -/
def State.freezeVideo (n : Nat) (video : Tab Video) (peer : Option CutRecord) (s : State) : State :=
  let live := s.video
  let s := ({ s with video } : State).cutVideo (s.cfg.cutInstant n / 65536) (peer.map fun r => r.rtp)
  let after := s.video
  { s with video := Tab.mapV live fun k v => v.since_ (Tab.getD video k {}) (Tab.getD after k {}) }

/-- The press-set values and copies of the active member's cut (R210, R389). -/
def State.peerCanvases (r : CutRecord) (s : State) : State :=
  let before := s.bufsInUse
  let s := r.canvases.foldl (fun (s : State) e => s.updCanvas e.1 fun x => { x with bg := e.2 }) s
  let s := r.layers.foldl (fun (s : State) e => s.updLayer e.1 fun x => { x with force := LayerRegs.ofWords e.2 }) s
  let s := r.palettes.foldl (fun (s : State) e => s.updLayer e.1 fun x => { x with pal := e.2 }) s
  (r.copies.foldl (fun (s : State) e => s.updLayer e.1 fun x => { x with copy := some e.2 }) s).retire before

/-- The temperatures and trims of the active member's cut (R389). -/
def State.peerColour (r : CutRecord) (s : State) : State :=
  let s := { s with col := { s.col with held := r.temps } }
  r.trims.foldl (fun (s : State) e =>
    let x := Tab.getD s.col.trim e.1 {}
    { s with col := { s.col with trim := Tab.put s.col.trim e.1 { x with du := e.2.1, dv := e.2.2.1, g := e.2.2.2 } } }) s

/-! ## The cut -/

/-- The pipeline up to stage 5 at the cut of frame n, on the frozen inputs. -/
def State.evaluateCut (n : Nat) (first : Bool) (peer : Option CutRecord) (s : State) : State :=
  let s := ((s.cutPlaybacks n first).cutEffects n).cutParams
  let s := (s.cutLatRuns n).cutLatency n
  let s := s.cutColour n (peer.map fun r => r.levels)
  let s := match peer with
    | some r => s.peerColour r
    | none => s
  s.keepTrims.cutScan n

/-- Frame n is frozen and its jobs start (R50). `rx` and `video` are the received inputs as the cut found them; `first`
says that it is the first cut of the show (R155). -/
def State.freezeFrame (n : Nat) (first : Bool) (rx : Tab Rx) (video : Tab Video) (peer : Option CutRecord) (s : State) : State :=
  let s := s.freezeUniverses n rx peer
  let s := s.freezeVideo n video peer
  let s := match peer with
    | some r => s.peerCanvases r
    | none => s
  let s := s.evaluateCut n first peer
  match s.force with
  | none => s
  | some force =>
    let frozen : Frozen := { par := s.par, col := s.col, canvas := s.canvas, layer := s.layer, video := s.video }
    ({ s with sch := { s.sch with frozen } } : State).startJobs
      { frame := n, force, bodies := s.encodeAll n, wits := s.witnessAll n, left := force.sched.jobs.map SchedJob.num }

/-- The state with the inputs of the last cut outside SAFE_HOLD in place of the present ones. -/
def State.thaw (s : State) : State :=
  let f := s.sch.frozen
  { s with par := f.par, col := f.col, canvas := f.canvas, layer := f.layer, video := f.video }

/-- Frame n is cut in SAFE_HOLD: its inputs are those of the last cut before, its jobs run, and every flow repeats, so
that it has no frame of its own (R57, R241). -/
def State.holdFrame (n : Nat) (s : State) : State :=
  match s.force with
  | none => s
  | some force =>
    (s.cutLatency n).startJobs { frame := n, held := true, force, wits := s.thaw.witnessAll n, left := force.sched.jobs.map SchedJob.num }

/-! ## Presses at a cut (R62, R390) -/

/-- A pending configuration whose press frame is n, or that has none, is pressed, in ACTIVE only where the peer has the
same one pending (R390); on a member that follows, where the active member's cut record says so. The answer says
whether it was. -/
def State.pressAt (n : Nat) (peer : Option CutRecord) (follows : Bool) (s : State) : Bool × State :=
  match s.stage.pending with
  | none => (false, s)
  | some p =>
    if follows then (if peer.any fun r => r.press = some n then (true, s.pressPending p n) else (false, s))
    else if !(p.frame.all fun f => f = n) then (false, s)
    else if s.pair.st = .active ∧ s.pair.peerPending ≠ s.pendingDigest then
      (false, ({ s with stage := { s.stage with pending := some { p with frame := some n } } } : State).raiseFrame Ev.pressMissed 0 0 n)
    else (true, s.pressPending p n)

/-! ## After an activation pause (R470) -/

/-- What the first cut after a pause applies for a skipped frame: its commands, steps 1 to 3 of R155 and the phase
advance of R168. -/
def State.applySkipped (n : Nat) (s : State) : State :=
  if !s.showRuns then s
  else
    let s := s.takeCommands n
    if s.gl.show_ = .safeHold ∨ !s.showRuns then s
    else
      (s.stepPlaybacks n false).cutEffects n

/-- The skipped frames that no cut has applied yet. -/
def State.unapplied (s : State) : List Nat := s.upd.skipped.filter fun k => s.gl.frame.all fun f => f < k

/-- A frame is skipped: its cut falls in an activation pause; a show that has not begun begins one frame later (R470). -/
def State.skipFrame (n : Nat) (s : State) : State :=
  if s.showRuns then { s with upd := { s.upd with skipped := s.upd.skipped ++ [n] } }
  else { s with gl := { s.gl with firstCut := s.gl.firstCut.map fun _ => n + 1 } }

/-! ## The course of a cut -/

/-- The show begins with frame n (R56, R89): commands of earlier frames have passed, and the flows start afresh. -/
def State.beginShow (n : Nat) (s : State) : State :=
  let s := { s with
    gl := { s.gl with show_ := .running, firstCut := none }
    flow := Tab.mapV s.flow fun _ (x : Flow) => { x with
      next := none, ended := none, ready := [], dropped := [], restart := x.restart.map fun _ => n }
    tk := { s.tk with units := Tab.mapV s.tk.units fun _ u => u.fromFrame (s.cfg.frameFrom (s.tk.counter - signed 32 u.latched.offsetNs * 65536).toNat) }
    upd := { s.upd with skipped := [] } }
  s.dropPassed n

/-- The frame is the most recent cut (R43), and frames long launched are skipped no more. -/
def State.nameCut (n : Nat) (s : State) : State :=
  { s with
    gl := { s.gl with frame := some n, lastCut := n }
    upd := { s.upd with skipped := s.upd.skipped.filter fun k => n < k + 8 } }

/-- The freeze of frame n for a show that runs, with its cut record: in SAFE_HOLD nothing is frozen anew. A fetch for it
that is not complete is late in either case (R222). -/
def State.freezeOrHold (n : Nat) (first : Bool) (rx : Tab Rx) (video : Tab Video) (peer : Option CutRecord) (s : State) : State :=
  let s := s.cutFetches n
  let s := if s.gl.show_ = .safeHold then s.holdFrame n else s.freezeFrame n first rx video peer
  ((s.openFlows n).ageClaims).nameApplied n

/-- A member sends its heartbeat with its record, and keeps the digest of the record that it used (R389). -/
def State.beat (n : Nat) (send : Bool) (used : CutRecord) (s : State) : State :=
  if s.pair.st = .unpaired then s
  else
    let s := if send then s.sendHeartbeat n used else s
    { s with pair := { s.pair with inDigest := (cutDigest used, s.pair.inDigest.1) } }

/-- A handover or reversion fixed to frame n is carried out (R397, R398). -/
def State.settleHandover (n : Nat) (s : State) : State :=
  match s.pair.handover with
  | none => s
  | some (h, rev) =>
    let cause := if rev then DutyCause.reversion else .handover
    if n < h then s
    else match s.pair.st with
      | .active => s.loseDuty .standby cause n
      | .standby => s.gainDuty .active cause n
      | _ => s.abandonHandover

/-- The cut of frame n; `follows` says that the member takes its inputs and its press from the active member's record.
The jobs of its slot become ready at its end (R249). -/
def State.makeCut (n : Nat) (rx : Tab Rx) (video : Tab Video) (peer : Option CutRecord) (follows : Bool) (s : State) : State :=
  let first := !s.showRuns
  let s := (if first then s.beginShow n else s).openSlot
  let (pressed, s) := s.pressAt n peer follows
  let (rx, video) := if pressed then (s.rx, s.video) else (rx, video)
  let s := ((s.nameCut n).unmute).takeCommands n
  let s := s.freezeOrHold n first rx video peer
  let used := peer.getD (s.cutRecord rx (if pressed then some n else none))
  ((s.beat n (!follows) used).settleHandover n).startReady

/-- The course of a cut (R50, R51): what skipped frames left, and the frame, unless a command due stops the show. -/
def State.runCut (n : Nat) (rx : Tab Rx) (video : Tab Video) (peer : Option CutRecord) (follows : Bool) (s : State) : State :=
  let ran := s.showRuns
  let s := s.repairAll
  let s := s.unapplied.foldl (fun (s : State) k => s.applySkipped k) s
  if s.stopsAt n then (s.takeCommands n).openSlot.startReady
  else if ran && !s.showRuns then s.openSlot.startReady
  else s.makeCut n rx video peer follows

end Sys2Proof.Machine
end

