-- ==== Sys2Proof/Machine/Pair.lean ====
section
/-! DEFINITION. CUT, and the events of a pair (R384-R401): heartbeats and their loss, mirrors, sync transfers, the start
and the change of a duty. -/

namespace Sys2Proof.Machine

/-! ## Carried state (R392) -/

/-- The class of a carried fade. -/
def FadeClass.code : FadeClass → Nat
  | .rise => 0
  | .fall => 1
  | .ltp => 2
  | .release => 3

/-- A fade as it is carried. -/
def Fade.carried (f : Fade) : Nat × Nat × Nat × Bool := (f.start, f.target, f.cls.code, f.snapped)

/-- A carried fade taken over. -/
def syncFade (f : Nat × Nat × Nat × Bool) : Fade :=
  let cls := match f.2.2.1 with
    | 0 => FadeClass.rise
    | 1 => FadeClass.fall
    | 2 => FadeClass.ltp
    | _ => FadeClass.release
  { start := f.1, target := f.2.1, cls, snapped := f.2.2.2 }

/-- The times of a carried step taken over. -/
def syncTimes (l : List Nat) : StepTimes :=
  { frames := l.getD 0 0 = 1, curve := l.getD 1 0, table := l.getD 2 0, snapEnd := l.getD 3 0 = 1
    inTime := l.getD 4 0, outTime := l.getD 5 0, ltpTime := l.getD 6 0
    inDelay := l.getD 7 0, outDelay := l.getD 8 0, ltpDelay := l.getD 9 0 }

/-- The times of a step as they are carried. -/
def StepTimes.carried (t : StepTimes) : List Nat :=
  [flag t.frames 0, t.curve, t.table, flag t.snapEnd 0, t.inTime, t.outTime, t.ltpTime, t.inDelay, t.outDelay, t.ltpDelay]

/-- A playback as it is carried. -/
def Playback.carried (n : Nat) (p : Playback) : SyncPlayback :=
  { number := n, cue := p.cue, cues := p.cues.map fun e => (e.1, e.2.header, e.2.entries)
    held := p.held.map fun (e : Nat × Held) =>
      { address := e.1, value := e.2.v, key := e.2.key, leaving := e.2.leaving, fade := e.2.fade.map Fade.carried }
    tclk := p.tclk, fclk := p.fclk, rate := p.rate, level := p.level, stepFrame := p.stepFrame, st := p.st, sf := p.sf
    times := p.times.carried, follow := p.follow.map fun f => (f.frames, f.wait)
    release := p.release, progress := p.progress }

/-- A carried playback taken over. -/
def syncPlayback (p : SyncPlayback) : Playback :=
  { cue := p.cue
    cues := p.cues.foldl (fun t e => Tab.put t e.1 ({ header := e.2.1, entries := e.2.2 } : Cue)) []
    held := p.held.foldl (fun t h => Tab.put t h.address
      ({ v := h.value, key := h.key, fade := h.fade.map syncFade, leaving := h.leaving } : Held)) []
    tclk := p.tclk, fclk := p.fclk, rate := p.rate, level := p.level, stepFrame := p.stepFrame, st := p.st, sf := p.sf
    times := syncTimes p.times, follow := p.follow.map fun f => { frames := f.1, wait := f.2 }
    release := p.release, progress := p.progress }

/-- A generator as it is carried. -/
def Gen.carried (n : Nat) (g : Gen) : SyncGen :=
  { number := n, running := g.running, phi := g.phi, rate := g.rate, size := g.size, ramp := g.ramp, offset := g.offset
    startFrame := g.startFrame }

/-- A carried generator taken over. -/
def syncGen (g : SyncGen) : Gen :=
  { running := g.running, phi := g.phi, rate := g.rate, size := g.size, ramp := g.ramp, offset := g.offset, startFrame := g.startFrame }

/-- A value as it is carried. -/
def Valued.carried (k : Nat) (v : Valued) : Nat × Nat × Nat × Nat := (k, v.value, v.pri, v.frame)

/-- A flow as it is carried (R320, R325). -/
def Flow.carried (n : Nat) (x : Flow) : SyncFlow :=
  { number := n, ixSeq := x.ixSeq, seqs := x.seqs, syncs := x.syncs, next := x.next
    switches := x.switches.map fun w => (w.frame, w.enable, w.terminate, w.reset) }

/-- A carried flow taken over. -/
def Flow.takeOver (p : SyncFlow) (x : Flow) : Flow :=
  { x with
    ixSeq := p.ixSeq, seqs := p.seqs.foldl (fun t q => Tab.put t q.1 q.2) [], syncs := p.syncs.foldl (fun t q => Tab.put t q.1 q.2) []
    switches := p.switches.map fun w => { frame := w.1, enable := w.2.1, terminate := w.2.2.1, reset := w.2.2.2 } }

/-- The numbers of an sACN flow that is taken over stand as at the frame that this member issues next: they advance for the
frames that the active member has still to issue, and its issued ones are not issued again (R325). -/
def State.syncNumbers (p : SyncFlow) (s : State) : State :=
  match s.cfg.get .flow p.number, s.cfg.get .sacnFlow p.number, p.next with
  | some f, some d, some b =>
    let own := (s.flowOf p.number).next.getD b
    if flKind f ≠ 0 then s
    else (((List.range (own - b)).filter fun i => !s.mutedAt p.number (b + i)).foldl (fun (s : State) _ =>
        s.updFlow p.number fun x => x.advanceSeqs d ((saUniverses d).map (nextSeq x.seqs))) s).updFlow p.number fun x =>
      { x with next := x.next.map (max b) }
  | _, _, _ => s

/-- What a joining member takes over, as it stands at a cut: parameters, playbacks, generators, calibration sets, flows, trim
values, and the values in force of canvases and layers (R325, R392). -/
def State.carried (s : State) (frame : Nat) : SyncPart :=
  { frame
    outs := s.par.tab.map fun e => (e.1, e.2.out)
    live := s.par.tab.filterMap fun (e : Nat × Par) => e.2.live.map (Valued.carried e.1)
    received := s.par.tab.filterMap fun (e : Nat × Par) => e.2.rx.map (Valued.carried e.1)
    pbs := s.pb.map fun (e : Nat × Playback) => e.2.carried e.1
    gens := s.gen.map fun (e : Nat × Gen) => e.2.carried e.1
    calSets := s.col.sets
    flows := s.flow.map fun (e : Nat × Flow) => e.2.carried e.1
    trims := s.col.trim.map fun (e : Nat × Trim) => (e.1, e.2.du, e.2.dv, e.2.g, e.2.frozen)
    canvases := s.canvas.map fun (e : Nat × Canvas) => (e.1, e.2.bg)
    layers := s.layer.map fun (e : Nat × Layer) => (e.1, e.2.force.words)
    palettes := s.layer.map fun (e : Nat × Layer) => (e.1, e.2.pal)
    permille := 1000, last := true }

/-! ## Following the active member (R390) -/

/-- The member follows another member's cuts (R390, R392). -/
def State.follows (s : State) : Bool := s.pair.st = .standby || s.pair.st = .syncing

/-- The member makes its own cut of frame n: it sends its heartbeat, and keeps its received inputs until the heartbeat
of the active member is decided (R389, R390). -/
def State.followCut (n : Nat) (s : State) : State :=
  let s := s.sendHeartbeat n (s.cutRecord s.rx none)
  { s with pair := { s.pair with awaits := some n, cutRx := s.rx, cutVideo := s.video } }

/-- A frame up to the named cut of the carried state is rendered from that state (R392). -/
def State.renderCarried (n : Nat) (s : State) : State :=
  let s := s.openSlot.nameCut n
  match s.force with
  | none => s
  | some force => (s.startJobs { frame := n, force, bodies := s.encodeAll n, wits := s.witnessAll n, left := force.sched.jobs.map SchedJob.num }).startReady

/-- The cut of frame n is decided, from the active member's record or, provisionally, from the member's own inputs
(R390). -/
def State.decideCut (n : Nat) (peer : Option CutRecord) (s : State) : State :=
  let rx := s.pair.cutRx
  let video := s.pair.cutVideo
  let s := { s with pair := { s.pair with awaits := none, cutRx := [], cutVideo := [], provisional := peer.isNone } }
  if s.pair.syncFrom.any fun f => n ≤ f then s.renderCarried n else s.runCut n rx video peer true

/-! ## Misses (R393-R395) -/

/-- The member takes the duty at this instant (R394): the takeover frame is the one after frame n. -/
def State.takeOver (n : Nat) (s : State) : State :=
  let unsynced := decide (s.pair.st = .syncing)
  let s := { s with pair := { s.pair with unsynced } }
  (s.abandonHandover.gainDuty .solo .takeover (n + 1)).raiseFrame Ev.pairTakeover 0 (flag unsynced 0) (n + 1)

/-- The heartbeat of frame n is missed: late with outcome 1, or missing with outcome 2 (R393). -/
def State.missHeartbeat (n outcome : Nat) (s : State) : State :=
  let p := s.pair
  let s := { s with pair := { p with
    misses := p.misses + 1, hbFrame := some n, hbOutcome := outcome, holdSince := none
    hbLate := if outcome = 1 then satInc p.hbLate else p.hbLate
    hbMissed := if outcome = 2 then satInc p.hbMissed else p.hbMissed
    missing := if outcome = 2 then (n :: p.missing).take 8 else p.missing } }
  if s.follows then (if s.pair.misses ≥ 2 then s.takeOver n else s).decideCut n none
  else if s.pair.st = .active ∧ s.pair.misses ≥ 2 then
    let s := s.enterSolo
    ({ s with pair := { s.pair with byLoss := true } } : State).raise Ev.pairLost 0 0
  else s

/-- The frame whose heartbeat the member still waits for. -/
def State.awaited (s : State) : Option Nat :=
  if s.follows then s.pair.awaits
  else if s.pair.st = .active ∧ s.gl.device ≠ .updatePause then s.gl.frame.filter fun n => s.pair.hbFrame.all fun f => f < n
  else none

/-- HEARTBEAT_TIMEOUT: the heartbeat of the member's last cut has not arrived by its timeout (R393). -/
def execHeartbeatTimeout (s : State) : Outcome :=
  match s.pairNow, s.awaited with
  | some (d, _), some n => .next ((s.advanceTo (s.cfg.cutInstant n + usT (pdTimeout d))).missHeartbeat n 2)
  | _, _ => .next s

/-! ## CUT -/

/-- An own cut of a member that follows, whose heartbeat has not come, is decided before the next one (R390, R393). -/
def State.decideLast (s : State) : State :=
  match s.pair.awaits, s.pairNow with
  | some m, some (d, _) =>
    if s.follows then (s.advanceTo (s.cfg.cutInstant m + usT (pdTimeout d))).missHeartbeat m 2 else s
  | _, _ => s

/-- CUT: the cut of the next frame, at its instant (R47, R50). In an activation pause the frame is skipped, and an
activation or fallback that is due begins its pause (R470). -/
def execCut (s : State) : Outcome :=
  let s := s.decideLast
  match s.nextCut with
  | none => .next s
  | some n =>
    let s := s.advanceTo (s.cfg.cutInstant n)
    if s.gl.device = .updatePause then .next (s.openSlot.startReady.skipFrame n)
    else if s.upd.activate.isSome then .next (s.beginPause.openSlot.startReady.skipFrame n)
    else .next (if s.follows then s.followCut n else s.runCut n s.rx s.video none false)

/-! ## Heartbeats that win (R389-R392, R398-R401) -/

/-- What every heartbeat used leaves: the peer's state, claim and pending digest, and a change of its maintenance flag
(R390, R399, R402). -/
def State.notePeer (b : Heartbeat) (s : State) : State :=
  let p := s.pair
  { s with pair := { p with
    peerState := some b.state, peerClaim := b.claim, peerPending := b.pendingDig, misses := 0
    hbFrame := some b.frame, hbOutcome := 0
    maintenance := if b.maintenance ≠ p.peerMaint then b.maintenance else p.maintenance, peerMaint := b.maintenance } }

/-- The member enters SYNCING: what it knows of a transfer and of the peer's outputs is void (R391, R392). -/
def State.beginSync (s : State) : State :=
  { s with pair := { s.pair with st := .syncing, permille := 0, syncFrom := none, peerOuts := [], holdSince := none } }

/-- The member begins to join (R392): a show that the peer runs is followed from the next frame on, and what an earlier pair
mirrored is void. -/
def State.join (b : Heartbeat) (s : State) : State :=
  let runs := 2 ≤ b.showState && b.showState ≤ 4
  let s := s.beginSync
  { s with
    rt := { queue := s.rt.queue.filter fun q => q.seq.isNone }
    pair := { s.pair with misses := 0, awaits := none, byLoss := false, joined := true }
    gl := { s.gl with firstCut := if runs && s.gl.show_ = .configured then some (b.frame + 1) else s.gl.firstCut } }

/-- The commands that wait for frames after the named cut are mirrored to a peer that joins (R387, R392). -/
def State.mirrorWaiting (s : State) : State :=
  let (l, k) := s.rt.queue.foldl (fun (a : List Queued × Nat) q => match q.seq with
    | some _ => (a.1 ++ [q], a.2)
    | none => (a.1 ++ [{ q with seq := some (a.2 + 1) }], a.2 + 1)) ([], s.pair.mirrorSeq)
  l.foldl (fun (s : State) q => s.emit (.pairLink "mirror" [q.seq.getD 0, q.op, q.at_.getD 0, q.order, flag q.frame.isSome 0] q.req.payload))
    { s with rt := { queue := l }, pair := { s.pair with mirrorSeq := k } }

/-- The carried state goes out to a peer that has begun to join, as it stands at the member's last cut, and the commands that
wait follow it (R392). -/
def State.sendCarried (s : State) : State :=
  match s.pairNow with
  | some (_, lane) =>
    if (s.laneOf lane).link then
      (({ s with pair := { s.pair with permille := 1000 } } : State).emit (.syncTransfer (s.carried s.frameNow))).mirrorWaiting
    else s
  | none => s

/-- The output digest of a heartbeat is kept until this member has encoded the frame (R391). -/
def State.keepPeerOut (b : Heartbeat) (s : State) : State :=
  { s with pair := { s.pair with
    peerOuts := (Tab.put s.pair.peerOuts b.outputFrame b.outputDig).filter fun e => s.frameNow < e.1 + 8 } }

/-- The output digests that have been compared are dropped. -/
def State.dropCompared (s : State) : State :=
  { s with pair := { s.pair with peerOuts := s.pair.peerOuts.filter fun e => (s.outputDigest e.1).isNone } }

/-- The member's state and the active member's have diverged (R391). `inputs` says that the input digests of a frame
that was cut provisionally differ. -/
def State.diverged (s : State) (b : Heartbeat) (inputs : Bool) : Bool :=
  inputs || b.configDig ≠ s.cfg.digest || s.pair.peerOuts.any fun e => (s.outputDigest e.1).any fun d => d ≠ e.2

/-- A frame that was rendered from the carried state has the active member's output digest (R392). -/
def State.matched (s : State) : Bool :=
  s.pair.peerOuts.any fun e => (s.pair.syncFrom.any fun f => f ≤ e.1) && decide (s.outputDigest e.1 = some e.2)

/-- A member in STANDBY or SYNCING compares digests after a heartbeat that won (R391, R392, R398). -/
def State.compareDigests (b : Heartbeat) (inputs : Bool) (s : State) : State :=
  match s.pair.st with
  | .standby =>
    if s.diverged b inputs then s.beginSync.abandonHandover.raise Ev.pairDiverged 0 0
    else { s with pair := { s.pair with holdSince := s.pair.holdSince.or (some s.now) } }
  | .syncing =>
    if b.configDig = s.cfg.digest ∧ s.matched then
      ({ s with pair := { s.pair with st := .standby, unsynced := false, holdSince := some s.now } } : State).raise Ev.pairSynced 0 0
    else s
  | _ => s

/-- The show state follows the active member's, where the commands due do not lead to it (R388). -/
def State.followShow (b : Heartbeat) (s : State) : State :=
  let next := match b.showState with
    | 2 => some ShowState.running
    | 3 => some .armed
    | 4 => some .safeHold
    | _ => none
  match next with
  | none => s
  | some st => if !s.showRuns ∨ s.showAfter b.frame = st then s else if st = .safeHold then s.enterHold else { s with gl := { s.gl with show_ := st } }

/-- The heartbeat of the frame that the member cut last, or cuts now, decides that cut (R390). -/
def State.useHeartbeat (b : Heartbeat) (s : State) : State :=
  let s := if s.pair.awaits.isNone && s.nextCut = some b.frame then
      (s.advanceTo (s.cfg.cutInstant b.frame)).followCut b.frame else s
  if s.pair.awaits ≠ some b.frame then s
  else
    let inputs := s.pair.provisional && b.inputDig ≠ s.inputDigest
    ((((((s.notePeer b).followShow b).decideCut b.frame (some b.record)).followShow b).keepPeerOut b).compareDigests b inputs).dropCompared

/-- A partition has healed with both members in SOLO: the one with the earlier GAIN_TIME, or the lower unit id, joins
(R400). -/
def State.heal (d : Bytes) (b : Heartbeat) (s : State) : State :=
  if s.pair.gainTime < b.gainTime ∨ (s.pair.gainTime = b.gainTime ∧ pdUnit d < b.unitId) then
    (s.loseDuty .syncing .yield (s.nextCut.getD b.frame)).join b
  else s

/-- The member takes the duty at its start, or with its peer waiting too (R401). -/
def State.firstDuty (s : State) : State :=
  { s with pair := { s.pair with st := .solo, raised := [], gainTime := s.tk.counter, byTakeover := false, byLoss := false, misses := 0 } }

/-- A member that has the duty hears its peer (R397-R401): the codes are those of R401. -/
def State.hearAsActive (d : Bytes) (b : Heartbeat) (s : State) : State :=
  let s := if b.state = 2 ∧ s.pair.peerState ≠ some 2 then s.sendCarried else s
  let s := (s.notePeer b).keepPeerOut b
  match s.pair.st, b.state with
  | .active, 3 =>
    ({ s with pair := { s.pair with holdSince := if s.diverged b false then none else s.pair.holdSince.or (some s.now) } } : State).dropCompared
  | .active, _ => s.enterSolo
  | .solo, 3 => { s with pair := { s.pair with st := .active, byLoss := false, joined := true } }
  | .solo, 5 => s.heal d b
  | _, _ => s

/-- A member that waits or is isolated hears its peer (R401). -/
def State.hearWaiting (b : Heartbeat) (s : State) : State :=
  let s := s.notePeer b
  match s.pair.st, b.state with
  | .waiting, 1 => if s.primary then s.firstDuty else s
  | .waiting, 4 => s.join b
  | .waiting, 5 => s.join b
  | .waiting, 6 => s.join b
  | .isolated, 4 => s.join b
  | .isolated, 5 => s.join b
  | _, _ => s

/-- A heartbeat whose timeout has already won is discarded and counted as late; its miss counted then, and HB_MISSED, which
counted it as missing meanwhile, does so no more (R31, R393; log entry 219). -/
def State.discardHeartbeat (b : Heartbeat) (s : State) : State :=
  let p := s.pair
  { s with pair := { p with
    hbLate := satInc p.hbLate, hbOutcome := if p.hbFrame = some b.frame then 1 else p.hbOutcome
    hbMissed := if p.missing.contains b.frame then p.hbMissed - 1 else p.hbMissed
    missing := p.missing.filter fun k => k ≠ b.frame } }

/-- A heartbeat that the pair link brings (R389-R393): one of a wrong unit id is discarded with PAIR_FAULT, and one that loses
against its timeout counts as a miss. None is used in an activation pause, in which no cut is made (R470; log entry 254). -/
def State.hear (d : Bytes) (b : Heartbeat) (s : State) : State :=
  if b.unitId ≠ pdPeer d then s.raise Ev.pairFault 0 b.unitId
  else if s.gl.device = .updatePause then s
  else if !b.inTime ∧ s.awaited = some b.frame then
    (s.advanceTo (s.cfg.cutInstant b.frame + usT (pdTimeout d))).missHeartbeat b.frame 1
  else if !b.inTime ∨ b.frame ∈ s.pair.missing then s.discardHeartbeat b
  else if s.follows then s.useHeartbeat b
  else if s.pairActive then s.hearAsActive d b
  else s.hearWaiting b

/-- HEARTBEAT_RX (R22, R389-R393). -/
def execHeartbeatRx (b : Heartbeat) (s : State) : Outcome :=
  .next (s.receivePair b.rx fun s => match s.pairNow with
    | none => s
    | some (d, _) => s.hear d b)

/-! ## Mirrors and sync transfers (R387, R392) -/

/-- A mirrored command as the standby keeps it: under its mirror sequence number, in the active member's order of acceptance,
and in the active member's queue. -/
def mirrorQueued (m : Mirror) : Queued :=
  { op := m.opcode, req := m.req, frame := if m.timed then some m.frame else none, seq := some m.seq, fixed := some m.frame, order := m.order }

/-- A mirrored command is kept for its frame, once (R387, R392). -/
def State.keepMirror (m : Mirror) (s : State) : State :=
  let s := { s with
    pair := { s.pair with mirrorSeq := max s.pair.mirrorSeq m.seq }, hq := { s.hq with accepted := max s.hq.accepted (m.order + 1) } }
  if m.opcode = 0x0206 then
    { s with gl := { s.gl with firstCut := if s.gl.show_ = .configured then some m.frame else s.gl.firstCut } }
  else ({ s with rt := { queue := s.rt.queue.filter fun q => q.seq ≠ some m.seq } } : State).enqueue (mirrorQueued m)

/-- MIRROR_RX: a member that follows keeps the command for its frame, and acknowledges it (R387). -/
def execMirrorRx (m : Mirror) (s : State) : Outcome :=
  .next (s.receivePair m.rx fun s => if !s.follows then s else (s.keepMirror m).toPeer "mirror ack" [m.seq] [])

/-- MIRROR_ACK_RX: the reply of the mirrored command goes out (R387). -/
def execMirrorAckRx (ack : MirrorAck) (s : State) : Outcome :=
  .next (s.receivePair ack.rx fun s =>
    ({ s with pair := { s.pair with mirrorAck := max s.pair.mirrorAck ack.seq } } : State).releaseMirrors fun k => k = ack.seq)

/-- The parameter values of a part are taken over; a received value that this member froze later stays. -/
def State.syncParams (p : SyncPart) (s : State) : State :=
  let s := p.outs.foldl (fun (s : State) e => s.updPar e.1 fun q => { q with out := e.2, prev := e.2 }) s
  let s := p.live.foldl (fun (s : State) e => s.updPar e.1 fun q => { q with live := some { value := e.2.1, pri := e.2.2.1, frame := e.2.2.2 } }) s
  p.received.foldl (fun (s : State) e => s.updPar e.1 fun q =>
    if q.rx.any fun v => e.2.2.2 < v.frame then q
    else { q with rx := some { value := e.2.1, pri := e.2.2.1, frame := e.2.2.2 }, rxHere := true }) s

/-- The playbacks, generators, calibration sets, flows, trims and canvas values of a part are taken over (R325, R392). -/
def State.syncObjects (p : SyncPart) (s : State) : State :=
  let s := p.pbs.foldl (fun (s : State) b => s.updPb b.number fun _ _ => syncPlayback b) s
  let s := p.gens.foldl (fun (s : State) g => s.updGen g.number fun _ => syncGen g) s
  let s := p.flows.foldl (fun (s : State) e => (s.updFlow e.number fun x => x.takeOver e).syncNumbers e) s
  let before := s.bufsInUse
  let s := p.canvases.foldl (fun (s : State) e => s.updCanvas e.1 fun x => { x with bg := e.2 }) s
  let s := p.layers.foldl (fun (s : State) e => s.updLayer e.1 fun x => { x with force := LayerRegs.ofWords e.2 }) s
  let s := (p.palettes.foldl (fun (s : State) e => s.updLayer e.1 fun x => { x with pal := e.2 }) s).retire before
  { s with col := { s.col with
    sets := p.calSets.foldl (fun t e => Tab.put t e.1 e.2) s.col.sets
    trim := p.trims.foldl (fun t e => Tab.put t e.1
      { Tab.getD t e.1 {} with du := e.2.1, dv := e.2.2.1, g := e.2.2.2.1, frozen := e.2.2.2.2 }) s.col.trim } }

/-- What the carried state of an earlier cut becomes at a frame that this member has cut since: the commands of the frame and
the stages of its evaluation (R392). -/
def State.replay (n : Nat) (s : State) : State :=
  let s := s.takeCommands n
  if s.gl.show_ = .safeHold ∨ !s.showRuns then s else ((s.cutPlaybacks n false).cutEffects n).cutParams

/-- A frame that this member has cut is rendered again, from the state taken over (R392). -/
def State.renderAgain (n : Nat) (s : State) : State :=
  s.updFrame n fun f => if f.held then f else { f with bodies := s.encodeAll n, wits := s.witnessAll n }

/-- The carried state is complete as it stands at the cut of frame n: the member renders from that frame on, with the commands
mirrored for the frames after it (R392). -/
def State.renderFrom (n : Nat) (s : State) : State :=
  let s := { s with
    rt := { queue := s.rt.queue.filter fun q => !(q.seq.isSome && q.due n) }
    pair := { s.pair with syncFrom := some n, permille := 1000 } }
  let last := s.gl.frame.getD n
  if last < n then s
  else (List.range (last - n)).foldl (fun (s : State) i => (s.replay (n + 1 + i)).renderAgain (n + 1 + i)) (s.renderAgain n)

/-- SYNC_TRANSFER_RX: a joining member takes over a part of the carried state, and renders from its named cut (R392). -/
def execSyncTransferRx (frame : SyncFrame) (s : State) : Outcome :=
  .next (s.receivePair frame.rx fun s =>
    if s.pair.st ≠ .syncing then s
    else
      let s := (s.syncParams frame.part).syncObjects frame.part
      if frame.part.last then s.renderFrom frame.part.frame
      else { s with pair := { s.pair with permille := min 1000 frame.part.permille } })

/-! ## Start, reversion and sentinel (R396, R398, R401) -/

/-- JOIN_WAIT_EXPIRE: no peer heartbeat for JOIN_WAIT_MS (R401). -/
def execJoinWaitExpire (s : State) : Outcome :=
  match s.pairNow with
  | none => .next s
  | some (d, _) =>
    if s.pair.st ≠ .waiting then .next s
    else .next (s.advanceNow (s.pair.waitSince + msT (pdJoin d))).firstDuty

/-- PAIR_HANDOVER is fixed to a frame already (R400). -/
def State.handoverFixed (s : State) (n : Nat) : Bool := s.rt.queue.any fun q => q.op = 0x0A04 && q.frame.all fun f => f = n

/-- REVERSION (R398, R400): after HOLD_OFF_S of heartbeats that won and matched, the primary in STANDBY takes the duty back
at the next cut, at which the secondary in ACTIVE gives it up. It is not carried out where a PAIR_HANDOVER is fixed to that
frame. -/
def execReversion (s : State) : Outcome :=
  match s.pairNow, s.nextCut with
  | some (d, _), some n =>
    let turn := (s.pair.st = .standby ∧ s.primary) ∨ (s.pair.st = .active ∧ !s.primary)
    match pdHold d, s.pair.holdSince with
    | some hold, some t =>
      if !turn ∨ s.pair.maintenance ∨ s.handoverFixed n ∨ s.pair.handover.isSome then .next s
      else
        let s := s.advanceNow (t + secT hold)
        .next { s with pair := { s.pair with handover := some (n, true) } }
    | _, _ => .next s
  | _, _ => .next s

/-- SENTINEL_RX: a packet of the sentinel universe from the other member tells a member in SOLO that both are active, and
it yields where R396 says so. -/
def execSentinelRx (rx : LaneFrame) (cid : Bytes) (ownMac : Bool) (s : State) : Outcome :=
  .next (s.receive rx.lane rx.frame fun s => match s.pairNow with
    | none => s
    | some (d, _) =>
      if s.pair.st ≠ .solo ∨ pdSentinel d = 0 ∨ pdSentinelLane d ≠ rx.lane ∨ cid ≠ s.cid ∨ ownMac then s
      else if s.pair.byTakeover ∨ !(s.pair.byLoss || (!s.primary && !s.pair.joined)) then s
      else (s.loseDuty .isolated .yield (s.nextCut.getD s.frameNow)).raise Ev.pairDualActive 0 0)

end Sys2Proof.Machine
end

