-- ==== Sys2Proof/Machine/Startup.lean ====
section
/-! DEFINITION. Boot (R384, R458-R462, R534), the start of a show after it (R477), the end of an activation pause
(R470-R473), and SERVICE, DEVICE_RESET, ECHO and LOOPBACK (R519, R520). -/

namespace Sys2Proof.Machine

/-- The code of a fallback's cause (R460, R473). -/
def FallbackCause.code : FallbackCause → Nat
  | .timeout => 0
  | .coreStall => 1
  | .reset => 2
  | .badSlot => 3

/-! ## Boot -/

/-- The level of an I/O bank by its reading, 0 where it lies in neither range (R534). -/
def bankLevel (mv : Nat) : Nat :=
  if 1620 ≤ mv ∧ mv ≤ 1980 then 1800 else if 2970 ≤ mv ∧ mv ≤ 3630 then 3300 else 0

/-- The slot that boots, with the boot record and the cause of a change, or recovery (R460, R462). -/
def State.selectSlot (s : State) (recovery : Bool) : Option (BootRecord × Option FallbackCause) :=
  let r := s.bootRecord
  let r1 := if r.trial then { r with active := r.previous, trial := false, cause := some .reset } else r
  let c1 := if r.trial then some FallbackCause.reset else none
  if recovery then none
  else if s.passes r1.active then some (r1, c1)
  else if s.passes (!r1.active) then some ({ r1 with active := !r1.active, cause := some .badSlot }, some .badSlot)
  else none

/-- The boot record is read: the claim epoch is incremented (R384). -/
def State.bumpEpoch (s : State) : State :=
  ({ s with nv := { s.nv with epoch := min 0xFFFF (s.nv.epoch + 1) } } : State).count 0x0000

/-- Straps, bank levels, the personality and the format of the core regulator are read (R458, R459, R485, R534). -/
def State.readStraps (i : BootInputs) (s : State) : State :=
  { s with
    boot := { s.boot with
      strap0 := i.strap0, strap1 := i.strap1, strap2 := i.strap2, hold := false, supplyLost := false
      banks := (List.range 5).map fun b => bankLevel (i.banks.getD b 0), pers := s.nv.flash.personality }
    mon := { s.mon with voutMode := i.voutMode } }

/-- The calibration sets saved in CALSTORE are loaded (R476), and LTC and FSYNC listen where the personality says so
(R307, R458). -/
def State.loadSaved (s : State) : State :=
  let flags := u16 s.personality 6
  let on := fun (b : Bool) (v : Servo) => if b then { v with st := SrcState.listening } else v
  let sets := ((newerSaved s.nv.calA s.nv.calB).map fun c => c.recs.foldl (fun t r => Tab.put t r.num r.data) []).getD []
  { s with
    col := { s.col with sets }
    tk := { s.tk with
      ltc := { s.tk.ltc with servo := on (bit flags 1) s.tk.ltc.servo }
      fsync := { s.tk.fsync with servo := on (bit flags 2) s.tk.fsync.servo } } }

/-- What boot raises once the device state has left BOOT: bad banks, a bad personality, a change of slot, and records of
the backup island (R423, R431, R458, R460, R534). -/
def State.bootEvents (cause : Option FallbackCause) (i : BootInputs) (s : State) : State :=
  let s := (List.range 5).foldl (fun (s : State) b =>
    if s.boot.banks.getD b 0 = 0 then s.checkVolt (16 + b) (i.banks.getD b 0) else s) s
  let s := if s.boot.pers.isNone then s.raise Ev.personalityBad 0 0 else s
  let s := match cause with
    | some c => (if c = FallbackCause.reset then s.count 0x0005 else s).raise Ev.updateFallback 0 c.code
    | none => s
  let s := s.moveTampers
  if s.nv.nightAdded then ({ s with nv := { s.nv with nightAdded := false } } : State).raise Ev.nightActivity 0 0 else s

/-- The ring pairs whose ENABLE is set come into service (R95). -/
def State.startRings (s : State) : State :=
  (List.range 64).foldl (fun (s : State) n => if (s.ring n).enable then s.setRing n { s.ring n with running := true } else s) s

/-- The firmware starts from the selected slot, or the recovery loader (R460-R462). -/
def State.startCores (x : Option (BootRecord × Option FallbackCause)) (s : State) : State :=
  let s := ({ s.startRings with nw := { s.nw with started := true } } : State).drive 4 (.uart0 "niwin>" [])
  match x with
  | none => { s with gl := { s.gl with device := .service }, boot := { s.boot with recovery := true } }
  | some (r, _) => { s with
      gl := { s.gl with device := .operational }, nv := s.nv.putBoot r, boot := { s.boot with running := r.active } }

/-- BOOT (R461): the release of reset, unless the thermal hold keeps the device in it (R483). -/
def execBoot (inputs : BootInputs) (s : State) : Outcome :=
  if s.gl.device ≠ .boot ∨ s.boot.thermal then .next s
  else
    let s := (s.readStraps inputs).sendVcore.bumpEpoch
    let x := s.selectSlot inputs.strap0
    let s := (s.startCores x).loadSaved
    .next (s.bootEvents (x.bind Prod.snd) inputs)

/-! ## AUTOLOAD and AUTO_START (R477) -/

/-- The session of AUTOLOAD takes the staging area, loads the newer saved configuration and admits it, with the refusals of
BASTE_BEGIN, CONFIG_LOAD and ADMIT (R58, R60, R476, R477): the admission id, and the state. -/
def State.loadOwn (session : Nat) (s : State) : Chk? (Nat × State) := do
  need s.stage.pending.isNone Status.pressPending 0
  need s.stage.holder.isNone Status.busy (s.stage.holder.getD 0)
  match newerSaved s.nv.configA s.nv.configB with
  | none => .error ⟨Status.badReference, 0⟩
  | some c =>
    ({ s with stage := { s.stage with holder := some session, area := s.withSets { recs := c.recs } } } : State).startAdmission session 0 0 none

/-- A session of the firmware's own in a free slot (R100, R477, log entry 266). -/
def State.openOwn (slot : Nat) (s : State) : State :=
  let x : Session := {
    isOpen := true, gen := (Tab.getD s.ses slot {}).gen % 1023 + 1, source := .firmware, keepalive := 0, lastUse := s.now }
  { s with ses := Tab.put s.ses slot x }

/-- AUTOLOAD: the saved configuration is admitted after boot, in a session of its own that ends when the admission completes
or is refused (R477). -/
def execAutoload (s : State) : Outcome :=
  if s.gl.device ≠ .operational ∨ !bit (u16 s.personality 6) 3 ∨ s.boot.started ∨ s.stage.admitting.isSome then .next s
  else
    let s := { s with boot := { s.boot with started := true } }
    match s.freeSession with
    | none => .next (s.raise Ev.autostartFailed 0 Status.sessionLimit)
    | some slot =>
      let s := s.openOwn slot
      match s.loadOwn ((Tab.getD s.ses slot {}).id slot) with
      | .error b => .next ((s.raise Ev.autostartFailed 0 b.status).endSession slot .close)
      | .ok (id, s) => .next { s with boot := { s.boot with autoload := some id } }

/-- AUTO_START: SHOW_START is sent for the autoloaded show once the time keeper is ready. -/
def execAutoStart (s : State) : Outcome :=
  if !bit (u16 s.personality 6) 4 ∨ s.boot.autoload.isNone ∨ s.boot.autoStart ∨ s.stage.admitting.isSome ∨ s.gl.show_ ≠ .configured ∨
    !s.timeReady then .next s
  else
    let s := { s with boot := { s.boot with autoStart := true } }
    match s.startShow none false with
    | .ok (_, s) => .next s
    | .error b => .next (s.raise Ev.autostartFailed 0 b.status)

/-! ## The end of an activation pause (R470-R473) -/

/-- The frames whose cuts fell in the pause up to now are skipped (R470). -/
def State.skipPast (s : State) : State :=
  match s.nextCut with
  | none => s
  | some n =>
    let last := s.cfg.slotAt s.tk.counter + s.cfg.depth
    (List.range (last + 1 - n)).foldl (fun (s : State) i => s.skipFrame (n + i)) s

/-- The new image runs: the trial of an activation begins, or a fallback is recorded (R470, R472, R473). -/
def State.newImage (slot : Bool) (cause : Option FallbackCause) (s : State) : State :=
  let old := s.bootRecord
  let rec' : BootRecord := { active := slot, previous := !slot, trial := cause.isNone, cause := cause.or old.cause }
  let s := { s with nv := s.nv.putBoot rec', boot := { s.boot with running := slot } }
  match cause with
  | some c => (s.count 0x0005).raise Ev.updateFallback 0 c.code
  | none =>
    let s := { s with boot := { s.boot with trialSince := some s.now } }
    let version := hdVersion (s.slotHeader slot)
    (s.raise Ev.updateActivated 0 version).completeAny .activation { payload := leBytes 4 version }

/-- The new firmware admits the configuration in force again where its schedule format differs (R469). -/
def State.readmit (s : State) : State :=
  match s.force with
  | none => s
  | some f =>
    if s.gl.show_ ≠ .configured then s
    else
      let v := s.verdict f.cfg 0 0
      if v.1.status = Status.ok then { s with force := some { f with sched := v.2 } }
      else ({ s with force := none, gl := { s.gl with show_ := .idle, firstCut := none } } : State).raise Ev.admitDone 0 v.1.status

/-- The device leaves the pause; a standby member of which the active member missed two heartbeats rejoins through SYNCING
(R395, R471). -/
def State.leavePause (s : State) : State :=
  let s := if s.pair.st = .standby ∧ 2 ≤ s.unapplied.length then s.beginSync else s
  let s := { s with
    gl := { s.gl with device := if s.upd.service then .service else .operational }
    upd := { s.upd with pausing := none, service := false } }
  ((s.cfg.all .scan).map Prod.fst).foldl (fun (s : State) n => s.drainReturn n) s

/-- ACTIVATION_PAUSE_END. -/
def execActivationPauseEnd (s : State) : Outcome :=
  match s.upd.pausing with
  | none => .next s
  | some (slot, cause) =>
    let differs := decide (hdFormat (s.slotHeader slot) ≠ hdFormat (s.slotHeader s.boot.running))
    let s := (s.skipPast.newImage slot cause).leavePause
    .next (if differs then s.readmit else s)

/-! ## SERVICE, reset, ECHO and LOOPBACK (R519, R520) -/

/-- SERVICE begins unless the show runs (R520), or a SHOW_START has won and its first cut is to come (R525, log entry 270). -/
def State.enterService (s : State) : Chk? State := do
  need (!s.showRuns && s.gl.firstCut.isNone) Status.wrongState s.wrongDetail
  .ok { s with gl := { s.gl with device := .service } }

/-- SERVICE ends (R520); a recovery loader has no other state (R462). -/
def State.exitService (s : State) : State :=
  if s.boot.recovery then s else { s with gl := { s.gl with device := .operational } }

/-- A reset of the device is refused in ARMED (R520). -/
def State.mayReset (s : State) : Chk? Unit := need (s.gl.show_ ≠ .armed) Status.showArmed 0

/-- A reset of the device 10 ms from now (R520). -/
def State.deviceReset (s : State) : Chk? State := do
  s.mayReset
  .ok { s with boot := { s.boot with resetAt := some (s.now + msT 10) } }

/-- SERVICE_ENTER (R520). -/
def serviceEnterOp : Op where
  code := 0x0F05
  cls := .immediate
  layout := fixedLayout [4]
  body := .run fun _ s => do
    let s ← s.enterService
    .ok (s, .ok)

/-- SERVICE_EXIT (R520). -/
def serviceExitOp : Op where
  code := 0x0F06
  cls := .immediate
  layout := fixedLayout [4]
  body := .run fun _ s => .ok (s.exitService, .ok)

/-- DEVICE_RESET (R520): the 10 ms run from its reply. -/
def deviceResetOp : Op where
  code := 0x0F07
  cls := .immediate
  layout := fixedLayout [4]
  body := .run fun _ s => do
    s.mayReset
    .ok (s, .ok)

/-- ECHO (R519). -/
def echoOp : Op where
  code := 0x0F03
  cls := .immediate
  noSession := true
  layout := fun _ => none
  body := .run fun r s => .ok (s, .ok r.payload)

/-- A lane carries a defined flow, a PTP port or the pair link (R519). -/
def State.laneCarries (s : State) (lane : Nat) : Bool :=
  ((s.cfg.all .flow).any fun e => flNetwork e.2 && flLane e.2 = lane) || s.cfg.has .port lane || s.pairLane s.cfg = some lane

/-- LOOPBACK (R519). -/
def loopbackOp : Op where
  code := 0x0F04
  cls := .deferred
  layout := fixedLayout [1, 1, 2]
  body := .run fun r s => do
    let lane := u8 r.payload 0
    unitField 16 s.lanes lane 0
    inRange (u8 r.payload 1 ≤ 1) 1
    inRange (1 ≤ u16 r.payload 2 ∧ u16 r.payload 2 ≤ 10000) 2
    need (s.gl.device = .service && !s.laneCarries lane) Status.wrongState s.wrongDetail
    let (j, s) := s.startJob 0x0F04 r.session r.tag
    let s := { s with jobs := { s.jobs with loops := s.jobs.loops ++ [(lane, j.id, s.now + msT (u16 r.payload 2))] } }
    .ok (s.emit (.bus "loopback" [lane, u8 r.payload 1, u16 r.payload 2, j.id]),
      .done { status := Status.acceptedDeferred, payload := leBytes 4 j.id })

/-- LOOPBACK_COMPLETE: the oldest running test of a lane ends, DURATION_MS after its start (R519). -/
def execLoopbackComplete (lane : Nat) (good : Bool) (s : State) : Outcome :=
  if lane ≥ s.lanes then .next s
  else match Tab.find s.jobs.loops lane with
    | none => .next s
    | some (id, ends) =>
      match s.jobs.active.find? fun j => j.id = id with
      | none => .next s
      | some j =>
        let s := s.advanceNow ends
        .next ({ s with jobs := { s.jobs with loops := s.jobs.loops.filter fun e => e.2.1 ≠ j.id } }.endJob j (if good then Status.ok else Status.crcBad) 0)

def execServiceEnter (r : Req) (s : State) : Outcome := hostCommand serviceEnterOp r s
def execServiceExit (r : Req) (s : State) : Outcome := hostCommand serviceExitOp r s
def execDeviceReset (r : Req) (s : State) : Outcome := hostCommand deviceResetOp r s
def execEcho (r : Req) (s : State) : Outcome := hostCommand echoOp r s
def execLoopback (r : Req) (s : State) : Outcome := hostCommand loopbackOp r s

end Sys2Proof.Machine
end

