-- ==== Sys2Proof/Machine/Registers.lean ====
section
/-! DEFINITION. BAR0 (R11-R14, R510, R511): reads with what they latch, clear and remove, writes, FIFO windows
(R23, R24), the discard points of rinses (R26-R28), and REG_READ and REG_WRITE (R519). -/

namespace Sys2Proof.Machine

/-! ## FIFO windows (R23, R24) -/

/-! ## Lane registers (R338, R339) -/

/-- TIME.LANEn.STATUS (R339): the mode is that of the network lane or of the pair link. -/
def State.laneStatus (s : State) (n : Nat) : Nat :=
  let l := s.laneOf n
  let mode := ((s.lanePhy s.cfg n).map Prod.fst).getD 0
  flag l.link 0 + 2 * (mode % 8) + (if mode = 2 then 16 * (l.speed % 4) else 0) + flag (mode = 6 && l.link) 6 +
  flag (s.pairLane s.cfg = some n) 7 + flag (s.cfg.has .lane n) 8

/-- A lane register that reads without effect (R338). -/
def State.laneRead (s : State) (n off : Nat) : Nat :=
  let l := (s.laneOf n).current s.tk.counter
  if n ≥ s.lanes then 0
  else match off with
    | 0x00 => s.laneStatus n
    | 0x04 => flag l.rinse 0
    | 0x08 => l.rxDrop
    | 0x0C => l.rxFcs
    | 0x10 => l.linkDowns
    | 0x14 => l.unresolved
    | 0x1C => l.queue.length + l.bytes * 65536
    | 0x28 => l.qempty
    | 0x2C => l.qdrop
    | 0x30 => l.qrinsed
    | 0x34 => l.slip
    | 0x38 => l.align
    | _ => 0

/-- A lane register is written (R336, R338). -/
def State.laneWrite (n off v : Nat) (s : State) : State :=
  if n ≥ s.lanes then s
  else match off with
    | 0x04 => if bit v 0 then s.updLane n fun l => l.requestRinse s.tk.counter else s
    | 0x18 => s.updLane n fun l => l.write s.tk.counter (word v)
    | _ => s

/-! ## GLOBAL (R40) and HOSTQ (R94, R516) -/

/-- A read of the GLOBAL block. -/
def State.globalRead (s : State) (off : Nat) : Nat :=
  match off with
  | 0x00 => s.globalId
  | 0x04 => s.globalState
  | 0x08 => s.frameNow % 2 ^ 32
  | 0x0C => s.gl.frameHi
  | 0x10 => s.gl.scratch.toNat
  | _ => 0

/-- A read of the HOSTQ block. -/
def State.hostqRead (s : State) (off : Nat) : Nat :=
  if 0x1000 ≤ off ∧ off < 0x2000 then (s.ring ((off - 0x1000) / 0x40)).read (off % 0x40)
  else match off with
    | 0x00 => 0x4004_0C40
    | 0x08 => s.sessBits % 2 ^ 32
    | 0x0C => s.sessBits / 2 ^ 32
    | 0x10 => s.hq.mlUnbound
    | 0x14 => s.hq.mlDup
    | 0x20 => flag s.ml.dhcp 0
    | 0x24 => s.ml.ipv4
    | 0x28 => s.ml.plen
    | 0x2C => s.ml.gateway
    | 0x30 => s.ml.addr
    | 0x34 => s.mlStatus
    | 0x38 => s.ml.reasmDrop
    | _ => 0

/-- The management lane begins to look for a lease (R515). -/
def State.dhcpDiscover (s : State) : State :=
  let s := { s with ml := { s.ml with offered := none } }
  if s.ml.link then s.emit (.mlPacket "dhcp discover" []) else s

/-- APPLY: the register values come into use (R515, R516). With DHCP, an address that DHCP or RFC 3927 gave stays in use;
a static address does not. -/
def State.mlApply (s : State) : State :=
  let n := clampN 8 30 s.ml.plen
  let m := { s.ml with plen := n, dhcpOn := s.ml.dhcp }
  if m.dhcp then
    if m.addrSrc = .static then ({ s with ml := { m with addr := 0, addrSrc := .none, inUse := (24, 0) } } : State).dhcpDiscover
    else if s.ml.dhcpOn then { s with ml := m } else ({ s with ml := m } : State).dhcpDiscover
  else { s with ml := { m with addr := m.ipv4, addrSrc := .static, inUse := (n, m.gateway), offered := none } }

/-- A write to the HOSTQ block. -/
def State.hostqWrite (off v : Nat) (s : State) : State :=
  if 0x1000 ≤ off ∧ off < 0x2000 then s.writeRing ((off - 0x1000) / 0x40) (off % 0x40) v
  else match off with
    | 0x20 =>
      let s := { s with ml := { s.ml with dhcp := bit v 0 } }
      if bit v 4 then s.mlApply else s
    | 0x24 => { s with ml := { s.ml with ipv4 := v } }
    | 0x28 => { s with ml := { s.ml with plen := v % 32 } }
    | 0x2C => { s with ml := { s.ml with gateway := v } }
    | _ => s

/-! ## BAR0 (R510, R511) -/

/-- A 32-bit word of BAR0 as it reads, without what the read itself does; what is not listed reads 0 (R11, R510). -/
def State.peek (s : State) (a : Nat) : Nat :=
  if a < 0x10000 then s.globalRead a
  else if a < 0x20000 then s.hostqRead (a - 0x10000)
  else if a < 0x30000 then s.evtRead (a - 0x20000)
  else if a < 0x34000 then s.timeRead (a - 0x30000)
  else if a < 0x35000 then s.laneRead ((a - 0x34000) / 0x100) (a % 0x100)
  else if a < 0x40000 then 0
  else if a < 0x50000 then s.chkRead (a - 0x40000)
  else if a < 0x60000 then s.monRead (a - 0x50000)
  else if a < 0x80000 then 0
  else if a < 0x90000 then s.canvasRead ((a - 0x80000) / 0x1000) (a % 0x1000)
  else if a < 0xA0000 then s.layerRead ((a - 0x90000) / 0x800) (a % 0x800)
  else if a < 0xB0000 then s.witRead (a - 0xA0000)
  else if a < 0x100000 then 0
  else if a < 0x110000 then if (a - 0x100000) / 0x1000 < s.lanes then s.scanRead ((a - 0x100000) / 0x1000) (a % 0x1000) else 0
  else if a < 0x118000 then if (a - 0x110000) / 0x400 < s.dmxPorts then s.dmxRead ((a - 0x110000) / 0x400) (a % 0x400) else 0
  else if a < 0x120000 then 0
  else if a < 0x130000 then s.meterRead (a - 0x120000)
  else if a < 0x140000 then (s.ledgerRead (a - 0x130000)).toNat
  else if a < 0x200000 then 0
  else if a < 0x240000 then s.palRead (a - 0x200000)
  else 0

/-- The upper half of a frame number. -/
abbrev frameHi (f : Nat) : Nat := f / 2 ^ 32 % 65536

/-- What a read of a low register latches (R43, R210, R267, R306, R364, R379, R453, R479, R502). -/
def State.latch (a : Nat) (s : State) : State :=
  if a = 0x08 then { s with gl := { s.gl with frameHi := frameHi s.frameNow } }
  else if 0x20000 ≤ a ∧ a < 0x30000 then s.evtLatch (a - 0x20000)
  else if 0x30000 ≤ a ∧ a < 0x31000 then s.timeLatch (a - 0x30000)
  else if 0x40000 ≤ a ∧ a < 0x50000 then s.chkLatch (a - 0x40000)
  else if a = 0x50000 then s.sweepLatch
  else if 0x80000 ≤ a ∧ a < 0x90000 ∧ a % 0x1000 = 0x008 then
    if s.cfg.has .canvas ((a - 0x80000) / 0x1000) then
      s.updCanvas ((a - 0x80000) / 0x1000) fun x => { x with pressHi := frameHi x.pressFrame }
    else s
  else if 0x100000 ≤ a ∧ a < 0x100000 + 0x1000 * s.lanes ∧ a % 0x1000 = 0x010 then
    s.updPort ((a - 0x100000) / 0x1000) fun x => { x with frameHi := frameHi x.frame }
  else if 0x110000 ≤ a ∧ a < 0x110000 + 0x400 * s.dmxPorts ∧ a % 0x400 = 0x010 then
    s.updDmx ((a - 0x110000) / 0x400) fun x => { x with frameHi := frameHi x.frame }
  else s

/-- The METER registers whose reads do more than latch: SEQ, RTC_FRAC and the two DELTA registers (R415, R417, R429). -/
def State.meterTake (a : Nat) (s : State) : Option (Nat × State) :=
  let off := a - 0x120000
  let m := (off - 0x1000) / 0x400
  if a < 0x120000 then none
  else if off = 0x0020 then let (s', v) := s.readRtc; some (v, s')
  else if 0x1000 ≤ off ∧ off < 0x3000 ∧ s.cfg.has .meter m then
    let r := off % 0x400
    if r = 0x000 then let (s', v) := s.readSeq m; some (v, s')
    else if 0x300 ≤ r ∧ r < 0x320 ∧ r % 4 = 0 then
      let (s', v) := s.readDelta m ((r - 0x300) / 8) (r % 8 = 4)
      some (v, s')
    else none
  else none

/-- A 32-bit read of BAR0 with everything it does (R511, R14, R43). -/
def State.readWord (a : Nat) (s : State) : Reg × State :=
  match s.windowAt a with
  | some w => let (l, s') := s.windowEnd w false; (l.headD 0, s')
  | none =>
    match s.windowAt (a - 4) with
    | some w => ((s.fifo w).latch, s)
    | none =>
      match s.meterTake a with
      | some (v, s') => (word v, s')
      | none => (word ((s.latch a).peek a), s.latch a)

/-- A number of words read in rising order from an offset (R519). -/
def State.readWords : Nat → Nat → State → List Reg × State
  | 0, _, s => ([], s)
  | k + 1, a, s =>
    let (v, s) := s.readWord a
    let (l, s) := s.readWords k (a + 4)
    (v :: l, s)

/-- A 32-bit write of BAR0 with everything it does (R12, R510, R511); what is not listed ignores it. -/
def State.writeWord (a v : Nat) (s : State) : State :=
  if a < 0x10000 then (if a = 0x10 then { s with gl := { s.gl with scratch := word v } } else s)
  else if a < 0x20000 then s.hostqWrite (a - 0x10000) v
  else if a < 0x30000 then s.evtWrite (a - 0x20000) v
  else if a < 0x34000 then s.timeWrite (a - 0x30000) v
  else if a < 0x35000 then s.laneWrite ((a - 0x34000) / 0x100) (a % 0x100) v
  else if a < 0x40000 then s
  else if a < 0x50000 then s.chkWrite (a - 0x40000) v
  else if a < 0x60000 then s.monWrite (a - 0x50000) v
  else if a < 0x80000 then s
  else if a < 0x90000 then s.canvasWrite ((a - 0x80000) / 0x1000) (a % 0x1000) v
  else if a < 0xA0000 then s.layerWrite ((a - 0x90000) / 0x800) (a % 0x800) v
  else if a < 0xB0000 then s.witWrite (a - 0xA0000) v
  else if a < 0x100000 then s
  else if a < 0x110000 then if (a - 0x100000) / 0x1000 < s.lanes then s.scanWrite ((a - 0x100000) / 0x1000) (a % 0x1000) v else s
  else if a < 0x118000 then if (a - 0x110000) / 0x400 < s.dmxPorts then s.dmxWrite ((a - 0x110000) / 0x400) (a % 0x400) v else s
  else if a < 0x120000 then s
  else if a < 0x130000 then s.meterWrite (a - 0x120000) v
  else if a < 0x140000 then s.ledgerWrite (a - 0x130000) v
  else if a < 0x200000 then s
  else if a < 0x240000 then s.palWrite (a - 0x200000) v
  else s

/-! ## Accesses of the PCIe host (R509-R513) -/

/-- The size of BAR0 (R509). -/
abbrev bar0Size : Nat := 0x400000

/-- The end of the host's offsets: BAR2, of 64 KiB, comes after BAR0 (R509, log entry 268). -/
abbrev barsEnd : Nat := 0x410000

/-- A word of BAR2: the MSI-X table, with bit 0 of an entry's last word its mask, and the pending bits (R509). -/
def Pcie.bar2Read (p : Pcie) (o : Nat) : Nat :=
  if o < 0x400 then
    if o / 4 % 4 = 3 then flag (p.vecMask.getLsbD (o / 16)) 0 else (Tab.getD p.table (o / 4) 0).toNat
  else if o = 0x800 then p.pba.toNat % 2 ^ 32
  else if o = 0x804 then p.pba.toNat / 2 ^ 32
  else 0

/-- A vector's mask is written: cleared, a pending vector signals (R513). -/
def State.maskVector (v : Nat) (masked : Bool) (s : State) : State :=
  let m := 1#64 <<< v
  ({ s with pcie := { s.pcie with vecMask := if masked then s.pcie.vecMask ||| m else s.pcie.vecMask &&& ~~~m } } : State).flushMsix

/-- A write of a word of BAR2 (R509, R513); the low two bits of an address are zero (log entry 268). -/
def State.bar2Write (o v : Nat) (s : State) : State :=
  if o < 0x400 then
    if o / 4 % 4 = 3 then s.maskVector (o / 16) (bit v 0)
    else { s with pcie := { s.pcie with table := Tab.put s.pcie.table (o / 4) (word (if o / 4 % 4 = 0 then v / 4 * 4 else v)) } }
  else s

/-- A word that the host reads, in BAR0 or BAR2. -/
def State.hostWord (a : Nat) (s : State) : Reg × State :=
  if a < bar0Size then s.readWord a else (word (s.pcie.bar2Read (a - bar0Size)), s)

/-- A word that the host writes: one that sets EVT.CTRL.ENABLE comes in D0 with Bus Master Enable set (R512, log entry 31). -/
def State.hostWriteWord (a v : Nat) (s : State) : State :=
  if a ≥ bar0Size then s.bar2Write (a - bar0Size) v
  else if a = 0x20004 ∧ bit v 0 then s.busMaster.writeWord a v
  else s.writeWord a v

/-- A write by the host: 64 bits act as two words, the lower address first, and fewer than 32 bits are discarded (R511). -/
def State.hostWrite (a : Nat) (w : BarWrite) (s : State) : State :=
  if a ≥ barsEnd then s
  else match w with
    | .word v => if a % 4 = 0 then s.hostWriteWord a v.toNat else s
    | .wide lo hi => if a % 8 = 0 then (s.hostWriteWord a lo.toNat).hostWriteWord (a + 4) hi.toNat else s
    | .narrow _ => s

/-- Words that a host read takes where no FIFO window waits: 64 bits act as two words, the lower address first (R511). -/
def State.hostWords (a bytes : Nat) (s : State) : List Reg × State :=
  let b := barWord a bytes
  let (v, s) := s.hostWord b
  if bytes = 8 then let (u, s) := s.hostWord (b + 4); ([v, u], s) else ([v], s)

/-- A host read of 1, 2, 4 or 8 bytes: a read of an empty FIFO window waits (R24); any other read completes (R511). -/
def State.hostRead (a bytes : Nat) (s : State) : State :=
  if a ≥ barsEnd then s
  else match s.windowAt (barWord a bytes) with
    | some w =>
      if (s.fifo w).items.isEmpty then { s with pcie := { s.pcie with waits := s.pcie.waits ++ [(a, bytes)] } }
      else State.readEnd a bytes (s.windowEnd w (bytes = 8))
    | none => State.readEnd a bytes (s.hostWords a bytes)

/-- FIFO_WINDOW_READ (R23, R24). -/
def execFifoWindowRead (a bytes : Nat) (s : State) : Outcome := .next (s.hostRead a bytes)

/-- FIFO_READ_WAIT_EXPIRE (R24): an item that has come in the meantime wins. -/
def execFifoReadWaitExpire (a bytes : Nat) (s : State) : Outcome :=
  .next (if s.pcie.waits.contains (a, bytes) then s.endWait a bytes else s)

/-- RC_READ (R14): the value is returned and cleared. -/
def execRcRead (x : BarRead) (s : State) : Outcome := .next (s.hostRead x.offset x.bytes)

/-- LATCHING_READ (R43). -/
def execLatchingRead (x : BarRead) (s : State) : Outcome := .next (s.hostRead x.offset x.bytes)

/-- NOW_NS_READ (R267). -/
def execNowNsRead (s : State) : Outcome := .next ((s.latch 0x30000).emit (.readData [word (s.timeRead 0)]))

/-- REGISTER_WRITE (R12). -/
def execRegisterWrite (a : Nat) (w : BarWrite) (s : State) : Outcome := .next (s.hostWrite a w)

/-- SHADOW_WRITE (R12, R13, R209): the shadow takes the value; the press set is written whole before or after a press. -/
def execShadowWrite (a : Nat) (w : BarWrite) (s : State) : Outcome := .next (s.hostWrite a w)

/-! ## Discard points (R26-R28) -/

/-- The end of the packet that a rinse waits for, at a FIFO or queue. -/
def State.discardPoint (t : RinseTarget) (s : State) : State :=
  match t with
  | .commandRing n => if (s.ring n).rinse then s.rinseRing n else s
  | .capture i => if (s.input i).fifo.rinse then s.ttiRinse i else s
  | .launchQueue n =>
    if (s.laneOf n).rinse && (s.laneOf n).part.isNone then
      let s := s.advanceTo (s.laneOf n).queueUntil
      s.updLane n fun l => l.current s.tk.counter
    else s
  | .returnFifo _ => s
  | .uids n => if (s.dmxOf n).uids.rinse && !(s.dmxOf n).uids.mid then s.updDmx n fun x => { x with uids := x.uids.discard } else s
  | .flowQueue n => if (s.flowOf n).rinsing then (s.advanceTo (s.flowOf n).busyUntil).rinseFlow n else s

/-- Whether the device has the FIFO that a rinse names. -/
def State.hasTarget (s : State) (t : RinseTarget) : Bool :=
  match t with
  | .commandRing n => n < 64
  | .capture i => i < 8
  | .launchQueue n => n < s.lanes
  | .returnFifo n => n < s.lanes
  | .uids n => n < s.dmxPorts
  | .flowQueue n => n < 4096

/-- RINSE_DISCARD_POINT (R26). -/
def execRinseDiscardPoint (target : RinseTarget) (s : State) : Outcome :=
  if s.hasTarget target then .next (s.discardPoint target) else .next s

/-! ## REG_READ and REG_WRITE (R519) -/

/-- OFFSET and COUNT of a register command name words of BAR0. -/
def barRange (off count : Nat) : Chk? Unit := do
  inRange (off % 4 = 0 ∧ off < bar0Size) 0
  inRange (1 ≤ count ∧ count ≤ 256 ∧ off + 4 * count ≤ bar0Size) 4

/-- REG_READ (R519): each word as PCIe reads it. -/
def regReadOp : Op where
  code := 0x0F01
  cls := .immediate
  layout := fixedLayout [4, 4]
  body := .run fun r s => do
    barRange (u32 r.payload 0) (u32 r.payload 4)
    let (l, s) := s.readWords (u32 r.payload 4) (u32 r.payload 0)
    .ok (s, .ok (l.flatMap fun w => leBytes 4 w.toNat))

/-- The words of a register write are refused in the GLOBAL and HOSTQ blocks (R113). -/
def State.regWritable (s : State) (off : Nat) : Chk? Unit := need (off ≥ 0x20000) Status.wrongState s.wrongDetail

/-- Words written in address order (R519). -/
def State.writeWords (off : Nat) (l : List Nat) (s : State) : State :=
  match l with
  | [] => s
  | v :: rest => (s.writeWord off v).writeWords (off + 4) rest

/-- REG_WRITE (R113, R519). -/
def regWriteOp : Op where
  code := 0x0F02
  cls := .immediate
  layout := layout [4, 4] (some (4, fun b => 4 * u32 b 4))
  body := .run fun r s => do
    let off := u32 r.payload 0
    barRange off (u32 r.payload 4)
    s.regWritable off
    .ok (s.writeWords off ((records r.payload 8 4 (u32 r.payload 4)).map fun b => u32 b 0), .ok)

def execRegRead (r : Req) (s : State) : Outcome := hostCommand regReadOp r s
def execRegWrite (r : Req) (s : State) : Outcome := hostCommand regWriteOp r s

end Sys2Proof.Machine
end

