-- ==== Sys2Proof/Machine/Links.lean ====
section
/-! DEFINITION. The PCIe function (R96, R495, R507-R513, R535, R549) and the addressing of the management lane
(R514-R517). -/

namespace Sys2Proof.Machine

/-! ## The PCIe function -/

/-- What a link loss does: pairs of PCIe leave service and discard the replies they hold, their sessions end, the event ring is disabled, and buffer
fetches fail (R96, R222, R495, R512). -/
def State.losePcie (s : State) : State :=
  let s := (List.range 64).foldl (fun (s : State) n =>
    if (s.ring n).ml then s else (s.disablePair n).flush n) s
  let s := { s with evt := { s.evt with enable := false } }
  (s.loseSessions fun x => x = .pcie).failFetches

/-- The configuration of the function at its reset (R507, R513, log entry 7). -/
def State.resetFunction (s : State) : State :=
  { s with pcie := { s.pcie with
    master := false, d3hot := false, vecMask := BitVec.allOnes 64, fnMask := false, pba := 0, table := [], waits := [] } }

/-- PCIE_LINK_LOSS (R96). -/
def execPcieLinkLoss (s : State) : Outcome :=
  .next ({ s with pcie := { s.pcie with link := false, waits := [] } } : State).losePcie

/-- A configuration request: until boot has reached its step 8 it is answered with Retry Status and does nothing (R508,
R549). -/
def State.onConfig (s : State) (f : State → State) : Outcome := .next (if s.gl.device = .boot then s else f s)

/-- PCIE_FLR (R96). -/
def execPcieFlr (s : State) : Outcome := s.onConfig fun s => s.resetFunction.losePcie

/-- BUS_MASTER_CLEAR (R512). -/
def execBusMasterClear (s : State) : Outcome :=
  s.onConfig fun s => ({ s with pcie := { s.pcie with master := false } } : State).losePcie

/-- D3HOT_ENTER (R512). -/
def execD3hotEnter (s : State) : Outcome :=
  s.onConfig fun s => ({ s with pcie := { s.pcie with d3hot := true } } : State).losePcie

/-- PERST_N_ASSERT: the endpoint alone is reset (R535). -/
def execPerstNAssert (s : State) : Outcome :=
  .next (({ s with pcie := { s.pcie with link := false, aer := 0 } } : State).resetFunction.losePcie)

/-- PCIE_LINK_UP: the endpoint trains its link once the device is out of reset (R549). -/
def execPcieLinkUp (s : State) : Outcome :=
  .next (if s.boot.hold then s else ({ s with pcie := { s.pcie with link := true } } : State).flushMsix)

/-- The function mask is written, a configuration request: cleared, the pending vectors that are not masked signal (R513). -/
def State.maskFunction (masked : Bool) (s : State) : Outcome :=
  s.onConfig fun s => ({ s with pcie := { s.pcie with fnMask := masked } } : State).flushMsix

/-- MSIX_UNMASK: a vector whose pending bit is set signals once (R513). -/
def execMsixUnmask (mask : MsixMask) (s : State) : Outcome :=
  match mask with
  | .vector v => .next (if v < 64 then s.maskVector v false else s)
  | .function masked => s.maskFunction masked

/-- The capabilities of the function (R508). -/
inductive PciCapability where
  | pciExpress | powerManagement | msix | advancedErrorReporting | deviceSerialNumber | functionLevelReset
  deriving DecidableEq, Repr

/-- What configuration requests find of the PCIe function: its values, the sizes of its BARs, and its capabilities
(R507-R509). -/
structure PciFunction where
  /-- Configuration Request Retry Status instead of the values (R508). -/
  retry       : Bool
  vendor      : Nat
  device      : Nat
  revision    : Nat
  classCode   : Nat
  subVendor   : Nat
  subsystem   : Nat
  /-- Bytes of BAR0 to BAR5 and of the expansion ROM BAR; 0 for one that is not implemented. -/
  bars        : List Nat
  capabilities : List PciCapability
  /-- Power states: D0 and D3hot, and whether the function is in D3hot. -/
  d3hot       : Bool
  /-- Uncorrectable Error Status of Advanced Error Reporting (log entry 269). -/
  aer         : BitVec 32
  vectors     : Nat
  serial      : Bytes
  lanes       : List Nat
  /-- Link rates in units of 0.1 GT/s. -/
  rates       : List Nat
  maxPayload  : Nat
  maxRead     : Nat
  deriving DecidableEq, Repr

/-- The configuration values of the function (R507-R509): the personality gives the vendor and the subsystem, and the boot
sequence comes first. BAR1 and BAR3 are the upper halves of 64-bit BARs and read as the spec says. -/
def State.pciFunction (s : State) : PciFunction :=
  { retry := decide (s.gl.device = .boot)
    vendor := u16 s.personality 0, device := 0x8200, revision := s.globalId / 256 % 256, classCode := 0x048000
    subVendor := u16 s.personality 2, subsystem := u16 s.personality 4
    bars := [4 * 2 ^ 20, 0, 64 * 2 ^ 10, 0, 0, 0, 0]
    capabilities := [.pciExpress, .powerManagement, .msix, .advancedErrorReporting, .deviceSerialNumber, .functionLevelReset]
    d3hot := s.pcie.d3hot, aer := s.pcie.aer, vectors := 64, serial := padTo 8 Config.dieIdentity
    lanes := [4, 2, 1], rates := [25, 50, 80, 160], maxPayload := 512, maxRead := 4096 }

/-! ## The address of the management lane (R515) -/

/-- ML_APPLY (R515). -/
def execMlApply (s : State) : Outcome := .next s.mlApply

/-- The management lane has no address any more and looks for a lease. -/
def State.loseLease (s : State) : State :=
  ({ s with ml := { s.ml with addr := 0, addrSrc := .none, inUse := (24, 0) } } : State).dhcpDiscover

/-- DHCP_MESSAGE_RX (R515, RFC 2131): an offer is requested, an acknowledgement of what was requested or is held gives the
address, and a refusal starts over. -/
def execDhcpMessageRx (msg : DhcpMsg) (s : State) : Outcome :=
  if !s.ml.link || !s.ml.dhcpOn then .next s
  else match msg with
    | .offer a =>
      if s.ml.addrSrc = .dhcp then .next s
      else .next (({ s with ml := { s.ml with offered := some a } } : State).emit (.mlPacket "dhcp request" (beBytes 4 a)))
    | .ack a gateway n =>
      if s.ml.offered = some a ∨ (s.ml.addrSrc = .dhcp ∧ s.ml.addr = a) then
        .next { s with ml := { s.ml with addr := a, addrSrc := .dhcp, inUse := (n, gateway), offered := none } }
      else .next s
    | .nak =>
      if s.ml.addrSrc = .dhcp then .next s.loseLease
      else if s.ml.offered.isSome then .next s.dhcpDiscover
      else .next s

/-- DHCP_LEASE_TIMER (R515, RFC 2131): a request to renew or to rebind, or the end of the lease; without a lease, which
link-local addressing does not change, the next request for one. -/
def execDhcpLeaseTimer (timer : LeaseTimer) (s : State) : Outcome :=
  if s.ml.addrSrc ≠ .dhcp then .next (if s.ml.link && s.ml.dhcpOn then s.dhcpDiscover else s)
  else match timer with
    | .renew => .next (s.emit (.mlPacket "dhcp renew" (beBytes 4 s.ml.addr)))
    | .rebind => .next (s.emit (.mlPacket "dhcp rebind" (beBytes 4 s.ml.addr)))
    | .expire => .next s.loseLease

/-- LINK_LOCAL_TIMEOUT: no lease 10 s after link-up; the lane continues to request one (R515, RFC 3927). -/
def execLinkLocalTimeout (address : Nat) (s : State) : Outcome :=
  if !s.ml.link || !s.ml.dhcpOn || s.ml.addrSrc ≠ .none || address / 65536 ≠ 0xA9FE then .next s
  else
    let s := s.advanceNow (s.ml.upAt + secT 10)
    .next ({ s with ml := { s.ml with addr := address, addrSrc := .linkLocal, inUse := (16, 0) } } : State).dhcpDiscover

/-- ML_LINK_CHANGE (R275, R514, R517): 1000BASE-X has one speed. -/
def execMlLinkChange (up : Bool) (speed : MlSpeed) (s : State) : Outcome :=
  let sp := if s.boot.strap2 then min speed.code 2 else 2
  let s := { s with ml := { s.ml with
    link := up, speed := if up then sp else s.ml.speed, align := if up then speed.align else s.ml.align
    upAt := if up then s.now else s.ml.upAt } }
  let s := s.ptpPorts
  .next (if up && s.ml.dhcpOn && s.ml.addrSrc ≠ .dhcp then s.dhcpDiscover else s)

end Sys2Proof.Machine
end

