-- ==== Sys2Proof/Machine/Niwin.lean ====
section
/-! DEFINITION. The serial monitor Niwin (R522-R525). -/

namespace Sys2Proof.Machine

/-! ## Lines -/

/-- The number of decimal digits of a number. -/
def decDigits (n : Nat) : Nat := (List.range 20).foldl (fun k i => if n ≥ 10 ^ (i + 1) then k + 1 else k) 1

/-- The characters of a Niwin line with its terminator, its numbers in decimal (log entry 32). -/
def lineLength (i : Line) : Nat :=
  match i with
  | .help => 5
  | .id => 3
  | .state => 6
  | .time => 5
  | .health => 7
  | .log n => 5 + decDigits n
  | .follow => 11
  | .counters => 9
  | .ml => 3
  | .serviceOn => 11
  | .serviceOff => 12
  | .mlDhcp => 8
  | .mlStatic _ _ _ => 43
  | .regRd o n => 9 + decDigits o + decDigits n
  | .regWr o w => 9 + decDigits o + decDigits w.toNat
  | .otp => 4
  | .otpKey _ _ => 82
  | .otpRevoke _ => 13
  | .otpCommit w => 12 + decDigits w.toNat
  | .reset => 6
  | .key => 1

/-- The levels of R523. -/
inductive Level where
  | r | s
  deriving DecidableEq, Repr

/-- The names of the statuses (R111). -/
def statusNames : List (Nat × String) :=
  [(0x0101, "BAD_OPCODE"), (0x0102, "BAD_LENGTH"), (0x0103, "BAD_VERSION"), (0x0104, "UNIT_ABSENT"),
   (0x0105, "OUT_OF_RANGE"), (0x0106, "BAD_AT_FRAME"), (0x0107, "BAD_FLAGS"), (0x0108, "BAD_SESSION"),
   (0x0109, "BAD_REFERENCE"), (0x0201, "BUSY"), (0x0202, "BUSY_OTHER_SOURCE"), (0x0203, "SHOW_ARMED"),
   (0x0204, "OWNER_LOCKED"), (0x0205, "SUPPLY_LOW"), (0x0206, "NOT_BASTING"), (0x0207, "PRESS_PENDING"),
   (0x0208, "RATE_LOCKED"), (0x0209, "TIME_NOT_READY"), (0x020A, "WRONG_STATE"), (0x020B, "QUEUE_FULL"),
   (0x020C, "FRAME_PASSED"), (0x020D, "SESSION_LIMIT"), (0x020E, "PAIR_ACTIVE_UNIT")] ++
  [(0x0301, "ADMIT_DEADLINE"), (0x0302, "ADMIT_CONFLICT"), (0x0303, "ADMIT_BANDWIDTH"), (0x0304, "ADMIT_MEMORY"),
   (0x0401, "HEADER_BAD"), (0x0402, "SIGNATURE_BAD"), (0x0403, "CRC_BAD"), (0x0404, "EXPECTED_CORRUPT"),
   (0x0405, "DATA_UNCORRECTABLE"), (0x0501, "EXPIRED"), (0x0502, "RDM_TIMEOUT"), (0x0503, "SENSOR_TIMEOUT"),
   (0x0504, "FLASH_TIMEOUT")]

/-- The name of a status. -/
def statusName (status : Nat) : String := (Tab.find statusNames status).getD ""

/-- The last line of a command's answer (R522). -/
def State.niwinEnd (x : Chk? State) (s : State) : State :=
  match x with
  | .ok s' => s'.drive 4 (.uart0 "OK" [])
  | .error b => s.drive 4 (.uart0 ("ERR " ++ statusName b.status) [b.status])

/-- A log that is followed ends (R523). -/
def State.endFollow (s : State) : State :=
  if s.nw.follow then ({ s with nw := { s.nw with follow := false } } : State).drive 4 (.uart0 "OK" []) else s

/-- A line whose first characters are those of a cut one is no command: it answers ERR with a free code (R522, log entry
32). -/
def State.badLine (s : State) : State :=
  let (v, s) := s.draw
  s.drive 4 (.uart0 "ERR" [v.toNat])

/-- Characters that come in UPDATE_PAUSE are kept up to 256: a line that goes beyond them is cut, and its rest discarded
(R522). -/
def Niwin.keep (n : Niwin) (i : Line) : Niwin :=
  let used := (n.held.map fun l => (l.map lineLength).getD 0).foldl (· + ·) 0
  if n.cut || used ≥ 256 then n
  else if used + lineLength i > 256 then { n with cut := true }
  else { n with held := n.held ++ [some i] }

/-- A line or key on UART0 (R522, R523): before the prompt nothing listens; in UPDATE_PAUSE the line is kept, and so is one
that comes while kept ones wait; otherwise a key ends a followed log, and the line acts. -/
def State.niwinInput (i : Line) (run : State → State) (s : State) : State :=
  if !s.nw.started then s
  else
    let s := s.drive 4 (.uart0Echo i)
    if s.gl.device = .updatePause then { s with nw := s.nw.keep i }
    else
      let line := if s.nw.cut then none else some i
      let t : State := { s with nw := { s.nw with cut := false } }
      if !s.nw.held.isEmpty then { t with nw := { t.nw with held := t.nw.held ++ [line] } }
      else if s.nw.cut then t.endFollow.badLine
      else run s.endFollow

/-- A Niwin command is available: one of level S needs SERVICE and is not available in recovery (R523). -/
def State.niwinAllowed (level : Level) (s : State) : Bool := level = .r || (s.gl.device = .service && !s.boot.recovery)

/-- A Niwin command acts and answers, if it is available (R522, R523). -/
def State.niwinDo (level : Level) (f : State → Chk? State) (s : State) : State :=
  s.niwinEnd (if s.niwinAllowed level then f s else .error ⟨Status.wrongState, 0⟩)

/-- A Niwin command (R522, R523). -/
def State.niwinRun (level : Level) (i : Line) (f : State → Chk? State) (s : State) : State :=
  s.niwinInput i (State.niwinDo level f)

/-- A Niwin command as a step. -/
def niwin (level : Level) (i : Line) (s : State) (f : State → Chk? State) : Outcome := .next (s.niwinRun level i f)

/-- Bytes as the values of a line. -/
def byteValues (b : Bytes) : List Nat := b.map BitVec.toNat

/-- A line of an answer. -/
def State.say (name : String) (v : List Nat) (s : State) : State := s.drive 4 (.uart0 name v)

/-! ## Commands of level R (R523) -/

/-- The words that `help` lists. -/
def niwinWords : List String :=
  ["help", "id", "state", "time", "health", "log", "log follow", "counters", "ml", "service on", "service off", "ml dhcp",
   "ml static", "reg rd", "reg wr", "otp", "otp key", "otp revoke", "otp commit", "reset"]

/-- `help`. -/
def niwinHelpBody (s : State) : Chk? State := .ok (niwinWords.foldl (fun (s : State) w => s.say w []) s)
/-- `id`. -/
def niwinIdBody (s : State) : Chk? State := .ok (s.say "id" (byteValues s.identity))
/-- `state`: GLOBAL.STATE, pair state, trial and boot record (slots as 0 and 1, and the cause, 4 for none). -/
def niwinStateBody (s : State) : Chk? State :=
  let b := s.bootRecord
  .ok (s.say "state" [s.globalState, s.pair.st.code, flag b.trial 0, flag b.active 0, flag b.previous 0,
    (b.cause.map FallbackCause.code).getD 4])
/-- `time`. -/
def niwinTimeBody (s : State) : Chk? State := .ok (s.timeStatusBytes.2.say "time" (byteValues s.timeStatusBytes.1))
/-- `health`. -/
def niwinHealthBody (s : State) : Chk? State := .ok (s.say "health" (byteValues s.healthBytes))
/-- `log <n>`: the newest records. -/
def niwinLogBody (n : Nat) (s : State) : Chk? State := do
  inRange (1 ≤ n ∧ n ≤ 64) 0
  .ok ((s.nv.log.drop (s.nv.log.length - n)).foldl (fun (s : State) r => s.say "log" (byteValues (r.bytes false))) s)
/-- `log follow`. -/
def niwinFollowBody (s : State) : State := { s with nw := { s.nw with follow := true } }
/-- `counters`. -/
def niwinCountersBody (s : State) : Chk? State :=
  .ok (s.say "counters" (((List.range 6) ++ (List.range (s.cfg.all .ixRx).length).map (· + 0x0100)).map s.counterValue))
/-- `ml`: the management-lane registers of R516. -/
def niwinMlBody (s : State) : Chk? State :=
  .ok (s.say "ml" ((List.range 7).map fun i => s.hostqRead (0x20 + 4 * i)))

def execNiwinHelp (s : State) : Outcome := niwin .r .help s niwinHelpBody
def execNiwinId (s : State) : Outcome := niwin .r .id s niwinIdBody
def execNiwinState (s : State) : Outcome := niwin .r .state s niwinStateBody
def execNiwinTime (s : State) : Outcome := niwin .r .time s niwinTimeBody
def execNiwinHealth (s : State) : Outcome := niwin .r .health s niwinHealthBody
def execNiwinLog (count : Nat) (s : State) : Outcome := niwin .r (.log count) s (niwinLogBody count)
def execNiwinCounters (s : State) : Outcome := niwin .r .counters s niwinCountersBody
def execNiwinMl (s : State) : Outcome := niwin .r .ml s niwinMlBody
/-- `service on` (R525): refused with WRONG_STATE once the show runs. -/
def execNiwinServiceOn (s : State) : Outcome := niwin .r .serviceOn s State.enterService
/-- `service off`. -/
def niwinOffBody (s : State) : Chk? State := .ok s.exitService
def execNiwinServiceOff (s : State) : Outcome := niwin .r .serviceOff s niwinOffBody

/-- `log follow` (R523): its OK comes when a key is pressed. -/
def execNiwinLogFollow (s : State) : Outcome := .next (s.niwinInput .follow niwinFollowBody)

/-- NIWIN_KEY_PRESS: a followed log ends (R523). -/
def execNiwinKeyPress (s : State) : Outcome := .next (s.niwinInput .key id)

/-! ## Commands of level S (R523, R524) -/

/-- `ml dhcp`: the registers are written and applied. -/
def niwinDhcpBody (s : State) : Chk? State := .ok ({ s with ml := { s.ml with dhcp := true } } : State).mlApply
/-- `ml static`. -/
def niwinStaticBody (address prefixLen gateway : Nat) (s : State) : Chk? State :=
  .ok ({ s with ml := { s.ml with
    dhcp := false, ipv4 := address % 2 ^ 32, plen := min prefixLen 31, gateway := gateway % 2 ^ 32 } } : State).mlApply
/-- `reg rd`. -/
def niwinRegRdBody (off count : Nat) (s : State) : Chk? State := do
  barRange off count
  let (l, s) := s.readWords count off
  .ok (s.say "reg rd" (l.map BitVec.toNat))
/-- `reg wr`, with the refusals of REG_WRITE. -/
def niwinRegWrBody (off : Nat) (w : Reg) (s : State) : Chk? State := do
  barRange off 1
  s.regWritable off
  .ok (s.writeWord off w.toNat)
/-- `reset`: as DEVICE_RESET. -/
def niwinResetBody (s : State) : Chk? State := s.deviceReset

/-- KEY_SLOT of the running image (R463). -/
def State.runningKey (s : State) : Nat := u8 (s.slotHeader s.boot.running) 7

/-- An OTP key slot as it prints: number, programmed, revoked, used by the running image. -/
def State.keyRow (s : State) (k : Nat) : List Nat :=
  let x := Tab.getD s.nv.keys k {}
  [k, flag x.hash.isSome 0, flag x.revoked 0, flag (s.runningKey = k) 0]

/-- An OTP key slot as it is read back: its row, and the 32 bytes of its hash (R524). -/
def State.slotRow (s : State) (k : Nat) : List Nat := s.keyRow k ++ byteValues ((Tab.getD s.nv.keys k {}).hash.getD [])

/-- `otp`. -/
def niwinOtpBody (s : State) : Chk? State :=
  .ok (((List.range 4).foldl (fun (s : State) k => s.say "otp" (s.keyRow k)) s).say "otp" [s.nv.minVersion])

/-- The commit code of a prepared write: CRC-32C of the slot number, and of the hash after it (R524). -/
def commitCode (slot : Nat) (hash : Option Bytes) : Reg := word (crc32c (leBytes 1 slot ++ hash.getD []))

/-- An OTP write is prepared, and its commit code printed (R524). -/
def State.prepareOtp (slot : Nat) (hash : Option Bytes) (s : State) : State :=
  ({ s with nw := { s.nw with prep := some { slot, hash, code := commitCode slot hash, since := s.now } } } : State).say "code"
    [(commitCode slot hash).toNat]

/-- `otp key` (R524). -/
def niwinKeyBody (slot : Nat) (hash : Bytes) (s : State) : Chk? State := do
  need s.nv.ownerHash.isNone Status.ownerLocked 0
  inRange (slot < 4 ∧ hash.length = 32 ∧ (Tab.getD s.nv.keys slot {}).hash.isNone) 0
  .ok (s.prepareOtp slot (some hash))

/-- `otp revoke` (R524). -/
def niwinRevokeBody (slot : Nat) (s : State) : Chk? State := do
  inRange (slot < 4 ∧ slot ≠ s.runningKey ∧ (Tab.getD s.nv.keys slot {}).hash.isSome) 0
  need s.nv.ownerHash.isNone Status.ownerLocked 0
  .ok (s.prepareOtp slot none)

/-- The prepared write is made; OTP bits are never cleared (R524). -/
def State.writeOtp (p : OtpPrep) (s : State) : State :=
  { s with nv := { s.nv with keys := Tab.upd s.nv.keys p.slot {} fun k => match p.hash with
    | some h => { k with hash := some h }
    | none => { k with revoked := true } } }

/-- `otp commit` (R524): with the code in time the write is made and the slot printed; a wrong code, or the expiry, discards
it. -/
def State.commitOtp (code : Reg) (s : State) : State :=
  let gone : State := { s with nw := { s.nw with prep := none } }
  match s.nw.prep with
  | none => s.niwinEnd (.error ⟨Status.expired, 0⟩)
  | some p =>
    if s.now ≥ p.since + secT 30 then gone.niwinEnd (.error ⟨Status.expired, 0⟩)
    else if code ≠ p.code then gone.niwinEnd (.error ⟨Status.crcBad, 0⟩)
    else
      let s := gone.writeOtp p
      s.niwinEnd (.ok (s.say "otp" (s.slotRow p.slot)))

/-- `otp commit` acts where it is available (R523, R524). -/
def State.niwinCommit (code : Reg) (s : State) : State :=
  if s.niwinAllowed .s then s.commitOtp code else s.niwinEnd (.error ⟨Status.wrongState, 0⟩)

def execNiwinMlDhcp (s : State) : Outcome := niwin .s .mlDhcp s niwinDhcpBody
def execNiwinMlStatic (address prefixLen gateway : Nat) (s : State) : Outcome :=
  niwin .s (.mlStatic address prefixLen gateway) s (niwinStaticBody address prefixLen gateway)
def execNiwinRegRd (offset count : Nat) (s : State) : Outcome := niwin .s (.regRd offset count) s (niwinRegRdBody offset count)
def execNiwinRegWr (offset : Nat) (w : Reg) (s : State) : Outcome := niwin .s (.regWr offset w) s (niwinRegWrBody offset w)
def execNiwinOtp (s : State) : Outcome := niwin .r .otp s niwinOtpBody
def execNiwinOtpKey (slot : Nat) (hash : Bytes) (s : State) : Outcome := niwin .s (.otpKey slot hash) s (niwinKeyBody slot hash)
def execNiwinOtpRevoke (slot : Nat) (s : State) : Outcome := niwin .s (.otpRevoke slot) s (niwinRevokeBody slot)
def execNiwinReset (s : State) : Outcome := niwin .s .reset s niwinResetBody

/-- `otp commit` (R524): a commit that fails also discards what was prepared, so that it answers for itself. -/
def execNiwinOtpCommit (code : Reg) (s : State) : Outcome := .next (s.niwinInput (.otpCommit code) (State.niwinCommit code))

/-- OTP_COMMIT_EXPIRE: the prepared write is discarded (R524). -/
def execOtpCommitExpire (s : State) : Outcome :=
  match s.nw.prep with
  | none => .next s
  | some p =>
    let s := s.advanceNow (p.since + secT 30)
    .next { s with nw := { s.nw with prep := none } }

/-! ## Lines kept during UPDATE_PAUSE (R522) -/

/-- What a kept line does. -/
def keptLine (i : Line) : State → State :=
  match i with
  | .help => State.niwinDo .r niwinHelpBody
  | .id => State.niwinDo .r niwinIdBody
  | .state => State.niwinDo .r niwinStateBody
  | .time => State.niwinDo .r niwinTimeBody
  | .health => State.niwinDo .r niwinHealthBody
  | .log n => State.niwinDo .r (niwinLogBody n)
  | .follow => niwinFollowBody
  | .counters => State.niwinDo .r niwinCountersBody
  | .ml => State.niwinDo .r niwinMlBody
  | .serviceOn => State.niwinDo .r State.enterService
  | .serviceOff => State.niwinDo .r niwinOffBody
  | .mlDhcp => State.niwinDo .s niwinDhcpBody
  | .mlStatic a n g => State.niwinDo .s (niwinStaticBody a n g)
  | .regRd o n => State.niwinDo .s (niwinRegRdBody o n)
  | .regWr o w => State.niwinDo .s (niwinRegWrBody o w)
  | .otp => State.niwinDo .r niwinOtpBody
  | .otpKey k h => State.niwinDo .s (niwinKeyBody k h)
  | .otpRevoke k => State.niwinDo .s (niwinRevokeBody k)
  | .otpCommit w => State.niwinCommit w
  | .reset => State.niwinDo .s niwinResetBody
  | .key => id

/-- The kept lines act in order once the pause is over. -/
def State.releaseLines (s : State) : State :=
  if s.gl.device = .updatePause then s
  else
    s.nw.held.foldl (fun (s : State) i => match i with
      | some l => keptLine l s.endFollow
      | none => s.endFollow.badLine) { s with nw := { s.nw with held := [] } }

end Sys2Proof.Machine
end

