-- ==== Sys2Proof/Machine/Accept.lean ====
section
/-! DEFINITION. The opcodes of R112; command packets from the rings of host memory and of the management lane (R81-R86,
R92, R97-R99, R514, R518); and what goes on by itself when no command waits. -/

namespace Sys2Proof.Machine

/-! ## The catalogue -/

/-- Family 0x01 of R112. -/
def opsGeneral : List Op :=
  [identifyOp, sessionOpenOp, sessionCloseOp, sessionKeepaliveOp, tagStatusOp, timedCancelOp, sessionListOp]

/-- Family 0x02 of R112. -/
def opsShow : List Op :=
  [admitOp, basteBeginOp, basteAbortOp, pressConfigOp, admitReportOp, showStartOp, showArmOp, showDisarmOp,
   showStopOp, safeHoldEnterOp, showResumeOp, setEnvelopeOp, setFrameOp, setRoleOp, stageReadOp, configSaveOp,
   configLoadOp]

/-- Family 0x03 of R112. -/
def opsPatch : List Op :=
  [typeDefineOp, typeDeleteOp, patchAddOp, patchRemoveOp, patchReadOp, paramWriteOp, paramReleaseOp, paramReadOp,
   sacnRxMapOp]

/-- Family 0x04 of R112. -/
def opsPlayback : List Op :=
  [playbackDefineOp, cueStoreOp, playbackGoOp, playbackBackOp, playbackGotoOp, playbackReleaseOp, playbackLevelOp,
   playbackRateOp, curveTableOp, playbackStatusOp]

/-- Family 0x05 of R112. -/
def opsEffect : List Op :=
  [effectDefineOp, effectAssignOp, effectRateOp, effectSizeOp, effectStartOp, effectStopOp, effectPhaseOp,
   effectStatusOp]

/-- Family 0x06 of R112. -/
def opsColour : List Op :=
  [colourSpaceOp, mixStrategyOp, dimCurveOp, calsetLoadOp, sensorScriptOp, calRunOp, calResultOp, trimControlOp,
   trimStatusOp, calsetSaveOp]

/-- Family 0x07 of R112. -/
def opsCanvas : List Op :=
  [canvasDefineOp, layerDefineOp, pixmapLoadOp, videoRxDefineOp, witnessDefineOp, bufferRegisterOp,
   bufferReleaseOp, videoRxStatusOp]

/-- Family 0x08 of R112. -/
def opsNetwork : List Op :=
  [laneDefineOp, flowDefineOp, flowDeleteOp, sacnOutDefineOp, sacnRxDefineOp, ixnikDefineOp, scanDefineOp,
   dmxDefineOp, flowEnableOp, flowRinseOp, flowStatsOp, rdmRequestOp, rdmDiscoverOp]

/-- Family 0x09 of R112. -/
def opsTime : List Op :=
  [timeConfigOp, timeStatusOp, domainSelectOp, triggerDefineOp, latencyMeasureOp, latencyTableOp]

/-- Family 0x0A of R112. -/
def opsPair : List Op :=
  [pairDefineOp, pairStatusOp, pairMaintenanceOp, pairHandoverOp]

/-- Family 0x0B of R112. -/
def opsMeter : List Op :=
  [meterDefineOp, feederDefineOp, meterReadOp, feederResetOp, nightMeterReadOp]

/-- Family 0x0C of R112. -/
def opsStorage : List Op :=
  [updateOpenOp, updateBlockOp, updateCloseOp, updateAbortOp, updateActivateOp, healthConfirmOp, flashReadOp,
   flashWriteOp, flashEraseOp, ownerLockOp, personalityReadOp]

/-- Family 0x0D of R112. -/
def opsHealth : List Op :=
  [healthReadOp, eventRouteOp, eventMaskOp, logReadOp, countersReadOp, avsStatusOp]

/-- Family 0x0E of R112. -/
def opsCheck : List Op :=
  [chkStartOp, chkResultOp, chkExpectOp, chkModeOp]

/-- Family 0x0F of R112. -/
def opsDiagnostic : List Op :=
  [regReadOp, regWriteOp, echoOp, loopbackOp, serviceEnterOp, serviceExitOp, deviceResetOp]

/-- The opcodes of R112. -/
def catalogue : List Op :=
  opsGeneral ++ opsShow ++ opsPatch ++ opsPlayback ++ opsEffect ++ opsColour ++ opsCanvas ++ opsNetwork ++
  opsTime ++ opsPair ++ opsMeter ++ opsStorage ++ opsHealth ++ opsCheck ++ opsDiagnostic

/-- The opcode with a code. -/
def findOp (code : Nat) : Option Op := catalogue.find? fun o => o.code = code

/-! ## Command packets (R81-R83) -/

/-- The OPCODE of a packet. -/
abbrev pkOp (b : Bytes) : Nat := u16 b 0

/-- The header and payload of a packet (R81). -/
def packetReq (pair rplSize : Nat) (b : Bytes) : Req :=
  { pair, flags := u16 b 4, session := u16 b 6, tag := u16 b 8, timeoutMs := u16 b 10
    atFrame := if u8 b 3 = 6 then some (u48 b 16) else none
    payload := b.drop (4 * u8 b 3), rplSize }

/-- The most payload bytes of a packet: 65,536, and in a datagram what R97 leaves. -/
def packetRoom (ml : Bool) (hwords : Nat) : Nat := if ml then 65507 - 4 * hwords else 65536

/-- Checks 1 and 2 of R83, in order, with the payload limit of R97. -/
def packetCheck (ml : Bool) (b : Bytes) : Chk? Unit :=
  let hw := u8 b 3
  let wants := if bit (u16 b 4) 0 then 6 else 4
  if u8 b 2 ≠ 1 then .error ⟨Status.badVersion, 1⟩
  else if hw ≠ wants then .error ⟨Status.badLength, 4 * wants⟩
  else if u32 b 12 > packetRoom ml hw ∨ b.length ≠ 4 * hw + u32 b 12 then .error ⟨Status.badLength, 4 * hw⟩
  else .ok ()

/-- Checks 1 to 3 of R83. -/
def checkPacket (ml : Bool) (b : Bytes) : Chk? Op :=
  match packetCheck ml b with
  | .error e => .error e
  | .ok _ =>
    match findOp (pkOp b) with
    | none => .error ⟨Status.badOpcode, 0⟩
    | some op => .ok op

/-- A packet that the device has taken from its ring is accepted and runs, or is refused (R83, R86). -/
def State.acceptPacket (n rplSize : Nat) (sentTo : Option Nat) (b : Bytes) (s : State) : State :=
  let r := { packetReq n rplSize b with sentTo }
  let s := s.accept (pkOp b) r
  match checkPacket (s.ring n).ml b with
  | .error e => s.answer n e.ans
  | .ok op => s.start op r

/-! ## Acceptance (R86, R99) -/

/-- A packet is a retransmission of the command of a cached reply or of a command that executes (R99). -/
def sameCommand (b : Bytes) (op session tag : Nat) : Bool := pkOp b = op && u16 b 6 = session && u16 b 8 = tag

/-- The next datagram of a management-lane pair is taken: a retransmission is answered from the cache, or dropped while
its command executes (R99); any other is accepted, where the pair accepts commands. -/
def State.takeDatagram (n : Nat) (s : State) : State :=
  let p := s.ring n
  match p.ring with
  | [] => s
  | (sentTo, b) :: rest =>
    let taken := s.setRing n { p with ring := rest, cmdHead := (p.cmdHead + 1) % 65536 }
    let counted : State := { taken with hq := { taken.hq with mlDup := satInc s.hq.mlDup } }
    match p.cache.find? fun r => sameCommand b r.op r.session r.tag with
    | some r =>
      match p.bound with
      | none => counted
      | some e => counted.sendDatagram sentTo e { r with dup := true }
    | none =>
      if (p.slots ++ p.late).any fun x => sameCommand b x.op x.session x.tag then counted
      else if s.accepts n && !s.confirmWaits (pkOp b) then taken.acceptPacket n 0 (some sentTo) b
      else s

/-- The next entry of a PCIe pair is taken: its packet and its reply buffer size come from host memory (R92). -/
def State.takeEntry (n rplSize : Nat) (b : Bytes) (s : State) : State :=
  let p := s.ring n
  if p.cmdHead = p.cmdTail ∨ !(s.pcie.canDma) then s
  else (s.setRing n { p with cmdHead := (p.cmdHead + 1) % 65536 }).acceptPacket n (min rplSize 1048576) none b

/-- COMMAND_ACCEPT (R86): nothing is accepted while the device or the pair takes no command (R95, R105, R113). -/
def execCommandAccept (pair : Nat) (packet : Bytes) (rplSize : Nat) (s : State) : Outcome :=
  onPair pair s fun s =>
    if !s.serves pair then s
    else if (s.ring pair).ml then s.takeDatagram pair
    else if s.accepts pair && !s.confirmWaits (pkOp packet) then s.takeEntry pair rplSize packet
    else s

/-! ## Datagrams of the management lane (R97, R98, R514, R518) -/

/-- The management-lane pairs, in rising number. -/
def State.mlPairs (s : State) : List Nat := (List.range 64).filter fun n => (s.ring n).ml

/-- The pair that a datagram of an endpoint goes to: the pair bound to it, or else the lowest enabled pair that is not
bound (R98). -/
def State.pairFor (s : State) (e : Endpoint) : Option Nat :=
  match s.mlPairs.find? fun n => (s.ring n).bound = some e with
  | some n => some n
  | none => s.mlPairs.find? fun n => (s.ring n).enable && (s.ring n).bound.isNone

/-- A datagram to 255.255.255.255: only IDENTIFY with session 0 is answered, without binding or cache (R518). -/
def State.broadcastRx (e : Endpoint) (b : Bytes) (s : State) : State :=
  let r := packetReq 0 0 b
  if pkOp b ≠ 0x0101 ∨ r.session ≠ 0 ∨ !(s.gl.device = .operational || s.gl.device = .service) then s
  else
    let x : Slot := { op := 0x0101, session := 0, tag := r.tag, rplSize := 0, deadline := none }
    let ans : Ans := match packetCheck true b with
      | .error bad => bad.ans
      | .ok _ => match headerCheck identifyOp r s with
        | .error bad => bad.ans
        | .ok _ => match identifyOp.layout r.payload with
          | some d => { status := Status.outOfRange, detail := d }
          | none => { payload := s.identity }
    s.sendDatagram s.ml.addr e (x.reply true ans)

/-- A datagram enters the ring of its pair, or is dropped and counted (R98). -/
def State.datagramRx (e : Endpoint) (b : Bytes) (s : State) : State :=
  match s.pairFor e with
  | none => { s with hq := { s.hq with mlUnbound := satInc s.hq.mlUnbound } }
  | some n =>
    let p := s.ring n
    let p := { p with bound := some e, idleSince := none }
    if p.ring.length ≥ 64 then s.setRing n { p with mlDrop := satInc p.mlDrop } else s.setRing n { p with ring := p.ring ++ [(s.ml.addr, b)] }

/-- A datagram on port 47012, when the lane is up; one that is not a broadcast needs an address in use (R514, R515). -/
def State.mlRx (e : Endpoint) (broadcast : Bool) (b : Bytes) (s : State) : State :=
  if !s.ml.link then s
  else if broadcast then s.broadcastRx e b
  else if s.ml.addrSrc = .none then s
  else s.datagramRx e b

/-- ML_DATAGRAM_RX (R98). -/
def execMlDatagramRx (src : Endpoint) (broadcast : Bool) (packet : Bytes) (s : State) : Outcome :=
  .next (s.mlRx src broadcast packet)

/-- A bound pair's endpoint has no open session and no outstanding command (R98). -/
def State.bindingIdle (s : State) (n : Nat) : Bool :=
  let p := s.ring n
  match p.bound with
  | none => false
  | some e => p.ring.isEmpty && p.slots.isEmpty && p.late.isEmpty &&
      !(s.ses.any fun (x : Nat × Session) => x.2.isOpen && x.2.source = .ml e)

/-- ML_BINDING_EXPIRE (R98): the binding ends, and with it the replies cached for its endpoint. -/
def execMlBindingExpire (pair : Nat) (s : State) : Outcome := onPair pair s fun s =>
  if !s.bindingIdle pair then s
  else
    let s := s.advanceNow ((s.ring pair).idleSince.getD s.now + secT 60)
    s.setRing pair { s.ring pair with bound := none, cache := [], idleSince := none }

/-- Bindings whose endpoint has just become idle note the time, and busy ones have none (R98). -/
def State.pollBindings (s : State) : State :=
  s.mlPairs.foldl (fun (s : State) n =>
    if s.bindingIdle n then
      if (s.ring n).idleSince.isNone then s.setRing n { s.ring n with idleSince := some s.now } else s
    else if (s.ring n).idleSince.isSome then s.setRing n { s.ring n with idleSince := none } else s) s

/-! ## Reassembly (R514) -/

/-- The bytes that reassembly holds. -/
def Ml.reasmBytes (m : Ml) : Nat := ((m.reasm.flatMap fun x => x.parts).map fun p => p.2.length).foldl (· + ·) 0

/-- The end of the bytes that fragments give without a gap from an offset on. -/
def gapless (at_ : Nat) (parts : Tab Bytes) : Nat :=
  match parts with
  | [] => at_
  | (off, b) :: rest => if off = at_ then gapless (at_ + b.length) rest else at_

/-- The datagram of fragments, once every byte is there. -/
def Reasm.whole (x : Reasm) : Option Bytes := if x.total = some (gapless 0 x.parts) then some ((x.parts.flatMap Prod.snd)) else none

/-- A fragment joins its datagram. -/
def Reasm.add (x : Reasm) (off : Nat) (more : Bool) (body : Bytes) : Reasm :=
  { x with
    parts := if Tab.has x.parts off then x.parts else Tab.put x.parts off body
    total := if more then x.total else some (off + body.length) }

/-- A datagram in reassembly is dropped and counted, once (R514, log entry 195). -/
def State.dropReasm (src : Endpoint) (id : Nat) (s : State) : State :=
  let old := s.ml.dropped.filter fun d => decide (s.now < d.at_ + secT 1)
  { s with ml := { s.ml with
    reasm := s.ml.reasm.filter fun x => !decide (x.src = src ∧ x.id = id)
    dropped := old ++ [{ src, id, at_ := s.now }], reasmDrop := satInc s.ml.reasmDrop } }

/-- The datagram of a fragment was dropped within the last second. -/
def Ml.wasDropped (m : Ml) (src : Endpoint) (id now : Nat) : Bool :=
  m.dropped.any fun d => decide (d.src = src ∧ d.id = id ∧ now < d.at_ + secT 1)

/-- ML_FRAGMENT_RX: 8 datagrams and 512 KiB at most; a datagram that is whole is received (R514). `offset` counts bytes of
the UDP payload. -/
def State.fragmentRx (src : Endpoint) (id off : Nat) (more : Bool) (body : Bytes) (s : State) : State :=
  let mine := fun (x : Reasm) => decide (x.src = src ∧ x.id = id)
  let others := s.ml.reasm.filter fun x => !mine x
  if !s.ml.link ∨ s.ml.addrSrc = .none ∨ s.ml.wasDropped src id s.now then s
  else
    let x : Reasm := (s.ml.reasm.find? mine).getD { src, id, parts := [], total := none, since := s.now }
    if others.length ≥ 8 ∨ s.ml.reasmBytes + body.length > 524288 then s.dropReasm src id
    else
      let x := x.add off more body
      match x.whole with
      | some b => ({ s with ml := { s.ml with reasm := others } } : State).mlRx src false b
      | none => { s with ml := { s.ml with reasm := others ++ [x] } }

/-- ML_FRAGMENT_RX (R514). -/
def execMlFragmentRx (src : Endpoint) (id offset : Nat) (more : Bool) (body : Bytes) (s : State) : Outcome :=
  .next (s.fragmentRx src id offset more body)

/-- ML_REASSEMBLY_TIMEOUT: the datagram is dropped and counted 1 s after its first fragment (R514). -/
def execMlReassemblyTimeout (src : Endpoint) (id : Nat) (s : State) : Outcome :=
  match s.ml.reasm.find? fun x => x.src = src ∧ x.id = id with
  | none => .next s
  | some x => .next ((s.advanceNow (x.since + secT 1)).dropReasm src id)

/-! ## What goes on when no command waits (log entry 2) -/

/-- The first command among slots that waits for its fence or its turn and may execute now, with its position. -/
def State.firstReady (n : Nat) (before : List Slot) (s : State) : List Slot → Option (Nat × Slot)
  | [] => none
  | x :: rest => if s.mayStart n before x then some (before.length, x) else s.firstReady n (before ++ [x]) rest

/-- The command that waits at a position of a pair executes, with the job id that it took (R558). -/
def State.begin_ (n i : Nat) (x : Slot) (r : Req) (s : State) : State :=
  match findOp x.op with
  | none => s
  | some op =>
    let s := s.setRing n { s.ring n with slots := (s.ring n).slots.set i { x with wait := .executing, job := none } }
    let s := { s with jobs := { s.jobs with waiting := s.jobs.waiting.filter fun id => some id ≠ x.job, reserved := x.job } }
    let s := s.concludeRead { r with pair := n } (op.execute r s)
    { s with jobs := { s.jobs with reserved := none } }

/-- The first command of a pair that waits and may execute does (R103, R104). -/
def State.openFence (n : Nat) (s : State) : State :=
  match s.firstReady n [] (s.ring n).slots with
  | none => s
  | some (i, x) =>
    match x.wait with
    | .fence r _ => s.begin_ n i x r
    | .turn r => s.begin_ n i x r
    | _ => s

/-- The commands whose fence has opened or whose turn has come, one of each pair. -/
def State.pollFences (s : State) : State := (List.range 64).foldl (fun (s : State) n => s.openFence n) s

/-- One period of the 25 MHz TCXO passes; fences that have opened and kept Niwin lines go on. -/
def State.tick (s : State) : State := (s.elapse (nsT 40)).pollFences.releaseLines.pollBindings

end Sys2Proof.Machine
end

