-- ==== Sys2Proof/Machine/Dispatch.lean ====
section
/-! DEFINITION. The dispatch: one arm per row of the opcode table. -/

namespace Sys2Proof.Machine

def exec (i : Instr) (s : State) : Host.Outcome State Fault Refusal :=
  match i with
  | .identify r => Sys2Proof.Machine.execIdentify r s
  | .sessionOpen r => Sys2Proof.Machine.execSessionOpen r s
  | .sessionClose r => Sys2Proof.Machine.execSessionClose r s
  | .sessionKeepalive r => Sys2Proof.Machine.execSessionKeepalive r s
  | .tagStatus r => Sys2Proof.Machine.execTagStatus r s
  | .timedCancel r => Sys2Proof.Machine.execTimedCancel r s
  | .sessionList r => Sys2Proof.Machine.execSessionList r s
  | .admitConfig r => Sys2Proof.Machine.execAdmit r s
  | .basteBegin r => Sys2Proof.Machine.execBasteBegin r s
  | .basteAbort r => Sys2Proof.Machine.execBasteAbort r s
  | .pressConfig r => Sys2Proof.Machine.execPressConfig r s
  | .admitReport r => Sys2Proof.Machine.execAdmitReport r s
  | .showStart r => Sys2Proof.Machine.execShowStart r s
  | .showArm r => Sys2Proof.Machine.execShowArm r s
  | .showDisarm r => Sys2Proof.Machine.execShowDisarm r s
  | .showStop r => Sys2Proof.Machine.execShowStop r s
  | .safeHoldEnter r => Sys2Proof.Machine.execSafeHoldEnter r s
  | .showResume r => Sys2Proof.Machine.execShowResume r s
  | .setEnvelope r => Sys2Proof.Machine.execSetEnvelope r s
  | .setFrame r => Sys2Proof.Machine.execSetFrame r s
  | .setRole r => Sys2Proof.Machine.execSetRole r s
  | .stageRead r => Sys2Proof.Machine.execStageRead r s
  | .configSave r => Sys2Proof.Machine.execConfigSave r s
  | .configLoad r => Sys2Proof.Machine.execConfigLoad r s
  | .typeDefine r => Sys2Proof.Machine.execTypeDefine r s
  | .typeDelete r => Sys2Proof.Machine.execTypeDelete r s
  | .patchAdd r => Sys2Proof.Machine.execPatchAdd r s
  | .patchRemove r => Sys2Proof.Machine.execPatchRemove r s
  | .patchRead r => Sys2Proof.Machine.execPatchRead r s
  | .paramWrite r => Sys2Proof.Machine.execParamWrite r s
  | .paramRelease r => Sys2Proof.Machine.execParamRelease r s
  | .paramRead r => Sys2Proof.Machine.execParamRead r s
  | .sacnRxMap r => Sys2Proof.Machine.execSacnRxMap r s
  | .playbackDefine r => Sys2Proof.Machine.execPlaybackDefine r s
  | .cueStore r => Sys2Proof.Machine.execCueStore r s
  | .playbackGo r => Sys2Proof.Machine.execPlaybackGo r s
  | .playbackBack r => Sys2Proof.Machine.execPlaybackBack r s
  | .playbackGoto r => Sys2Proof.Machine.execPlaybackGoto r s
  | .playbackRelease r => Sys2Proof.Machine.execPlaybackRelease r s
  | .playbackLevel r => Sys2Proof.Machine.execPlaybackLevel r s
  | .playbackRate r => Sys2Proof.Machine.execPlaybackRate r s
  | .curveTable r => Sys2Proof.Machine.execCurveTable r s
  | .playbackStatus r => Sys2Proof.Machine.execPlaybackStatus r s
  | .effectDefine r => Sys2Proof.Machine.execEffectDefine r s
  | .effectAssign r => Sys2Proof.Machine.execEffectAssign r s
  | .effectRate r => Sys2Proof.Machine.execEffectRate r s
  | .effectSize r => Sys2Proof.Machine.execEffectSize r s
  | .effectStart r => Sys2Proof.Machine.execEffectStart r s
  | .effectStop r => Sys2Proof.Machine.execEffectStop r s
  | .effectPhase r => Sys2Proof.Machine.execEffectPhase r s
  | .effectStatus r => Sys2Proof.Machine.execEffectStatus r s
  | .colourSpace r => Sys2Proof.Machine.execColourSpace r s
  | .mixStrategy r => Sys2Proof.Machine.execMixStrategy r s
  | .dimCurve r => Sys2Proof.Machine.execDimCurve r s
  | .calsetLoad r => Sys2Proof.Machine.execCalsetLoad r s
  | .sensorScript r => Sys2Proof.Machine.execSensorScript r s
  | .calRun r => Sys2Proof.Machine.execCalRun r s
  | .calResult r => Sys2Proof.Machine.execCalResult r s
  | .trimControl r => Sys2Proof.Machine.execTrimControl r s
  | .trimStatus r => Sys2Proof.Machine.execTrimStatus r s
  | .calsetSave r => Sys2Proof.Machine.execCalsetSave r s
  | .canvasDefine r => Sys2Proof.Machine.execCanvasDefine r s
  | .layerDefine r => Sys2Proof.Machine.execLayerDefine r s
  | .pixmapLoad r => Sys2Proof.Machine.execPixmapLoad r s
  | .videoRxDefine r => Sys2Proof.Machine.execVideoRxDefine r s
  | .witnessDefine r => Sys2Proof.Machine.execWitnessDefine r s
  | .bufferRegister r => Sys2Proof.Machine.execBufferRegister r s
  | .bufferRelease r => Sys2Proof.Machine.execBufferRelease r s
  | .videoRxStatus r => Sys2Proof.Machine.execVideoRxStatus r s
  | .laneDefine r => Sys2Proof.Machine.execLaneDefine r s
  | .flowDefine r => Sys2Proof.Machine.execFlowDefine r s
  | .flowDelete r => Sys2Proof.Machine.execFlowDelete r s
  | .sacnOutDefine r => Sys2Proof.Machine.execSacnOutDefine r s
  | .sacnRxDefine r => Sys2Proof.Machine.execSacnRxDefine r s
  | .ixnikDefine r => Sys2Proof.Machine.execIxnikDefine r s
  | .scanDefine r => Sys2Proof.Machine.execScanDefine r s
  | .dmxDefine r => Sys2Proof.Machine.execDmxDefine r s
  | .flowEnable r => Sys2Proof.Machine.execFlowEnable r s
  | .flowRinse r => Sys2Proof.Machine.execFlowRinse r s
  | .flowStats r => Sys2Proof.Machine.execFlowStats r s
  | .rdmRequest r => Sys2Proof.Machine.execRdmRequest r s
  | .rdmDiscover r => Sys2Proof.Machine.execRdmDiscover r s
  | .timeConfig r => Sys2Proof.Machine.execTimeConfig r s
  | .timeStatus r => Sys2Proof.Machine.execTimeStatus r s
  | .domainSelect r => Sys2Proof.Machine.execDomainSelect r s
  | .triggerDefine r => Sys2Proof.Machine.execTriggerDefine r s
  | .latencyMeasure r => Sys2Proof.Machine.execLatencyMeasure r s
  | .latencyTable r => Sys2Proof.Machine.execLatencyTable r s
  | .pairDefine r => Sys2Proof.Machine.execPairDefine r s
  | .pairStatus r => Sys2Proof.Machine.execPairStatus r s
  | .pairMaintenance r => Sys2Proof.Machine.execPairMaintenance r s
  | .pairHandover r => Sys2Proof.Machine.execPairHandover r s
  | .meterDefine r => Sys2Proof.Machine.execMeterDefine r s
  | .feederDefine r => Sys2Proof.Machine.execFeederDefine r s
  | .meterRead r => Sys2Proof.Machine.execMeterRead r s
  | .feederReset r => Sys2Proof.Machine.execFeederReset r s
  | .nightMeterRead r => Sys2Proof.Machine.execNightMeterRead r s
  | .updateOpen r => Sys2Proof.Machine.execUpdateOpen r s
  | .updateBlock r => Sys2Proof.Machine.execUpdateBlock r s
  | .updateClose r => Sys2Proof.Machine.execUpdateClose r s
  | .updateAbort r => Sys2Proof.Machine.execUpdateAbort r s
  | .updateActivate r => Sys2Proof.Machine.execUpdateActivate r s
  | .healthConfirm r => Sys2Proof.Machine.execHealthConfirm r s
  | .flashRead r => Sys2Proof.Machine.execFlashRead r s
  | .flashWrite r => Sys2Proof.Machine.execFlashWrite r s
  | .flashErase r => Sys2Proof.Machine.execFlashErase r s
  | .ownerLock r => Sys2Proof.Machine.execOwnerLock r s
  | .personalityRead r => Sys2Proof.Machine.execPersonalityRead r s
  | .healthRead r => Sys2Proof.Machine.execHealthRead r s
  | .eventRoute r => Sys2Proof.Machine.execEventRoute r s
  | .eventMask r => Sys2Proof.Machine.execEventMask r s
  | .logRead r => Sys2Proof.Machine.execLogRead r s
  | .countersRead r => Sys2Proof.Machine.execCountersRead r s
  | .avsStatus r => Sys2Proof.Machine.execAvsStatus r s
  | .chkStart r => Sys2Proof.Machine.execChkStart r s
  | .chkResult r => Sys2Proof.Machine.execChkResult r s
  | .chkExpect r => Sys2Proof.Machine.execChkExpect r s
  | .chkMode r => Sys2Proof.Machine.execChkMode r s
  | .regRead r => Sys2Proof.Machine.execRegRead r s
  | .regWrite r => Sys2Proof.Machine.execRegWrite r s
  | .echo r => Sys2Proof.Machine.execEcho r s
  | .loopback r => Sys2Proof.Machine.execLoopback r s
  | .serviceEnter r => Sys2Proof.Machine.execServiceEnter r s
  | .serviceExit r => Sys2Proof.Machine.execServiceExit r s
  | .deviceReset r => Sys2Proof.Machine.execDeviceReset r s
  | .cmdTailWrite pair index => Sys2Proof.Machine.execCmdTailWrite pair index s
  | .commandAccept pair packet rplSize => Sys2Proof.Machine.execCommandAccept pair packet rplSize s
  | .rplTailWrite pair index => Sys2Proof.Machine.execRplTailWrite pair index s
  | .replyStallTimeout pair => Sys2Proof.Machine.execReplyStallTimeout pair s
  | .replyTimeoutExpire pair position => Sys2Proof.Machine.execReplyTimeoutExpire pair position s
  | .hostqEnableSet pair => Sys2Proof.Machine.execHostqEnableSet pair s
  | .hostqEnableClear pair => Sys2Proof.Machine.execHostqEnableClear pair s
  | .hostqDisableDone pair => Sys2Proof.Machine.execHostqDisableDone pair s
  | .hostqRinse pair => Sys2Proof.Machine.execHostqRinse pair s
  | .dmaReadFail target => Sys2Proof.Machine.execDmaReadFail target s
  | .rplDmaFail pair => Sys2Proof.Machine.execRplDmaFail pair s
  | .pcieLinkLoss => Sys2Proof.Machine.execPcieLinkLoss s
  | .pcieFlr => Sys2Proof.Machine.execPcieFlr s
  | .busMasterClear => Sys2Proof.Machine.execBusMasterClear s
  | .d3hotEnter => Sys2Proof.Machine.execD3hotEnter s
  | .perstNAssert => Sys2Proof.Machine.execPerstNAssert s
  | .msixUnmask mask => Sys2Proof.Machine.execMsixUnmask mask s
  | .mlDatagramRx src broadcast packet => Sys2Proof.Machine.execMlDatagramRx src broadcast packet s
  | .mlBindingExpire pair => Sys2Proof.Machine.execMlBindingExpire pair s
  | .mlFragmentRx src id offset more body => Sys2Proof.Machine.execMlFragmentRx src id offset more body s
  | .mlReassemblyTimeout src id => Sys2Proof.Machine.execMlReassemblyTimeout src id s
  | .mlApply => Sys2Proof.Machine.execMlApply s
  | .dhcpMessageRx msg => Sys2Proof.Machine.execDhcpMessageRx msg s
  | .linkLocalTimeout address => Sys2Proof.Machine.execLinkLocalTimeout address s
  | .sessionKeepaliveExpire slot => Sys2Proof.Machine.execSessionKeepaliveExpire slot s
  | .fifoWindowRead addr bytes => Sys2Proof.Machine.execFifoWindowRead addr bytes s
  | .fifoReadWaitExpire addr bytes => Sys2Proof.Machine.execFifoReadWaitExpire addr bytes s
  | .fifoWriteWaitExpire lane word => Sys2Proof.Machine.execFifoWriteWaitExpire lane word s
  | .rinseDiscardPoint target => Sys2Proof.Machine.execRinseDiscardPoint target s
  | .rinsePartialTimeout lane => Sys2Proof.Machine.execRinsePartialTimeout lane s
  | .rcRead read => Sys2Proof.Machine.execRcRead read s
  | .latchingRead read => Sys2Proof.Machine.execLatchingRead read s
  | .nowNsRead => Sys2Proof.Machine.execNowNsRead s
  | .sweepRead => Sys2Proof.Machine.execSweepRead s
  | .meterSeqRead meter => Sys2Proof.Machine.execMeterSeqRead meter s
  | .rtcFracRead => Sys2Proof.Machine.execRtcFracRead s
  | .deltaRead meter set exported => Sys2Proof.Machine.execDeltaRead meter set exported s
  | .registerWrite addr data => Sys2Proof.Machine.execRegisterWrite addr data s
  | .shadowWrite addr data => Sys2Proof.Machine.execShadowWrite addr data s
  | .canvasCommitWrite canvas => Sys2Proof.Machine.execCanvasCommitWrite canvas s
  | .paletteWrite offset word => Sys2Proof.Machine.execPaletteWrite offset word s
  | .palMapWrite layer word => Sys2Proof.Machine.execPalMapWrite layer word s
  | .witnessExpectedWrite window word => Sys2Proof.Machine.execWitnessExpectedWrite window word s
  | .timeSet => Sys2Proof.Machine.execTimeSet s
  | .ttuArm unit mode => Sys2Proof.Machine.execTtuArm unit mode s
  | .ttuDisarm unit => Sys2Proof.Machine.execTtuDisarm unit s
  | .ttiRinse input => Sys2Proof.Machine.execTtiRinse input s
  | .qdataWrite lane word => Sys2Proof.Machine.execQdataWrite lane word s
  | .qrinse lane => Sys2Proof.Machine.execQrinse lane s
  | .faultCtrlWrite port word => Sys2Proof.Machine.execFaultCtrlWrite port word s
  | .seamGainWrite port vertical word => Sys2Proof.Machine.execSeamGainWrite port vertical word s
  | .fullWriteRequest port => Sys2Proof.Machine.execFullWriteRequest port s
  | .retRinse port => Sys2Proof.Machine.execRetRinse port s
  | .groupRearm port index word => Sys2Proof.Machine.execGroupRearm port index word s
  | .uidRinse port => Sys2Proof.Machine.execUidRinse port s
  | .chkRegStart channel => Sys2Proof.Machine.execChkRegStart channel s
  | .chkAbort channel => Sys2Proof.Machine.execChkAbort channel s
  | .chkExpectedCommit channel word => Sys2Proof.Machine.execChkExpectedCommit channel word s
  | .evtRingEnable => Sys2Proof.Machine.execEvtRingEnable s
  | .boot inputs => Sys2Proof.Machine.execBoot inputs s
  | .porstNAssert => Sys2Proof.Machine.execPorstNAssert s
  | .autoload => Sys2Proof.Machine.execAutoload s
  | .autoStart => Sys2Proof.Machine.execAutoStart s
  | .coreWatchdogExpire core => Sys2Proof.Machine.execCoreWatchdogExpire core s
  | .coreRestartDone core => Sys2Proof.Machine.execCoreRestartDone core s
  | .admissionComplete => Sys2Proof.Machine.execAdmissionComplete s
  | .cut => Sys2Proof.Machine.execCut s
  | .jobSegmentComplete lane storeError => Sys2Proof.Machine.execJobSegmentComplete lane storeError s
  | .jobComplete lane badParity => Sys2Proof.Machine.execJobComplete lane badParity s
  | .backgroundItemComplete lane kind => Sys2Proof.Machine.execBackgroundItemComplete lane kind s
  | .scrubItem item => Sys2Proof.Machine.execScrubItem item s
  | .launchInstant flow => Sys2Proof.Machine.execLaunchInstant flow s
  | .pressPoint canvas => Sys2Proof.Machine.execPressPoint canvas s
  | .bufferFetchComplete layer data => Sys2Proof.Machine.execBufferFetchComplete layer data s
  | .paletteCopyDone layer => Sys2Proof.Machine.execPaletteCopyDone layer s
  | .witnessReloadDone window ledgerGood => Sys2Proof.Machine.execWitnessReloadDone window ledgerGood s
  | .expectedLedgerCopy owner => Sys2Proof.Machine.execExpectedLedgerCopy owner s
  | .videoPacketRx stream packet => Sys2Proof.Machine.execVideoPacketRx stream packet s
  | .imageRewriteDone => Sys2Proof.Machine.execImageRewriteDone s
  | .ptpSyncRx msg => Sys2Proof.Machine.execPtpSyncRx msg s
  | .ptpFollowUpRx msg => Sys2Proof.Machine.execPtpFollowUpRx msg s
  | .ptpAnnounceRx msg => Sys2Proof.Machine.execPtpAnnounceRx msg s
  | .ptpDelayReqRx msg => Sys2Proof.Machine.execPtpDelayReqRx msg s
  | .ptpDelayRespRx msg => Sys2Proof.Machine.execPtpDelayRespRx msg s
  | .announceReceiptTimeout dom => Sys2Proof.Machine.execAnnounceReceiptTimeout dom s
  | .syncReceiptTimeout dom => Sys2Proof.Machine.execSyncReceiptTimeout dom s
  | .followUpTimeout dom => Sys2Proof.Machine.execFollowUpTimeout dom s
  | .delayRespTimeout dom => Sys2Proof.Machine.execDelayRespTimeout dom s
  | .ptpSyncInterval dom => Sys2Proof.Machine.execPtpSyncInterval dom s
  | .ptpAnnounceInterval dom => Sys2Proof.Machine.execPtpAnnounceInterval dom s
  | .delayReqInterval dom => Sys2Proof.Machine.execDelayReqInterval dom s
  | .ltcCodeword code => Sys2Proof.Machine.execLtcCodeword code s
  | .ltcCodewordMissing => Sys2Proof.Machine.execLtcCodewordMissing s
  | .fsyncEdge rising => Sys2Proof.Machine.execFsyncEdge rising s
  | .fsyncEdgeMissing => Sys2Proof.Machine.execFsyncEdgeMissing s
  | .autoSwitch candidate => Sys2Proof.Machine.execAutoSwitch candidate s
  | .sourceReversion => Sys2Proof.Machine.execSourceReversion s
  | .ttuPulse unit => Sys2Proof.Machine.execTtuPulse unit s
  | .ttiEdge input rising => Sys2Proof.Machine.execTtiEdge input rising s
  | .latencyCaptureTimeout => Sys2Proof.Machine.execLatencyCaptureTimeout s
  | .latencyStartTimeout => Sys2Proof.Machine.execLatencyStartTimeout s
  | .latencyRepeatInterval flow => Sys2Proof.Machine.execLatencyRepeatInterval flow s
  | .ixnikProbeRx rx src header stamp => Sys2Proof.Machine.execIxnikProbeRx rx src header stamp s
  | .probeReplyRx flow rx stamps locked processNs timing => Sys2Proof.Machine.execProbeReplyRx flow rx stamps locked processNs timing s
  | .laneLinkUp lane speed align => Sys2Proof.Machine.execLaneLinkUp lane speed align s
  | .laneLinkDown lane => Sys2Proof.Machine.execLaneLinkDown lane s
  | .arpPacketRx rx request ip mac target => Sys2Proof.Machine.execArpPacketRx rx request ip mac target s
  | .arpRefresh lane ip answered => Sys2Proof.Machine.execArpRefresh lane ip answered s
  | .icmpEchoRx rx src body => Sys2Proof.Machine.execIcmpEchoRx rx src body s
  | .igmpQueryRx rx group => Sys2Proof.Machine.execIgmpQueryRx rx group s
  | .sacnDataRx packet => Sys2Proof.Machine.execSacnDataRx packet s
  | .sacnSyncRx rx cid sync => Sys2Proof.Machine.execSacnSyncRx rx cid sync s
  | .sacnSourceTimeout univ cid => Sys2Proof.Machine.execSacnSourceTimeout univ cid s
  | .sacnSyncTimeout univ cid => Sys2Proof.Machine.execSacnSyncTimeout univ cid s
  | .sacnDiscoveryTx lane => Sys2Proof.Machine.execSacnDiscoveryTx lane s
  | .ixnikPacketRx rx header body => Sys2Proof.Machine.execIxnikPacketRx rx header body s
  | .scanRefreshStart port detect => Sys2Proof.Machine.execScanRefreshStart port detect s
  | .scanLineWrite port waited detect => Sys2Proof.Machine.execScanLineWrite port waited detect s
  | .teStuckTimeout port => Sys2Proof.Machine.execTeStuckTimeout port s
  | .rdmTransactionStart port => Sys2Proof.Machine.execRdmTransactionStart port s
  | .rdmResponseRx port response => Sys2Proof.Machine.execRdmResponseRx port response s
  | .rdmResponseTimeout port => Sys2Proof.Machine.execRdmResponseTimeout port s
  | .heartbeatRx beat => Sys2Proof.Machine.execHeartbeatRx beat s
  | .heartbeatTimeout => Sys2Proof.Machine.execHeartbeatTimeout s
  | .mirrorRx mirror => Sys2Proof.Machine.execMirrorRx mirror s
  | .mirrorAckRx ack => Sys2Proof.Machine.execMirrorAckRx ack s
  | .syncTransferRx frame => Sys2Proof.Machine.execSyncTransferRx frame s
  | .joinWaitExpire => Sys2Proof.Machine.execJoinWaitExpire s
  | .reversion => Sys2Proof.Machine.execReversion s
  | .sentinelRx rx cid ownMac => Sys2Proof.Machine.execSentinelRx rx cid ownMac s
  | .meterSample bits => Sys2Proof.Machine.execMeterSample bits s
  | .meterLineTimeout meter => Sys2Proof.Machine.execMeterLineTimeout meter s
  | .epoPulse output => Sys2Proof.Machine.execEpoPulse output s
  | .feederBleedDone feeder => Sys2Proof.Machine.execFeederBleedDone feeder s
  | .feederBleedTimeout feeder => Sys2Proof.Machine.execFeederBleedTimeout feeder s
  | .holdupEnter => Sys2Proof.Machine.execHoldupEnter s
  | .holdupExit => Sys2Proof.Machine.execHoldupExit s
  | .nightMeterWindow samples => Sys2Proof.Machine.execNightMeterWindow samples s
  | .tamperSample levels => Sys2Proof.Machine.execTamperSample levels s
  | .tamperRecordMove => Sys2Proof.Machine.execTamperRecordMove s
  | .backupPowerLoss => Sys2Proof.Machine.execBackupPowerLoss s
  | .chkPassComplete channel outcome => Sys2Proof.Machine.execChkPassComplete channel outcome s
  | .chkExpectedReloadDone channel ledgerGood => Sys2Proof.Machine.execChkExpectedReloadDone channel ledgerGood s
  | .loopbackComplete lane good => Sys2Proof.Machine.execLoopbackComplete lane good s
  | .calRunProgress => Sys2Proof.Machine.execCalRunProgress s
  | .calRunStartTimeout => Sys2Proof.Machine.execCalRunStartTimeout s
  | .sensorScriptRun script => Sys2Proof.Machine.execSensorScriptRun script s
  | .sensorReadingDone script read => Sys2Proof.Machine.execSensorReadingDone script read s
  | .sensorTransactionTimeout failed => Sys2Proof.Machine.execSensorTransactionTimeout failed s
  | .monitorSweep readings => Sys2Proof.Machine.execMonitorSweep readings s
  | .vcoreUndervoltage monitor => Sys2Proof.Machine.execVcoreUndervoltage monitor s
  | .eventDatagramSend slot => Sys2Proof.Machine.execEventDatagramSend slot s
  | .vectorHoldoffExpire vector => Sys2Proof.Machine.execVectorHoldoffExpire vector s
  | .uart1LogLine late => Sys2Proof.Machine.execUart1LogLine late s
  | .updateCloseComplete outcome => Sys2Proof.Machine.execUpdateCloseComplete outcome s
  | .updateSlotIdleTimeout => Sys2Proof.Machine.execUpdateSlotIdleTimeout s
  | .activationPauseEnd => Sys2Proof.Machine.execActivationPauseEnd s
  | .trialTimeout => Sys2Proof.Machine.execTrialTimeout s
  | .ownerLockLockoutEnd => Sys2Proof.Machine.execOwnerLockLockoutEnd s
  | .deviceResetTimer => Sys2Proof.Machine.execDeviceResetTimer s
  | .niwinHelp => Sys2Proof.Machine.execNiwinHelp s
  | .niwinId => Sys2Proof.Machine.execNiwinId s
  | .niwinState => Sys2Proof.Machine.execNiwinState s
  | .niwinTime => Sys2Proof.Machine.execNiwinTime s
  | .niwinHealth => Sys2Proof.Machine.execNiwinHealth s
  | .niwinLog count => Sys2Proof.Machine.execNiwinLog count s
  | .niwinLogFollow => Sys2Proof.Machine.execNiwinLogFollow s
  | .niwinCounters => Sys2Proof.Machine.execNiwinCounters s
  | .niwinMl => Sys2Proof.Machine.execNiwinMl s
  | .niwinServiceOn => Sys2Proof.Machine.execNiwinServiceOn s
  | .niwinServiceOff => Sys2Proof.Machine.execNiwinServiceOff s
  | .niwinMlDhcp => Sys2Proof.Machine.execNiwinMlDhcp s
  | .niwinMlStatic address prefixLen gateway => Sys2Proof.Machine.execNiwinMlStatic address prefixLen gateway s
  | .niwinRegRd offset count => Sys2Proof.Machine.execNiwinRegRd offset count s
  | .niwinRegWr offset word => Sys2Proof.Machine.execNiwinRegWr offset word s
  | .niwinOtp => Sys2Proof.Machine.execNiwinOtp s
  | .niwinOtpKey slot hash => Sys2Proof.Machine.execNiwinOtpKey slot hash s
  | .niwinOtpRevoke slot => Sys2Proof.Machine.execNiwinOtpRevoke slot s
  | .niwinOtpCommit code => Sys2Proof.Machine.execNiwinOtpCommit code s
  | .niwinReset => Sys2Proof.Machine.execNiwinReset s
  | .otpCommitExpire => Sys2Proof.Machine.execOtpCommitExpire s
  | .mlLinkChange up speed => Sys2Proof.Machine.execMlLinkChange up speed s
  | .pcieLinkUp => Sys2Proof.Machine.execPcieLinkUp s
  | .backupPowerReturn => Sys2Proof.Machine.execBackupPowerReturn s
  | .thermalHoldStep temps => Sys2Proof.Machine.execThermalHoldStep temps s
  | .slewComplete => Sys2Proof.Machine.execSlewComplete s
  | .scheduleRestoreDone => Sys2Proof.Machine.execScheduleRestoreDone s
  | .dhcpLeaseTimer timer => Sys2Proof.Machine.execDhcpLeaseTimer timer s
  | .niwinKeyPress => Sys2Proof.Machine.execNiwinKeyPress s
  | .resetDetectorTrip => Sys2Proof.Machine.execResetDetectorTrip s

end Sys2Proof.Machine
end

