-- ==== Sys2Proof/WellFormed.lean ====
section
/-! DEFINITION. Which commands are well formed: their operands name units that the device has, addresses that exist and
fields that fit the widths the manual gives. -/

namespace Sys2Proof

/-- A number in its range. -/
def below (n limit : Nat) : Bool := decide (n < limit)

/-- An aligned offset of BAR0 or BAR2 for an access of 1, 2, 4 or 8 bytes (R509, R511, log entry 268). -/
def inBars (a bytes : Nat) : Bool := decide (a < 0x410000 ∧ bytes ∈ [1, 2, 4, 8] ∧ a % bytes = 0)

/-- A word of BAR0. -/
def inBar0 (a : Nat) : Bool := decide (a < 0x400000 ∧ a % 4 = 0)

/-- A write by the PCIe host lies in a BAR and is aligned (R511). -/
def BarWrite.wf (a : Nat) : BarWrite → Bool
  | .word _ => inBars a 4
  | .wide _ _ => inBars a 8
  | .narrow _ => inBars a 1

/-- A vector of the function (R508). -/
def MsixMask.wf : MsixMask → Bool
  | .vector n => below n 64
  | .function _ => true

/-- An IPv4 link-local address of RFC 3927 (R515). -/
def linkLocal (a : Nat) : Bool := decide (a / 65536 = 0xA9FE)

/-- The header fields of a request fit R81, its payload R81 and its reply buffer R92. -/
def Req.wf (r : Req) : Bool :=
  below r.pair 64 && below r.flags 65536 && below r.session 65536 && below r.tag 65536 && below r.timeoutMs 65536 &&
  (match r.atFrame with
    | some f => below f (2 ^ 48)
    | none => true) && below r.payload.length 65537 && below r.rplSize 1048577 &&
  (match r.sentTo with
    | some a => below a (2 ^ 32)
    | none => true)

/-- An address and a UDP port. -/
def Endpoint.wf (e : Endpoint) : Bool := below e.ip (2 ^ 32) && below e.port 65536

/-- A pair or a layer of the device. -/
def DmaTarget.wf (t : DmaTarget) : Bool :=
  match t with
  | .ring n => below n 64
  | .fetch n => below n 32

/-- A FIFO or queue of the device (R27). -/
def RinseTarget.wf (t : RinseTarget) : Bool :=
  match t with
  | .commandRing n => below n 64
  | .capture n => below n 8
  | .launchQueue n => below n 16
  | .returnFifo n => below n 16
  | .uids n => below n 32
  | .flowQueue n => below n 4096

/-- A message of domain A or B on a lane or on ML (R275). -/
def PtpMsg.wf (m : PtpMsg) : Bool := below m.dom 2 && below m.lane 17 && below m.seq 65536

/-- An Announce of domain A or B on a lane or on ML, with fields of one and two bytes (R274). -/
def PtpAnnounce.wf (m : PtpAnnounce) : Bool :=
  below m.dom 2 && below m.lane 17 && below m.priority1 256 && below m.clockClass 256 && below m.accuracy 256 &&
  below m.variance 65536 && below m.priority2 256 && below m.identity (2 ^ 64) && below m.steps 65536

/-- A data packet as E1.31 lays it out (R329). -/
def SacnPacket.wf (p : SacnPacket) : Bool :=
  below p.lane 16 && below p.univ 65536 && decide (p.cid.length = 16) && below p.priority 256 && below p.sequence 256 &&
  below p.sync 65536 && below p.startCode 256 && below p.slots.length 513

/-- An RTP packet (R226). -/
def VideoPacket.wf (p : VideoPacket) : Bool := below p.ssrc (2 ^ 32) && below p.payloadType 128 && below p.rtp (2 ^ 32)

/-- A witness window or a check channel. -/
def ExpectOwner.wf (o : ExpectOwner) : Bool :=
  match o with
  | .witness n => below n 64
  | .channel n => below n 4

/-- A command is well formed. -/
def Instr.wf (i : Instr) : Bool :=
  match i with
  | .identify r => r.wf
  | .sessionOpen r => r.wf
  | .sessionClose r => r.wf
  | .sessionKeepalive r => r.wf
  | .tagStatus r => r.wf
  | .timedCancel r => r.wf
  | .sessionList r => r.wf
  | .admitConfig r => r.wf
  | .basteBegin r => r.wf
  | .basteAbort r => r.wf
  | .pressConfig r => r.wf
  | .admitReport r => r.wf
  | .showStart r => r.wf
  | .showArm r => r.wf
  | .showDisarm r => r.wf
  | .showStop r => r.wf
  | .safeHoldEnter r => r.wf
  | .showResume r => r.wf
  | .setEnvelope r => r.wf
  | .setFrame r => r.wf
  | .setRole r => r.wf
  | .stageRead r => r.wf
  | .configSave r => r.wf
  | .configLoad r => r.wf
  | .typeDefine r => r.wf
  | .typeDelete r => r.wf
  | .patchAdd r => r.wf
  | .patchRemove r => r.wf
  | .patchRead r => r.wf
  | .paramWrite r => r.wf
  | .paramRelease r => r.wf
  | .paramRead r => r.wf
  | .sacnRxMap r => r.wf
  | .playbackDefine r => r.wf
  | .cueStore r => r.wf
  | .playbackGo r => r.wf
  | .playbackBack r => r.wf
  | .playbackGoto r => r.wf
  | .playbackRelease r => r.wf
  | .playbackLevel r => r.wf
  | .playbackRate r => r.wf
  | .curveTable r => r.wf
  | .playbackStatus r => r.wf
  | .effectDefine r => r.wf
  | .effectAssign r => r.wf
  | .effectRate r => r.wf
  | .effectSize r => r.wf
  | .effectStart r => r.wf
  | .effectStop r => r.wf
  | .effectPhase r => r.wf
  | .effectStatus r => r.wf
  | .colourSpace r => r.wf
  | .mixStrategy r => r.wf
  | .dimCurve r => r.wf
  | .calsetLoad r => r.wf
  | .sensorScript r => r.wf
  | .calRun r => r.wf
  | .calResult r => r.wf
  | .trimControl r => r.wf
  | .trimStatus r => r.wf
  | .calsetSave r => r.wf
  | .canvasDefine r => r.wf
  | .layerDefine r => r.wf
  | .pixmapLoad r => r.wf
  | .videoRxDefine r => r.wf
  | .witnessDefine r => r.wf
  | .bufferRegister r => r.wf
  | .bufferRelease r => r.wf
  | .videoRxStatus r => r.wf
  | .laneDefine r => r.wf
  | .flowDefine r => r.wf
  | .flowDelete r => r.wf
  | .sacnOutDefine r => r.wf
  | .sacnRxDefine r => r.wf
  | .ixnikDefine r => r.wf
  | .scanDefine r => r.wf
  | .dmxDefine r => r.wf
  | .flowEnable r => r.wf
  | .flowRinse r => r.wf
  | .flowStats r => r.wf
  | .rdmRequest r => r.wf
  | .rdmDiscover r => r.wf
  | .timeConfig r => r.wf
  | .timeStatus r => r.wf
  | .domainSelect r => r.wf
  | .triggerDefine r => r.wf
  | .latencyMeasure r => r.wf
  | .latencyTable r => r.wf
  | .pairDefine r => r.wf
  | .pairStatus r => r.wf
  | .pairMaintenance r => r.wf
  | .pairHandover r => r.wf
  | .meterDefine r => r.wf
  | .feederDefine r => r.wf
  | .meterRead r => r.wf
  | .feederReset r => r.wf
  | .nightMeterRead r => r.wf
  | .updateOpen r => r.wf
  | .updateBlock r => r.wf
  | .updateClose r => r.wf
  | .updateAbort r => r.wf
  | .updateActivate r => r.wf
  | .healthConfirm r => r.wf
  | .flashRead r => r.wf
  | .flashWrite r => r.wf
  | .flashErase r => r.wf
  | .ownerLock r => r.wf
  | .personalityRead r => r.wf
  | .healthRead r => r.wf
  | .eventRoute r => r.wf
  | .eventMask r => r.wf
  | .logRead r => r.wf
  | .countersRead r => r.wf
  | .avsStatus r => r.wf
  | .chkStart r => r.wf
  | .chkResult r => r.wf
  | .chkExpect r => r.wf
  | .chkMode r => r.wf
  | .regRead r => r.wf
  | .regWrite r => r.wf
  | .echo r => r.wf
  | .loopback r => r.wf
  | .serviceEnter r => r.wf
  | .serviceExit r => r.wf
  | .deviceReset r => r.wf
  | .cmdTailWrite pair index => below pair 64 && below index 65536
  | .commandAccept pair packet rplSize => below pair 64 && below packet.length 65561 && below rplSize 1048577
  | .rplTailWrite pair index => below pair 64 && below index 65536
  | .replyStallTimeout pair => below pair 64
  | .replyTimeoutExpire pair _ => below pair 64
  | .hostqEnableSet pair => below pair 64
  | .hostqEnableClear pair => below pair 64
  | .hostqDisableDone pair => below pair 64
  | .hostqRinse pair => below pair 64
  | .dmaReadFail target => target.wf
  | .rplDmaFail pair => below pair 64
  | .pcieLinkLoss => true
  | .pcieFlr => true
  | .busMasterClear => true
  | .d3hotEnter => true
  | .perstNAssert => true
  | .msixUnmask mask => mask.wf
  | .mlDatagramRx src _ packet => src.wf && below packet.length 65508
  | .mlBindingExpire pair => below pair 64
  | .mlFragmentRx src id offset _ body => src.wf && below id 65536 && below (offset + body.length) 65508
  | .mlReassemblyTimeout src _ => src.wf
  | .mlApply => true
  | .dhcpMessageRx _ => true
  | .linkLocalTimeout address => linkLocal address
  | .sessionKeepaliveExpire slot => below slot 64
  | .fifoWindowRead addr bytes => inBars addr bytes
  | .fifoReadWaitExpire addr bytes => inBars addr bytes
  | .fifoWriteWaitExpire lane _ => below lane 16
  | .rinseDiscardPoint target => target.wf
  | .rinsePartialTimeout lane => below lane 16
  | .rcRead read => inBars read.offset read.bytes
  | .latchingRead read => inBars read.offset read.bytes
  | .nowNsRead => true
  | .sweepRead => true
  | .meterSeqRead meter => below meter 8
  | .rtcFracRead => true
  | .deltaRead meter set _ => below meter 8 && below set 4
  | .registerWrite addr data => data.wf addr
  | .shadowWrite addr data => data.wf addr
  | .canvasCommitWrite canvas => below canvas 16
  | .paletteWrite offset _ => below offset 0x40000
  | .palMapWrite layer _ => below layer 32
  | .witnessExpectedWrite window _ => below window 64
  | .timeSet => true
  | .ttuArm unit mode => below unit 32 && below mode 4
  | .ttuDisarm unit => below unit 32
  | .ttiRinse input => below input 8
  | .qdataWrite lane _ => below lane 16
  | .qrinse lane => below lane 16
  | .faultCtrlWrite port _ => below port 16
  | .seamGainWrite port _ _ => below port 16
  | .fullWriteRequest port => below port 16
  | .retRinse port => below port 16
  | .groupRearm port index _ => below port 16 && below index 8
  | .uidRinse port => below port 32
  | .chkRegStart channel => below channel 4
  | .chkAbort channel => below channel 4
  | .chkExpectedCommit channel _ => below channel 4
  | .evtRingEnable => true
  | .boot inputs => below inputs.voutMode 256
  | .porstNAssert => true
  | .autoload => true
  | .autoStart => true
  | .coreWatchdogExpire core => below core 4
  | .coreRestartDone core => below core 4
  | .admissionComplete => true
  | .cut => true
  | .jobSegmentComplete lane _ => below lane 64
  | .jobComplete lane _ => below lane 64
  | .backgroundItemComplete lane _ => below lane 64
  | .scrubItem _ => true
  | .launchInstant flow => below flow 4096
  | .pressPoint canvas => below canvas 16
  | .bufferFetchComplete layer _ => below layer 32
  | .paletteCopyDone layer => below layer 32
  | .witnessReloadDone window _ => below window 64
  | .expectedLedgerCopy owner => owner.wf
  | .videoPacketRx stream packet => below stream 8 && packet.wf
  | .imageRewriteDone => true
  | .ptpSyncRx msg => msg.wf
  | .ptpFollowUpRx msg => msg.wf
  | .ptpAnnounceRx msg => msg.wf
  | .ptpDelayReqRx msg => msg.wf
  | .ptpDelayRespRx msg => msg.wf
  | .announceReceiptTimeout dom => below dom 2
  | .syncReceiptTimeout dom => below dom 2
  | .followUpTimeout dom => below dom 2
  | .delayRespTimeout dom => below dom 2
  | .ptpSyncInterval dom => below dom 2
  | .ptpAnnounceInterval dom => below dom 2
  | .delayReqInterval dom => below dom 2
  | .ltcCodeword _ => true
  | .ltcCodewordMissing => true
  | .fsyncEdge _ => true
  | .fsyncEdgeMissing => true
  | .autoSwitch candidate => below candidate 5
  | .sourceReversion => true
  | .ttuPulse unit => below unit 32
  | .ttiEdge input _ => below input 8
  | .latencyCaptureTimeout => true
  | .latencyStartTimeout => true
  | .latencyRepeatInterval flow => below flow 4096
  | .ixnikProbeRx rx src header _ => below rx.lane 16 && src.wf && decide (header.length = 32)
  | .probeReplyRx flow _ _ _ _ _ => (below flow 4096 || decide (flow = 0xFFFF))
  | .laneLinkUp lane speed _ => below lane 16 && below speed 8
  | .laneLinkDown lane => below lane 16
  | .arpPacketRx rx _ ip mac _ => below rx.lane 16 && below ip 4294967296 && decide (mac.length = 6)
  | .arpRefresh lane ip _ => below lane 16 && below ip 4294967296
  | .icmpEchoRx rx _ _ => below rx.lane 16
  | .igmpQueryRx rx _ => below rx.lane 16
  | .sacnDataRx packet => packet.wf
  | .sacnSyncRx rx cid _ => below rx.lane 16 && decide (cid.length = 16)
  | .sacnSourceTimeout univ cid => below univ 64000 && decide (cid.length = 16)
  | .sacnSyncTimeout univ cid => below univ 64000 && decide (cid.length = 16)
  | .sacnDiscoveryTx lane => below lane 16
  | .ixnikPacketRx rx header _ => below rx.lane 16 && decide (header.length = 32)
  | .scanRefreshStart port _ => below port 16
  | .scanLineWrite port _ _ => below port 16
  | .teStuckTimeout port => below port 16
  | .rdmTransactionStart port => below port 32
  | .rdmResponseRx port _ => below port 32
  | .rdmResponseTimeout port => below port 32
  | .heartbeatRx _ => true
  | .heartbeatTimeout => true
  | .mirrorRx _ => true
  | .mirrorAckRx _ => true
  | .syncTransferRx _ => true
  | .joinWaitExpire => true
  | .reversion => true
  | .sentinelRx rx cid _ => below rx.lane 16 && decide (cid.length = 16)
  | .meterSample bits => decide (bits.length = 16)
  | .meterLineTimeout meter => below meter 8
  | .epoPulse output => below output 4
  | .feederBleedDone feeder => below feeder 8
  | .feederBleedTimeout feeder => below feeder 8
  | .holdupEnter => true
  | .holdupExit => true
  | .nightMeterWindow samples => decide (samples.length = 4 ∧ samples.all fun l => l.length = 1024)
  | .tamperSample _ => true
  | .tamperRecordMove => true
  | .backupPowerLoss => true
  | .chkPassComplete channel _ => below channel 4
  | .chkExpectedReloadDone channel _ => below channel 4
  | .loopbackComplete lane _ => below lane 16
  | .calRunProgress => true
  | .calRunStartTimeout => true
  | .sensorScriptRun script => below script 64
  | .sensorReadingDone script _ => below script 64
  | .sensorTransactionTimeout failed => below failed.script 64
  | .monitorSweep _ => true
  | .vcoreUndervoltage monitor => below monitor 8
  | .eventDatagramSend slot => below slot 64
  | .vectorHoldoffExpire vector => below vector 64
  | .uart1LogLine _ => true
  | .updateCloseComplete _ => true
  | .updateSlotIdleTimeout => true
  | .activationPauseEnd => true
  | .trialTimeout => true
  | .ownerLockLockoutEnd => true
  | .deviceResetTimer => true
  | .niwinHelp => true
  | .niwinId => true
  | .niwinState => true
  | .niwinTime => true
  | .niwinHealth => true
  | .niwinLog count => below count 65
  | .niwinLogFollow => true
  | .niwinCounters => true
  | .niwinMl => true
  | .niwinServiceOn => true
  | .niwinServiceOff => true
  | .niwinMlDhcp => true
  | .niwinMlStatic address prefixLen gateway => below address 4294967296 && below prefixLen 32 && below gateway 4294967296
  | .niwinRegRd offset count => inBar0 offset && below count 257
  | .niwinRegWr offset _ => inBar0 offset
  | .niwinOtp => true
  | .niwinOtpKey slot hash => below slot 4 && decide (hash.length = 32)
  | .niwinOtpRevoke slot => below slot 4
  | .niwinOtpCommit _ => true
  | .niwinReset => true
  | .otpCommitExpire => true
  | .mlLinkChange _ speed => below speed.code 8
  | .pcieLinkUp => true
  | .backupPowerReturn => true
  | .thermalHoldStep _ => true
  | .slewComplete => true
  | .scheduleRestoreDone => true
  | .dhcpLeaseTimer _ => true
  | .niwinKeyPress => true
  | .resetDetectorTrip => true

end Sys2Proof
end

