-- ==== Sys2Proof/Safety.lean ====
section
/-! DEFINITION. The terms in which the claims are stated: a command that executes as soon as it comes, where its body
starts from, what a staged and a timed command make of it, the parts of the state that belong to the host interface, and
the part that no command ever changes. -/

namespace Sys2Proof.Machine

/-- A check passes. -/
def Chk?.passes {α : Type} (x : Chk? α) : Bool :=
  match x with
  | .ok _ => true
  | .error _ => false

/-- The outcome is a next state. -/
def Outcome.goesOn (o : Outcome) : Prop := ∃ t, o = .next t

/-- The state from which the body of a command starts: it has been accepted (R86), and it has restarted the keepalive time
of its session (R102) and, in family 0x0C, of the update slot (R466). -/
def State.entered (op : Op) (r : Req) (s : State) : State := (s.accept op.code r).touch op.code r

/-- The pair exists, accepts the command (R86, R103, R105, R113, R474), and the command passes the checks of R83 on its header,
the state refusals of R113 and the layout of R557. -/
def State.checks (op : Op) (r : Req) (s : State) : Bool :=
  decide (r.pair < 64) && (s.accepts r.pair && !s.confirmWaits op.code) && (headerCheck op r s).passes && (stateCheck op r s).passes &&
  (op.layout r.payload).isNone

/-- The command executes as soon as it comes: it passes its checks, where it carries FENCE there is nothing that it waits
for (R104), one of class I, S or X finds no earlier one of its pair at work (R103), and no read for its reply meets poisoned
data (R439). -/
def State.ready (op : Op) (r : Req) (s : State) : Bool :=
  (s.checks op r && r.poison.isNone) && (!r.opFlag 2 || ((s.ring r.pair).slots.isEmpty && s.jobs.active.isEmpty && s.jobs.waiting.isEmpty)) &&
  (!op.cls.inTurn || (s.ring r.pair).turn (s.ring r.pair).slots)

/-- What a staged command makes of the staging area of a session that holds it (R58, R59); none where it is refused or is
not staged. -/
def Op.stages (op : Op) (r : Req) (s : State) : Option Cfg :=
  if s.stage.holder ≠ some r.session then none
  else match op.body with
    | .staged f => match f r s.stage.area s with
      | .ok c => some c
      | .error _ => none
    | .run _ => none
    | .timed _ _ => none

/-- The state with another staging area. -/
def State.withArea (c : Cfg) (s : State) : State := { s with stage := { s.stage with area := c } }

/-- Where a class T command goes that the show state, the pair state and its own checks let pass (R83, R87-R89, R106, R107):
its frame in the timed queue, if it has one, and the frame of its reply, if it is known. -/
def Op.queues (op : Op) (r : Req) (s : State) : Option (Option Nat × Option Nat) :=
  match op.body with
  | .timed check _ =>
    if !(timedState op.code s).passes || !(check r s).passes then none
    else match fixFrame r s with
      | .ok x => some x
      | .error _ => none
  | .run _ => none
  | .staged _ => none

/-- The state with a command in its place of its queue: the cut queue, or the timed queue with its frame (R88, R103, R106). -/
def State.queued (op : Nat) (r : Req) (frame known : Option Nat) (s : State) : State :=
  s.enqueue { op, req := r, frame, fixed := known, order := s.acceptedAt r.pair }

/-- A command as a queue holds it on a unit that mirrors nothing. -/
def inQueue (op : Nat) (r : Req) (frame : Option Nat) : Queued := { op, req := r, frame, fixed := frame, seq := none }

/-- A command that is ready, and whose body starts in a state with `p`, ends in `t` of that state and answers `a` of it. -/
def Runs (i : Req → Instr) (op : Op) (r : Req) (s : State) (p : State → Prop) (t : State → State) (a : State → Ans) : Prop :=
  s.ready op r = true → p (s.entered op r) → exec (i r) s = .next ((t (s.entered op r)).answer r.pair (a (s.entered op r)))

/-- A ready query, whose body starts in a state with `p`, answers `b` of that state and changes nothing else. -/
def Asks (i : Req → Instr) (op : Op) (r : Req) (s : State) (p : State → Prop) (b : State → Bytes) : Prop :=
  Runs i op r s p (fun u => u) fun u => { payload := b u }

/-- A ready staged command of the session that holds the staging area replaces the area with what it makes of it (R58). -/
def Stages (i : Req → Instr) (op : Op) (r : Req) (s : State) : Prop :=
  ∀ c, s.ready op r = true → op.stages r (s.entered op r) = some c →
    exec (i r) s = .next (((s.entered op r).withArea c).answer r.pair {})

/-- The state with a command in its place of its queue under the next mirror sequence number, and its mirror sent to the
peer with its frame, where that is fixed, its place in the order of acceptance, and whether it is timed (R387). -/
def State.queuedMirrored (op : Nat) (r : Req) (frame known : Option Nat) (s : State) : State :=
  let place := s.acceptedAt r.pair
  let s := s.enqueue { op, req := r, frame, seq := some (s.pair.mirrorSeq + 1), fixed := known, order := place }
  ({ s with pair := { s.pair with mirrorSeq := s.pair.mirrorSeq + 1 } } : State).emit
    (.pairLink "mirror" [s.pair.mirrorSeq + 1, op, known.getD 0, place, flag (r.atFrame.isSome && decide (r.atFrame = known)) 0] r.payload)

/-- A ready class T command goes to its queue (R87-R89, R106). On a unit that mirrors nothing it answers with its frame
where it is known; an active member mirrors it and holds that answer until the peer acknowledges it (R387); a member in
SOLO whose peer is in SYNCING mirrors it and answers (R392). -/
def Queues (i : Req → Instr) (op : Op) (r : Req) (s : State) : Prop :=
  ∀ slot known, s.ready op r = true → op.queues r (s.entered op r) = some (slot, known) →
    (s.mirrors = false → exec (i r) s = .next (((s.entered op r).queued op.code r slot known).answer r.pair { frame := known })) ∧
    (s.pair.st = .active → exec (i r) s = .next (((s.entered op r).queuedMirrored op.code r slot known).waitFor r.pair
      (.mirror (s.pair.mirrorSeq + 1) { frame := known }))) ∧
    (s.pair.st = .solo → s.pair.peerState = some 2 →
      exec (i r) s = .next (((s.entered op r).queuedMirrored op.code r slot known).answer r.pair { frame := known }))

/-- The stack of a lane takes a received frame: the lane is defined, or is the pair-link lane (R381), the check sequence is
good, the receive FIFO has room, and the frame is no fragment and no longer than the MTU allows (R22, R314, R315). -/
def State.takesFrame (lane : Nat) (rx : RxFrame) (s : State) : Bool :=
  if lane = 16 then s.ml.link && rx.goodFcs && rx.room
  else rx.goodFcs && rx.room && !rx.fragment && match s.cfg.get .lane lane with
    | some l => decide (rx.bytes ≤ laMtu l + 18 + (if rx.tagged then 4 else 0))
    | none => decide (s.pairLane s.cfg = some lane)

/-- The MAC of the pair-link lane takes a frame of the pair link: its check sequence is good, and the receive FIFO has room
(R22, R381). -/
def State.takesPair (rx : RxFrame) (s : State) : Bool := (s.pairLane s.cfg).isSome && rx.goodFcs && rx.room

/-- A state apart from the host interface: the ring pairs, the sessions, the update slot's idle time, the events, the PCIe
function, the reset that a reply arms (R520) and what has left the block. -/
def State.core (s : State) : State :=
  { s with
    hq := {}, ses := [], upd := { s.upd with last := 0 }, evt := {}, pcie := {}, boot := { s.boot with resetAt := none }, out := [] }

/-- A state apart from the host interface and the staging area. -/
def State.coreStaged (s : State) : State := s.core.withArea {}

/-- A state apart from the host interface and the queues of class T commands. -/
def State.coreTimed (s : State) : State :=
  { s.core with rt := { queue := [] }, pair := { s.core.pair with mirrorSeq := 0 } }

/-- The commands that may change the flash (R455-R457): FLASH_WRITE and FLASH_ERASE, a packet that may hold one, the end of
an update transfer, and the entry of hold-up or a reset, which end a transfer half written. -/
def mayWriteFlash (i : Instr) : Bool :=
  match i with
  | .flashWrite _ => true
  | .flashErase _ => true
  | .commandAccept _ _ _ => true
  | .updateCloseComplete _ => true
  | .holdupEnter => true
  | .porstNAssert => true
  | .resetDetectorTrip => true
  | .deviceResetTimer => true
  | .monitorSweep _ => true
  | _ => false

end Sys2Proof.Machine
end

