-- ==== Sys2Proof/Certificates/Slice0/Obligations.lean ====
section
/-! DEFINITION. The statements: one `def Obligations.<Name> : Prop` each, listed in OBLIGATIONS.json. -/

open Sys2Proof Sys2Proof.Machine

/-- The command at the front of the queue acts on the state with the rest of the queue. -/
def Obligations.StepRunsFrontCommand : Prop :=
  ∀ (c : Instr) (rest : List Instr) (s : State), s.pending = c :: rest → step s = exec c { s with pending := rest }

/-- With no command waiting the block goes on by itself for one TCXO period (the model's choice, log entry 2): `step`
answers a next state in which 40 ns more have passed since reset, the queue is empty as before, and no fuse has changed. -/
def Obligations.EmptyQueueLetsTimePass : Prop :=
  ∀ s : State, s.pending = [] → ∃ t, step s = .next t ∧ t = s.tick ∧ t.pending = [] ∧ t.fuses = s.fuses

/-- Right after reset: the device is in BOOT with the show IDLE (R42, R461), no frame has been cut (R43), no session is open
(R100), ring pairs 0 to 55 are off and 56 to 63 serve the management lane (R95), every event is unmasked with nothing
pending and warning and fault sources are logged (R503), the time source is the free-running counter, no check channel
runs, and nothing waits in the queue of commands. -/
def Obligations.ResetState : Prop :=
  State.reset.gl.device = .boot ∧ State.reset.gl.show_ = .idle ∧ State.reset.gl.frame = none ∧
  (∀ id, State.reset.session id = none) ∧
  (∀ n, n < 56 → (State.reset.ring n).enable = false ∧ (State.reset.ring n).ml = false) ∧
  (∀ n, 56 ≤ n → (State.reset.ring n).enable = true ∧ (State.reset.ring n).ml = true) ∧
  State.reset.evt.pending = 0 ∧ (∀ src, (State.reset.evt.route src).testBit 10 = decide (Ev.cls src ≠ 0)) ∧
  State.reset.tk.source = .free ∧ (∀ c, (State.reset.chan c).st = .idle) ∧ State.reset.pending = []

/-- The flash of the reset state is in its canonical form. -/
def Obligations.ResetFlashCanonical : Prop := Memory.wf State.reset.nv.flash = true

/-- Whatever a step does, to the queue's front command or by itself, it keeps the canonical form of the flash. -/
def Obligations.StepKeepsFlashCanonical : Prop :=
  ∀ s t : State, Memory.wf s.nv.flash = true → step s = .next t → Memory.wf t.nv.flash = true

/-- No step changes a fuse, and a command leaves the commands behind it in the queue as they are. -/
def Obligations.StepKeepsFusesAndQueue : Prop :=
  (∀ s t : State, step s = .next t → t.fuses = s.fuses) ∧ (∀ s t : State, step s = .next t → t.pending = s.pending.tail)

/-- No byte of the flash changes in a command other than those that write it. -/
def Obligations.OtherCommandsKeepFlash : Prop :=
  ∀ (i : Instr) (s t : State) (a : Nat), mayWriteFlash i = false → exec i s = .next t → t.nv.flash.read a = s.nv.flash.read a

/-- Every command answers a next state in every state: none faults, and none is refused by the model. A command that names
nothing the device has, or that finds nothing to act on, answers the state as it was (R6, R11). -/
def Obligations.EveryCommandGoesOn : Prop := ∀ (i : Instr) (s : State), ∃ t, exec i s = .next t

/-- Accepting a command and answering it changes nothing but the host interface: ring pairs, sessions, the update slot's
idle time, event delivery, the PCIe function's pending bits and what has left the block. -/
def Obligations.RepliesChangeOnlyHostInterface : Prop :=
  (∀ (op : Op) (r : Req) (s : State), (s.entered op r).core = s.core) ∧
  (∀ (n : Nat) (a : Ans) (s : State), (s.answer n a).core = s.core)

/-- A reply of a ring pair of host memory: with room in the reply ring and nothing before it, it is written at the producer
index with the PHASE of that index, the index advances modulo 65,536, and the slot is free again. -/
def Obligations.ReplyIsWrittenAtItsIndex : Prop :=
  ∀ (n : Nat) (x : Slot) (a : Ans) (s : State), (s.ring n).slots = [x] → x.wait = .executing → (s.ring n).ml = false → (s.ring n).full = false →
    s.canWrite (s.ring n) = true → (s.ring n).vector.getLsbD 31 = false →
    (s.answer n a).out = s.out ++ [.replyEntry n (s.ring n).rplHead (phaseOf (s.ring n).rplHead (s.ring n).latched.2.2.2) (x.reply false a)] ∧
    ((s.answer n a).ring n).rplHead = ((s.ring n).rplHead + 1) % 65536 ∧ ((s.answer n a).ring n).slots = []

/-- R113: in BOOT and UPDATE_PAUSE no pair accepts a command, in SERVICE (but for the recovery loader, R462) every family
but 0x01, 0x0C, 0x0D, 0x0E and 0x0F is refused with WRONG_STATE, and REG_WRITE to the GLOBAL and HOSTQ blocks is refused
with WRONG_STATE in every state. -/
def Obligations.DeviceStateRefusesCommands : Prop :=
  (∀ (s : State) (n : Nat), s.gl.device = .boot ∨ s.gl.device = .updatePause → s.accepts n = false ∧
    (n < 64 → ∀ (packet : Bytes) (size : Nat), exec (.commandAccept n packet size) s = .next s)) ∧
  (∀ (op : Op) (r : Req) (s : State), s.gl.device = .service → s.boot.recovery = false →
    [0x01, 0x0C, 0x0D, 0x0E, 0x0F].contains (op.code / 256) = false →
    op.execute r s = .error ⟨Status.wrongState, s.globalState % 65536⟩) ∧
  (∀ (r : Req) (s : State), 4 ≤ r.payload.length → u32 r.payload 0 < 0x20000 →
    ∃ d, regWriteOp.execute r s = .error ⟨Status.wrongState, d⟩)

/-- IDENTIFY, SESSION_CLOSE, SESSION_KEEPALIVE, TAG_STATUS, TIMED_CANCEL and SESSION_LIST do what R100-R110 and R558 say. -/
def Obligations.GeneralCommandsComplete : Prop :=
  ∀ (r : Req) (s : State),
    Asks .identify identifyOp r s (fun _ => True) State.identity ∧
    Runs .sessionClose sessionCloseOp r s (fun _ => r.opFlag 8 = false)
      (fun u => u.endSession (r.session % 64) .close) (fun _ => {}) ∧
    Runs .sessionClose sessionCloseOp r s (fun _ => r.opFlag 8 = true)
      (fun u => (u.endSession (r.session % 64) .close).withdraw .cancel fun q => q.req.session = r.session) (fun _ => {}) ∧
    Runs .sessionKeepalive sessionKeepaliveOp r s (fun _ => True) (fun u => u) (fun _ => {}) ∧
    (∀ slot x f, Asks .tagStatus tagStatusOp r s
      (fun u => u.session (if u16 r.payload 0 = 0 then r.session else u16 r.payload 0) = some (slot, x) ∧
        (u.ring r.pair).source = some x.source ∧ x.lookup (u16 r.payload 2) = some f)
      (fun _ => leBytes 2 f.op ++ leBytes 2 f.status ++ leBytes 2 f.detail ++ leBytes 1 (flag f.frame.isSome 0) ++ zeros 1 ++
        leBytes 8 (f.frame.getD 0))) ∧
    (∀ q, Runs .timedCancel timedCancelOp r s
      (fun u => u.rt.queue.filter (fun q => q.frame.isSome && decide (q.req.session = u16 r.payload 0 ∧ q.req.tag = u16 r.payload 2)) = q ∧ q ≠ [])
      (fun u => u.withdraw .cancel fun q => decide (q.req.session = u16 r.payload 0 ∧ q.req.tag = u16 r.payload 2))
      (fun _ => { payload := leBytes 4 q.length })) ∧
    Asks .sessionList sessionListOp r s (fun _ => True) (fun u =>
      leBytes 4 (u.ses.filter fun e => e.2.isOpen).length ++ zeros 4 ++ (u.ses.filter fun e => e.2.isOpen).flatMap fun e => e.2.row e.1)

/-- SESSION_OPEN (R100): the reply carries the id of a free slot with its generation, one higher than at the slot's last
opening and wrapping from 1,023 to 1, so that no id is 0; with 64 sessions open it is refused with SESSION_LIMIT; and
only IDENTIFY, SESSION_OPEN and ECHO go without a session. -/
def Obligations.SessionIdsAreNeverZero : Prop :=
  (∀ (r : Req) (s : State) (src : Source) (slot : Nat),
    Runs .sessionOpen sessionOpenOp r s
      (fun u => u16 r.payload 0 ≤ 3600 ∧ (u16 r.payload 0 ≠ 0 ∨ src = .pcie) ∧ (u.ring r.pair).source = some src ∧
        u.freeSession = some slot)
      (fun u => { u with ses := Tab.put u.ses slot { isOpen := true, gen := (Tab.getD u.ses slot {}).gen % 1023 + 1, source := src, keepalive := u16 r.payload 0, lastUse := u.now } })
      (fun u => { payload := leBytes 2 (slot + 64 * ((Tab.getD u.ses slot {}).gen % 1023 + 1)) ++ zeros 2 })) ∧
  (∀ (s : State) (slot : Nat), s.freeSession = some slot → slot < 64 ∧ (Tab.getD s.ses slot {}).isOpen = false) ∧
  (∀ g slot : Nat, slot < 64 → slot + 64 * (g % 1023 + 1) ≠ 0 ∧ (slot + 64 * (g % 1023 + 1)) % 64 = slot ∧
    1 ≤ (slot + 64 * (g % 1023 + 1)) / 64 ∧ (slot + 64 * (g % 1023 + 1)) / 64 ≤ 1023) ∧
  (∀ (r : Req) (s : State) (src : Source), s.ready sessionOpenOp r = true → u16 r.payload 0 ≤ 3600 →
    u16 r.payload 0 ≠ 0 ∨ src = .pcie → ((s.entered sessionOpenOp r).ring r.pair).source = some src →
    (s.entered sessionOpenOp r).freeSession = none →
    exec (.sessionOpen r) s = .next ((s.entered sessionOpenOp r).answer r.pair { status := Status.sessionLimit })) ∧
  (∀ (op : Op) (r : Req) (s : State), op ∈ catalogue → r.session = 0 → s.sessionOk op r = true →
    op.code = 0x0101 ∨ op.code = 0x0102 ∨ op.code = 0x0F03)

/-- BASTE_BEGIN, BASTE_ABORT, CONFIG_LOAD, CONFIG_SAVE, STAGE_READ, ADMIT, PRESS_CONFIG and ADMIT_REPORT do what R58-R62,
R78 and R476 say. -/
def Obligations.BastingCommandsComplete : Prop :=
  ∀ (r : Req) (s : State),
    Runs .basteBegin basteBeginOp r s
      (fun u => u.stage.pending = none ∧ (u.stage.holder = none ∨ u.stage.holder = some r.session))
      (fun u => { u with stage := { u.stage with holder := some r.session, area := if r.opFlag 8 then {} else u.areaStart } }) (fun _ => {}) ∧
    Runs .basteAbort basteAbortOp r s (fun u => u.stage.holder = some r.session)
      (fun u => { u with stage := { u.stage with holder := none, area := {} } }) (fun _ => {}) ∧
    Runs .basteAbort basteAbortOp r s (fun u => u.stage.holder = none)
      (fun u => { u with stage := { u.stage with pending := none } }) (fun _ => {}) ∧
    (∀ c, Runs .configLoad configLoadOp r s
      (fun u => u.stage.holder = some r.session ∧ newerSaved u.nv.configA u.nv.configB = some c)
      (fun u => u.withArea (u.withSets { recs := c.recs })) (fun _ => {})) ∧
    Runs .configSave configSaveOp r s
      (fun u => u.gl.show_ ≠ .armed ∧
        ((u.cfg.recs.filter fun x => x.kind ≠ .calSet).map fun x => x.data.length).foldl (· + ·) 0 ≤ 12582912)
      (fun u =>
        let c := saveCopy (u.cfg.recs.filter fun x => x.kind ≠ .calSet) u.nv.configA u.nv.configB
        let c := if Config.flashDone u.fresh then c else spoilCopy u.nv.configA u.nv.configB c.1
        { u with fresh := u.fresh + 1, nv := { u.nv with configA := c.1, configB := c.2 } })
      (fun u => { status := if Config.flashDone u.fresh then Status.ok else Status.flashTimeout }) ∧
    (∀ k, Asks .stageRead stageReadOp r s
      (fun u => stagedKinds (u16 r.payload 0) = some k ∧ u8 r.payload 2 ≤ 1 ∧ 1 ≤ u32 r.payload 8 ∧ u32 r.payload 8 ≤ 65535 ∧
        (u8 r.payload 2 = 1 ∨ u.stage.holder ≠ none))
      (fun u =>
        let l := k.flatMap fun k => u.kindRecs (if u8 r.payload 2 = 0 then u.stage.area else u.cfg) k
        let some_ := (l.drop (u32 r.payload 4)).take (u32 r.payload 8)
        leBytes 4 some_.length ++ leBytes 4 l.length ++ some_.flatten)) ∧
    Runs .admitConfig admitOp r s
      (fun u => u.gl.show_ ≠ .armed ∧ u.stage.holder = some r.session ∧ u.stage.pending = none ∧ u.stage.admitting = none ∧
        (u.showRuns = false ∨ rateDiffers u.cfg u.stage.area = false))
      (fun u => { (u.startJob 0x0201 r.session r.tag).2 with stage := { u.stage with
        admitting := some ({ job := (u.startJob 0x0201 r.session r.tag).1, flags := r.flags, frame := r.atFrame, area := u.stage.area } : Admitting) } })
      (fun u => { status := Status.acceptedDeferred, payload := leBytes 4 u.jobId }) ∧
    (∀ p, Runs .pressConfig pressConfigOp r s
      (fun u => u.gl.show_ ≠ .armed ∧ u.stage.pending = some p ∧ (r.atFrame.map u.cutBegun).getD false = false)
      (fun u => { u with stage := { u.stage with pending := some { p with frame := r.atFrame } } })
      (fun u => { frame := r.atFrame.or (if u.showRuns then u.nextCut else none) })) ∧
    (∀ p f, Runs .pressConfig pressConfigOp r s
      (fun u => u.gl.show_ ≠ .armed ∧ u.stage.pending = some p ∧ r.atFrame = some f ∧ u.cutBegun f = true ∧ r.opFlag 1 = true)
      (fun u => { u with stage := { u.stage with pending := some { p with frame := none } } })
      (fun u => { frame := if u.showRuns then u.nextCut else none })) ∧
    (∀ p, Asks .admitReport admitReportOp r s (fun u => u.stage.report = some p) (fun _ => p.bytes))

/-- A ready staged command of the session that holds the staging area replaces the area with what the command makes of it,
and answers OK (R58, R59). -/
def Obligations.StagedCommandsComplete : Prop :=
  (∀ (r : Req) (s : State),
    Stages .setEnvelope setEnvelopeOp r s ∧ Stages .setFrame setFrameOp r s ∧ Stages .setRole setRoleOp r s ∧
    Stages .typeDefine typeDefineOp r s ∧ Stages .typeDelete typeDeleteOp r s ∧ Stages .patchAdd patchAddOp r s ∧
    Stages .patchRemove patchRemoveOp r s ∧ Stages .sacnRxMap sacnRxMapOp r s ∧ Stages .playbackDefine playbackDefineOp r s ∧
    Stages .curveTable curveTableOp r s ∧ Stages .effectDefine effectDefineOp r s ∧ Stages .effectAssign effectAssignOp r s ∧
    Stages .colourSpace colourSpaceOp r s ∧ Stages .mixStrategy mixStrategyOp r s ∧ Stages .dimCurve dimCurveOp r s ∧
    Stages .calsetLoad calsetLoadOp r s ∧ Stages .sensorScript sensorScriptOp r s) ∧
  (∀ (r : Req) (s : State),
    Stages .canvasDefine canvasDefineOp r s ∧ Stages .layerDefine layerDefineOp r s ∧ Stages .pixmapLoad pixmapLoadOp r s ∧
    Stages .videoRxDefine videoRxDefineOp r s ∧ Stages .witnessDefine witnessDefineOp r s ∧ Stages .laneDefine laneDefineOp r s ∧
    Stages .flowDefine flowDefineOp r s ∧ Stages .flowDelete flowDeleteOp r s ∧ Stages .sacnOutDefine sacnOutDefineOp r s ∧
    Stages .sacnRxDefine sacnRxDefineOp r s ∧ Stages .ixnikDefine ixnikDefineOp r s ∧ Stages .scanDefine scanDefineOp r s ∧
    Stages .dmxDefine dmxDefineOp r s ∧ Stages .timeConfig timeConfigOp r s ∧ Stages .triggerDefine triggerDefineOp r s ∧
    Stages .pairDefine pairDefineOp r s ∧ Stages .meterDefine meterDefineOp r s ∧ Stages .feederDefine feederDefineOp r s)

/-- A staged command of one record puts its payload into the area under the number that it names, and leaves every other
record of the area as it was. -/
def Obligations.StagedRecordIsThePayload : Prop :=
  ∀ (r : Req) (s : State) (c : Cfg) (k : RecKind) (n : Nat),
    (∀ op num kind, (op, num, kind) ∈ [(setEnvelopeOp, 0, RecKind.envelope), (setRoleOp, 0, .role), (typeDefineOp, u16 r.payload 0, .ftype),
        (playbackDefineOp, u16 r.payload 0, .playback), (curveTableOp, u8 r.payload 0, .curve), (colourSpaceOp, 0, .space),
        (dimCurveOp, u8 r.payload 0, .dimCurve), (sensorScriptOp, u8 r.payload 0, .script), (canvasDefineOp, u8 r.payload 0, .canvas),
        (layerDefineOp, u8 r.payload 0, .layer), (videoRxDefineOp, u8 r.payload 0, .video), (witnessDefineOp, u8 r.payload 0, .witness),
        (laneDefineOp, u8 r.payload 0, .lane), (pairDefineOp, 0, .pair)] →
      op.stages r s = some c →
      c.get k n = if k = kind ∧ n = num then some r.payload else s.stage.area.get k n)

/-- A class S command changes nothing but the staging area and the host interface, whatever it answers. -/
def Obligations.StagedCommandsChangeOnlyTheArea : Prop :=
  ∀ (op : Op) (f : Req → Cfg → State → Chk? Cfg) (r : Req) (s t : State), op.cls = .staged → op.body = .staged f → hostCommand op r s = .next t →
    t.coreStaged = s.coreStaged

/-- A staged command of a session that does not hold the staging area is refused with NOT_BASTING, and DETAIL names the
holder. -/
def Obligations.StagedCommandNeedsTheArea : Prop :=
  ∀ (op : Op) (f : Req → Cfg → State → Chk? Cfg) (r : Req) (s : State), op.body = .staged f → s.ready op r = true →
    s.stage.holder ≠ some r.session →
    hostCommand op r s = .next ((s.entered op r).answer r.pair { status := Status.notBasting, detail := s.stage.holder.getD 0 })

/-- A configuration pressed at the cut of frame n is the one that was pending, is in force from frame n, and nothing is
pending any more; a pending configuration that names another frame is left pending (R62, R63). -/
def Obligations.PressTakesThePendingConfiguration : Prop :=
  ∀ (s : State) (p : Pending) (n : Nat), s.stage.pending = some p →
    ((p.frame = none ∨ p.frame = some n) → s.pair.st = .unpaired →
      (s.pressAt n none false).1 = true ∧ (s.pressAt n none false).2.stage.pending = none ∧
      ((s.pressAt n none false).2.force.map InForce.cfg) = some p.cfg) ∧
    (∀ m, p.frame = some m → m ≠ n → s.pressAt n none false = (false, s))

/-- SHOW_START fixes the first cut of a CONFIGURED show: without a frame at the first slot boundary at least 1 ms ahead, and
with one at that frame, where its cut has not begun; the reply names the frame (R56, R89). -/
def Obligations.ShowStartFixesTheFirstCut : Prop :=
  ∀ (r : Req) (s : State),
    (Runs .showStart showStartOp r s
      (fun u => u.pair.st = .unpaired ∧ u.gl.show_ = .configured ∧ u.gl.firstCut = none ∧ u.timeReady = true ∧ r.atFrame = none)
      (fun u => { u with gl := { u.gl with firstCut := some (u.cfg.slotAt (u.tk.counter + msT 1 - 1) + 1 + u.cfg.depth) } })
      (fun u => { frame := some (u.cfg.slotAt (u.tk.counter + msT 1 - 1) + 1 + u.cfg.depth) })) ∧
    (∀ n, Runs .showStart showStartOp r s
      (fun u => u.pair.st = .unpaired ∧ u.gl.show_ = .configured ∧ u.gl.firstCut = none ∧ u.timeReady = true ∧ r.atFrame = some n ∧
        n ≤ u.cfg.slotAt u.tk.counter + 16777216 ∧ u.cfg.depth ≤ n ∧ u.tk.counter < u.cfg.cutInstant n)
      (fun u => { u with gl := { u.gl with firstCut := some n } }) (fun _ => { frame := some n }))

/-- SHOW_ARM, SHOW_DISARM, SHOW_STOP, SAFE_HOLD_ENTER and SHOW_RESUME go to their queue where R56 lists them in the show
state, and at the cut of their frame move the show as R56 says. -/
def Obligations.ShowStateCommandsComplete : Prop :=
  (∀ (r : Req) (s : State),
    Queues .showArm showArmOp r s ∧ Queues .showDisarm showDisarmOp r s ∧ Queues .showStop showStopOp r s ∧
    Queues .safeHoldEnter safeHoldEnterOp r s ∧ Queues .showResume showResumeOp r s) ∧
  (∀ (n : Nat) (s : State),
    (s.gl.show_ = .running → (s.move n showArmOp.code).gl.show_ = .armed) ∧
    (s.gl.show_ = .armed → (s.move n showDisarmOp.code).gl.show_ = .running) ∧
    (s.gl.show_ = .running ∨ s.gl.show_ = .safeHold → (s.move n showStopOp.code).gl.show_ = .configured) ∧
    (s.gl.show_ = .running ∨ s.gl.show_ = .armed → (s.move n safeHoldEnterOp.code).gl.show_ = .safeHold) ∧
    (s.gl.show_ = .safeHold → (s.move n showResumeOp.code).gl.show_ = .running))

/-- A class T command of a playback goes to its queue, and at its cut stores the cue, asks for the step or the release, or
sets the level or the rate, of the defined playback that it names (R147-R153, R160, R163). A class T command of a
generator goes to its queue, and at its cut sets the rate, starts the ramp of the size from the size in force, starts,
stops or shifts the defined generator that it names (R168, R169). -/
def Obligations.PlaybackAndEffectCommandsComplete : Prop :=
  ((∀ (r : Req) (s : State),
    Queues .cueStore cueStoreOp r s ∧ Queues .playbackGo playbackGoOp r s ∧ Queues .playbackBack playbackBackOp r s ∧
    Queues .playbackGoto playbackGotoOp r s ∧ Queues .playbackRelease playbackReleaseOp r s ∧
    Queues .playbackLevel playbackLevelOp r s ∧ Queues .playbackRate playbackRateOp r s) ∧
  (∀ (r : Req) (s : State) (n : Nat) (f : Option Nat) (rec : Bytes) (p : Playback), s.playback (u16 r.payload 0) = some (rec, p) →
    let changed := fun (q : Playback) => { s with pb := Tab.put s.pb (u16 r.payload 0) q }
    (u16 r.payload 2 < pbCues rec → cuesFit rec (storeCue p.cues r.payload) = true →
      s.takeEffect n (inQueue cueStoreOp.code r f) = changed { p with cues := storeCue p.cues r.payload }) ∧
    (cuesFit rec (storeCue p.cues r.payload) = false → s.takeEffect n (inQueue cueStoreOp.code r f) = changed p) ∧
    s.takeEffect n (inQueue playbackGoOp.code r f) = changed (p.step (goTarget rec p.cue) id) ∧
    s.takeEffect n (inQueue playbackBackOp.code r f) = changed (p.step (backTarget rec p.cue) fun t =>
      { snapEnd := t.snapEnd, inTime := pbBackTime rec, outTime := pbBackTime rec, ltpTime := pbBackTime rec }) ∧
    (u16 r.payload 2 < pbCues rec → (u32 r.payload 4).testBit 0 = false →
      s.takeEffect n (inQueue playbackGotoOp.code r f) = changed (p.step (some (u16 r.payload 2)) fun t => t)) ∧
    (p.cue = none → s.takeEffect n (inQueue playbackReleaseOp.code r f) = changed { p with asked := true }) ∧
    (∀ c, p.cue = some c → p.request = none → (u16 r.payload 2).testBit 0 = true →
      s.takeEffect n (inQueue playbackReleaseOp.code r f) = changed { p with asked := true, request := some (.release (u32 r.payload 4)) }) ∧
    s.takeEffect n (inQueue playbackLevelOp.code r f) = changed { p with level := u32 r.payload 4 } ∧
    s.takeEffect n (inQueue playbackRateOp.code r f) = changed { p with rate := u32 r.payload 4 })) ∧
  ((∀ (r : Req) (s : State),
    Queues .effectRate effectRateOp r s ∧ Queues .effectSize effectSizeOp r s ∧ Queues .effectStart effectStartOp r s ∧
    Queues .effectStop effectStopOp r s ∧ Queues .effectPhase effectPhaseOp r s) ∧
  (∀ (r : Req) (s : State) (n : Nat) (f : Option Nat) (rec : Bytes) (g : Gen), s.generator (u16 r.payload 0) = some (rec, g) →
    let changed := fun (q : Gen) => { s with gen := Tab.put s.gen (u16 r.payload 0) q }
    s.takeEffect n (inQueue effectRateOp.code r f) = changed { g with rate := iAt r.payload 4 4 } ∧
    s.takeEffect n (inQueue effectSizeOp.code r f) = changed { g with ramp := some (g.size, u32 r.payload 4, n, u32 r.payload 8) } ∧
    ((u16 r.payload 2).testBit 0 = true → s.takeEffect n (inQueue effectStartOp.code r f) =
      changed { g with running := true, phi := 0, startFrame := n, still := true }) ∧
    ((u16 r.payload 2).testBit 0 = false → g.running = true → s.takeEffect n (inQueue effectStartOp.code r f) = changed g) ∧
    ((u16 r.payload 2).testBit 0 = false → g.running = false → s.takeEffect n (inQueue effectStartOp.code r f) =
      changed { g with running := true, startFrame := n, still := true }) ∧
    s.takeEffect n (inQueue effectStopOp.code r f) = changed { g with running := false, still := false } ∧
    s.takeEffect n (inQueue effectPhaseOp.code r f) = changed { g with offset := u32 r.payload 4 }))

/-- A class T command changes nothing but the host interface and the queues of class T commands, until its cut. -/
def Obligations.TimedCommandsWaitForTheirCut : Prop :=
  ∀ (op : Op) (check : Req → State → Chk? Unit) (apply : Req → Nat → State → State) (r : Req) (s t : State),
    op.cls = .timed → op.body = .timed check apply → hostCommand op r s = .next t → t.coreTimed = s.coreTimed

/-- TRIM_CONTROL, FLOW_ENABLE and PAIR_HANDOVER go to their queue, and at their cut set a group's temperature (R199), switch
a flow from that frame on (R320), and fix the handover of an active member (R397); the effect of a mirrored command also
counts its mirror as done (R389). A class T command of the parameter state goes to its queue (R137, R138), and at the
cut of frame n writes or releases the live value of each parameter that it names, a release of all with opcode flag 8. -/
def Obligations.TimedOutputCommandsComplete : Prop :=
  ((∀ (r : Req) (s : State),
    Queues .trimControl trimControlOp r s ∧ Queues .flowEnable flowEnableOp r s ∧ Queues .pairHandover pairHandoverOp r s) ∧
  (∀ (r : Req) (s : State) (n : Nat) (f : Option Nat),
    (u8 r.payload 0 = 3 → s.takeEffect n (inQueue trimControlOp.code r f) =
      { s with col := { s.col with temps := Tab.put s.col.temps (u8 r.payload 2) (iAt r.payload 4 2) } }) ∧
    (s.takeEffect n (inQueue flowEnableOp.code r f)).flowOf (u16 r.payload 0) = { s.flowOf (u16 r.payload 0) with
      switches := (s.flowOf (u16 r.payload 0)).switches ++
        [{ frame := n, enable := (u16 r.payload 2).testBit 0, terminate := (u16 r.payload 2).testBit 1 }] } ∧
    (s.pair.st = .active → s.pair.handover.isSome = true → s.takeEffect n (inQueue pairHandoverOp.code r f) =
      s.raiseFrame Ev.pairDuty 0 DutyCause.abandoned.code n) ∧
    (s.pair.st = .active → s.pair.handover = none → s.takeEffect n (inQueue pairHandoverOp.code r f) = { s with pair := { s.pair with handover := some (n, false) } }) ∧
    (∀ op k, s.takeEffect n { inQueue op r f with seq := some k } =
      ({ s with pair := { s.pair with mirrorDone := max s.pair.mirrorDone k } } : State).takeEffect n (inQueue op r f)))) ∧
  ((∀ (r : Req) (s : State), Queues .paramWrite paramWriteOp r s ∧ Queues .paramRelease paramReleaseOp r s) ∧
  (∀ (r : Req) (s : State) (n : Nat) (f : Option Nat),
    s.takeEffect n (inQueue paramWriteOp.code r f) = (records r.payload 8 8 (u32 r.payload 0)).foldl (fun s d =>
      s.updPar (u32 d 0 % 2 ^ 24) fun p => { p with live := some ⟨u32 d 4 % 2 ^ 20, u8 r.payload 4, n⟩ }) s ∧
    (r.opFlag 8 = false → s.takeEffect n (inQueue paramReleaseOp.code r f) = (records r.payload 8 8 (u32 r.payload 0)).foldl (fun s d =>
      s.updPar (u32 d 0 % 2 ^ 24) fun p => { p with live := none }) s) ∧
    (r.opFlag 8 = true → s.takeEffect n (inQueue paramReleaseOp.code r f) =
      { s with par := { s.par with tab := Tab.mapV s.par.tab fun _ p => { p with live := none } } })))

/-- With an at-frame field, and the show running: a frame whose cut has begun is refused with FRAME_PASSED without LATE_OK,
and with it the command goes to the cut queue; any other frame within 2^24 of the frame number is the frame of the reply
(R106, R107). -/
def Obligations.NamedFrameIsKeptOrPassed : Prop :=
  ∀ (r : Req) (s : State) (f now_ : Nat), r.atFrame = some f → s.showRuns = true → s.cutFrame = some now_ → f ≤ now_ + 16777216 →
    s.rt.timedCount < 16384 → s.rt.timedBytes + r.payload.length ≤ 8388608 → s.rt.cutCount < 65536 →
    s.rt.cutBytes + r.payload.length ≤ 16777216 →
    (now_ < f → fixFrame r s = .ok (some f, some f)) ∧
    (f ≤ now_ → r.opFlag 1 = false → fixFrame r s = .error ⟨Status.framePassed, 0⟩) ∧
    (f ≤ now_ → r.opFlag 1 = true → fixFrame r s = .ok (none, s.nextCut))

/-- The queries of the show and of the units answer the rows that their chapters lay out, and change nothing (TIME_STATUS
draws the free values of its reply). -/
def Obligations.QueriesAnswer : Prop :=
  (∀ (r : Req) (s : State),
    Asks .patchRead patchReadOp r s
      (fun _ => u32 r.payload 0 ≤ 131071 ∧ 1 ≤ u32 r.payload 4 ∧ u32 r.payload 4 ≤ 16384)
      (fun u =>
        let left := (u.cfg.all .patch).filter fun e => u32 r.payload 0 ≤ e.1
        let l := left.take (u32 r.payload 4)
        let next := if left.length ≤ u32 r.payload 4 then 131072 else (l.getLast?.map fun e => e.1 + 1).getD 131072
        leBytes 4 l.length ++ leBytes 4 next ++ l.flatMap fun e => u.cfg.patchRow e.2) ∧
    Runs .paramRead paramReadOp r s
      (fun _ => 1 ≤ u32 r.payload 4 ∧ u32 r.payload 4 ≤ 16384 ∧ u32 r.payload 0 % 2 ^ 24 + u32 r.payload 4 ≤ 2 ^ 24)
      (fun u => u) (fun u => {
        frame := if u.par.cut then u.gl.frame else none
        payload := (List.range (u32 r.payload 4)).flatMap fun i => leBytes 4 (u.paramEntry (u32 r.payload 0 % 2 ^ 24 + i)) }) ∧
    Runs .playbackStatus playbackStatusOp r s (fun _ => 1 ≤ u16 r.payload 2 ∧ u16 r.payload 0 + u16 r.payload 2 ≤ 256)
      (fun u => u) (fun u => {
        frame := u.gl.frame, payload := (List.range (u16 r.payload 2)).flatMap fun i => u.playbackRow (u16 r.payload 0 + i) }) ∧
    Asks .effectStatus effectStatusOp r s (fun _ => 1 ≤ u16 r.payload 2 ∧ u16 r.payload 0 + u16 r.payload 2 ≤ 512)
      (fun u => (List.range (u16 r.payload 2)).flatMap fun i => u.generatorRow (u16 r.payload 0 + i)) ∧
    (∀ x, Asks .calResult calResultOp r s (fun u => (u.col.runs.find? fun y => y.job.id = u32 r.payload 0) = some x) (fun _ => x.report)) ∧
    Asks .trimStatus trimStatusOp r s (fun _ => 1 ≤ u32 r.payload 4 ∧ u32 r.payload 4 ≤ 4096)
      (fun u => ((u.cfg.all .binding).filter fun e => bdTrim e.2 && u32 r.payload 0 ≤ e.1 && e.1 < u32 r.payload 0 + u32 r.payload 4).flatMap
        fun e => u.trimRow e.1) ∧
    Asks .videoRxStatus videoRxStatusOp r s
      (fun u => u.fuses.te8220 = false ∧ u32 r.payload 0 ≤ 7 ∧ 1 ≤ u32 r.payload 4 ∧ u32 r.payload 0 + u32 r.payload 4 ≤ 8)
      (fun u => (List.range (u32 r.payload 4)).flatMap fun i =>
        let v := Tab.getD u.video (u32 r.payload 0 + i) {}
        leBytes 1 (u32 r.payload 0 + i) ++ leBytes 1 (u.videoState (u32 r.payload 0 + i)) ++ zeros 2 ++ leBytes 4 v.complete ++
          leBytes 4 v.incomplete ++ leBytes 4 v.dropped ++ leBytes 4 v.rtp ++ leBytes 4 v.diverge ++ zeros 8)) ∧
  (∀ (r : Req) (s : State),
    Asks .flowStats flowStatsOp r s (fun _ => 1 ≤ u16 r.payload 2 ∧ u16 r.payload 2 ≤ 4096)
      (fun u =>
        let here := fun (n : Nat) => decide (u16 r.payload 0 ≤ n) && decide (n < u16 r.payload 0 + u16 r.payload 2)
        (((u.cfg.all .flow).filter fun e => here e.1).flatMap fun e => u.flowRow e.1 e.2) ++
          (u.cfg.mappedUniverses.filter here).flatMap u.universeRow) ∧
    Asks .latencyTable latencyTableOp r s (fun _ => 1 ≤ u16 r.payload 2 ∧ u16 r.payload 2 ≤ 4096)
      (fun u => ((u.cfg.all .flow).filter fun e => u16 r.payload 0 ≤ e.1 && e.1 < u16 r.payload 0 + u16 r.payload 2).flatMap
        fun e => u.latencyRow e.1 e.2) ∧
    Runs .timeStatus timeStatusOp r s (fun _ => True) (fun u => { u with fresh := u.fresh + 1 }) (fun u => { payload := u.timeStatusBytes.1 }) ∧
    Asks .pairStatus pairStatusOp r s (fun _ => True) State.pairStatus ∧
    Asks .personalityRead personalityReadOp r s (fun _ => True) State.personality ∧
    (∀ d, Asks .meterRead meterReadOp r s
      (fun u => u8 r.payload 1 ≤ 63 ∧ u.cfg.get .meter (u8 r.payload 0) = some d)
      (fun u =>
        let snap := (Tab.getD u.nv.snaps (u8 r.payload 0) []).getD (u8 r.payload 1) {}
        let now_ := (Tab.getD u.met.meters (u8 r.payload 0) {}).sets
        let live := fun (a : Nat) => { snap.sets.getD a {} with imp := accOf (now_.getD a {}).imp, exp := accOf (now_.getD a {}).exp }
        snap.bytes ((List.range (mtSets d)).map fun a => if bit (u16 r.payload 2) 0 then live a else snap.sets.getD a {}))) ∧
    Asks .flashRead flashReadOp r s (fun u => 1 ≤ u32 r.payload 8 ∧ u32 r.payload 8 ≤ 65536 ∧ u64 r.payload 0 + u32 r.payload 8 ≤ u.flashBytes)
      (fun u => (List.range (u32 r.payload 8)).map fun i => u.flashAt (u64 r.payload 0 + i)) ∧
    (∀ k, Asks .logRead logReadOp r s
      (fun u => 1 ≤ u16 r.payload 8 ∧ u16 r.payload 8 ≤ 2046 ∧ u8 r.payload 10 = 0 ∧
        min (max (u48 r.payload 0) u.nv.logOldest) u.nv.logNext = k)
      (fun u =>
        let l := (u.nv.log.drop (k - u.nv.logOldest)).take (u16 r.payload 8)
        leBytes 8 k ++ leBytes 8 (k + l.length) ++ l.flatMap fun e => e.bytes false)) ∧
    (∀ k, Asks .logRead logReadOp r s
      (fun u => 1 ≤ u16 r.payload 8 ∧ u16 r.payload 8 ≤ 2046 ∧ u8 r.payload 10 = 1 ∧
        (u.nv.log.findIdx? fun e => decide (1 ≤ (e.seq + 2 ^ 32 - u32 r.payload 0) % 2 ^ 32 ∧ (e.seq + 2 ^ 32 - u32 r.payload 0) % 2 ^ 32 ≤ 2 ^ 31)) = some k)
      (fun u =>
        let l := (u.nv.log.drop k).take (u16 r.payload 8)
        leBytes 8 (u.nv.logOldest + k) ++ leBytes 8 (u.nv.logOldest + k + l.length) ++ l.flatMap fun e => e.bytes false)) ∧
    Asks .countersRead countersReadOp r s (fun _ => 1 ≤ u16 r.payload 2 ∧ u16 r.payload 2 ≤ 512 ∧ u16 r.payload 0 + u16 r.payload 2 ≤ 65536)
      (fun u => (List.range (u16 r.payload 2)).flatMap fun i =>
        leBytes 2 (u16 r.payload 0 + i) ++ zeros 2 ++ leBytes 4 (u.counterValue (u16 r.payload 0 + i))) ∧
    Asks .chkResult chkResultOp r s (fun u => u8 r.payload 0 ≤ 3 ∧ (u.chan (u8 r.payload 0)).st ≠ .dataError)
      (fun u =>
        let x := u.chan (u8 r.payload 0)
        leBytes 4 x.statusWord ++ leBytes 4 x.passes ++ leBytes 1 x.source ++ leBytes 1 x.poly ++ leBytes 1 (if x.te5100 then 1 else 0) ++
          zeros 1 ++ leBytes 4 x.mismatches ++ leBytes 8 x.start ++ leBytes 8 x.length ++ leBytes 8 x.result ++ leBytes 8 x.expected) ∧
    Asks .echo echoOp r s (fun _ => True) (fun _ => r.payload) ∧
    Asks .healthRead healthReadOp r s (fun _ => True) State.healthBytes ∧
    Asks .avsStatus avsStatusOp r s (fun _ => True) State.avsBytes ∧
    Runs .chkResult chkResultOp r s (fun u => u8 r.payload 0 ≤ 3 ∧ (u.chan (u8 r.payload 0)).st = .dataError) (fun u => u)
      (fun _ => { status := Status.dataUncorrectable }) ∧
    (∀ (op : Op) (p : Poison) (u : State) (a : Ans), r.poison = some p → s.checks op r = true → (s.entered op r).startsNow op r = true →
      op.execute r (s.entered op r) = .ok (u, .done a) → a.status = Status.ok → a.payload ≠ [] →
      hostCommand op r s = .next (((s.entered op r).foundPoison p).answer r.pair { status := Status.dataUncorrectable })))

/-- A ready HEALTH_READ completes: `exec` answers a next state, in which the reply carries the 120 bytes of R487; so does a
ready AVS_STATUS, with the 16 bytes of R486. Each field stands at its offset, and all are from the sweep in the monitor
registers. -/
def Obligations.HealthRepliesAreLaidOut : Prop :=
  (∀ (r : Req) (s : State), s.ready healthReadOp r = true →
    exec (.healthRead r) s = .next ((s.entered healthReadOp r).answer r.pair { payload := s.healthBytes })) ∧
  (∀ (r : Req) (s : State), s.ready avsStatusOp r = true →
    exec (.avsStatus r) s = .next ((s.entered avsStatusOp r).answer r.pair { payload := s.avsBytes })) ∧
  (∀ u : State,
    u.healthBytes.length = 120 ∧ u32 u.healthBytes 0 = u.mon.sweep % 2 ^ 32 ∧ u32 u.healthBytes 4 = u.mon.alarms % 2 ^ 32 ∧
    (∀ i, i < 16 → slice u.healthBytes (8 + 2 * i) 2 = leInt 2 (u.mon.raw.temps.getD i 0)) ∧
    (∀ i, i < 24 → slice u.healthBytes (40 + 2 * i) 2 = leBytes 2 (u.mon.raw.volts.getD i 0)) ∧
    (∀ i, i < 8 → slice u.healthBytes (88 + 2 * i) 2 = leBytes 2 (u.mon.raw.cycles.getD i 0)) ∧
    (∀ i, i < 8 → slice u.healthBytes (104 + 2 * i) 2 = leBytes 2 (u.mon.raw.refs.getD i 0))) ∧
  (∀ u : State,
    u.avsBytes.length = 16 ∧ u16 u.avsBytes 0 = u.mon.avsReq % 65536 ∧ u16 u.avsBytes 2 = u.mon.raw.vout % 65536 ∧
    u16 u.avsBytes 4 = u.cfg.floorMv % 65536 ∧ u16 u.avsBytes 6 = u.mon.raw.iout % 65536 ∧ u8 u.avsBytes 8 = u.avsState ∧
    slice u.avsBytes 9 3 = zeros 3 ∧ u32 u.avsBytes 12 = u.mon.avsFaults % 2 ^ 32)

/-- DOMAIN_SELECT, PAIR_MAINTENANCE, FEEDER_RESET, NIGHT_METER_READ, BUFFER_REGISTER, BUFFER_RELEASE and FLOW_RINSE do what
R303, R399, R428, R423, R218, R219 and R321 say. -/
def Obligations.UnitActionsComplete : Prop :=
  ∀ (r : Req) (s : State),
    Runs .domainSelect domainSelectOp r s
      (fun u => u8 r.payload 0 ≤ 4 ∧ u.cfg.sourceOn (Src.ofCode (u8 r.payload 0)) = true ∧
        (Src.ofCode (u8 r.payload 0) = .free ∨ (u.tk.servo (Src.ofCode (u8 r.payload 0))).st = .locked ∨ bit (u8 r.payload 1) 0 = true))
      (fun u => { u with tk := { u.tk with selected := some (Src.ofCode (u8 r.payload 0)), autoFrom := u.now } }.changeSource (Src.ofCode (u8 r.payload 0)))
      (fun u => { payload := leBytes 1 ({ u with tk := { u.tk with selected := some (Src.ofCode (u8 r.payload 0)), autoFrom := u.now } }.changeSource
        (Src.ofCode (u8 r.payload 0))).tk.source.code ++ zeros 3 }) ∧
    Runs .pairMaintenance pairMaintenanceOp r s (fun _ => u8 r.payload 0 ≤ 1)
      (fun u => { u with pair := { u.pair with maintenance := u8 r.payload 0 = 1 } }) (fun _ => {}) ∧
    Runs .feederReset feederResetOp r s
      (fun u => u.cfg.has .feeder (u8 r.payload 0) = true ∧ u8 r.payload 1 = 0 ∧
        (u.feeder (u8 r.payload 0)).st ≠ .closed ∧ (u.feeder (u8 r.payload 0)).below = true ∧ u.mon.holdup = false)
      (fun u => u.closeFeeder (u8 r.payload 0)) (fun u => { payload := leBytes 4 ((u.closeFeeder (u8 r.payload 0)).feeder (u8 r.payload 0)).st.code }) ∧
    Runs .feederReset feederResetOp r s
      (fun u => u.cfg.has .feeder (u8 r.payload 0) = true ∧ u8 r.payload 1 = 1 ∧ (u.feeder (u8 r.payload 0)).st = .closed)
      (fun u => u.openFeeder u.cfg (u8 r.payload 0) .open_)
      (fun u => { payload := leBytes 4 ((u.openFeeder u.cfg (u8 r.payload 0) .open_).feeder (u8 r.payload 0)).st.code }) ∧
    Runs .feederReset feederResetOp r s
      (fun u => u.cfg.has .feeder (u8 r.payload 0) = true ∧
        (u8 r.payload 1 = 0 ∧ ((u.feeder (u8 r.payload 0)).st = .closed ∨ (u.feeder (u8 r.payload 0)).below = false ∨ u.mon.holdup = true) ∨
          u8 r.payload 1 = 1 ∧ (u.feeder (u8 r.payload 0)).st ≠ .closed))
      (fun u => u) (fun u => { payload := leBytes 4 (u.feeder (u8 r.payload 0)).st.code }) ∧
    Runs .nightMeterRead nightMeterReadOp r s (fun _ => True)
      (fun u =>
        let left := fun (l : List Bytes) => l.take (u16 r.payload 0) ++ l.drop (u16 r.payload 0 + u16 r.payload 2)
        if bit (u32 r.payload 4) 0 = false then u
        else if bit (u32 r.payload 4) 1 then { u with nv := { u.nv with tamperLog := left u.nv.tamperLog } }
        else { u with nv := { u.nv with nightLog := left u.nv.nightLog } })
      (fun u =>
        let tamper := bit (u32 r.payload 4) 1
        let l := if tamper then u.nv.tamperLog else u.nv.nightLog
        let head := leBytes 2 l.length ++ leBytes 2 (min (if tamper then u.bak.dropped else u.nv.nightDrop) 0xFFFF)
        let pair := leBytes 4 (u.nv.nightPair.1 / 65536 / 1000000000) ++ leBytes 8 u.nv.nightPair.2
        { payload := head ++ pair ++ ((l.drop (u16 r.payload 0)).take (u16 r.payload 2)).flatten }) ∧
    (∀ slot x i, s.ready bufferRegisterOp r = true → u64 r.payload 0 % 256 = 0 → 256 ≤ u32 r.payload 8 → u32 r.payload 8 ≤ 2 ^ 30 →
      (s.entered bufferRegisterOp r).session r.session = some (slot, x) → x.source = .pcie → i < 4096 →
      Tab.has (s.entered bufferRegisterOp r).buf i = false →
      let u := s.entered bufferRegisterOp r
      ∃ id, id < 4096 ∧ Tab.has u.buf id = false ∧ exec (.bufferRegister r) s = .next (({ u with
        fresh := u.fresh + 1, buf := Tab.put u.buf id { address := u64 r.payload 0, size := u32 r.payload 8, owner := r.session } } : State).answer
          r.pair { payload := leBytes 4 id })) ∧
    Runs .bufferRelease bufferReleaseOp r s
      (fun u => Tab.has u.buf (u32 r.payload 0) = true ∧ u.bufInUse (u32 r.payload 0) = false)
      (fun u => u.freeBuffer (u32 r.payload 0)) (fun _ => {}) ∧
    Runs .bufferRelease bufferReleaseOp r s
      (fun u => Tab.has u.buf (u32 r.payload 0) = true ∧ u.bufInUse (u32 r.payload 0) = true)
      (fun u =>
        let pend := fun (b : Buffer) => { b with release := true, jobs := b.jobs ++ [(u.takeJobId 0x0707 r.session r.tag).1] }
        { (u.takeJobId 0x0707 r.session r.tag).2 with buf := Tab.upd u.buf (u32 r.payload 0) { address := 0, size := 0, owner := 0 } pend })
      (fun u => { status := Status.acceptedDeferred, payload := leBytes 4 u.jobId }) ∧
    Runs .flowRinse flowRinseOp r s (fun u => u.cfg.has .flow (u16 r.payload 0) = true ∧ (u.flowOf (u16 r.payload 0)).busyUntil ≤ u.tk.counter)
      (fun u => u.rinseFlow (u16 r.payload 0)) (fun _ => {}) ∧
    (s.ready flowRinseOp r = true → (s.entered flowRinseOp r).cfg.has .flow (u16 r.payload 0) = true →
      s.tk.counter < ((s.entered flowRinseOp r).flowOf (u16 r.payload 0)).busyUntil →
      exec (.flowRinse r) s = .next (((s.entered flowRinseOp r).updFlow (u16 r.payload 0) fun x => { x with rinsing := true }).waitFor
        r.pair (.rinse (u16 r.payload 0))))

/-- A deferred command of the calibration, the latency measurements, RDM discovery or the loopback test starts a job and
answers ACCEPTED_DEFERRED with its id (R90, R190, R300, R378, R519); RDM_REQUEST starts a transaction whose end it waits
for (R376). -/
def Obligations.DeferredCommandsStart : Prop :=
  ∀ (r : Req) (s : State),
    Runs .latencyMeasure latencyMeasureOp r s
      (fun u => u8 r.payload 0 = 2 ∧ ((u.cfg.get .capture (u8 r.payload 1)).any fun c => u8 c 3 = 1) = true ∧ 2 ≤ u8 r.payload 2 ∧
        u8 r.payload 2 ≤ 64 ∧ u32 r.payload 4 / 2 ^ 24 = 1 ∧ u32 r.payload 4 % 2 ^ 24 < 16 ∧ u.lanes ≤ u32 r.payload 4 % 2 ^ 24 ∧
        u.gl.show_ ≠ .armed ∧ u.gl.show_ ≠ .idle ∧ u.standbyMember = false) (fun u => u)
      (fun _ => { status := Status.unitAbsent, detail := 4 }) ∧
    (∀ sc, Runs .calRun calRunOp r s
      (fun u => ((u.cfg.get .binding (u32 r.payload 0)).any fun b => u16 b 4 ≠ 0xFFFF) = true ∧ u8 r.payload 4 ≤ 1 ∧
        u.cfg.get .script (u8 r.payload 5) = some sc ∧ u8 sc 4 = 0 ∧ 1 ≤ u8 r.payload 6 ∧ u8 r.payload 6 ≤ 64 ∧
        0x10000 ≤ u32 r.payload 8 ∧ u32 r.payload 8 ≤ 0xFFFFF ∧ u16 r.payload 12 ≤ 10000 ∧ u16 r.payload 14 ≤ 10000 ∧
        u.gl.show_ ≠ .armed ∧ u.gl.show_ ≠ .idle ∧ u.standbyMember = false ∧
        (∀ x ∈ u.col.runs, x.outcome = 4 → u.cfg.busOf (u8 x.payload 5) ≠ u.cfg.busOf (u8 r.payload 5)))
      (fun u =>
        let runs := u.col.runs ++ [{ job := (u.startJob 0x0606 r.session r.tag).1, payload := r.payload, since := u.now, set := ((u.cfg.get .binding (u32 r.payload 0)).map fun b => u16 b 4).getD 0xFFFF, count := ((u.cfg.instType (u32 r.payload 0)).map ftEmitters).getD 0 }]
        { (u.startJob 0x0606 r.session r.tag).2 with col := { u.col with runs := runs.drop (runs.length - 64) } })
      (fun u => { status := Status.acceptedDeferred, payload := leBytes 4 u.jobId })) ∧
    (∀ f, Runs .latencyMeasure latencyMeasureOp r s
      (fun u => (u8 r.payload 0 = 0 ∧ 1 ≤ u8 r.payload 2 ∨ u8 r.payload 0 = 1) ∧ u.cfg.get .flow (u32 r.payload 4) = some f ∧ flNetwork f = true ∧
        (u16 r.payload 16 = 0 ∨ 10 ≤ u16 r.payload 16 ∧ u16 r.payload 16 ≤ 3600) ∧ u.gl.show_ ≠ .armed ∧ u.gl.show_ ≠ .idle ∧ u.standbyMember = false)
      (fun u => (u.startJob 0x0905 r.session r.tag).2.startProbing (u.startJob 0x0905 r.session r.tag).1 r.payload)
      (fun u => { status := Status.acceptedDeferred, payload := leBytes 4 u.jobId })) ∧
    Runs .latencyMeasure latencyMeasureOp r s
      (fun u => u8 r.payload 0 = 2 ∧ ((u.cfg.get .capture (u8 r.payload 1)).any fun c => u8 c 3 = 1) = true ∧ 2 ≤ u8 r.payload 2 ∧
        u8 r.payload 2 ≤ 64 ∧ (u.cfg.carrier (u32 r.payload 4)).isSome = true ∧
        (u32 r.payload 4 / 2 ^ 24 = 1 → u32 r.payload 4 % 2 ^ 24 < 16 → u32 r.payload 4 % 2 ^ 24 < u.lanes) ∧ 0x10000 ≤ u32 r.payload 8 ∧ u32 r.payload 8 ≤ 0xFFFFF ∧
        1 ≤ u16 r.payload 18 ∧ u16 r.payload 18 ≤ 600 ∧ u.gl.show_ ≠ .armed ∧ u.gl.show_ ≠ .idle ∧ u.standbyMember = false)
      (fun u => { (u.startJob 0x0905 r.session r.tag).2 with lat := { u.lat with
        runs := u.lat.runs ++ [{ job := (u.startJob 0x0905 r.session r.tag).1, payload := r.payload, since := u.now, phase := .waiting }] } })
      (fun u => { status := Status.acceptedDeferred, payload := leBytes 4 u.jobId }) ∧
    (∀ x, Runs .rdmDiscover rdmDiscoverOp r s
      (fun u => u.rdmPort (u8 r.payload 0) = .ok x ∧ (u.dmxOf (u8 r.payload 0)).request = none ∧ (u.dmxOf (u8 r.payload 0)).disc = none)
      (fun u => (u.startJob 0x080D r.session r.tag).2.updDmx (u8 r.payload 0) fun x => 
        { x with disc := some { job := (u.startJob 0x080D r.session r.tag).1, step := if bit (u8 r.payload 1) 0 then .unMute else .branch 0 (allDevices - 1) } })
      (fun u => { status := Status.acceptedDeferred, payload := leBytes 4 u.jobId })) ∧
    Runs .loopback loopbackOp r s
      (fun u => u8 r.payload 0 < u.lanes ∧ u8 r.payload 1 ≤ 1 ∧ 1 ≤ u16 r.payload 2 ∧ u16 r.payload 2 ≤ 10000 ∧
        u.gl.device = .service ∧ u.laneCarries (u8 r.payload 0) = false)
      (fun u => ({ (u.startJob 0x0F04 r.session r.tag).2 with
        jobs := { (u.startJob 0x0F04 r.session r.tag).2.jobs with loops := u.jobs.loops ++ [(u8 r.payload 0, u.jobId, u.now + msT (u16 r.payload 2))] } } : State).emit
          (.bus "loopback" [u8 r.payload 0, u8 r.payload 1, u16 r.payload 2, u.jobId]))
      (fun u => { status := Status.acceptedDeferred, payload := leBytes 4 u.jobId }) ∧
    (∀ d flow, s.ready rdmRequestOp r = true → u8 r.payload 1 = 0x20 ∨ u8 r.payload 1 = 0x30 → rqPdl r.payload ≤ 32 →
      (s.entered rdmRequestOp r).rdmPort (u8 r.payload 0) = .ok (d, flow) →
      ((s.entered rdmRequestOp r).dmxOf (u8 r.payload 0)).request = none → ((s.entered rdmRequestOp r).dmxOf (u8 r.payload 0)).disc = none →
      ((s.entered rdmRequestOp r).earliest (u8 r.payload 0) d flow (requestUs d r.payload)).any
        (fun t => t + usT (requestUs d r.payload) ≤ (s.entered rdmRequestOp r).tk.counter + msT 45) = true →
      exec (.rdmRequest r) s = .next (((s.entered rdmRequestOp r).updDmx (u8 r.payload 0) fun x =>
        { x with request := some { session := r.session, payload := r.payload } }).waitFor r.pair (.rdm (u8 r.payload 0))))

/-- UPDATE_OPEN, UPDATE_BLOCK, UPDATE_CLOSE, UPDATE_ABORT, UPDATE_ACTIVATE, HEALTH_CONFIRM and OWNER_LOCK do what R465-R469,
R472 and R475 say. -/
def Obligations.UpdateCommandsComplete : Prop :=
  ∀ (r : Req) (s : State),
    Runs .updateOpen updateOpenOp r s
      (fun u => u.updateChecks.passes = true ∧ u.boot.trialSince = none ∧ u.upd.holder = none ∧ bodyLenOk (u32 r.payload 0) = true)
      (fun u => { u.freeUpdate with upd := { u.freeUpdate.upd with
        holder := some r.session, source := (u.ring r.pair).source.getD .pcie, bodyLen := u32 r.payload 0, last := u.now } })
      (fun _ => {}) ∧
    (∀ h, Runs .updateBlock updateBlockOp r s
      (fun u => u.upd.holder = some r.session ∧ u.upd.header = some h ∧ 0 < u32 r.payload 0 ∧ u32 r.payload 0 % 4096 = 0 ∧
        u32 r.payload 0 < u.upd.bodyLen + 256 ∧ (r.payload.drop 8).length = min 4096 (u.upd.bodyLen + 256 - u32 r.payload 0))
      (fun u => { u with upd := { u.upd with blocks := Tab.put u.upd.blocks (u32 r.payload 0 / 4096) (r.payload.drop 8) } })
      (fun u => { payload := leBytes 4 ({ u.upd with blocks := Tab.put u.upd.blocks (u32 r.payload 0 / 4096) (r.payload.drop 8) } : Update).missing })) ∧
    Runs .updateBlock updateBlockOp r s
      (fun u => u.upd.holder = some r.session ∧ u32 r.payload 0 = 0 ∧ (r.payload.drop 8).length = min 4096 (u.upd.bodyLen + 256) ∧
        (u.upd.header = some ((r.payload.drop 8).take 256) ∨ u.upd.header = none ∧
          u.checkHeader (some u.upd.bodyLen) ((r.payload.drop 8).take 256) = Status.ok))
      (fun u => { u with upd := { u.upd with header := some ((r.payload.drop 8).take 256), blocks := Tab.put u.upd.blocks 0 (r.payload.drop 8) } })
      (fun u => { payload := leBytes 4 ({ u.upd with
        header := some ((r.payload.drop 8).take 256), blocks := Tab.put u.upd.blocks 0 (r.payload.drop 8) } : Update).missing }) ∧
    Runs .updateClose updateCloseOp r s
      (fun u => u.updateChecks.passes = true ∧ u.upd.holder = some r.session ∧ u.upd.missing = 0 ∧ u.upd.closing = none)
      (fun u => { (u.startJob 0x0C03 r.session r.tag).2 with upd := { u.upd with
        closing := some ((u.startJob 0x0C03 r.session r.tag).1, u.upd.blocks.flatMap Prod.snd), verified := false } })
      (fun u => { status := Status.acceptedDeferred, payload := leBytes 4 u.jobId }) ∧
    Runs .updateAbort updateAbortOp r s (fun u => u.upd.holder = some r.session) (fun u => u.freeUpdate) (fun _ => {}) ∧
    (s.ready updateActivateOp r = true → (s.entered updateActivateOp r).updateChecks.passes = true →
      (s.entered updateActivateOp r).upd.holder = some r.session → (s.entered updateActivateOp r).upd.verified = true →
      s.boot.recovery = false →
      (hdFormat ((s.entered updateActivateOp r).slotHeader (s.entered updateActivateOp r).targetSlot) =
        hdFormat ((s.entered updateActivateOp r).slotHeader s.boot.running) ∨ s.gl.show_ ≠ .running ∧ s.gl.show_ ≠ .safeHold) →
      exec (.updateActivate r) s = .next (((s.entered updateActivateOp r).activateSlot (s.entered updateActivateOp r).targetSlot none).waitFor
        r.pair .activation)) ∧
    Runs .updateActivate updateActivateOp r s
      (fun u => u.updateChecks.passes = true ∧ u.upd.holder = some r.session ∧ u.upd.verified = true ∧ u.boot.recovery = true)
      (fun u => { u with
        nv := u.nv.putBoot { u.bootRecord with active := u.targetSlot, previous := !u.targetSlot, trial := false }
        boot := { u.boot with resetAt := some u.now } }.freeUpdate)
      (fun u => { payload := leBytes 4 (hdVersion (u.slotHeader u.targetSlot)) }) ∧
    Runs .healthConfirm healthConfirmOp r s (fun u => u.boot.trialSince ≠ none)
      (fun u => ({ u with
        boot := { u.boot with trialSince := none }
        nv := { u.nv.putBoot { u.bootRecord with trial := false } with
          minVersion := max u.nv.minVersion (hdSecurity (u.slotHeader u.boot.running)) } } : State).raise Ev.updateConfirmed 0 0) (fun _ => {}) ∧
    Runs .ownerLock ownerLockOp r s (fun u => u8 r.payload 0 = 1 ∧ u.nv.ownerHash = none)
      (fun u => { u with nv := { u.nv with ownerHash := some (sha256 (slice r.payload 4 8)) } }) (fun _ => {}) ∧
    Runs .ownerLock ownerLockOp r s
      (fun u => u8 r.payload 0 = 0 ∧ u.lock.lockout = none ∧ u.nv.ownerHash = some (sha256 (slice r.payload 4 8)))
      (fun u => { u with nv := { u.nv with ownerHash := none }, lock := {} }) (fun _ => {}) ∧
    (∀ h, Runs .ownerLock ownerLockOp r s
      (fun u => u8 r.payload 0 = 0 ∧ u.lock.lockout = none ∧ u.nv.ownerHash = some h ∧ h ≠ sha256 (slice r.payload 4 8))
      (fun u => { u with lock := { wrong := u.lock.wrong + 1, lockout := if u.lock.wrong + 1 ≥ 8 then some u.now else none } })
      (fun _ => { status := Status.ownerLocked }))

/-- FLASH_WRITE and FLASH_ERASE change the range that they name and no other byte: a program operation turns bits from 1 to
0 only and answers CRC_BAD where a byte reads back differently, an erase leaves 0xFF, and one that does not complete in
time leaves its range free; CALSET_SAVE writes the older copy (R457, R476). -/
def Obligations.FlashCommandsComplete : Prop :=
  ∀ (r : Req) (s : State),
    Runs .flashWrite flashWriteOp r s (fun u => (u.flashWritable (u64 r.payload 0) (r.payload.drop 16).length).passes = true)
      (fun u => 
        let m := if Config.flashDone u.fresh then u.nv.flash.program (u64 r.payload 0) (r.payload.drop 16)
          else u.nv.flash.put (u64 r.payload 0) ((List.range (r.payload.drop 16).length).map fun i => Config.flashByte u.fresh (u64 r.payload 0 + i))
        { u with fresh := u.fresh + 1, nv := { u.nv with flash := m } })
      (fun u =>
        let good := (u.nv.flash.program (u64 r.payload 0) (r.payload.drop 16)).range (u64 r.payload 0) (r.payload.drop 16).length = r.payload.drop 16
        { status := if Config.flashDone u.fresh then (if good then Status.ok else Status.crcBad) else Status.flashTimeout }) ∧
    Runs .flashErase flashEraseOp r s
      (fun u => u64 r.payload 0 % 65536 = 0 ∧ u32 r.payload 8 % 65536 = 0 ∧ (u.flashWritable (u64 r.payload 0) (u32 r.payload 8)).passes = true)
      (fun u => 
        let m := if Config.flashDone u.fresh then u.nv.flash.erase (u64 r.payload 0) (u32 r.payload 8)
          else u.nv.flash.put (u64 r.payload 0) ((List.range (u32 r.payload 8)).map fun i => Config.flashByte u.fresh (u64 r.payload 0 + i))
        { u with fresh := u.fresh + 1, nv := { u.nv with flash := m } })
      (fun u => { status := if Config.flashDone u.fresh then Status.ok else Status.flashTimeout }) ∧
    Runs .calsetSave calsetSaveOp r s (fun u => u.gl.show_ ≠ .armed)
      (fun u =>
        let recs := u.col.sets.map fun e => ({ kind := .calSet, num := e.1, data := e.2 } : Rec)
        let c := saveCopy recs u.nv.calA u.nv.calB
        let c := if Config.flashDone u.fresh then c else spoilCopy u.nv.calA u.nv.calB c.1
        { u with fresh := u.fresh + 1, nv := { u.nv with calA := c.1, calB := c.2 } })
      (fun u => { status := if Config.flashDone u.fresh then Status.ok else Status.flashTimeout })

/-- A byte of flash outside the range of a program operation, an erase or a free range reads as before; inside it, a
programmed byte is the conjunction of the old byte and the new, and an erased byte is 0xFF (R457). -/
def Obligations.FlashBytesOutsideTheRangeStay : Prop :=
  (∀ (m : Memory) (a b : Nat) (l : Bytes), Memory.wf m = true →
    (b < a ∨ a + l.length ≤ b → (m.program a l).read b = m.read b ∧ (m.put a l).read b = m.read b) ∧
    (∀ i v, l[i]? = some v → (m.program a l).read (a + i) = m.read (a + i) &&& v ∧ (m.put a l).read (a + i) = v)) ∧
  (∀ (m : Memory) (a len b : Nat),
    (m.erase a len).read b = if a ≤ b ∧ b < a + len then 0xFF else m.read b)

/-- EVENT_ROUTE, EVENT_MASK, CHK_START, CHK_EXPECT, CHK_MODE, REG_READ, REG_WRITE, SERVICE_ENTER, SERVICE_EXIT and
DEVICE_RESET do what R492, R450-R452, R519 and R520 say. -/
def Obligations.DiagnosticCommandsComplete : Prop :=
  ∀ (r : Req) (s : State),
    Runs .eventRoute eventRouteOp r s
      (fun _ => u16 r.payload 0 ≤ 0x1FF ∧ 1 ≤ u16 r.payload 2 ∧ u16 r.payload 0 + u16 r.payload 2 ≤ 0x200 ∧ u8 r.payload 4 = 0 ∧ u8 r.payload 6 ≤ 63)
      (fun u => 
        let w := word (u8 r.payload 6 + flag (bit (u8 r.payload 5) 0) 8 + flag (bit (u8 r.payload 5) 1) 9 + flag (bit (u8 r.payload 5) 2) 10)
        { u with evt := { u.evt with routes := (List.range (u16 r.payload 2)).foldl (fun t i => Tab.put t (u16 r.payload 0 + i) w) u.evt.routes } })
      (fun _ => {}) ∧
    Runs .eventRoute eventRouteOp r s
      (fun u => u16 r.payload 0 ≤ 0x1FF ∧ 1 ≤ u16 r.payload 2 ∧ u16 r.payload 0 + u16 r.payload 2 ≤ 0x200 ∧ u8 r.payload 4 = 1 ∧
        (u.ring r.pair).ml = true)
      (fun u =>
        let on := fun (x : Sub) => { x with sources := x.sources ||| rangeBits (u16 r.payload 0) (u16 r.payload 2) }
        { u with evt := { u.evt with subs := Tab.upd u.evt.subs (r.session % 64) {} on } }) (fun _ => {}) ∧
    Runs .eventRoute eventRouteOp r s
      (fun u => u16 r.payload 0 ≤ 0x1FF ∧ 1 ≤ u16 r.payload 2 ∧ u16 r.payload 0 + u16 r.payload 2 ≤ 0x200 ∧ u8 r.payload 4 = 2 ∧
        (u.ring r.pair).ml = true)
      (fun u =>
        let off := fun (x : Sub) => { x with sources := x.sources &&& ~~~rangeBits (u16 r.payload 0) (u16 r.payload 2) }
        { u with evt := { u.evt with subs := Tab.upd u.evt.subs (r.session % 64) {} off } }) (fun _ => {}) ∧
    Runs .eventMask eventMaskOp r s
      (fun _ => u16 r.payload 0 ≤ 0x1FF ∧ 1 ≤ u16 r.payload 2 ∧ u16 r.payload 0 + u16 r.payload 2 ≤ 0x200 ∧ u8 r.payload 4 = 1)
      (fun u => { u with evt := { u.evt with mask := u.evt.mask ||| rangeBits (u16 r.payload 0) (u16 r.payload 2) } }) (fun _ => {}) ∧
    Runs .eventMask eventMaskOp r s
      (fun _ => u16 r.payload 0 ≤ 0x1FF ∧ 1 ≤ u16 r.payload 2 ∧ u16 r.payload 0 + u16 r.payload 2 ≤ 0x200 ∧ u8 r.payload 4 = 0)
      (fun u => { u with evt := { u.evt with mask := u.evt.mask &&& ~~~rangeBits (u16 r.payload 0) (u16 r.payload 2) } }) (fun _ => {}) ∧
    Runs .chkStart chkStartOp r s
      (fun u => u8 r.payload 0 ≤ 3 ∧ u8 r.payload 1 ≤ 3 ∧ u8 r.payload 2 ≤ 3 ∧ u8 r.payload 3 ≤ 3 ∧
        (u8 r.payload 3 ≠ 0 ∨
          u.startOk (u8 r.payload 1) (u64 r.payload 8) = true ∧ u.lengthOk (u8 r.payload 1) (u64 r.payload 8) (u64 r.payload 16) = true) ∧
        (u.chan (u8 r.payload 0)).st ≠ .running)
      (fun u => (u.updChan (u8 r.payload 0) fun x => { x with
          config := u8 r.payload 1 + 4 * u8 r.payload 2 + flag x.te5100 4 + 256 * u8 r.payload 3
          start := u64 r.payload 8, length := u64 r.payload 16 }).startChan (u8 r.payload 0) r.session) (fun _ => {}) ∧
    Runs .chkExpect chkExpectOp r s (fun _ => u8 r.payload 0 ≤ 3)
      (fun u => u.updChan (u8 r.payload 0) fun x => { x with expected := u64 r.payload 8, expectLo := u64 r.payload 8 % 2 ^ 32, holding := some (u64 r.payload 8) }) (fun _ => {}) ∧
    Runs .chkMode chkModeOp r s (fun u => u8 r.payload 0 ≤ 3 ∧ u8 r.payload 1 ≤ 1 ∧ (u.chan (u8 r.payload 0)).st ≠ .running)
      (fun u => u.updChan (u8 r.payload 0) fun x => { x with config := x.config % 16 + 16 * u8 r.payload 1 + 256 * x.region }) (fun _ => {}) ∧
    Runs .regRead regReadOp r s
      (fun _ => u32 r.payload 0 % 4 = 0 ∧ 1 ≤ u32 r.payload 4 ∧ u32 r.payload 4 ≤ 256 ∧ u32 r.payload 0 + 4 * u32 r.payload 4 ≤ 0x400000)
      (fun u => (u.readWords (u32 r.payload 4) (u32 r.payload 0)).2)
      (fun u => { payload := (u.readWords (u32 r.payload 4) (u32 r.payload 0)).1.flatMap fun w => leBytes 4 w.toNat }) ∧
    Runs .regWrite regWriteOp r s
      (fun _ => u32 r.payload 0 % 4 = 0 ∧ 0x20000 ≤ u32 r.payload 0 ∧ 1 ≤ u32 r.payload 4 ∧ u32 r.payload 4 ≤ 256 ∧
        u32 r.payload 0 + 4 * u32 r.payload 4 ≤ 0x400000)
      (fun u => u.writeWords (u32 r.payload 0) ((records r.payload 8 4 (u32 r.payload 4)).map fun b => u32 b 0)) (fun _ => {}) ∧
    Runs .serviceEnter serviceEnterOp r s (fun u => u.showRuns = false ∧ u.gl.firstCut = none)
      (fun u => { u with gl := { u.gl with device := .service } }) (fun _ => {}) ∧
    Runs .serviceEnter serviceEnterOp r s (fun u => u.showRuns = true) (fun u => u)
      (fun u => { status := Status.wrongState, detail := u.wrongDetail }) ∧
    Runs .serviceExit serviceExitOp r s (fun u => u.boot.recovery = false)
      (fun u => { u with gl := { u.gl with device := .operational } }) (fun _ => {}) ∧
    Runs .deviceReset deviceResetOp r s (fun u => u.gl.show_ ≠ .armed) (fun u => u) (fun _ => {}) ∧
    Runs .deviceReset deviceResetOp r s (fun u => u.gl.show_ = .armed) (fun u => u) (fun _ => { status := Status.showArmed }) ∧
    (∀ (n : Nat) (x : Slot) (a : Ans), (s.ring n).slots = [x] → x.wait = .executing → x.op = deviceResetOp.code → a.status = Status.ok →
      ((s.ring n).full = false → (s.answer n a).boot.resetAt = some (s.now + msT 10)) ∧
      ((s.ring n).full = true → s.canWrite (s.ring n) = true → (s.answer n a).boot = s.boot))

/-- The events of a ring pair (R86, R94, R95, R105, R109): tail writes, a reply held for 1 ms, a command's time that runs
out, ENABLE, RINSE, failed fetches of a ring and failed writes of a reply, and the acceptance of the next packet. -/
def Obligations.RingEventsComplete : Prop :=
  ∀ (n : Nat) (s : State), n < 64 →
    (∀ i, (s.ring n).ml = false → (s.ring n).running = true → ringUsed (i % 65536) (s.ring n).cmdTail ≤ 2 ^ (s.ring n).latched.2.2.1 →
      exec (.cmdTailWrite n i) s = .next (s.setRing n { s.ring n with cmdTail := i % 65536 })) ∧
    (∀ i, (s.ring n).ml = false → (s.ring n).running = true → 2 ^ (s.ring n).latched.2.2.1 < ringUsed (i % 65536) (s.ring n).cmdTail →
      exec (.cmdTailWrite n i) s = .next ((s.setRing n { s.ring n with cmdTail := i % 65536 }).badIndex n)) ∧
    (∀ i, (s.ring n).ml = false → (s.ring n).running = true → ringUsed (i % 65536) (s.ring n).rplTail ≤ 2 ^ (s.ring n).latched.2.2.2 →
      exec (.rplTailWrite n i) s = .next ((s.setRing n { s.ring n with rplTail := i % 65536 }).flush n)) ∧
    (∀ t, (s.ring n).heldSince = some t → (s.ring n).held = true → (s.ring n).stalled = false →
      exec (.replyStallTimeout n) s =
        let u := (s.advanceNow (t + msT 1)).setRing n { (s.advanceNow (t + msT 1)).ring n with stalled := true }
        .next ((if (u.ring n).error.testBit 3 then u else u.pairError n 3).raise Ev.ringStall n 0)) ∧
    (∀ k x t, (s.ring n).slots[k]? = some x → x.deadline = some t → x.ans = none →
      exec (.replyTimeoutExpire n k) s = .next ((s.advanceNow t).expireSlot n k x)) ∧
    ((s.ring n).enable = false → (s.ring n).ml = true →
      exec (.hostqEnableSet n) s = .next (s.setRing n { s.ring n with
        enable := true, running := true, latched := ((s.ring n).cmdBase, (s.ring n).rplBase, (s.ring n).kCmd, (s.ring n).kRpl) })) ∧
    ((s.ring n).enable = false → (s.ring n).ml = false →
      exec (.hostqEnableSet n) s = .next (s.busMaster.setRing n { s.ring n with
        enable := true, running := true, latched := ((s.ring n).cmdBase, (s.ring n).rplBase, (s.ring n).kCmd, (s.ring n).kRpl) })) ∧
    ((s.ring n).slots ≠ [] → exec (.hostqEnableClear n) s = .next (s.setRing n { s.ring n with enable := false })) ∧
    ((s.ring n).slots = [] → exec (.hostqEnableClear n) s = .next ((s.setRing n { s.ring n with enable := false }).settleDisable n)) ∧
    ((s.ring n).enable = false → (s.ring n).slots = [] →
      exec (.hostqDisableDone n) s = .next (s.setRing n { s.ring n with running := false })) ∧
    ((s.ring n).ml = false →
      exec (.hostqRinse n) s = .next (s.setRing n { s.ring n with
        rinse := false, ring := []
        cmdHead := ((s.ring n).cmdHead + ringUsed (s.ring n).cmdTail (s.ring n).cmdHead) % 65536
        rinsed := satAdd (s.ring n).rinsed (ringUsed (s.ring n).cmdTail (s.ring n).cmdHead) })) ∧
    ((s.ring n).ml = true →
      exec (.hostqRinse n) s = .next (s.setRing n { s.ring n with
        rinse := false, ring := [], cmdHead := ((s.ring n).cmdHead + (s.ring n).ring.length) % 65536
        rinsed := satAdd (s.ring n).rinsed (s.ring n).ring.length })) ∧
    ((s.ring n).ml = false → (s.ring n).running = true →
      exec (.dmaReadFail (.ring n)) s = .next ((s.aerError.disablePair n).pairError n 0) ∧
      exec (.rplDmaFail n) s = .next (((s.disablePair n).pairError n 1).flush n)) ∧
    (∀ packet size, s.confirmWaits (pkOp packet) = true → (s.ring n).ml = false →
      exec (.commandAccept n packet size) s = .next s) ∧
    (∀ packet size, s.accepts n = true → s.confirmWaits (pkOp packet) = false → (s.ring n).ml = false → (s.ring n).cmdHead ≠ (s.ring n).cmdTail →
      s.pcie.link = true → s.pcie.master = true → s.pcie.d3hot = false →
      exec (.commandAccept n packet size) s =
        .next ((s.setRing n { s.ring n with cmdHead := ((s.ring n).cmdHead + 1) % 65536 }).acceptPacket n (min size 1048576) none packet)) ∧
    (∀ packet size sentTo b rest, s.serves n = true → (s.ring n).ml = true → (s.ring n).ring = (sentTo, b) :: rest →
      let taken := s.setRing n { s.ring n with ring := rest, cmdHead := ((s.ring n).cmdHead + 1) % 65536 }
      let counted : State := { taken with hq := { taken.hq with mlDup := satInc s.hq.mlDup } }
      (∀ x e, ((s.ring n).cache.find? fun y => sameCommand b y.op y.session y.tag) = some x → (s.ring n).bound = some e →
        exec (.commandAccept n packet size) s = .next (counted.sendDatagram sentTo e { x with dup := true })) ∧
      ((s.ring n).cache = [] → ((s.ring n).slots ++ (s.ring n).late).any (fun x => sameCommand b x.op x.session x.tag) = true →
        exec (.commandAccept n packet size) s = .next counted) ∧
      (s.accepts n = true → s.confirmWaits (pkOp b) = false → (s.ring n).cache = [] →
        ((s.ring n).slots ++ (s.ring n).late).any (fun x => sameCommand b x.op x.session x.tag) = false →
        exec (.commandAccept n packet size) s = .next (taken.acceptPacket n 0 (some sentTo) b)))

/-- The PCIe function (R96, R512, R513, R535): a loss of the PCIe side takes every enabled PCIe pair out of service, stops
the event ring and ends the sessions of the PCIe host; the function answers configuration requests with its values
(R507-R509); an unmasked vector with a pending message sends it. The management lane (R98, R514, R515) and the keepalive
of a session (R102): a datagram enters the ring of its pair or is dropped and counted, a binding that has been idle for
60 s ends, fragments join or are dropped after 1 s, APPLY, DHCP and the link-local time set the address in use, and a
session without a command for its keepalive time ends. -/
def Obligations.LinkEventsComplete : Prop :=
  (∀ s : State,
    (s.pciFunction.vendor = u16 s.personality 0 ∧ s.pciFunction.device = 0x8200 ∧ s.pciFunction.classCode = 0x048000 ∧
      s.pciFunction.revision = s.fuses.stepping % 256 ∧ s.pciFunction.subVendor = u16 s.personality 2 ∧
      s.pciFunction.subsystem = u16 s.personality 4 ∧ s.pciFunction.bars = [4194304, 0, 65536, 0, 0, 0, 0] ∧
      s.pciFunction.vectors = 64 ∧ (s.pciFunction.retry = true ↔ s.gl.device = .boot) ∧
      s.pciFunction.capabilities = [.pciExpress, .powerManagement, .msix, .advancedErrorReporting, .deviceSerialNumber, .functionLevelReset] ∧
      s.pciFunction.d3hot = s.pcie.d3hot ∧ s.pciFunction.aer = s.pcie.aer) ∧
    (s.gl.device = .boot → exec .pcieFlr s = .next s ∧ exec .busMasterClear s = .next s ∧ exec .d3hotEnter s = .next s ∧
      ∀ b, exec (.msixUnmask (.function b)) s = .next s) ∧
    exec .pcieLinkLoss s = .next ({ s with pcie := { s.pcie with link := false, waits := [] } } : State).losePcie ∧
    (s.gl.device ≠ .boot → exec .pcieFlr s = .next s.resetFunction.losePcie ∧
      exec .busMasterClear s = .next ({ s with pcie := { s.pcie with master := false } } : State).losePcie ∧
      exec .d3hotEnter s = .next ({ s with pcie := { s.pcie with d3hot := true } } : State).losePcie ∧
      ∀ b, exec (.msixUnmask (.function b)) s = .next ({ s with pcie := { s.pcie with fnMask := b } } : State).flushMsix) ∧
    exec .perstNAssert s = .next (({ s with pcie := { s.pcie with link := false, aer := 0 } } : State).resetFunction.losePcie) ∧
    (s.boot.hold = true → exec .pcieLinkUp s = .next s) ∧
    (s.boot.hold = false → exec .pcieLinkUp s = .next ({ s with pcie := { s.pcie with link := true } } : State).flushMsix) ∧
    (∀ v, v < 64 → s.pcie.canDma = true → s.pcie.masks v = false → s.flushMsix.pcie.pba.getLsbD v = false) ∧
    (s.pcie.canDma = false ∨ s.pcie.pba = 0 → s.flushMsix = s) ∧
    (∀ v, v < 64 → s.pcie.pba = 0 ∨ s.pcie.canDma = false →
      exec (.msixUnmask (.vector v)) s = .next { s with pcie := { s.pcie with vecMask := s.pcie.vecMask &&& ~~~(1#64 <<< v) } }) ∧
    (∀ v, v < 64 → s.pcie.pba = 1#64 <<< v → s.pcie.canDma = true → s.pcie.fnMask = false →
      exec (.msixUnmask (.vector v)) s = .next (({ s with pcie := { s.pcie with
        vecMask := s.pcie.vecMask &&& ~~~(1#64 <<< v), pba := 0 } } : State).emit (.msix v (s.pcie.message v).1 (s.pcie.message v).2)))) ∧
  (∀ s : State,
    (∀ e b n, s.ml.link = true → s.ml.addrSrc ≠ .none → s.pairFor e = some n → (s.ring n).ring.length < 64 →
      exec (.mlDatagramRx e false b) s =
        .next (s.setRing n { s.ring n with bound := some e, idleSince := none, ring := (s.ring n).ring ++ [(s.ml.addr, b)] })) ∧
    (∀ e b n, s.ml.link = true → s.ml.addrSrc ≠ .none → s.pairFor e = some n → 64 ≤ (s.ring n).ring.length →
      exec (.mlDatagramRx e false b) s =
        .next (s.setRing n { s.ring n with bound := some e, idleSince := none, mlDrop := satInc (s.ring n).mlDrop })) ∧
    (∀ e b, s.ml.link = true → s.ml.addrSrc ≠ .none → s.pairFor e = none →
      exec (.mlDatagramRx e false b) s = .next { s with hq := { s.hq with mlUnbound := satInc s.hq.mlUnbound } }) ∧
    (∀ n t, n < 64 → s.bindingIdle n = true → (s.ring n).idleSince = some t →
      exec (.mlBindingExpire n) s = .next ((s.advanceNow (t + secT 60)).setRing n
        { (s.advanceNow (t + secT 60)).ring n with bound := none, cache := [], idleSince := none })) ∧
    (∀ e id b, s.ml.link = true → s.ml.addrSrc ≠ .none → s.ml.reasm = [] → s.ml.wasDropped e id s.now = false → b.length ≤ 524288 →
      exec (.mlFragmentRx e id 0 true b) s =
        .next { s with ml := { s.ml with reasm := [{ src := e, id, parts := [(0, b)], total := none, since := s.now }] } }) ∧
    (∀ e id x, (s.ml.reasm.find? fun x => decide (x.src = e ∧ x.id = id)) = some x →
      exec (.mlReassemblyTimeout e id) s = .next ((s.advanceNow (x.since + secT 1)).dropReasm e id)) ∧
    (∀ e id, (s.dropReasm e id).ml.reasmDrop = satInc s.ml.reasmDrop ∧ (s.dropReasm e id).ml.wasDropped e id s.now = true ∧
      ∀ y, y ∈ (s.dropReasm e id).ml.reasm ↔ y ∈ s.ml.reasm ∧ ¬(y.src = e ∧ y.id = id)) ∧
    exec .mlApply s = .next s.mlApply ∧
    (∀ a g p, s.ml.link = true → s.ml.dhcpOn = true → s.ml.offered = some a →
      exec (.dhcpMessageRx (.ack a g p)) s =
        .next { s with ml := { s.ml with addr := a, addrSrc := .dhcp, inUse := (p, g), offered := none } }) ∧
    (s.ml.addrSrc = .dhcp →
      exec (.dhcpLeaseTimer .expire) s =
        .next ({ s with ml := { s.ml with addr := 0, addrSrc := .none, inUse := (24, 0) } } : State).dhcpDiscover) ∧
    (∀ a, s.ml.link = true → s.ml.dhcpOn = true → s.ml.addrSrc = .none → a / 65536 = 0xA9FE →
      exec (.linkLocalTimeout a) s =
        let u := s.advanceNow (s.ml.upAt + secT 10)
        .next ({ u with ml := { u.ml with addr := a, addrSrc := .linkLocal, inUse := (16, 0) } } : State).dhcpDiscover) ∧
    (∀ timer, s.ml.addrSrc ≠ .dhcp → s.ml.link = true → s.ml.dhcpOn = true → exec (.dhcpLeaseTimer timer) s = .next s.dhcpDiscover) ∧
    (∀ sp, exec (.mlLinkChange false sp) s = .next ({ s with ml := { s.ml with link := false } } : State).ptpPorts) ∧
    (∀ slot x, Tab.find s.ses slot = some x → x.isOpen = true → x.keepalive ≠ 0 →
      exec (.sessionKeepaliveExpire slot) s = .next ((s.advanceNow (x.lastUse + secT x.keepalive)).endSession slot .keepalive)))

/-- After a loss of the PCIe side no PCIe pair is enabled, the event ring is off and no session of the PCIe host is open
(R96). -/
def Obligations.PcieLossEndsPcieHost : Prop :=
  ∀ (i : Instr) (s t : State), i = .pcieLinkLoss ∨ i = .pcieFlr ∨ i = .busMasterClear ∨ i = .d3hotEnter ∨ i = .perstNAssert →
    exec i s = .next t →
    (∀ n, n < 64 → (t.ring n).ml = false → (t.ring n).enable = false) ∧ t.evt.enable = false ∧
    (∀ slot x, Tab.find t.ses slot = some x → x.source = .pcie → x.isOpen = false)

/-- Accesses to BAR0 and BAR2 (R12, R14, R23, R24, R26, R43, R209, R267, R509, R511, R513): a read of 1, 2, 4 or 8 bytes
answers the addressed bytes of its words, the lower word first, an empty FIFO window makes it wait, and a waiting read
ends with the item or with EMPTY. A write of 32 bits writes its word, one of 64 bits both words, the lower first, and a
narrower one nothing. The words of BAR2 are the MSI-X table and the pending bits. A rinse has its discard point. -/
def Obligations.RegisterAccessesComplete : Prop :=
  ∀ (a bytes : Nat) (s : State), a < 0x410000 →
    let b := barWord a bytes
    (bytes < 8 → b = a - a % 4) ∧ (bytes = 8 → b = a - a % 8) ∧
    (∀ w, s.windowAt b = some w → (s.fifo w).items = [] →
      exec (.fifoWindowRead a bytes) s = .next { s with pcie := { s.pcie with waits := s.pcie.waits ++ [(a, bytes)] } }) ∧
    (∀ w, s.windowAt b = some w → (s.fifo w).items ≠ [] →
      exec (.fifoWindowRead a bytes) s = .next ((s.windowEnd w (bytes = 8)).2.emit (.readData (addressed a bytes (s.windowEnd w (bytes = 8)).1)))) ∧
    (∀ w, s.windowAt b = some w → (a, bytes) ∈ s.pcie.waits →
      exec (.fifoReadWaitExpire a bytes) s =
        let u : State := { s with pcie := { s.pcie with waits := s.pcie.waits.erase (a, bytes) } }
        .next ((u.windowEnd w (bytes = 8)).2.emit (.readData (addressed a bytes (u.windowEnd w (bytes = 8)).1)))) ∧
    (s.windowAt b = none → a < 0x400000 → bytes < 8 →
      exec (.rcRead ⟨a, bytes⟩) s = .next ((s.readWord b).2.emit (.readData (addressed a bytes [(s.readWord b).1]))) ∧
      exec (.latchingRead ⟨a, bytes⟩) s = .next ((s.readWord b).2.emit (.readData (addressed a bytes [(s.readWord b).1])))) ∧
    (s.windowAt b = none → a < 0x400000 → bytes = 8 →
      exec (.rcRead ⟨a, bytes⟩) s = let u := (s.readWord b).2.readWord (b + 4)
        .next (u.2.emit (.readData [(s.readWord b).1, u.1]))) ∧
    (0x400000 ≤ a → bytes < 8 → exec (.rcRead ⟨a, bytes⟩) s =
      .next (s.emit (.readData (addressed a bytes [word (s.pcie.bar2Read (b - 0x400000))])))) ∧
    (∀ x : Reg, (4 ≤ bytes → addressed a bytes [x] = [x]) ∧
      (bytes < 4 → addressed a bytes [x] = [word (x.toNat / 2 ^ (8 * (a % 4)) % 2 ^ (8 * bytes))])) ∧
    (∀ w : Reg, a % 4 = 0 → a < 0x400000 → a ≠ 0x20004 →
      exec (.registerWrite a (.word w)) s = .next (s.writeWord a w.toNat) ∧
      exec (.shadowWrite a (.word w)) s = .next (s.writeWord a w.toNat)) ∧
    (∀ lo hi : Reg, a % 8 = 0 → a < 0x400000 → a ≠ 0x20000 →
      exec (.registerWrite a (.wide lo hi)) s = .next ((s.writeWord a lo.toNat).writeWord (a + 4) hi.toNat)) ∧
    (∀ w : Reg, w.toNat.testBit 0 = true → exec (.registerWrite 0x20004 (.word w)) s = .next (s.busMaster.writeWord 0x20004 w.toNat)) ∧
    (∀ w, exec (.registerWrite a (.narrow w)) s = .next s ∧ exec (.shadowWrite a (.narrow w)) s = .next s) ∧
    (∀ (v : Nat) (w : Reg), v < 64 → a = 0x400000 + 16 * v + 12 →
      exec (.registerWrite a (.word w)) s = .next (s.maskVector v (w.toNat.testBit 0))) ∧
    (∀ (v k : Nat) (w : Reg), v < 64 → k = 1 ∨ k = 2 → a = 0x400000 + 16 * v + 4 * k →
      exec (.registerWrite a (.word w)) s =
        .next { s with pcie := { s.pcie with table := Tab.put s.pcie.table (4 * v + k) (word w.toNat) } }) ∧
    exec .nowNsRead s = .next ((s.latch 0x30000).emit (.readData [word (s.timeRead 0)])) ∧
    (∀ n, n < 64 → (s.ring n).rinse = true → exec (.rinseDiscardPoint (.commandRing n)) s = .next (s.rinseRing n)) ∧
    (∀ n, n < s.lanes → (s.laneOf n).rinse = true → (s.laneOf n).part = none →
      let u := s.advanceTo (s.laneOf n).queueUntil
      exec (.rinseDiscardPoint (.launchQueue n)) s = .next (u.updLane n fun l => l.current u.tk.counter)) ∧
    (∀ (l : Lane) t, l.rinse = true → l.part = none → l.queueUntil ≤ t → l.stalled = [] → l.current t = l.discard)

/-- The writes of the CANVAS, PAL, LAYER, WITNESS and TIME registers that have an effect of their own (R208, R216, R236,
R268, R293, R294). The writes of the LANE, SCAN, DMX and EVT registers that have an effect of their own (R336, R357,
R359, R360, R365, R378, R502), and the end of the time of a stalled item or of a partial packet (R25, R29). -/
def Obligations.EffectiveWritesComplete : Prop :=
  (∀ s : State,
    (∀ c, c < 16 → s.cfg.has .canvas c = true → exec (.canvasCommitWrite c) s = .next (s.updCanvas c fun x => { x with commit := true })) ∧
    (∀ off (v : Reg) n e k, off < 0x40000 → s.palAt off = some (n, e, k) →
      exec (.paletteWrite off v) s = .next (s.updLayer n fun x => x.writePal e k v.toNat)) ∧
    (∀ n (v : Reg), n < 32 → s.cfg.has .layer n = true → bit v.toNat 0 = true →
      exec (.palMapWrite n v) s = .next (({ s with layer := Tab.mapV s.layer fun _ x => { x with mapped := false } } : State).updLayer n
        fun x => { x with mapped := true, page := field v.toNat 2 1 })) ∧
    (∀ w (v : Reg), w < 64 → s.cfg.has .witness w = true →
      exec (.witnessExpectedWrite w v) s = .next (s.updWindow w fun x => { x with expected := v.toNat, reloading := x.reloading && s.stableWindow w })) ∧
    (s.tk.source = .free → s.showRuns = false →
      exec .timeSet s = .next (s.stepBy (nsT ((s.tk.setLo + s.tk.setHi * 2 ^ 32) * 1000000000 + s.tk.setNs) - s.tk.counter))) ∧
    ((s.tk.source ≠ .free ∨ s.showRuns = true) → exec .timeSet s = .next { s with tk := { s.tk with refused := true } }) ∧
    (∀ u mode, u < 31 → s.cfg.has .trigger u = true →
      exec (.ttuArm u mode) s = .next (s.armUnit u (mode % 4))) ∧
    (∀ u, u < 31 → s.cfg.has .trigger u = true → (s.unit u).mode < 4 →
      exec (.ttuDisarm u) s = .next (s.updUnit u fun x => { x with armed := false, mode := (s.unit u).mode })) ∧
    (∀ i, i < 8 → exec (.ttiRinse i) s = .next (s.updInput i fun x => { x with fifo := x.fifo.discard }))) ∧
  (∀ s : State,
    (∀ l w, l < s.lanes →
      exec (.qdataWrite l w) s = .next (s.updLane l fun x => x.write s.tk.counter w) ∧
      exec (.qrinse l) s = .next (s.updLane l fun x => x.requestRinse s.tk.counter) ∧
      exec (.rinsePartialTimeout l) s = .next (s.updLane l fun x => x.endPartial s.tk.counter) ∧
      let u := s.updLane l fun x => x.current s.tk.counter
      ((u.laneOf l).stalled = [] → exec (.fifoWriteWaitExpire l w) s = .next u) ∧
      (∀ rest, (u.laneOf l).stalled = w :: rest → exec (.fifoWriteWaitExpire l w) s =
        .next ((u.updLane l fun x => { x with stalled := rest, qdrop := satInc x.qdrop }).raise Ev.fifoWriteDrop l 0))) ∧
    (∀ (x : Lane) t w, x.rinse = false →
      (x.full = false → x.stalled = [] → x.write t w = x.item w) ∧
      (x.full = true → x.current t = x ∧ x.write t w = { x with stalled := x.stalled ++ [w] })) ∧
    (∀ (x : Lane) t, x.stalled = [] →
      (x.part = none → x.queueUntil ≤ t → x.rinse = false → x.requestRinse t = x.discard) ∧
      (x.part.isSome = true ∨ t < x.queueUntil → x.requestRinse t = { x with rinse := true }) ∧
      (x.part.isSome = true → x.rinse = true → x.endPartial t = x.discard)) ∧
    (∀ p w, p < s.lanes → exec (.faultCtrlWrite p w) s = .next (s.faultCtrl p w.toNat)) ∧
    (∀ p w, p < s.lanes → exec (.seamGainWrite p true w) s = .next (s.updPort p fun x =>
      let v := clampN 0x0800 0x1800 (w.toNat % 65536) + clampN 0x0800 0x1800 (w.toNat / 65536 % 65536) * 65536
      { x with seamTb := v, gains := Tab.put x.gains x.seamIdx ((Tab.getD x.gains x.seamIdx seamDefault).1, v) })) ∧
    (∀ p d, p < s.lanes → s.cfg.get .scan p = some d → scMemory d = true →
      exec (.fullWriteRequest p) s = .next (s.updPort p fun x => { x with fullWrite := true })) ∧
    (∀ p, p < s.lanes → exec (.retRinse p) s =
      .next (s.updPort p fun x => { x with retRinsed := satAdd x.retRinsed x.ret.length, ret := [] })) ∧
    (∀ p k w, p < s.lanes → k < 8 → exec (.groupRearm p k w) s = .next (s.groupRearm p k w.toNat)) ∧
    (∀ p, p < s.dmxPorts → exec (.uidRinse p) s = .next (s.updDmx p fun x => { x with uids := x.uids.request })) ∧
    (s.evt.enable = false → s.pcie.link = true →
      exec .evtRingEnable s = .next { s.busMaster with evt := { s.evt with enable := true, latched := (s.evt.base, s.evt.k) } }) ∧
    (s.evt.enable = true ∨ s.pcie.link = false → exec .evtRingEnable s = .next s.busMaster))

/-- A reset of the whole device, and the boot after it (R102, R427, R461, R520, R548, R550): the sessions end and the feeder
outputs open before the reset, and the boot starts the cores with the selected image. A core that hangs restarts (R34),
hold-up is entered and left (R412), the core supply leaves its envelope (R67), and the thermal hold ends when every
sensor is below its limit (R483). AUTOLOAD admits the newer saved configuration and AUTO_START starts the show once
(R477), and the update slot, the trial, the activation pause and the owner lockout end as R466, R468, R470, R473 and
R475 say. -/
def Obligations.BootAndUpdateEventsComplete : Prop :=
  (∀ s : State,
    (s.mon.holdup = false → s.boot.supplyLost = false → exec .porstNAssert s = .next (s.selfReset false)) ∧
    (s.mon.holdup = true ∨ s.boot.supplyLost = true → exec .porstNAssert s = .next (s.selfReset false).loseSupply) ∧
    exec .resetDetectorTrip s = .next (s.selfReset false).loseSupply ∧
    (∀ t, s.boot.resetAt = some t → exec .deviceResetTimer s = .next ((s.advanceNow t).selfReset false)) ∧
    (∀ x, s.gl.device = .boot → s.boot.thermal = false →
      let u := (s.readStraps x).sendVcore.bumpEpoch
      exec (.boot x) s = .next (((u.startCores (u.selectSlot x.strap0)).loadSaved).bootEvents ((u.selectSlot x.strap0).bind Prod.snd) x)) ∧
    (∀ temps, s.boot.thermal = true → (temps.all fun t => t < 16 * (s.elapse (secT 1)).fuses.tjHi) = true →
      exec (.thermalHoldStep temps) s =
        .next { s.elapse (secT 1) with boot := { (s.elapse (secT 1)).boot with thermal := false } }) ∧
    (s.gl.device ≠ .boot → s.boot.hold = false → exec .holdupEnter s = .next s.enterHoldup) ∧
    (s.boot.hold = true → exec .holdupEnter s = .next s.loseSupply) ∧
    exec .holdupExit s = .next { s with mon := { s.mon with holdup := false } } ∧
    (∀ m, m < 8 → s.gl.device ≠ .boot → s.mon.outside = none →
      exec (.vcoreUndervoltage m) s =
        .next (({ s with mon := { s.mon with outside := some (0x10 + m), inside := 0 } }.count 0x0003).raise Ev.envelopeExit (0x10 + m) 0)) ∧
    (∀ c, c < 4 → s.gl.device ≠ .boot → s.gl.coreLast = [] → s.gl.restarting = [] →
      exec (.coreWatchdogExpire c) s =
        .next (((({ s with gl := { s.gl with coreLast := Tab.put [] c s.now, restarting := [c] } } : State).count 0x0002).raise
          Ev.coreStall c 0).fallBack .coreStall)) ∧
    (∀ c, c < 4 → exec (.coreRestartDone c) s =
      .next { s with gl := { s.gl with restarting := s.gl.restarting.filter fun k => k ≠ c } })) ∧
  (∀ s : State,
    (∀ slot, s.gl.device = .operational → bit (u16 s.personality 6) 3 = true → s.boot.started = false → s.stage.admitting = none →
      s.freeSession = some slot → s.stage.pending = none → s.stage.holder = none →
      let u := ({ s with boot := { s.boot with started := true } } : State).openOwn slot
      let id := (Tab.getD u.ses slot {}).id slot
      (newerSaved s.nv.configA s.nv.configB = none →
        exec .autoload s = .next ((u.raise Ev.autostartFailed 0 Status.badReference).endSession slot .close)) ∧
      (∀ c, newerSaved s.nv.configA s.nv.configB = some c → s.gl.show_ ≠ .armed →
        s.showRuns = false ∨ rateDiffers s.cfg (u.withSets { recs := c.recs }) = false →
        exec .autoload s =
          let v : State := { u with stage := { u.stage with holder := some id, area := u.withSets { recs := c.recs } } }
          let w := v.startJob 0x0201 id 0
          .next { w.2 with
            stage := { w.2.stage with admitting := some { job := w.1, flags := 0, frame := none, area := v.stage.area } }
            boot := { w.2.boot with autoload := some w.1.id } })) ∧
    (∀ n u, bit (u16 s.personality 6) 4 = true → s.boot.autoload ≠ none → s.boot.autoStart = false → s.stage.admitting = none →
      s.gl.show_ = .configured → s.timeReady = true →
      ({ s with boot := { s.boot with autoStart := true } } : State).startShow none false = .ok (n, u) → exec .autoStart s = .next u) ∧
    (∀ j image, s.upd.closing = some (j, image) → digestOk image = true →
      exec (.updateCloseComplete .done) s =
        .next (({ s with nv := { s.nv with flash := (s.nv.flash.erase (slotBase s.targetSlot) 0x0100_0000).program (slotBase s.targetSlot) image } } :
          State).endClose j Status.ok 0)) ∧
    (∀ j image o, s.upd.closing = some (j, image) → digestOk image = false →
      exec (.updateCloseComplete o) s = .next (s.endClose j Status.crcBad 0)) ∧
    (s.upd.holder ≠ none → s.upd.closing = none →
      exec .updateSlotIdleTimeout s = .next ((s.advanceNow (s.upd.last + secT 30)).freeUpdate.raise Ev.updateAborted 0 1)) ∧
    (∀ slot cause, s.upd.pausing = some (slot, cause) → hdFormat (s.slotHeader slot) = hdFormat (s.slotHeader s.boot.running) →
      exec .activationPauseEnd s = .next (s.skipPast.newImage slot cause).leavePause) ∧
    (∀ t, s.boot.trialSince = some t → exec .trialTimeout s = .next ((s.advanceNow (t + secT 90)).fallBack .timeout)) ∧
    (∀ t, s.lock.lockout = some t → exec .ownerLockLockoutEnd s = .next { s.advanceNow (t + secT 60) with lock := {} }))

/-- A reset keeps the fuses, the backup domain and what flash, OTP and the ledger hold, but for the log, to which the end of
each open session adds its record (R102), and the update slot that an UPDATE_CLOSE was writing, which holds no header
then (R468), and leaves no session, no show, no job and no command under way; the device waits for its boot (R461,
R548). -/
def Obligations.ResetKeepsWhatPowerOffKeeps : Prop :=
  ∀ (i : Instr) (s t : State), i = .porstNAssert ∨ i = .resetDetectorTrip →
    exec i s = .next t →
    t.fuses = s.fuses ∧ t.bak = s.bak ∧
      { t.nv with seq := s.nv.seq, log := s.nv.log, logNext := s.nv.logNext, flash := s.nv.flash } = s.nv ∧
      (s.upd.closing = none → t.nv.flash = s.nv.flash) ∧
      (∀ j image, s.upd.closing = some (j, image) → digestOk image = false → t.nv.flash = s.nv.flash) ∧
      (∀ j image a, s.upd.closing = some (j, image) → digestOk image = true → Memory.wf s.nv.flash = true →
        (a < slotBase s.targetSlot ∨ slotBase s.targetSlot + 0x1000000 ≤ a → t.nv.flash.read a = s.nv.flash.read a) ∧
        (slotBase s.targetSlot ≤ a → a < slotBase s.targetSlot + 256 → t.nv.flash.read a = 0xFF)) ∧
      t.gl.device = .boot ∧ t.gl.show_ = .idle ∧ t.ses = [] ∧ t.jobs.active = [] ∧
      t.rt.queue = [] ∧ t.force = none ∧ t.stage.holder = none ∧ (∀ n, (t.ring n).slots = [])

/-- A Niwin command of level R that no followed log holds back is echoed, writes its lines and OK (R522, R523, R525);
`service on` is refused while a show runs, and a key ends a followed log. A Niwin command of level S in SERVICE, outside
recovery, is echoed and does what R515, R523 and R524 say: `ml dhcp` and `ml static` write the lane's registers and
apply them, `reg rd` and `reg wr` act as REG_READ and REG_WRITE, `otp key` and `otp revoke` prepare a commit, `otp
commit` writes the prepared slot, and 30 s end what was prepared. -/
def Obligations.NiwinCommandsComplete : Prop :=
  (∀ s : State, s.nw.started = true →
    let echo := fun (l : Line) => s.drive 4 (.uart0Echo l)
    let ok := fun (t : State) => t.drive 4 (.uart0 "OK" [])
    (∀ l run, s.gl.device = .updatePause → s.niwinInput l run = { echo l with nw := (echo l).nw.keep l }) ∧
    (∀ (l : Line) (n : Niwin),
      let used := (n.held.map fun l => (l.map lineLength).getD 0).foldl (· + ·) 0
      (n.cut = true ∨ 256 ≤ used → n.keep l = n) ∧
      (n.cut = false → used < 256 → 256 < used + lineLength l → n.keep l = { n with cut := true }) ∧
      (n.cut = false → used < 256 → used + lineLength l ≤ 256 → n.keep l = { n with held := n.held ++ [some l] })) ∧
    (∀ l run, s.gl.device ≠ .updatePause → s.nw.held ≠ [] → s.nw.cut = false →
      s.niwinInput l run = { echo l with nw := { (echo l).nw with held := s.nw.held ++ [some l] } }) ∧
    (s.gl.device ≠ .updatePause → s.nw.held = [] → s.nw.cut = false → s.nw.follow = false →
      exec .niwinHelp s = .next (ok (niwinWords.foldl (fun (s : State) w => s.say w []) (echo .help))) ∧
      exec .niwinId s = .next (ok ((echo .id).say "id" (byteValues (echo .id).identity))) ∧
      (exec .niwinState s =
        let u := echo .state
        let b := u.bootRecord
        .next (ok (u.say "state" [u.globalState, u.pair.st.code, flag b.trial 0, flag b.active 0, flag b.previous 0,
          (b.cause.map FallbackCause.code).getD 4]))) ∧
      exec .niwinTime s = .next (ok ((echo .time).timeStatusBytes.2.say "time" (byteValues (echo .time).timeStatusBytes.1))) ∧
      exec .niwinHealth s = .next (ok ((echo .health).say "health" (byteValues (echo .health).healthBytes))) ∧
      (∀ n, 1 ≤ n → n ≤ 64 → exec (.niwinLog n) s =
        let l := (echo (.log n)).nv.log
        .next (ok ((l.drop (l.length - n)).foldl (fun (s : State) r => s.say "log" (byteValues (r.bytes false))) (echo (.log n))))) ∧
      (exec .niwinCounters s =
        let u := echo .counters
        .next (ok (u.say "counters" (((List.range 6) ++ (List.range (u.cfg.all .ixRx).length).map (· + 0x0100)).map u.counterValue)))) ∧
      exec .niwinMl s = .next (ok ((echo .ml).say "ml" ((List.range 7).map fun i => (echo .ml).hostqRead (0x20 + 4 * i)))) ∧
      (exec .niwinOtp s =
        let u := echo .otp
        .next (ok (((List.range 4).foldl (fun (s : State) k => s.say "otp" (s.keyRow k)) u).say "otp" [u.nv.minVersion]))) ∧
      exec .niwinLogFollow s = .next { echo .follow with nw := { (echo .follow).nw with follow := true } } ∧
      (s.showRuns = false → s.gl.firstCut = none →
        exec .niwinServiceOn s = .next (ok { echo .serviceOn with gl := { (echo .serviceOn).gl with device := .service } })) ∧
      (s.showRuns = true ∨ s.gl.firstCut ≠ none → exec .niwinServiceOn s = .next ((echo .serviceOn).drive 4 (.uart0 "ERR WRONG_STATE" [Status.wrongState]))) ∧
      (s.boot.recovery = false →
        exec .niwinServiceOff s = .next (ok { echo .serviceOff with gl := { (echo .serviceOff).gl with device := .operational } }))) ∧
    (s.gl.device ≠ .updatePause → s.nw.held = [] → s.nw.cut = false → s.nw.follow = true →
      exec .niwinKeyPress s = .next (ok { echo .key with nw := { (echo .key).nw with follow := false } }))) ∧
  (∀ s : State, s.nw.started = true → s.gl.device = .service → s.boot.recovery = false → s.nw.follow = false →
    s.nw.held = [] → s.nw.cut = false →
    let echo := fun (l : Line) => s.drive 4 (.uart0Echo l)
    let ok := fun (t : State) => t.drive 4 (.uart0 "OK" [])
    (exec .niwinMlDhcp s = .next (ok ({ echo .mlDhcp with ml := { (echo .mlDhcp).ml with dhcp := true } } : State).mlApply)) ∧
    (∀ a p g, a < 2 ^ 32 → p < 32 → g < 2 ^ 32 →
      exec (.niwinMlStatic a p g) s =
        let u := echo (.mlStatic a p g)
        .next (ok ({ u with ml := { u.ml with dhcp := false, ipv4 := a, plen := p, gateway := g } } : State).mlApply)) ∧
    (∀ off n, off % 4 = 0 → 1 ≤ n → n ≤ 256 → off + 4 * n ≤ 0x400000 →
      exec (.niwinRegRd off n) s =
        let u := echo (.regRd off n)
        .next (ok ((u.readWords n off).2.say "reg rd" ((u.readWords n off).1.map BitVec.toNat)))) ∧
    (∀ off (w : Reg), off % 4 = 0 → 0x20000 ≤ off → off < 0x400000 →
      exec (.niwinRegWr off w) s = .next (ok ((echo (.regWr off w)).writeWord off w.toNat))) ∧
    (∀ k (h : Bytes), k < 4 → h.length = 32 → (Tab.getD s.nv.keys k {}).hash = none → s.nv.ownerHash = none →
      exec (.niwinOtpKey k h) s = .next (ok ((echo (.otpKey k h)).prepareOtp k (some h)))) ∧
    (∀ k h, k < 4 → k ≠ s.runningKey → (Tab.getD s.nv.keys k {}).hash = some h → s.nv.ownerHash = none →
      exec (.niwinOtpRevoke k) s = .next (ok ((echo (.otpRevoke k)).prepareOtp k none))) ∧
    (∀ p, s.nw.prep = some p → s.now < p.since + secT 30 →
      exec (.niwinOtpCommit p.code) s =
        let u := echo (.otpCommit p.code)
        let w := ({ u with nw := { u.nw with prep := none } } : State).writeOtp p
        .next (ok (w.say "otp" (w.slotRow p.slot)))) ∧
    (∀ p c, s.nw.prep = some p → s.now < p.since + secT 30 → c ≠ p.code →
      exec (.niwinOtpCommit c) s =
        let u := echo (.otpCommit c)
        .next (({ u with nw := { u.nw with prep := none } } : State).drive 4 (.uart0 "ERR CRC_BAD" [Status.crcBad]))) ∧
    (s.gl.show_ ≠ .armed →
      exec .niwinReset s =
        let u := echo .reset
        .next (ok { u with boot := { u.boot with resetAt := some (s.now + msT 10) } })) ∧
    (∀ p, s.nw.prep = some p →
      exec .otpCommitExpire s =
        .next { s.advanceNow (p.since + secT 30) with nw := { (s.advanceNow (p.since + secT 30)).nw with prep := none } }))

/-- A sweep of the monitors advances SWEEP and the raw readings, and a read of SWEEP latches the rest (R479); waiting events
leave in datagrams of 64 (R497), a vector's hold-off ends with its message (R496), and a line of the event log leaves on
UART1 (R521). START and ABORT of a check channel and its expected values (R448, R450, R451), an item of the scrub (R439,
R440), the images and the schedule (R436), the reload of a window (R236, R237) and the loopback test (R519). -/
def Obligations.MonitorAndCheckEventsComplete : Prop :=
  (∀ s : State,
    (∀ r, s.gl.device ≠ .boot → ∃ t, exec (.monitorSweep r) s = .next t ∧
      (t.gl.device ≠ .boot → t.mon.sweep = (s.mon.sweep + 1) % 2 ^ 32 ∧ t.mon.raw.temps = r.temps ∧ t.mon.raw.volts = r.volts ∧
        t.mon.raw.cycles = r.cycles)) ∧
    exec .sweepRead s = .next (s.sweepLatch.emit (.readData [word s.mon.sweep])) ∧
    (∀ slot sub x e, slot < 64 → Tab.find s.evt.subs slot = some sub → Tab.find s.ses slot = some x → x.endpoint = some e →
      sub.waiting ≠ [] →
      exec (.eventDatagramSend slot) s =
        let v := s.advanceNow (sub.since + msT 1)
        let r : Reply := { op := 0x0D00, session := x.id slot, tag := 0, ans := { payload := (sub.waiting.take 64).flatMap fun r => r.bytes false }, length := 32 * (sub.waiting.take 64).length, truncated := false }
        let u := v.emit (.eventDatagram { ip := s.ml.addr, port := 47012 } e r (fragments (24 + r.ans.payload.length)))
        .next { u with evt := { u.evt with subs := Tab.put u.evt.subs slot { sub with waiting := sub.waiting.drop 64, since := v.now } } }) ∧
    (∀ v h, v < 64 → Tab.find s.evt.holding v = some h →
      exec (.vectorHoldoffExpire v) s =
        let w := s.advanceNow h.ends
        let u : State := { w with evt := { w.evt with holding := Tab.del w.evt.holding v } }
        .next (if h.due then u.signal v else u)) ∧
    (∀ x rest, s.evt.uart1 = x :: rest → s.gl.device ≠ .boot →
      (s.now < x.since + secT 1 → exec (.uart1LogLine false) s =
        .next (({ s with evt := { s.evt with uart1 := rest, uart1Drops := 0 } } : State).drive 4 (.uart1 s.evt.uart1Drops x.entry x.event))) ∧
      exec (.uart1LogLine true) s =
        let u := s.advanceNow (x.since + secT 1)
        .next { u with evt := { u.evt with uart1 := rest, uart1Drops := u.evt.uart1Drops + 1 } })) ∧
  (∀ s : State,
    (∀ c, c < 4 → (s.chan c).st ≠ .running → (s.chan c).region = 0 → s.lengthOk (s.chan c).source (s.chan c).start (s.chan c).length = true →
      exec (.chkRegStart c) s = .next (s.updChan c fun x => { x with
        st := .running, arm := true, reloading := false, starter := 0, scanStart := x.start, scanLength := x.length, passAt := s.now })) ∧
    (∀ c, c < 4 → (s.chan c).st = .running →
      exec (.chkRegStart c) s = .next (s.updChan c fun x => { x with error := x.error ||| 1 })) ∧
    (∀ c, c < 4 → (s.chan c).st = .running →
      exec (.chkAbort c) s = .next (s.updChan c fun x => { x with st := .aborted, reloading := false })) ∧
    (∀ c (w : Reg), c < 4 → exec (.chkExpectedCommit c w) s =
      let v := (s.chan c).expectLo + w.toNat * 2 ^ 32
      .next (s.updChan c fun x => { x with expected := v, expectLo := v % 2 ^ 32, holding := some v })) ∧
    (∀ c v good, c < 4 → (s.chan c).reloading = true → (s.chan c).holding = some v →
      exec (.chkExpectedReloadDone c good) s = .next ((s.updChan c fun x => { x with expected := v, reloading := false }).compareChan c)) ∧
    (∀ w, w < 64 → s.cfg.has .witness w = true → (s.window w).reloading = false →
      exec (.expectedLedgerCopy (.witness w)) s =
        .next { s with nv := { s.nv with expects := Tab.put s.nv.expects w (s.window w).expected } }) ∧
    (∀ w, w < 64 → (s.window w).reloading = true → s.stableWindow w = false →
      exec (.witnessReloadDone w true) s =
        .next (s.updWindow w fun x => { x with expected := Tab.getD s.nv.expects w x.expected, reloading := false }) ∧
      exec (.witnessReloadDone w false) s =
        .next ((s.badExpected.updWindow w fun x => { x with enable := false, reloading := false }).raise Ev.witnessFault w 0)) ∧
    (∀ k, exec (.scrubItem (.item k [])) s = .next ((s.scrubStart k).scrubbed k)) ∧
    (∀ k w, exec (.scrubItem (.item k [(w, none)])) s = .next (((s.scrubStart k).memCorrected k (s.scrubBase k + 8 * w)).scrubbed k)) ∧
    (∀ k w row, exec (.scrubItem (.item k [(w, some row)])) s =
      .next (((s.scrubStart k).memPoisoned ⟨k, s.scrubBase k + 8 * w, row⟩).scrubbed k)) ∧
    (∀ k found, exec (.scrubItem (.item k found)) s =
      .next ((found.foldl (fun u e => u.memFound k (s.scrubBase k + 8 * e.1) e.2) (s.scrubStart k)).scrubbed k)) ∧
    (∀ r, exec (.scrubItem (.badRecord r)) s = .next (s.badRecord r)) ∧
    (∀ a, (s.memCorrected .dram a).chkg.dramCe = satInc s.chkg.dramCe ∧ (s.memCorrected .sram a).chkg.sramCe = satInc s.chkg.sramCe ∧
      (s.memCorrected .ledger a).chkg.ledgerCe = satInc s.chkg.ledgerCe) ∧
    (∀ p : Poison, (s.foundPoison p).chkg.ueAddr = p.address % 2 ^ 40 ∧
      (p.mem = .dram → (s.foundPoison p).chkg.dramUe = satInc s.chkg.dramUe) ∧
      (p.mem = .sram → (s.foundPoison p).chkg.sramUe = satInc s.chkg.sramUe)) ∧
    (s.img.rewriting = true →
      exec .imageRewriteDone s =
        .next { s with img := { s.img with copyA := s.image, copyB := s.image, badA := [], badB := [], lost := false, rewriting := false } }) ∧
    (∀ f c, s.img.restoring = true → s.img.lost = false → s.img.rewriting = false → s.force = some f →
      (s.img.badA = [] ∧ s.img.copyA = some c ∨ s.img.badA ≠ [] ∧ s.img.badB = [] ∧ s.img.copyB = some c) →
      exec .scheduleRestoreDone s =
        .next { s with img := { s.img with restoring := false }, force := some { f with sched := c.force.sched } }) ∧
    (∀ l good j ends, l < s.lanes → Tab.find s.jobs.loops l = some (j.id, ends) → (s.jobs.active.find? fun k => decide (k.id = j.id)) = some j →
      exec (.loopbackComplete l good) s =
        let u := s.advanceNow ends
        .next ({ u with jobs := { u.jobs with loops := u.jobs.loops.filter fun e => e.2.1 ≠ j.id } }.endJob j
          (if good then Status.ok else Status.crcBad) 0)))

/-- Outside SERVICE, and in recovery, a Niwin command of level S is echoed, answers ERR WRONG_STATE and does nothing else
(R522, R523). -/
def Obligations.NiwinServiceCommandsAreRefused : Prop :=
  ∀ (s : State) (i : Instr) (l : Line), s.nw.started = true → s.gl.device ≠ .updatePause → s.nw.follow = false →
    s.nw.held = [] → s.nw.cut = false → (s.gl.device ≠ .service ∨ s.boot.recovery = true) →
    (i = .niwinMlDhcp ∧ l = .mlDhcp ∨ (∃ a p g, i = .niwinMlStatic a p g ∧ l = .mlStatic a p g) ∨
      (∃ off n, i = .niwinRegRd off n ∧ l = .regRd off n) ∨ (∃ off w, i = .niwinRegWr off w ∧ l = .regWr off w) ∨
      (∃ k h, i = .niwinOtpKey k h ∧ l = .otpKey k h) ∨ (∃ k, i = .niwinOtpRevoke k ∧ l = .otpRevoke k) ∨
      (∃ c, i = .niwinOtpCommit c ∧ l = .otpCommit c) ∨ i = .niwinReset ∧ l = .reset) →
    exec i s = .next ((s.drive 4 (.uart0Echo l)).drive 4 (.uart0 "ERR WRONG_STATE" [Status.wrongState]))

/-- An admission that ends (R60), the cut of a frame (R50), the segments and the end of a render job and of background work
(R75, R76, R255, R258, R263, R439), and the launch of a frame on a flow (R295, R296), each at its own instant of the
time keeper. -/
def Obligations.FrameEventsComplete : Prop :=
  ∀ s : State,
    (∀ a, s.stage.admitting = some a → exec .admissionComplete s = .next (s.completeAdmission a)) ∧
    (s.stage.admitting = none → exec .admissionComplete s = .next s) ∧
    (s.pair.awaits = none ∨ s.follows = false → s.decideLast = s) ∧
    (∀ m d e, s.pair.awaits = some m → s.pairNow = some (d, e) → s.follows = true →
      s.decideLast = (s.advanceTo (s.cfg.cutInstant m + usT (pdTimeout d))).missHeartbeat m 2) ∧
    (∀ v, s.decideLast = v →
      (∀ n, v.nextCut = some n → v.gl.device ≠ .updatePause → v.upd.activate = none →
        exec .cut s =
          let u := v.advanceTo (v.cfg.cutInstant n)
          .next (if u.follows then u.followCut n else u.runCut n u.rx u.video none false)) ∧
      (∀ n a, v.nextCut = some n → v.gl.device ≠ .updatePause → v.upd.activate = some a →
        exec .cut s = .next ((v.advanceTo (v.cfg.cutInstant n)).beginPause.openSlot.startReady.skipFrame n)) ∧
      (∀ n, v.nextCut = some n → v.gl.device = .updatePause →
        exec .cut s = .next ((v.advanceTo (v.cfg.cutInstant n)).openSlot.startReady.skipFrame n)) ∧
      (v.nextCut = none → exec .cut s = .next v)) ∧
    (∀ l j, l < s.renderLanes → Tab.find s.sch.running l = some j →
      (j.done + 1 < j.segments → Tab.has s.sch.marks l = false → exec (.jobSegmentComplete l .clean) s = .next { s with sch := { s.sch with
        affinity := Tab.put s.sch.affinity j.num l, running := Tab.put s.sch.running l { j with done := j.done + 1, segAt := s.now } } }) ∧
      (j.done + 1 < j.segments → Tab.has s.sch.marks l = true → exec (.jobSegmentComplete l .clean) s = .next ({ s with sch := { s.sch with
        affinity := Tab.put s.sch.affinity j.num l, running := Tab.del s.sch.running l, marks := Tab.del s.sch.marks l,
        ready := { j with done := j.done + 1, preempted := true, asked := false } :: s.sch.ready } } : State).dispatch) ∧
      (j.segments ≤ j.done + 1 → exec (.jobSegmentComplete l .clean) s = .next s) ∧
      (∀ n, exec (.jobSegmentComplete l (.corrected n)) s =
        exec (.jobSegmentComplete l .clean) { s with sch := s.sch.updLane l fun x => { x with corrected := satAdd x.corrected n } }) ∧
      exec (.jobSegmentComplete l .uncorrectable) s = .next
        (({ s with sch := { s.sch with running := Tab.put s.sch.running l { j with segAt := s.now } } } : State).raise Ev.laneStoreError l 0) ∧
      (∀ k a, exec (.jobSegmentComplete l (.memCorrected k a)) s = exec (.jobSegmentComplete l .clean) (s.memCorrected k a)) ∧
      (∀ word, exec (.jobSegmentComplete l (.poisoned word)) s = .next ((s.memPoisoned word).stopJob l j)) ∧
      (∀ bad, exec (.jobComplete l bad) s =
        let wake := fun (k : JobRun) => if k.frame = j.frame then { k with waits := k.waits.filter fun n => n ≠ j.num } else k
        let u := ({ s with sch := { s.sch with
          running := Tab.del s.sch.running l, marks := Tab.del s.sch.marks l,
          affinity := Tab.put s.sch.affinity j.num l, waiting := s.sch.waiting.map wake } } : State).updFrame j.frame
            fun f => { f with left := f.left.filter fun n => n ≠ j.num }
        let u := match (u.frameRec j.frame).bind fun f => f.force.sched.jobs.find? fun k => k.num = j.num with
          | some k => (u.compareWindows j.frame k.wins bad).releaseFlows j.frame k.feeds
          | none => u
        .next u.startReady)) ∧
    (∀ l bad r, s.renderLanes ≤ l ∨ Tab.find s.sch.running l = none →
      exec (.jobSegmentComplete l r) s = .next s ∧ exec (.jobComplete l bad) s = .next s) ∧
    (∀ l k, l < s.renderLanes →
      ((s.startItem s.sch l).lane l).item = some k → exec (.backgroundItemComplete l k) s = .next
        ({ s with sch := (s.startItem s.sch l).updLane l fun y => { y with item := none, share := y.share + itemT } } : State).dispatch) ∧
    (∀ l k, s.renderLanes ≤ l ∨ ((s.startItem s.sch l).lane l).item ≠ some k → exec (.backgroundItemComplete l k) s = .next s) ∧
    (∀ flow n f, (s.flowOf flow).next = some n → s.issuable flow n = true → s.outranked flow = false →
      (s.launchCfg flow n).get .flow flow = some f →
      exec (.launchInstant flow) s =
        let u := (s.advanceTo (s.launchAt flow n)).updFlow flow fun x =>
          if x.restart.any fun r => r ≤ n then
            { x with stale := true, restart := none, last := if x.renew then none else x.last, renew := false } else x
        .next ((u.issue (s.launchCfg flow n) flow n f).afterIssue flow n))

/-- The press point of a canvas (R207), a palette copy (R217) and a buffer fetch (R221) that end, and a packet of a video
stream (R37, R226, R315). A calibration run goes from each settling to its reading when its time is up, and one that no
show starts ends after 60 s (R190, R191); a sensor transaction starts when it is due and the first of its bus, with its
steps on the bus, ends with its reading, or times out (R188, R189, R196, R201). -/
def Obligations.CanvasAndColourEventsComplete : Prop :=
  (∀ s : State,
    (∀ c d k, c < 16 → s.cfg.get .canvas c = some d →
      k = (match (Tab.getD s.canvas c {}).period with
        | some p => if s.cfg.slotAt s.tk.counter ≤ p then p + 1 else s.cfg.slotAt s.tk.counter
        | none => s.cfg.slotAt s.tk.counter) →
      exec (.pressPoint c) s =
        let u := (s.advanceTo (s.cfg.pressPoint d k)).updCanvas c fun x => { x with period := some k }
        let u := if (Tab.getD s.canvas c {}).commit && !s.standbyMember then u.pressSet c (k + 1 + s.cfg.depth) else u
        .next ((u.applyCal c).startFetches c (k + 1 + s.cfg.depth))) ∧
    (∀ l data d x f, l < 32 → s.layerOf l = some (d, x) → x.fetching = some f →
      exec (.bufferFetchComplete l data) s =
        .next ((s.updLayer l fun x => { x with
          copy := some (padTo (lyFetch d) data), fetchFrame := f.frame % 2 ^ 32, fetching := none }).retire s.bufsInUse)) ∧
    (∀ l, l < 32 → Tab.has s.layer l = true → exec (.paletteCopyDone l) s = .next (s.updLayer l Layer.copied)) ∧
    (∀ k (p : VideoPacket), s.role = 3 → exec (.videoPacketRx k p) s = .next s) ∧
    (∀ k d (p : VideoPacket), s.takesVideo = true → s.cfg.get .video k = some d → s.takesFrame (u8 d 1) p.rx = true →
      (p.payloadType ≠ u8 d 14 ∨ (Tab.getD s.video k {}).ssrc.any (· ≠ p.ssrc) = true) → p.rx.room = true →
      exec (.videoPacketRx k p) s = .next { s with video := Tab.put s.video k { Tab.getD s.video k {} with
        dropped := satInc (Tab.getD s.video k {}).dropped } }) ∧
    (∀ k d (p : VideoPacket), s.takesVideo = true → s.cfg.get .video k = some d → p.rx.room = false →
      ∃ t, exec (.videoPacketRx k p) s = .next t ∧ (Tab.getD t.video k {}).dropped = satInc (Tab.getD s.video k {}).dropped ∧
        (s.cfg.has .lane (u8 d 1) = true → u8 d 1 ≠ 16 → p.rx.goodFcs = true →
          (t.laneOf (u8 d 1)).rxDrop = satInc (s.laneOf (u8 d 1)).rxDrop)) ∧
    (∀ k d (p : VideoPacket), s.takesVideo = true → s.cfg.get .video k = some d → s.takesFrame (u8 d 1) p.rx = true → p.rx.room = true →
      p.payloadType = u8 d 14 → ((Tab.getD s.video k {}).ssrc = none ∨ (Tab.getD s.video k {}).ssrc = some p.ssrc) →
      ∃ t, exec (.videoPacketRx k p) s = .next t ∧ (Tab.getD t.video k {}).ssrc = some p.ssrc ∧
        (Tab.getD t.video k {}).dropped = (Tab.getD s.video k {}).dropped ∧ t = { s with video := t.video })) ∧
  (∀ s : State,
    (∀ t, s.settleDue = some t → ∃ u, exec .calRunProgress s = .next u ∧
      u = { s.advanceTo t with col := { (s.advanceTo t).col with runs := u.col.runs } } ∧ u.col.runs.length = s.col.runs.length ∧
      ∀ (k : Nat) (r : CalRun), s.col.runs[k]? = some r →
        (r.settling = false ∨ t < r.due → u.col.runs[k]? = some r) ∧
        (r.outcome = 4 → r.due ≤ t →
          (r.phase = .settleDark → u.col.runs[k]? = some { r with phase := .readDark, reads := [] }) ∧
          (r.phase = .settleA → u.col.runs[k]? = some { r with phase := .readA, reads := [] }) ∧
          (r.phase = .darkTime → u.col.runs[k]? = some { r with phase := .waitB }) ∧
          (r.phase = .settleB → u.col.runs[k]? = some { r with phase := .readB, reads := [] }))) ∧
    (s.settleDue = none → exec .calRunProgress s = .next s) ∧
    (∀ x, (s.col.runs.find? fun x => decide (x.outcome = 4) && decide (x.phase = .waitDark)) = some x → s.showRuns = false →
      exec .calRunStartTimeout s =
        .next ((s.advanceNow (x.since + secT 60)).endRun x 6 Status.wrongState (s.advanceNow (x.since + secT 60)).wrongDetail)) ∧
    (∀ k d, k < 64 → s.cfg.get .script k = some d → (s.bus (u8 d 1)).running = none → s.standbyMember = false →
      (u8 d 1 = 3 → s.ballHeld (ballIndex 35 28) = false) →
      (∀ r, s.readingRun k = some r → s.nextScript (u8 d 1) = some (k, true) →
        exec (.sensorScriptRun k) s = .next (s.startScript k d true)) ∧
      (s.readingRun k = none → (s.advanceNow (s.scriptDue k)).nextScript (u8 d 1) = some (k, false) →
        exec (.sensorScriptRun k) s = .next ((s.advanceNow (s.scriptDue k)).startScript k d false))) ∧
    (∀ k d b, k < 64 → s.cfg.get .script k = some d → (s.bus (u8 d 1)).running = some k →
      (s.standbyMember = true → exec (.sensorReadingDone k b) s = .next (s.updBus (u8 d 1) fun b => { b with running := none })) ∧
      (s.standbyMember = false → exec (.sensorReadingDone k b) s =
        .next ((s.updBus (u8 d 1) fun b => { b with running := none }).useReading k d (padTo (scriptReads d) b) (s.bus (u8 d 1))))) ∧
    (∀ k d step began nack, k < 64 → s.cfg.get .script k = some d → (s.bus (u8 d 1)).running = some k →
      exec (.sensorTransactionTimeout ⟨k, step, began, nack⟩) s =
        let from_ := (s.bus (u8 d 1)).since + usT (max began (scriptWaits d step))
        let u := ((if nack then s else s.advanceNow (from_ + msT 25)).updBus (u8 d 1)
          fun b => { b with running := none, timeouts := satInc b.timeouts }).raise Ev.sensorFault k 0
        match if (s.bus (u8 d 1)).forRun then u.readingRun k else none with
        | some r => .next (u.endRun r 2 Status.sensorTimeout (u8 d 1))
        | none => .next u))

/-- A lane's link, frames that it does not take, ARP, echo and membership (R314, R315, R317, R338), sACN data,
synchronisation, time-outs and discovery (R327, R329-R331), and packets of Ixnik (R37, R332, R334, R386). A refresh
(R346), a line write (R351), a stuck TE level (R352), and the start, the answer and the time-out of an RDM transaction
(R375, R377). -/
def Obligations.NetworkAndPanelEventsComplete : Prop :=
  (∀ s : State,
    (∀ l sp al, l < s.lanes → ((s.cfg.get .lane l).any fun d => laMode d = 2 && laSpeed d ≠ sp) = false →
      exec (.laneLinkUp l sp al) s =
        let u := ((s.updLane l fun x => { x with link := true, speed := sp, align := al }).raise Ev.linkUp l 0).ptpPorts
        .next (if u.pairLane u.cfg = some l then u.emit (.pairLink "probe" [u.tk.counter] []) else u)) ∧
    (∀ l d sp al, l < s.lanes → s.cfg.get .lane l = some d → laMode d = 2 → laSpeed d ≠ sp →
      exec (.laneLinkUp l sp al) s =
        let u := s.updLane l fun x => { x with speed := sp }
        .next (if (s.laneOf l).link then (u.dropLink l).ptpPorts else u.raise Ev.linkDown l 0)) ∧
    (∀ l, l < s.lanes → (s.laneOf l).link = true → exec (.laneLinkDown l) s = .next ((s.dropLink l).ptpPorts)) ∧
    (∀ l, let t := s.tk.counter
      s.dropLink l = ((if max (s.laneOf l).busyUntil (s.laneOf l).otherUntil > t then s.emit (.laneCut l t) else s).updLane l fun x => { x with
        link := false, linkDowns := satInc x.linkDowns
        busyUntil := min x.busyUntil t, queueUntil := min x.queueUntil t, otherUntil := min x.otherUntil t }).raise Ev.linkDown l 0) ∧
    (∀ l d (rx : RxFrame), l ≠ 16 → s.cfg.get .lane l = some d → s.takesFrame l rx = false →
      ∀ t, t = (if rx.goodFcs then s.updLane l fun x => { x with rxDrop := satInc x.rxDrop }
        else s.updLane l fun x => { x with rxFcs := satInc x.rxFcs }) →
        (∀ q ip mac g, exec (.arpPacketRx ⟨l, rx⟩ q ip mac g) s = .next t) ∧ (∀ a b, exec (.icmpEchoRx ⟨l, rx⟩ a b) s = .next t) ∧
        (∀ g, exec (.igmpQueryRx ⟨l, rx⟩ g) s = .next t) ∧ (∀ cid v, exec (.sacnSyncRx ⟨l, rx⟩ cid v) s = .next t) ∧
        (∀ h b, exec (.ixnikPacketRx ⟨l, rx⟩ h b) s = .next t) ∧
        (∀ p : SacnPacket, p.lane = l → p.rx = rx → exec (.sacnDataRx p) s = .next t)) ∧
    (∀ l rx d ip mac target req, l ≠ 16 → s.takesFrame l rx = true → s.cfg.get .lane l = some d →
      exec (.arpPacketRx ⟨l, rx⟩ req ip mac target) s =
        let u := if s.needsArp l d ip = true ∨ Tab.has (s.laneOf l).arp ip = true then
          s.updLane l fun x => { x with arp := Tab.put x.arp ip { mac := padTo 6 mac } } else s
        .next (if req = true ∧ target = u.laneIp u.cfg l ∧ target ≠ 0 then
          u.laneSend l "arp reply" mac 0 0 none (arpBody 2 (u.laneMac u.cfg l) target mac ip) else u)) ∧
    (∀ l ip e, Tab.find (s.laneOf l).arp ip = some e →
      exec (.arpRefresh l ip true) s = .next ((s.arpRequest l ip).updLane l fun x =>
        { x with arp := Tab.put x.arp ip { e with fails := 0 } }) ∧
      (e.fails < 2 → exec (.arpRefresh l ip false) s = .next ((s.arpRequest l ip).updLane l fun x =>
        { x with arp := Tab.put x.arp ip { e with fails := e.fails + 1 } })) ∧
      (2 ≤ e.fails → exec (.arpRefresh l ip false) s = .next ((s.arpRequest l ip).updLane l fun x =>
        { x with arp := Tab.del x.arp ip }))) ∧
    (∀ l rx src b, s.takesFrame l rx = true → exec (.icmpEchoRx ⟨l, rx⟩ src b) s =
      .next (if (s.cfg.get .lane l).any fun d => laNoIcmp d then s.updLane l fun x => { x with rxDrop := satInc x.rxDrop }
        else s.laneSend l "echo reply" rx.source 0 src none b)) ∧
    (∀ l rx g, s.takesFrame l rx = true → exec (.igmpQueryRx ⟨l, rx⟩ g) s =
      .next (((s.cfg.laneGroups l).filter fun x => g = 0 || x.1 = g).foldl (fun s x => s.igmpReport l x) s)) ∧
    (∀ (p : SacnPacket) d, s.takesFrame p.lane p.rx = true → s.cfg.get .sacnRx p.univ = some d → u8 d 2 = p.lane →
      (p.wellFormed = false ∨ p.startCode ≠ 0 ∨ p.preview = true ∨ ((s.rxOf p.univ).seqOf p.cid).any (outOfOrder p.sequence) = true ∨
        (8 ≤ (s.rxOf p.univ).sources.length ∧ ∀ y ∈ (s.rxOf p.univ).sources, y.cid ≠ p.cid)) →
      exec (.sacnDataRx p) s = .next { s with rx := Tab.put s.rx p.univ { s.rxOf p.univ with dropped := satInc (s.rxOf p.univ).dropped } }) ∧
    (∀ (p : SacnPacket) d, s.takesFrame p.lane p.rx = true → s.cfg.get .sacnRx p.univ = some d → u8 d 2 = p.lane →
      p.wellFormed = true → p.startCode = 0 → p.preview = false → (s.rxOf p.univ).lost = none →
      ((s.rxOf p.univ).seqOf p.cid).any (outOfOrder p.sequence) = false →
      (p.terminated = true → (s.rxOf p.univ).sources.length < 8 ∨ (∃ y ∈ (s.rxOf p.univ).sources, y.cid = p.cid) → exec (.sacnDataRx p) s =
        .next (s.settleRx p.univ { (s.rxOf p.univ).used p.cid p.sequence with
          sources := (s.rxOf p.univ).sources.filter fun y => y.cid ≠ p.cid })) ∧
      (p.terminated = false → p.sync = 0 → (s.rxOf p.univ).sources = [] → exec (.sacnDataRx p) s =
        let y : RxSource := { cid := p.cid, priority := p.priority, seq := p.sequence, last := s.now, complete := some p.slots, waiting := none }
        .next (s.settleRx p.univ { (s.rxOf p.univ).used p.cid p.sequence with sources := [y] }))) ∧
    (∀ l rx cid u e (v : Nat), s.takesFrame l rx = true → (s.cfg.all .sacnRx) = [(u, e)] → u8 e 2 = l →
      (∃ y ∈ (s.rxOf u).sources, y.cid = cid ∧ ∃ w, y.waiting = some w ∧ w.1 = v) →
      exec (.sacnSyncRx ⟨l, rx⟩ cid v) s =
        let here := completeWaiting (fun y => y.cid = cid && (y.waiting.any fun w => w.1 = v)) (s.rxOf u).sources
        .next (s.settleRx u { s.rxOf u with sources := here })) ∧
    (∀ u cid y, ((s.rxOf u).sources.find? fun y => decide (y.cid = cid)) = some y →
      exec (.sacnSourceTimeout u cid) s =
        let t := s.advanceNow (y.last + msT 2500)
        .next (t.settleRx u { s.rxOf u with sources := (s.rxOf u).sources.filter fun y => y.cid ≠ cid, lost := some (cid, t.now) })) ∧
    (∀ u cid y a b since, ((s.rxOf u).sources.find? fun y => decide (y.cid = cid) && y.waiting.isSome) = some y → y.waiting = some (a, b, since) →
      exec (.sacnSyncTimeout u cid) s =
        let here := completeWaiting (fun y => y.cid = cid) (s.rxOf u).sources
        .next ((s.advanceNow (since + msT 2500)).settleRx u { s.rxOf u with sources := here })) ∧
    (∀ l d, l < s.lanes → s.cfg.get .sacnSource 0 = some d → (u8 d 1).testBit 0 = true → (s.laneOf l).link = true →
      s.sendsSacn s.frameNow = true →
      exec (.sacnDiscoveryTx l) s =
        let pgs := pages ((s.cfg.laneUniverses l).length + 1) (s.cfg.laneUniverses l)
        .next ((pgs.zip (List.range pgs.length)).foldl (fun s p =>
          s.laneSend l "sacn discovery" (multicastMac discoveryGroup) 0 discoveryGroup (some (5568, 5568))
            (s.cid ++ s.sacnName ++ beBytes 1 p.2 ++ beBytes 1 (pgs.length - 1) ++ p.1.flatMap fun u => beBytes 2 u)) s)) ∧
    (∀ l rx h b, s.takesFrame l rx = true → (beNat (slice h 0 2) ≠ 0x4958 ∨ u8 h 2 ≠ 1) →
      exec (.ixnikPacketRx ⟨l, rx⟩ h b) s = .next (s.updLane l fun x => { x with rxDrop := satInc x.rxDrop })) ∧
    (∀ l rx h b d, s.takesFrame l rx = true → beNat (slice h 0 2) = 0x4958 → u8 h 2 = 1 →
      s.cfg.get .ixRx (beNat (slice h 4 2) * 256 + l) = some d → s.takesFeed d = true →
      exec (.ixnikPacketRx ⟨l, rx⟩ h b) s =
        .next ((s.useIxnik (beNat (slice h 4 2) * 256 + l) d h b).compareOwed (beNat (slice h 16 6))) ∧
      ((claimRule (s.ixOf (beNat (slice h 4 2) * 256 + l)) (beNat (slice h 12 4))).1 = false →
        let t := s.useIxnik (beNat (slice h 4 2) * 256 + l) d h b
        (t.ixOf (beNat (slice h 4 2) * 256 + l)).claimDrops =
          satInc (claimRule (s.ixOf (beNat (slice h 4 2) * 256 + l)) (beNat (slice h 12 4))).2.claimDrops ∧ t = { s with ixrx := t.ixrx }))) ∧
  (∀ s : State,
    (∀ p d flow f codes n det, (s.port p).codes = some codes → (s.port p).period = some n → (s.cfgAt n).get .scan p = some d →
      (s.cfgAt n).scanFlow p = some (flow, f) → scMemory d = false → (s.port p).tripped = false →
      ((s.port p).refresh < (scPace d (s.port p).static).2 ∨ s.showRuns = false) →
      exec (.scanRefreshStart p det) s =
        let x := s.port p
        let u := s.advanceTo (s.refreshAt flow n x.refresh (scPace d x.static).2)
        let u := (u.scanOut p "refresh" [x.frame, x.refresh]).emitRefresh p d codes x.static
          (n * scRefresh d + x.refresh * (if x.static then scRefresh d / scStatic d else 1))
        let u := u.updPort p fun y => { y with refresh := x.refresh + 1 }
        .next (if x.refresh = 0 then u.runSlot p n d (refreshTicks d x.static - slotTicks d) det else u)) ∧
    (∀ p waited det flow f n d codes key x, p < s.lanes → s.cfg.scanFlow p = some (flow, f) → (s.flowOf flow).next = some n →
      (s.cfgAt n).get .scan p = some d → scMemory d = true →
      x = (if (s.port p).restart.any fun f => decide (f ≤ n) then (s.port p).restarted else s.port p) → x.tripped = false →
      s.portFrame (s.cfgAt n) p d flow n = some (codes, key) → s.holdsAt n = false →
      (if x.writing = some n then x.lines else 0) < scLines d → (s.mutedAt flow n = true → x.dark = false) →
      (s.mutedAt flow n = false → x.rests d n key = false) →
      exec (.scanLineWrite p waited det) s =
        let line := if x.writing = some n then x.lines else 0
        let u := s.advanceTo ((s.cfgAt n).instantN n - (s.cfgAt n).periodT + line * lineWriteTicks d * portTick)
        let prepared := if x.isStatic n key then x.codes.getD [] else (s.cfgAt n).prepare p d (x.marksOf n) codes
        let words := (List.range (scChain d)).reverse.flatMap fun k => (List.range (scDataLines d)).map fun dl =>
          u16 prepared (6 * (scChannel d line dl k / 4) + 2 * (scChannel d line dl k % 4))
        let u := (u.updPort p fun _ => { x with
          writing := some n, lines := line + 1, te := some (u.now, true)
          teStalls := if waited then satInc x.teStalls else x.teStalls }).emitLine p n line d words
        .next (if line + 1 = scLines d then u.runSlot p n d (lineWriteTicks d) det else u)) ∧
    (∀ p n line d words (t : State), t.emitLine p n line d words =
      (((((t.scanOut p "line" [n, line]).scanOe p d 0 true).scanAddress p d (scAddrAt d) line).scanOut p "words" (scHem d :: words)).scanLat
        p d (scHem d + 16 * scChain d * scClk d) (scWriteClks d * scClk d))) ∧
    (∀ p d, p < s.lanes → s.cfg.get .scan p = some d → scMemory d = true → (s.port p).stuckAt = none →
      exec (.teStuckTimeout p) s =
        let u := s.updPort p fun x => { x with te := some (s.now, false), teStuck := satInc x.teStuck }
        .next ((u.updPort p fun x => { x with stuckAt := some u.now }).raise Ev.teStuck p 0)) ∧
    (∀ p d flow f q at_, p < s.dmxPorts → s.portHeld p = false → s.cfg.get .dmx p = some d → s.cfg.dmxFlow p = some (flow, f) → (s.dmxOf p).request = some q →
      q.started = none → s.nextTransact p d flow (requestUs d q.payload) = some at_ →
      exec (.rdmTransactionStart p) s =
        let txn := ((s.dmxOf p).txn + 1) % 256
        let m := s.rdmMessage p (rqUid q.payload) txn (u16 q.payload 10) (u8 q.payload 1) (u16 q.payload 12) (q.payload.drop 16)
        .next ((s.startRdm p d (rqPdl q.payload) at_ m).updDmx p fun x => { x with request := some { q with started := some txn } })) ∧
    (∀ p d flow f q at_, p < s.dmxPorts → s.portHeld p = false → s.cfg.get .dmx p = some d → s.cfg.dmxFlow p = some (flow, f) → (s.dmxOf p).request = none →
      (s.dmxOf p).disc = some q → q.started = none → s.nextTransact p d flow (discoveryUs d q.step) = some at_ →
      exec (.rdmTransactionStart p) s =
        let txn := ((s.dmxOf p).txn + 1) % 256
        .next ((s.startRdm p d q.step.pdl at_ (s.discMessage p txn q.step)).updDmx p
          fun x => { x with disc := some { q with started := some txn } })) ∧
    (∀ p d q txn (m : RdmResponse), p < s.dmxPorts → s.cfg.get .dmx p = some d → dxRdm d = true → (s.dmxOf p).request = some q →
      q.started = some txn → broadcastUid (rqUid q.payload) = false → m.goodSum = true → m.cutOff = false → m.transaction = txn →
      m.uid = rqUid q.payload → m.dest = s.controllerUid p →
      exec (.rdmResponseRx p m) s = .next (s.endRequest p { payload := rdmReply m })) ∧
    (∀ p d q txn (m : RdmResponse), p < s.dmxPorts → s.cfg.get .dmx p = some d → dxRdm d = true → (s.dmxOf p).request = some q →
      q.started = some txn → broadcastUid (rqUid q.payload) = false →
      (m.goodSum = false ∨ m.cutOff = true ∨ m.transaction ≠ txn ∨ m.uid ≠ rqUid q.payload ∨ m.dest ≠ s.controllerUid p) →
      exec (.rdmResponseRx p m) s =
        .next ((s.updDmx p fun x => { x with rdmBad := satInc x.rdmBad }).endRequest p { status := Status.crcBad })) ∧
    (∀ p d (m : RdmResponse), p < s.dmxPorts → s.cfg.get .dmx p = some d → dxRdm d = true → (s.dmxOf p).request = none →
      (s.dmxOf p).disc = none →
      exec (.rdmResponseRx p m) s = .next (if m.cutOff then s else s.updDmx p fun x => { x with rdmLate := satInc x.rdmLate })) ∧
    (∀ p q txn, p < s.dmxPorts → (s.dmxOf p).request = some q → q.started = some txn → broadcastUid (rqUid q.payload) = false →
      exec (.rdmResponseTimeout p) s = .next ((s.advanceNow (s.dmxOf p).expires).endRequest p { status := Status.rdmTimeout, detail := p })) ∧
    (∀ p q txn, p < s.dmxPorts → (s.dmxOf p).request = some q → q.started = some txn → broadcastUid (rqUid q.payload) = true →
      exec (.rdmResponseTimeout p) s = .next ((s.advanceNow (s.dmxOf p).expires).endRequest p {})))

/-- PTP messages and timeouts of a domain (R272, R274, R276, R281, R282): announces feed the choice of the master, a Sync or
its Follow_Up feeds the servo, a Delay_Req is answered by a master, and each timeout ends what it watches. -/
def Obligations.PtpEventsComplete : Prop :=
  ∀ (k : Nat) (d : Bytes) (s : State), k < 2 → s.cfg.domainRec k = some d →
    (∀ a : PtpAnnounce, a.dom = k → s.takesFrame a.lane a.rx = true → s.ptpUsed k a.lane = true → a.identity ≠ Config.clockIdentity →
      (s.tk.dom k).lostAnn ≠ some (a.identity, a.lane, s.now) →
      exec (.ptpAnnounceRx a) s =
        let u := (s.updDom k fun m => m.hear a s.now).runBmc k d false
        .next (if (u.tk.dom k).master.any fun b => sameMaster b a then u.updDom k fun m => { m with annAt := u.now } else u)) ∧
    (∀ p : PtpMsg, p.dom = k → s.takesFrame p.lane p.rx = true → s.fromMaster k p.lane = true → (s.tk.dom k).lostSync ≠ some s.now →
      (p.twoStep = true → exec (.ptpSyncRx p) s =
        .next (s.updDom k fun m => { m with
          twoStep := (m.twoStep.filter fun x => x.1 ≠ p.seq) ++ [(p.seq, p.ingress, s.now)]
          lateFollow := m.lateFollow.filter fun x => x ≠ p.seq })) ∧
      (p.twoStep = false → exec (.ptpSyncRx p) s = .next (s.useSync k d p.lane p.origin p.ingress))) ∧
    (∀ p : PtpMsg, p.dom = k → s.takesFrame p.lane p.rx = true → s.fromMaster k p.lane = true → (s.tk.dom k).lostSync = some s.now →
      exec (.ptpSyncRx p) s = .next (s.latePtp k)) ∧
    (∀ (p : PtpMsg) ingress since, p.dom = k → s.takesFrame p.lane p.rx = true → s.fromMaster k p.lane = true →
      ((s.tk.dom k).twoStep.find? fun x => decide (x.1 = p.seq)) = some (p.seq, ingress, since) →
      exec (.ptpFollowUpRx p) s = .next ((s.updDom k fun m => { m with twoStep := m.twoStep.filter fun x => x.1 ≠ p.seq }).useSync k d p.lane p.origin ingress)) ∧
    (∀ p : PtpMsg, p.dom = k → s.takesFrame p.lane p.rx = true → s.fromMaster k p.lane = true →
      ((s.tk.dom k).twoStep.find? fun x => decide (x.1 = p.seq)) = none → p.seq ∈ (s.tk.dom k).lateFollow →
      exec (.ptpFollowUpRx p) s = .next ((s.updDom k fun m => { m with
        lateFollow := m.lateFollow.filter fun x => x ≠ p.seq }).latePtp k)) ∧
    (∀ p : PtpMsg, p.dom = k → s.takesFrame p.lane p.rx = true → s.ptpUsed k p.lane = true → s.portRole k p.lane d = .master →
      exec (.ptpDelayReqRx p) s = .next (s.ptpPacket p.lane d false "ptp delay-resp" none
        (leBytes 2 p.seq ++ leBytes 16 (s.ingress p.lane p.ingress + (s.tk.dom k).servo.offset).toNat))) ∧
    (∀ (p : PtpMsg) t1 t2 t3 since, p.dom = k → s.takesFrame p.lane p.rx = true → s.fromMaster k p.lane = true →
      ((s.tk.dom k).delayReq.find? fun x => decide (x.1 = p.seq)) = some (p.seq, t3, since) → (s.tk.dom k).lastSync = some (t1, t2) →
      exec (.ptpDelayRespRx p) s =
        let l := (s.tk.dom k).delays ++ [((t2 - t1) + ((p.origin : Int) - s.egress p.lane t3)) / 2]
        .next (s.updDom k fun m => { m with
          delayReq := m.delayReq.filter fun x => x.1 ≠ p.seq, delays := l.drop (l.length - 16) })) ∧
    (∀ p : PtpMsg, p.dom = k → s.takesFrame p.lane p.rx = true → s.fromMaster k p.lane = true →
      ((s.tk.dom k).delayReq.find? fun x => decide (x.1 = p.seq)) = none → p.seq ∈ (s.tk.dom k).lateDelay →
      exec (.ptpDelayRespRx p) s = .next ((s.updDom k fun m => { m with
        lateDelay := m.lateDelay.filter fun x => x ≠ p.seq }).latePtp k)) ∧
    (∀ g, (s.tk.dom k).master = some g →
      exec (.announceReceiptTimeout k) s =
        let u := s.advanceNow ((s.tk.dom k).annAt + u8 d 8 * dmAnnounce d)
        let v := u.updDom k fun m => { m with
          foreign := m.foreign.filter fun f => !m.master.any fun g => sameMaster f.ann g
          lostAnn := (m.master.map fun g => (g.identity, g.lane, u.now)).or m.lostAnn
          master := none, annAt := u.now, twoStep := [], delayReq := [] }
        .next ((v.loseSource (domSrc k)).runBmc k d true)) ∧
    ((s.tk.servo (domSrc k)).st = .locked ∨ (s.tk.servo (domSrc k)).st = .acquiring →
      exec (.syncReceiptTimeout k) s =
        let u := s.advanceNow ((s.tk.dom k).syncAt + 4 * dmSync d)
        .next ((u.updDom k fun m => { m with
          lostSync := some u.now, syncAt := u.now, twoStep := []
          lateFollow := m.lateFollow ++ m.twoStep.map Prod.fst }).loseSource (domSrc k))) ∧
    (∀ seq i since rest, (s.tk.dom k).twoStep = (seq, i, since) :: rest →
      exec (.followUpTimeout k) s = .next ((s.advanceNow (since + dmSync d)).updDom k
        fun m => { m with twoStep := rest, lateFollow := m.lateFollow ++ [seq] })) ∧
    (∀ seq i since rest, (s.tk.dom k).delayReq = (seq, i, since) :: rest →
      exec (.delayRespTimeout k) s = .next ((s.advanceNow (since + min (dmDelay d) (secT 1))).updDom k
        fun m => { m with delayReq := rest, lateDelay := m.lateDelay ++ [seq] })) ∧
    (s.masterPorts k d ≠ [] → exec (.ptpSyncInterval k) s =
      let m := s.tk.dom k
      .next (((s.masterPorts k d).foldl (fun s l =>
        let now := leBytes 16 (s.egress l (s.laneFree l (s.eventBytes l)) + m.servo.offset).toNat
        if bit (u8 d 12) 0 then
          (s.ptpPacket l d true "ptp sync" none (leBytes 2 m.syncSeq ++ leBytes 1 1 ++ zeros 16)).ptpPacket l d false "ptp follow-up" none
            (leBytes 2 m.syncSeq ++ now)
        else s.ptpPacket l d true "ptp sync" none (leBytes 2 m.syncSeq ++ leBytes 1 0 ++ now)) s).updDom k
          fun m => { m with syncSeq := (m.syncSeq + 1) % 65536 })) ∧
    (s.masterPorts k d ≠ [] → exec (.ptpAnnounceInterval k) s =
      let m := s.tk.dom k
      let tlv := if dmSmpte d && m.servo.st = .master then
        leBytes 4 s.cfg.rateN ++ leBytes 4 s.cfg.rateD ++ leBytes 1 s.lockingStatus ++ zeros 11 else []
      .next (((s.masterPorts k d).foldl (fun u l => u.ptpPacket l d false "ptp announce" none
        (leBytes 2 m.annSeq ++ leBytes 1 (dmNumber d) ++ (s.announced k d).flatMap (leBytes 8) ++ tlv)) s).updDom k
          fun m => { m with annSeq := (m.annSeq + 1) % 65536 })) ∧
    (s.masterPorts k d = [] → exec (.ptpSyncInterval k) s = .next s ∧ exec (.ptpAnnounceInterval k) s = .next s) ∧
    (∀ b, (s.tk.dom k).master = some b → s.portFaulty b.lane = false →
      exec (.delayReqInterval k) s = .next ((s.ptpPacket b.lane d true "ptp delay-req"
        (if bit (u8 d 12) 1 then some (b.rx.source, b.rx.ip) else none) (leBytes 2 (s.tk.dom k).delaySeq)).updDom k fun m => { m with
          delayReq := (m.delayReq.filter fun x => x.1 ≠ m.delaySeq) ++ [(m.delaySeq, s.laneFree b.lane (s.eventBytes b.lane), s.now)]
          lateDelay := m.lateDelay.filter fun x => x ≠ m.delaySeq, delaySeq := (m.delaySeq + 1) % 65536 }))

/-- LTC codewords and frame synchronisation edges (R286-R288), automatic changes of source and the slew (R283, R284),
trigger units (R292) and captures (R294). A probe is answered, its reply ends or continues its measurement, and the
times of a measurement end or repeat it (R300, R301, R335). -/
def Obligations.TimeAndLatencyEventsComplete : Prop :=
  (∀ s : State,
    (∀ d (c : LtcCode), s.cfg.ltcRec = some d → s.tk.ltc.last = none →
      exec (.ltcCodeword c) s =
        let k := (ltcCount (u8 d 1) c).2
        let t : Int := ((secT (u48 d 4) + ltcSpan (u8 d 1) (s.tk.ltc.days * (ltcCount (u8 d 1) c).1 + k) : Nat) : Int) + iAt d 12 4 * 65536
        .next (({ s with tk := { s.tk with ltc := { s.tk.ltc with last := some k, missing := 0 } } } : State).measure .ltc 100 8 false (t - c.stamp))) ∧
    (∀ d, s.cfg.ltcRec = some d → s.tk.ltc.missing < 3 →
      exec .ltcCodewordMissing s = .next { s with tk := { s.tk with ltc := { s.tk.ltc with missing := s.tk.ltc.missing + 1 } } }) ∧
    (∀ d, s.cfg.ltcRec = some d → s.tk.ltc.missing = 3 →
      exec .ltcCodewordMissing s =
        .next (({ s with tk := { s.tk with ltc := { s.tk.ltc with missing := 4 } } } : State).loseSource .ltc)) ∧
    (∀ d (rising : Bool), s.cfg.fsyncRec = some d → rising ≠ decide (u8 d 1 = 0) → exec (.fsyncEdge rising) s = .next s) ∧
    (∀ d (rising : Bool) (own near : Int), s.cfg.fsyncRec = some d → rising = decide (u8 d 1 = 0) → own = s.tk.counter →
      near = s.cfg.fsyncNearest d own →
      (s.tk.source ≠ .fsync ∨ s.showRuns = true ∨ s.tk.fsync.servo.st = .locked →
        ((near - own).natAbs * 4 ≤ nsT s.cfg.periodNs → exec (.fsyncEdge rising) s =
          .next (({ s with tk := { s.tk with fsync := { s.tk.fsync with missing := 0 } } } : State).measure .fsync 100 8 false (near - own))) ∧
        (nsT s.cfg.periodNs < (near - own).natAbs * 4 →
          exec (.fsyncEdge rising) s = .next { s with tk := { s.tk with stray := satInc s.tk.stray } })) ∧
      (s.tk.source = .fsync → s.showRuns = false → s.tk.fsync.servo.st ≠ .locked → near ≠ own →
        exec (.fsyncEdge rising) s =
          let u := ({ s with tk := { s.tk with fsync := { s.tk.fsync with missing := 0 } } } : State).stepBy (near - own)
          .next (u.measure .fsync 100 8 false (near - u.tk.counter)))) ∧
    (∀ d, s.cfg.fsyncRec = some d → s.tk.fsync.missing < 3 →
      exec .fsyncEdgeMissing s = .next { s with tk := { s.tk with fsync := { s.tk.fsync with missing := s.tk.fsync.missing + 1 } } }) ∧
    (∀ x t, x < 5 → s.cfg.autoSwitch = true → s.candidates = [Src.ofCode x] → s.qualifies (Src.ofCode x) = some t →
      exec (.autoSwitch x) s = .next ((s.advanceNow t).changeSource (Src.ofCode x))) ∧
    (∀ a, s.cfg.revert = true → s.preferred ≠ s.tk.source → s.preferred ≠ .free → (s.tk.servo s.preferred).lockedSince = some a →
      exec .sourceReversion s = .next ((s.advanceNow (max a s.tk.autoFrom + secT s.cfg.revertS)).changeSource s.preferred)) ∧
    exec .slewComplete s = .next (s.elapse (ceilDiv s.tk.slew.natAbs 10)) ∧
    (∀ u d, u < 32 → s.cfg.get .trigger u = some d → (s.unit u).due s.showRuns = true → u8 d 2 ≠ 2 →
      exec (.ttuPulse u) s = .next (s.fireUnit u d)) ∧
    (∀ u d, u < 32 → s.cfg.get .trigger u = some d → (s.unit u).due s.showRuns = true → u8 d 2 = 2 →
      exec (.ttuPulse u) s = .next ((s.fireUnit u d).launchQueue (u16 d 4))) ∧
    (∀ u, (∃ d, s.cfg.get .trigger u = some d) → (s.unit u).due s.showRuns = false → exec (.ttuPulse u) s = .next s) ∧
    (∀ i d rising, i < 8 → s.cfg.get .capture i = some d → u8 d 3 = 0 → edgeSelected d rising = true → (s.input i).enable = true →
      (((s.input i).last.any fun t => s.now < t + nsT 40) = false → exec (.ttiEdge i rising) s =
        .next ((s.updInput i fun x => { x with last := some s.now }).arrive (.input i) 64 (captureItems rising (captureTime d s.tk.counter)))) ∧
      (((s.input i).last.any fun t => s.now < t + nsT 40) = true → exec (.ttiEdge i rising) s =
        .next (s.updInput i fun x => { x with glitch := satInc x.glitch })))) ∧
  (∀ s : State,
    (∀ l rx e h st, s.takesFrame l rx = true → beNat (slice h 0 2) = 0x4958 → u8 h 2 = 1 → u8 h 6 = 2 →
      exec (.ixnikProbeRx ⟨l, rx⟩ e h st) s = .next ((s.laneSend l "probe reply" rx.source 0 e.ip (some (47012, e.port))
        (putAt h 6 [3] ++ st ++ stampBytes (s.ingress l (s.frameStamp l rx)).toNat)).reportNode l (beNat (slice h 4 2)))) ∧
    (∀ f c rx a b ns tm r, s.cfg.get .flow f = some c → s.takesFrame (flLane c) rx = true →
      (s.lat.runs.find? fun r => decide (r.phase = .probing) && decide (r.target = f)) = some r →
      exec (.probeReplyRx f rx (a, b) false ns tm) s = .next (s.endLatRun r Status.timeNotReady 0) ∧
      (r.kind = 1 → exec (.probeReplyRx f rx (a, b) true ns tm) s = .next (s.finishProbing r (.rx f (ceilDiv ns 1000 * 1000) tm))) ∧
      (r.kind ≠ 1 →
        let l := r.results ++ [(b : Int) - a]
        (u8 r.payload 2 ≤ l.length → exec (.probeReplyRx f rx (a, b) true ns tm) s = .next (s.finishProbing r
          (.net f (ceilDiv (l.foldl (· + ·) 0).toNat (65536 * l.length)) (ceilDiv (spreadT l) 65536)))) ∧
        (l.length < u8 r.payload 2 → exec (.probeReplyRx f rx (a, b) true ns tm) s =
          .next (((s.updLatRun r { r with results := l }).elapse (msT 1)).sendProbe f c "probe")))) ∧
    (∀ r, (s.lat.runs.find? fun r => decide (r.phase = .waiting)) = some r → s.showRuns = false →
      exec .latencyStartTimeout s =
        .next ((s.advanceNow (r.since + secT 60)).endLatRun r Status.wrongState (s.advanceNow (r.since + secT 60)).wrongDetail)) ∧
    (∀ f since d, Tab.find s.lat.repeats (2 * f) = none → Tab.find s.lat.repeats (2 * f + 1) = some (since, d) →
      exec (.latencyRepeatInterval f) s =
        .next ((s.advanceNow (since + secT (u16 d 16))).startProbing { id := 0, op := 0x0905, session := 0, tag := 0 } d)) ∧
    (∀ r n e f, s.lat.runs = [r] → r.phase = .lit n → s.cfg.carrier r.target = some (e, f) →
      exec .latencyCaptureTimeout s = .next ((s.advanceTo (s.issueAt e n + secT 1)).endLatRun r Status.sensorTimeout 0)))

/-- Heartbeats (R387, R396), mirrored commands (R389), the transfer of a joining unit (R392, R393), the waits and the
reversion (R398) and the sentinel (R401) of a pair. -/
def Obligations.PairEventsComplete : Prop :=
  ∀ (s : State) (d : Bytes) (role : Nat), s.pairNow = some (d, role) →
    (∀ b : Heartbeat, s.takesPair b.rx = true →
      (b.unitId ≠ pdPeer d → exec (.heartbeatRx b) s = .next (s.raise Ev.pairFault 0 b.unitId)) ∧
      (b.unitId = pdPeer d → s.gl.device = .updatePause → exec (.heartbeatRx b) s = .next s) ∧
      (b.unitId = pdPeer d → s.gl.device ≠ .updatePause →
        (b.inTime = false → s.awaited = some b.frame →
          exec (.heartbeatRx b) s = .next ((s.advanceTo (s.cfg.cutInstant b.frame + usT (pdTimeout d))).missHeartbeat b.frame 1)) ∧
        (b.inTime = false ∧ s.awaited ≠ some b.frame ∨ b.inTime = true ∧ b.frame ∈ s.pair.missing →
          exec (.heartbeatRx b) s = .next (s.discardHeartbeat b)) ∧
        (b.inTime = true → b.frame ∉ s.pair.missing →
          (s.follows = true → exec (.heartbeatRx b) s = .next (s.useHeartbeat b)) ∧
          (s.follows = false → s.pairActive = true → exec (.heartbeatRx b) s = .next (s.hearAsActive d b)) ∧
          (s.follows = false → s.pairActive = false → exec (.heartbeatRx b) s = .next (s.hearWaiting b))))) ∧
    (∀ l b m k part (rx : RxFrame), s.pairLane s.cfg = some l → rx.goodFcs = true → rx.room = false →
      b.rx = rx → m.rx = rx → k.rx = rx → part.rx = rx →
      ∀ t, t = s.updLane l (fun x => { x with rxDrop := satInc x.rxDrop }) →
        exec (.heartbeatRx b) s = .next t ∧ exec (.mirrorRx m) s = .next t ∧ exec (.mirrorAckRx k) s = .next t ∧
        exec (.syncTransferRx part) s = .next t) ∧
    (∀ n, s.awaited = some n →
      exec .heartbeatTimeout s = .next ((s.advanceTo (s.cfg.cutInstant n + usT (pdTimeout d))).missHeartbeat n 2)) ∧
    (∀ m : Mirror, s.takesPair m.rx = true → s.follows = true →
      let u : State := { s with
        pair := { s.pair with mirrorSeq := max s.pair.mirrorSeq m.seq }, hq := { s.hq with accepted := max s.hq.accepted (m.order + 1) } }
      (m.opcode = 0x0206 → exec (.mirrorRx m) s = .next (({ u with
        gl := { u.gl with firstCut := if s.gl.show_ = .configured then some m.frame else s.gl.firstCut } } : State).toPeer "mirror ack" [m.seq] [])) ∧
      (m.opcode ≠ 0x0206 → exec (.mirrorRx m) s =
        let q : Queued := { op := m.opcode, req := m.req, frame := if m.timed then some m.frame else none, seq := some m.seq, fixed := some m.frame, order := m.order }
        .next ((({ u with rt := { queue := s.rt.queue.filter fun q => q.seq ≠ some m.seq } } : State).enqueue q).toPeer "mirror ack" [m.seq] []))) ∧
    (∀ m : Mirror, s.takesPair m.rx = true → s.follows = false → exec (.mirrorRx m) s = .next s) ∧
    (∀ k : MirrorAck, s.takesPair k.rx = true → exec (.mirrorAckRx k) s =
      .next (({ s with pair := { s.pair with mirrorAck := max s.pair.mirrorAck k.seq } } : State).releaseMirrors fun j => j = k.seq)) ∧
    (∀ x : SyncFrame, s.takesPair x.rx = true → s.pair.st = .syncing →
      let u := (s.syncParams x.part).syncObjects x.part
      (x.part.last = true → exec (.syncTransferRx x) s = .next (u.renderFrom x.part.frame)) ∧
      (x.part.last = false → exec (.syncTransferRx x) s = .next { u with pair := { u.pair with permille := min 1000 x.part.permille } })) ∧
    (∀ x : SyncFrame, s.takesPair x.rx = true → s.pair.st ≠ .syncing → exec (.syncTransferRx x) s = .next s) ∧
    (s.pair.st = .waiting → exec .joinWaitExpire s = .next (s.advanceNow (s.pair.waitSince + msT (pdJoin d))).firstDuty) ∧
    (∀ n hold t, s.nextCut = some n → pdHold d = some hold → s.pair.maintenance = false → s.handoverFixed n = false →
      s.pair.handover = none → (s.pair.st = .standby ∧ s.primary = true ∨ s.pair.st = .active ∧ s.primary = false) → s.pair.holdSince = some t →
      exec .reversion s =
        let u := s.advanceNow (t + secT hold)
        .next { u with pair := { u.pair with handover := some (n, true) } }) ∧
    (∀ l rx, s.takesFrame l rx = true → s.pair.st = .solo → pdSentinel d ≠ 0 → pdSentinelLane d = l → s.pair.byTakeover = false →
      (s.pair.byLoss = true ∨ s.primary = false ∧ s.pair.joined = false) →
      exec (.sentinelRx ⟨l, rx⟩ s.cid false) s =
        .next ((s.loseDuty .isolated .yield (s.nextCut.getD s.frameNow)).raise Ev.pairDualActive 0 0)) ∧
    (∀ l rx cid own, s.takesFrame l rx = true → (s.pair.st ≠ .solo ∨ pdSentinel d = 0 ∨ pdSentinelLane d ≠ l ∨ cid ≠ s.cid ∨ own = true) →
      exec (.sentinelRx ⟨l, rx⟩ cid own) s = .next s)

/-- Samples (R408), lost line crossings (R413), reads of SEQ and DELTA (R415, R417), pulses (R419), bleeding feeders (R427),
the night meter (R421), tamper samples (R429, R430) and the backup supply (R431). -/
def Obligations.MeterEventsComplete : Prop :=
  ∀ s : State,
    (∀ l, s.measuring = true → s.cfg.all .meter ≠ [] →
      exec (.meterSample l) s =
        let t := s.met.sampleAt.getD (s.now - nsT 25600)
        let u := s.advanceNow (t + nsT 25600)
        let v : State := { u with met := { u.met with sampleAt := some (t + nsT 25600) } }
        .next ((v.cfg.all .meter).foldl (fun s e => s.sampleMeter l t e.1 e.2) v)) ∧
    (∀ m d x, m < 8 → s.cfg.get .meter m = some d → Tab.find s.met.meters m = some x → mtType d ≠ 2 → x.noLine = false →
      exec (.meterLineTimeout m) s =
        let u := s.advanceNow (x.validAt + msT 100)
        let y : Meter := { x with noLine := true, line := false, good := 0, crossing := none }
        .next (({ u with met := { u.met with meters := Tab.put u.met.meters m y } } : State).raise Ev.meterLineFault m 0)) ∧
    (∀ m, (s.cfg.has .meter m = true → exec (.meterSeqRead m) s = .next ((s.readSeq m).1.emit (.readData [word (s.readSeq m).2]))) ∧
      (s.cfg.has .meter m = false → exec (.meterSeqRead m) s = .next (s.emit (.readData [word 0])))) ∧
    (∀ m a e, exec (.deltaRead m a e) s = .next ((s.readDelta m a e).1.emit (.readData [word (s.readDelta m a e).2]))) ∧
    (exec .rtcFracRead s = .next (s.readRtc.1.emit (.readData [word s.readRtc.2]))) ∧
    (∀ o t rest, o < 4 → (Tab.getD s.met.epos o {}).due = t :: rest →
      exec (.epoPulse o) s =
        let u := s.advanceNow t
        let x := Tab.getD s.met.epos o {}
        let held := u.ballHeld (ttoBall (4 + o))
        let y : Epo := { x with
          count := (x.count + 1) % 2 ^ 32, due := rest, high := if held then x.high else u.now + msT (u.cfg.epoWidth o) }
        let v : State := { u with met := { u.met with epos := Tab.put u.met.epos o y } }
        let low := (v.cfg.get .pulse o).any fun d => bit (u8 d 5) 0
        .next (if held then v else
          (v.drive 4 (.power "pulse" o true low v.now)).drive 4 (.power "pulse" o false low (v.now + msT (v.cfg.epoWidth o))))) ∧
    (∀ f t, f < 8 → (s.feeder f).bleed = some t → 32 ≤ (s.feeder f).safe →
      exec (.feederBleedDone f) s = .next ((s.updFeeder f fun x => { x with st := .open_, bleed := none }).feederOut s.cfg f true false s.now)) ∧
    (∀ f t d, f < 8 → (s.feeder f).bleed = some t → s.cfg.get .feeder f = some d →
      exec (.feederBleedTimeout f) s = .next (((s.advanceNow (t + msT (fdBleed d))).updFeeder f
        fun x => { x with st := .bleedFault, bleed := none, faults := satInc x.faults }).raise Ev.feederBleedFault f 0)) ∧
    (∀ d samples (u : State) (hot : Bool), s.bak.night = some d → s.boot.supplyLost = true → s.bak.powered = true → u8 d 1 % 16 ≠ 0 →
      u = (s.elapse (secT (u8 d 2))).nightClock →
      hot = ((List.range 4).any fun i => bit (u8 d 1) i && decide (u32 d 4 ≤ u.bak.nightRms samples i)) →
      ∃ t, exec (.nightMeterWindow samples) s = .next t ∧ t.now = u.now ∧
        (hot = true → t.bak.above = u.bak.above + 1 ∧ t.bak.below = 0) ∧
        (hot = false → t.bak.above = 0 ∧ t.bak.below = u.bak.below + 1) ∧
        (u.bak.activity = none → u.bak.above = 0 → t.bak.activity = none)) ∧
    (∀ l, s.bak.powered = true →
      exec (.tamperSample l) s =
        let u := s.elapse (secT 1 / 4)
        .next { u with bak := (u.bak.sample u.rtc 0 (l.getD 0 false)).sample u.rtc 1 (l.getD 1 false) }) ∧
    (s.boot.hold = false → exec .tamperRecordMove s = .next s.moveTamper) ∧
    (s.bak.powered = true →
      exec .backupPowerLoss s = .next { s with bak := { ({} : Backup) with powered := false, rtcLost := s.bak.rtcLost } }) ∧
    (s.bak.powered = false → exec .backupPowerReturn s = .next { s with bak := { rtcZero := s.now, rtcLost := true } })

/-- R135: a received slot value of 8, 16 or 24 bits is expanded to 20 bits by bit replication, and inverted where the
parameter is; the coarse slot is the first on the wire; 0 expands to 0 and the full value of each width to 0xF_FFFF. -/
def Obligations.ReceivedSlotsExpandTo20Bits : Prop :=
  (∀ s, s < 2 ^ 8 → expandSlot 1 s = s <<< 12 ||| s <<< 4 ||| s >>> 4) ∧
  (∀ s, s < 2 ^ 16 → expandSlot 2 s = s <<< 4 ||| s >>> 12) ∧
  (∀ s, s < 2 ^ 24 → expandSlot 3 s = s >>> 4) ∧
  expandSlot 1 0 = 0 ∧ expandSlot 2 0 = 0 ∧ expandSlot 3 0 = 0 ∧
  expandSlot 1 (2 ^ 8 - 1) = 0xFFFFF ∧ expandSlot 2 (2 ^ 16 - 1) = 0xFFFFF ∧ expandSlot 3 (2 ^ 24 - 1) = 0xFFFFF ∧
  (∀ (t : Bytes) (p start : Nat) (slots : Bytes), start + fpSlot t p - 1 + fpWidth t p ≤ slots.length →
    receivedValue t p start slots =
      let v := expandSlot (fpWidth t p) (beNat (slice slots (start + fpSlot t p - 1) (fpWidth t p)))
      if fpInvert t p then 0xFFFFF - v else v) ∧
  (∀ (a : Byte) (b : Bytes), beNat (a :: b) = a.toNat * 256 ^ b.length + beNat b)

/-- R169: EFFECT_SIZE at frame F with RAMP N takes its start from the size of the frame before, the size at frame F + k is
s0 + rdiv((s1 − s0) × k, N) for k < N and s1 for k ≥ N, with N = 0 it is s1 at F, and a later EFFECT_SIZE restarts the
ramp from the size of its own frame before. -/
def Obligations.EffectSizeRamps : Prop :=
  (∀ (check : Req → State → Chk? Unit) (apply : Req → Nat → State → State), effectSizeOp.body = .timed check apply →
    ∀ (r : Req) (f : Nat) (s : State), apply r f s =
      s.updGen (u16 r.payload 0) fun g => { g with ramp := some (g.size, u32 r.payload 4, f, u32 r.payload 8) }) ∧
  (∀ (g : Gen) (s1 f n k : Nat),
    let at_ := fun (g : Gen) (k : Nat) => ((List.range (k + 1)).foldl (fun g i => g.atCut (f + i)) g).size
    let ramped : Gen := { g with ramp := some (g.size, s1, f, n) }
    (k < n → (at_ ramped k : Int) = (g.size : Int) + rdiv (((s1 : Int) - g.size) * k) n) ∧ (n ≤ k → at_ ramped k = s1)) ∧
  (∀ a b : Int, 0 < b → rdiv a b = Int.fdiv (2 * a + b) (2 * b))

/-- R101: a session belongs to the source on which it was opened; a command that names it from another source is refused
with BAD_SESSION; any pair of its source can carry it, and one pair can carry every session of its source. -/
def Obligations.SessionsBelongToTheirSource : Prop :=
  (∀ (r : Req) (s : State) (src : Source) (slot : Nat), s.ready sessionOpenOp r = true → u16 r.payload 0 ≤ 3600 →
    u16 r.payload 0 ≠ 0 ∨ src = .pcie → ((s.entered sessionOpenOp r).ring r.pair).source = some src →
    (s.entered sessionOpenOp r).freeSession = some slot →
    ∃ t x, exec (.sessionOpen r) s = .next t ∧ Tab.find t.ses slot = some x ∧ x.isOpen = true ∧ x.source = src) ∧
  (∀ (op : Op) (r : Req) (s : State) (slot : Nat) (x : Session), r.opFlag 0 = r.atFrame.isSome → field r.flags 7 3 = 0 →
    (r.flags / 256) &&& (0xFF - op.flags) = 0 → r.flags < 65536 → s.session r.session = some (slot, x) →
    (s.ring r.pair).source ≠ some x.source → headerCheck op r s = .error ⟨Status.badSession, 0⟩) ∧
  (∀ (op : Op) (r : Req) (s : State) (slot : Nat) (x : Session), r.session ≠ 0 → s.session r.session = some (slot, x) →
    (s.ring r.pair).source = some x.source → s.sessionOk op r = true)

/-- R309: a capture of TTIi.WINDOW is three items, read in order: the edge and the nanoseconds, the low seconds, and the
fraction with the high seconds and LAST. -/
def Obligations.CapturesAreThreeItems : Prop :=
  (∀ (rising : Bool) (t : Nat), t % 16384 = 0 →
    ∃ a b c, captureItems rising t = [(a, false), (b, false), (c, true)] ∧
      a.testBit 31 = rising ∧ a % 2 ^ 30 = t / 65536 % 1000000000 ∧ a < 2 ^ 32 ∧
      b = t / 65536 / 1000000000 % 2 ^ 32 ∧
      c / 65536 = t % 65536 ∧ c / 65536 % 16384 = 0 ∧ c % 65536 = t / 65536 / 1000000000 / 2 ^ 32 % 65536 ∧ c < 2 ^ 32) ∧
  (∀ (d : Bytes) (counter : Nat), captureTime d counter % 16384 = 0) ∧
  (∀ (s : State) (i : Nat) (e : Nat × Bool) (rest : List (Nat × Bool)), i < 8 → (s.input i).fifo.items = e :: rest →
    (s.input i).fifo.rinse = false →
    ∃ t, exec (.fifoWindowRead (0x32000 + 0x20 * i) 4) s = .next t ∧ t.out = s.out ++ [.readData [word e.1]] ∧
      (t.input i).fifo.items = rest)

/-- R449: in native mode a channel makes one pass per start: at completion it sets RESULT to the check value of what it
read, counts in PASSES, and raises CHK_DONE with the channel and the result; it has then left RUNNING, and no further
pass completes. Uncorrectable data ends the pass in DATA_ERROR (R439). -/
def Obligations.NativePassReportsItsResult : Prop :=
  (∀ (c : Nat) (o : PassOutcome) (s : State), c < 4 → (s.chan c).st = .running → s.gl.device ≠ .updatePause → o.poisoned = none →
    (s.chan c).te5100 = false →
    ∃ u : State, exec (.chkPassComplete c o) s = .next (u.raise Ev.chkDone c (u.chan c).result) ∧
      u.now = (s.advanceNow ((s.chan c).passAt + (s.chan c).passT)).now ∧
      (u.chan c).result = crcOf (s.chan c).poly ((s.advanceNow ((s.chan c).passAt + (s.chan c).passT)).scanBytes (s.chan c) o) ∧
      u.chan c = { s.chan c with
        result := (u.chan c).result, valid := true, passes := satInc (s.chan c).passes, passAt := u.now, st := .done }) ∧
  (∀ (c : Nat) (o : PassOutcome) (s : State) (p : Poison), c < 4 → (s.chan c).st = .running → s.gl.device ≠ .updatePause →
    o.poisoned = some p →
    exec (.chkPassComplete c o) s = .next ((s.memPoisoned p).updChan c fun x => { x with st := .dataError, reloading := false })) ∧
  (∀ (c : Nat) (o : PassOutcome) (s : State), c < 4 → (s.chan c).st = .done → exec (.chkPassComplete c o) s = .next s)

/-- R269: a step of the counter disarms every armed time-trigger unit and sets its STATUS.STEPPED; what a capture has
stamped before stays as it was. -/
def Obligations.StepsDisarmTriggerUnits : Prop :=
  ∀ (d : Int) (s : State),
    (s.stepBy d).tk.counter = (s.tk.counter + d).toNat ∧
    (∀ u, (s.unit u).armed = true →
      ((s.stepBy d).unit u) = { s.unit u with armed := false, status := (s.unit u).status ||| 2 }) ∧
    (∀ u, (s.unit u).armed = false → (s.stepBy d).unit u = s.unit u) ∧
    (∀ i, (s.stepBy d).input i = s.input i)

/-- NOW_NS reads the nanoseconds of the counter, and the three other words return the same instant while time goes on
(R267). -/
def Obligations.NowIsReadFromOneInstant : Prop :=
  ∀ s : State, ∃ t, exec .nowNsRead s = .next t ∧ t.out = s.out ++ [.readData [word (s.tk.counter / 65536 % 1000000000)]] ∧
    ∀ dt, (t.elapse dt).timeRead 0x04 = s.tk.counter % 65536 ∧
      (t.elapse dt).timeRead 0x08 = s.tk.counter / 65536 / 1000000000 % 2 ^ 32 ∧
      (t.elapse dt).timeRead 0x0C = s.tk.counter / 65536 / 1000000000 / 2 ^ 32 % 65536

/-- A trial begins when the new image runs and ends by HEALTH_CONFIRM or after 90 s; while it runs SHOW_ARM is refused, and
outside it HEALTH_CONFIRM is refused (R472). -/
def Obligations.TrialsEndByConfirmation : Prop :=
  (∀ (slot : Bool) (s : State), (s.newImage slot none).boot.trialSince = some s.now) ∧
  (∀ (r : Req) (s : State), s.ready healthConfirmOp r = true → s.boot.trialSince ≠ none →
    ∃ t, exec (.healthConfirm r) s = .next t ∧ t.boot.trialSince = none) ∧
  (∀ (r : Req) (s : State), s.ready healthConfirmOp r = true → s.boot.trialSince = none →
    ∃ a, exec (.healthConfirm r) s = .next ((s.entered healthConfirmOp r).answer r.pair a) ∧ a.status = Status.wrongState) ∧
  (∀ (r : Req) (s : State), s.boot.trialSince ≠ none → (stateCheck showArmOp r s).passes = true → (showArmOp.layout r.payload) = none →
    ∃ d, showArmOp.execute r s = .error ⟨Status.wrongState, d⟩) ∧
  (∀ (s t : State) (a : Nat), s.boot.trialSince = some a → exec .trialTimeout s = .next t → t.boot.trialSince = none)

/-- A member of a pair that is not in ACTIVE or SOLO refuses every class T command with WRONG_STATE (R388); so does any unit
whose show is IDLE (R89). -/
def Obligations.StandbyRefusesClassT : Prop :=
  ∀ (op : Op) (check : Req → State → Chk? Unit) (apply : Req → Nat → State → State) (r : Req) (s : State), op.body = .timed check apply →
    (stateCheck op r s).passes = true → op.layout r.payload = none → s.standbyMember = true ∨ s.gl.show_ = .idle →
    op.execute r s = .error ⟨Status.wrongState, s.wrongDetail⟩

/-- A read of FRAME_LO fixes what FRAME_HI returns, whatever frame is cut in between, and before the first cut both read 0
(R43). -/
def Obligations.FrameNumberIsReadWhole : Prop :=
  (∀ (s : State) (n : Option Nat), ({ (s.latch 0x08) with gl := { (s.latch 0x08).gl with frame := n } } : State).peek 0x0C = s.frameNow / 2 ^ 32 % 65536) ∧
  (∀ s : State, (s.latch 0x08).peek 0x08 = s.frameNow % 2 ^ 32) ∧
  (∀ s : State, s.cutFrame = none → (s.latch 0x08).peek 0x08 = 0 ∧ (s.latch 0x08).peek 0x0C = 0)
end

