-- ==== Sys2Proof/Laws/Flash.lean ====
section
/-! SUPPORT. The external flash as memory: every operation keeps the canonical form, and a byte reads as it was written
(R455-R457). -/

namespace Sys2Proof.Machine

theorem Memory.wf_cons (e : Host.Cell) (m : Memory) :
    Memory.wf (e :: m) = true ↔ e.2 ≠ 0xFF ∧ (∀ x ∈ m, e.1 < x.1) ∧ Memory.wf m = true := by
  obtain ⟨k, b⟩ := e
  simp [Memory.wf, and_assoc]

theorem Memory.mem_write {m : Memory} {a : Nat} {v : Byte} {e : Host.Cell} (h : e ∈ m.write a v) : e ∈ m ∨ e = (a, v) := by
  induction m with
  | nil => unfold Memory.write at h; split at h <;> simp_all
  | cons x m ih =>
    obtain ⟨k, b⟩ := x
    unfold Memory.write at h
    split at h
    · split at h
      · exact .inl h
      · rcases List.mem_cons.mp h with h | h
        · exact .inr h
        · exact .inl h
    · split at h
      · split at h
        · exact .inl (List.mem_cons_of_mem _ h)
        · rcases List.mem_cons.mp h with h | h
          · exact .inr h
          · exact .inl (List.mem_cons_of_mem _ h)
      · rcases List.mem_cons.mp h with h | h
        · exact .inl (h ▸ List.mem_cons_self)
        · rcases ih h with h | h
          · exact .inl (List.mem_cons_of_mem _ h)
          · exact .inr h

/-- A write keeps the canonical form. -/
theorem Memory.write_wf (m : Memory) (a : Nat) (v : Byte) (h : Memory.wf m = true) : Memory.wf (m.write a v) = true := by
  induction m with
  | nil => unfold Memory.write; split <;> simp_all [Memory.wf]
  | cons x m ih =>
    obtain ⟨k, b⟩ := x
    obtain ⟨hb, hk, hm⟩ := (Memory.wf_cons _ _).mp h
    unfold Memory.write
    split
    · rename_i hlt
      split
      · exact h
      · rename_i hv
        refine (Memory.wf_cons _ _).mpr ⟨hv, ?_, h⟩
        intro e he
        rcases List.mem_cons.mp he with rfl | he
        · exact hlt
        · exact Nat.lt_trans hlt (hk e he)
    · split
      · rename_i hak
        split
        · exact hm
        · rename_i hv
          exact (Memory.wf_cons _ _).mpr ⟨hv, fun e he => hak ▸ hk e he, hm⟩
      · rename_i h1 h2
        refine (Memory.wf_cons _ _).mpr ⟨hb, ?_, ih hm⟩
        intro e he
        rcases Memory.mem_write he with he | rfl
        · exact hk e he
        · exact Nat.lt_of_le_of_ne (Nat.le_of_not_lt h1) (fun e => h2 e.symm)

theorem Memory.read_of_lt {m : Memory} {a : Nat} (h : ∀ e ∈ m, a < e.1) : m.read a = 0xFF := by
  induction m with
  | nil => rfl
  | cons x m ih =>
    obtain ⟨k, b⟩ := x
    unfold Memory.read
    have := h (k, b) List.mem_cons_self
    rw [if_neg (Nat.ne_of_gt this)]
    exact ih fun e he => h e (List.mem_cons_of_mem _ he)

/-- A byte reads as it was written, and every other as before. -/
theorem Memory.read_write (m : Memory) (a b : Nat) (v : Byte) (h : Memory.wf m = true) :
    (m.write a v).read b = if b = a then v else m.read b := by
  induction m with
  | nil =>
    unfold Memory.write
    split
    · rename_i hv; simp [Memory.read, hv]
    · simp only [Memory.read]; split <;> split <;> simp_all
  | cons x m ih =>
    obtain ⟨k, c⟩ := x
    obtain ⟨hc, hk, hm⟩ := (Memory.wf_cons _ _).mp h
    unfold Memory.write
    split
    · rename_i hlt
      split
      · rename_i hv
        split
        · rename_i hb
          subst hb
          rw [hv]
          refine Memory.read_of_lt ?_
          intro e he
          rcases List.mem_cons.mp he with rfl | he
          · exact hlt
          · exact Nat.lt_trans hlt (hk e he)
        · rfl
      · rw [Memory.read]
        by_cases hb : b = a
        · rw [if_pos hb.symm, if_pos hb]
        · rw [if_neg (Ne.symm hb), if_neg hb]
    · split
      · rename_i hak
        subst hak
        split
        · rename_i hv
          split
          · rename_i hb; subst hb; rw [hv]; exact Memory.read_of_lt hk
          · rename_i hb
            rw [Memory.read, if_neg (fun e => hb e.symm)]
        · rw [Memory.read, Memory.read]
          by_cases hb : b = a
          · rw [if_pos hb.symm, if_pos hb]
          · rw [if_neg (Ne.symm hb), if_neg hb, if_neg (Ne.symm hb)]
      · rename_i h1 h2
        rw [Memory.read, Memory.read, ih hm]
        split <;> split <;> simp_all

theorem Memory.put_wf (l : Bytes) : ∀ (m : Memory) a, Memory.wf m = true → Memory.wf (m.put a l) = true := by
  induction l with
  | nil => intro m a h; exact h
  | cons v l ih => intro m a h; exact ih _ _ (Memory.write_wf m a v h)

theorem Memory.program_wf (l : Bytes) : ∀ (m : Memory) a, Memory.wf m = true → Memory.wf (m.program a l) = true := by
  induction l with
  | nil => intro m a h; exact h
  | cons v l ih => intro m a h; exact ih _ _ (Memory.write_wf m a _ h)

theorem Memory.filter_wf (p : Host.Cell → Bool) (m : Memory) (h : Memory.wf m = true) : Memory.wf (m.filter p) = true := by
  induction m with
  | nil => rfl
  | cons x m ih =>
    obtain ⟨hc, hk, hm⟩ := (Memory.wf_cons _ _).mp h
    rw [List.filter_cons]
    split
    · exact (Memory.wf_cons _ _).mpr ⟨hc, fun e he => hk e (List.mem_filter.mp he |>.1), ih hm⟩
    · exact ih hm

theorem Memory.erase_wf (m : Memory) (a len : Nat) (h : Memory.wf m = true) : Memory.wf (m.erase a len) = true := Memory.filter_wf _ m h
end Sys2Proof.Machine
end

