-- ==== Sys2Proof/Laws/Frame.lean ====
section
/-! SUPPORT. What every definition of the machine leaves unchanged: the fuses, the queue of waiting commands and the flash,
which are the key of a state. One lemma per definition, for the shared operations and the operand forms; the other
definitions follow in FrameShow, FrameOutput, FrameUnit and FrameHost, and those that write the flash in Kept. -/

namespace Sys2Proof.Machine

/-- What no command but those on the flash changes: the fuses, the queue and the flash. -/
def State.key (s : State) : Fuses × List Instr × Memory := (s.fuses, s.pending, s.nv.flash)

theorem State.key_fold (s : State) : (s.fuses, s.pending, s.nv.flash) = s.key := rfl
theorem State.key_ite (c : Prop) [Decidable c] (s t : State) : (if c then s else t).key = if c then s.key else t.key := by split <;> rfl
theorem State.key_foldl {α : Type} (l : List α) (f : State → α → State) (s : State) (h : ∀ s x, (f s x).key = s.key) :
    (l.foldl f s).key = s.key := by
  induction l generalizing s with
  | nil => rfl
  | cons x l ih => exact (ih (f s x)).trans (h s x)

theorem State.key_foldl_pair {α β : Type} (l : List α) (f : State × β → α → State × β) (e : State × β)
    (h : ∀ e x, (f e x).1.key = e.1.key) : (l.foldl f e).1.key = e.1.key := by
  induction l generalizing e with
  | nil => rfl
  | cons x l ih => exact (ih (f e x)).trans (h e x)

/-- An outcome with the key k. -/
def Keeps (k : Fuses × List Instr × Memory) (o : Outcome) : Prop := ∀ t, o = .next t → t.key = k
theorem keeps_next (k) (t : State) (h : t.key = k) : Keeps k (.next t) := by intro u e; cases e; exact h
theorem keeps_next_iff (k) (t : State) : Keeps k (.next t) = (t.key = k) := propext ⟨fun h => h t rfl, keeps_next k t⟩

/-- A check that answers a state of key k, if any. -/
def KeepsC (k : Fuses × List Instr × Memory) (x : Chk? State) : Prop := ∀ t, x = .ok t → t.key = k
/-- A command body that leaves the key k. -/
def KeepsR (k : Fuses × List Instr × Memory) (x : Chk? (State × Res)) : Prop := ∀ t r, x = .ok (t, r) → t.key = k
theorem keepsC_ok (k) (t : State) : KeepsC k (.ok t) = (t.key = k) := propext ⟨fun h => h t rfl, fun h u e => by cases e; exact h⟩
theorem keepsC_error (k b) : KeepsC k (.error b) = True := propext ⟨fun _ => trivial, fun _ u e => by cases e⟩
theorem keepsR_ok (k) (p : State × Res) : KeepsR k (.ok p) = (p.1.key = k) := propext ⟨fun h => h p.1 p.2 rfl, fun h u r e => by cases e; exact h⟩
theorem keepsR_error (k b) : KeepsR k (.error b) = True := propext ⟨fun _ => trivial, fun _ u r e => by cases e⟩
theorem keepsR_bind {α : Type} (k) (x : Chk? α) (f : α → Chk? (State × Res)) (h : ∀ a, KeepsR k (f a)) : KeepsR k (x >>= f) := by
  cases x with
  | error b => simp [bind, Except.bind, KeepsR]
  | ok a => exact h a
theorem keepsC_bind {α : Type} (k) (x : Chk? α) (f : α → Chk? State) (h : ∀ a, KeepsC k (f a)) : KeepsC k (x >>= f) := by
  cases x with
  | error b => simp [bind, Except.bind, KeepsC]
  | ok a => exact h a

/-- The body of an opcode leaves the key as it is. -/
def Op.Keeps (op : Op) : Prop := match op.body with
  | .run f => ∀ r s, KeepsR s.key (f r s)
  | .staged _ => True
  | .timed _ apply => ∀ r n s, (apply r n s).key = s.key

theorem keeps_ite (k c) [Decidable c] (a b : Outcome) (h : Keeps k a) (h' : Keeps k b) : Keeps k (if c then a else b) := by split <;> assumption
theorem key_ite_of (k) (c : Prop) [Decidable c] (a b : State) (h : a.key = k) (h' : b.key = k) : (if c then a else b).key = k := by split <;> assumption

theorem State.key_mk (a0 a1 a2 a3 a4 a5 a6 a7 a8 a9 a10 a11 a12 a13 a14 a15 a16 a17 a18 a19 a20 a21 a22 a23 a24 a25 a26 a27 a28 a29 a30 a31 a32 a33 a34 a35 a36 a37 a38 a39 a40 a41 a42 a43 a44 a45) : State.key (State.mk a0 a1 a2 a3 a4 a5 a6 a7 a8 a9 a10 a11 a12 a13 a14 a15 a16 a17 a18 a19 a20 a21 a22 a23 a24 a25 a26 a27 a28 a29 a30 a31 a32 a33 a34 a35 a36 a37 a38 a39 a40 a41 a42 a43 a44 a45) = (a0, a42, a29.flash) := rfl

theorem NonVolatile.putBoot_flash (r : BootRecord) (n : NonVolatile) : (n.putBoot r).flash = n.flash := by
  unfold NonVolatile.putBoot; simp only []; split <;> rfl

theorem NonVolatile.dropBoot_flash (n : NonVolatile) : n.dropBoot.flash = n.flash := by
  unfold NonVolatile.dropBoot; split <;> rfl

theorem NonVolatile.putAcc_flash (m : Nat) (l : List MeterSet) (n : NonVolatile) : (n.putAcc m l).flash = n.flash := rfl

theorem NonVolatile.restoreAcc_flash (m : Nat) (n : NonVolatile) : (n.restoreAcc m).flash = n.flash := by
  unfold NonVolatile.restoreAcc; dsimp only; split <;> rfl

theorem State.emit_key : ∀ x0 s, (State.emit x0 s).key = s.key := by
  intros; unfold State.emit; simp only [↓State.key_mk, ↓State.key_fold]

theorem State.drive_key : ∀ x0 x1 s, (State.drive x0 x1 s).key = s.key := by
  intros; unfold State.drive; simp only [State.key_ite, ite_self, State.emit_key]

theorem State.draw_key : ∀ s, (State.draw s).2.key = s.key := by
  intros; unfold State.draw; simp only [↓State.key_mk, ↓State.key_fold]

theorem State.msixEmit_key : ∀ x0 s, (State.msixEmit x0 s).key = s.key := by
  intros; unfold State.msixEmit; (try simp only [↓State.key_mk, ↓State.key_fold, State.key_ite, State.key_foldl, keeps_next_iff, keepsC_ok, keepsC_error, keepsR_ok, keepsR_error, ite_self, implies_true, State.emit_key]); (repeat' ((first | (refine keeps_ite _ _ _ _ ?_ ?_) | (refine keepsC_bind _ _ _ ?_; intro _) | split | (refine (State.key_foldl _ _ _ ?_).trans ?_; intro _ _)) <;> (try simp only [↓State.key_mk, ↓State.key_fold, State.key_ite, State.key_foldl, keeps_next_iff, keepsC_ok, keepsC_error, keepsR_ok, keepsR_error, ite_self, implies_true, State.emit_key])))

theorem State.flushMsix_key : ∀ s, (State.flushMsix s).key = s.key := by
  intros; unfold State.flushMsix; (try simp only [↓State.key_mk, ↓State.key_fold, State.key_ite, State.key_foldl, keeps_next_iff, keepsC_ok, keepsC_error, keepsR_ok, keepsR_error, ite_self, implies_true, State.msixEmit_key]); (repeat' ((first | (refine keeps_ite _ _ _ _ ?_ ?_) | (refine keepsC_bind _ _ _ ?_; intro _) | split | (refine (State.key_foldl _ _ _ ?_).trans ?_; intro _ _)) <;> (try simp only [↓State.key_mk, ↓State.key_fold, State.key_ite, State.key_foldl, keeps_next_iff, keepsC_ok, keepsC_error, keepsR_ok, keepsR_error, ite_self, implies_true, State.msixEmit_key])))

theorem State.busMaster_key : ∀ s, (State.busMaster s).key = s.key := by
  intros; unfold State.busMaster; (try simp only [↓State.key_mk, ↓State.key_fold, State.key_ite, State.key_foldl, keeps_next_iff, keepsC_ok, keepsC_error, keepsR_ok, keepsR_error, ite_self, implies_true, State.flushMsix_key]); (repeat' ((first | (refine keeps_ite _ _ _ _ ?_ ?_) | (refine keepsC_bind _ _ _ ?_; intro _) | split | (refine (State.key_foldl _ _ _ ?_).trans ?_; intro _ _)) <;> (try simp only [↓State.key_mk, ↓State.key_fold, State.key_ite, State.key_foldl, keeps_next_iff, keepsC_ok, keepsC_error, keepsR_ok, keepsR_error, ite_self, implies_true, State.flushMsix_key])))

theorem State.msixSend_key : ∀ x0 s, (State.msixSend x0 s).key = s.key := by
  intros; unfold State.msixSend; (try simp only [↓State.key_mk, ↓State.key_fold, State.key_ite, State.key_foldl, keeps_next_iff, keepsC_ok, keepsC_error, keepsR_ok, keepsR_error, ite_self, implies_true, State.msixEmit_key]); (repeat' ((first | (refine keeps_ite _ _ _ _ ?_ ?_) | (refine keepsC_bind _ _ _ ?_; intro _) | split | (refine (State.key_foldl _ _ _ ?_).trans ?_; intro _ _)) <;> (try simp only [↓State.key_mk, ↓State.key_fold, State.key_ite, State.key_foldl, keeps_next_iff, keepsC_ok, keepsC_error, keepsR_ok, keepsR_error, ite_self, implies_true, State.msixEmit_key])))

theorem State.signal_key : ∀ x0 s, (State.signal x0 s).key = s.key := by
  intros; unfold State.signal; (try simp only []); (repeat' ((first | (refine keeps_ite _ _ _ _ ?_ ?_) | (refine keepsC_bind _ _ _ ?_; intro _) | split | (refine (State.key_foldl _ _ _ ?_).trans ?_; intro _ _)) <;> (try simp only [↓State.key_mk, ↓State.key_fold, State.key_ite, ite_self, State.msixSend_key])))

theorem State.logWrite_key : ∀ x0 s, (State.logWrite x0 s).key = s.key := by
  intros; unfold State.logWrite; simp only [↓State.key_mk, ↓State.key_fold, State.key_ite, ite_self, State.drive_key]

theorem State.ringWrite_key : ∀ x0 s, (State.ringWrite x0 s).key = s.key := by
  intros; unfold State.ringWrite; simp only [↓State.key_mk, ↓State.key_fold, State.key_ite, ite_self, State.emit_key]

theorem State.sendDatagram_key : ∀ x0 x1 x2 s, (State.sendDatagram x0 x1 x2 s).key = s.key := by
  intros; unfold State.sendDatagram; (try simp only [↓State.key_mk, ↓State.key_fold, State.key_ite, State.key_foldl, keeps_next_iff, keepsC_ok, keepsC_error, keepsR_ok, keepsR_error, ite_self, implies_true, State.emit_key]); (repeat' ((first | (refine keeps_ite _ _ _ _ ?_ ?_) | (refine keepsC_bind _ _ _ ?_; intro _) | split | (refine (State.key_foldl _ _ _ ?_).trans ?_; intro _ _)) <;> (try simp only [↓State.key_mk, ↓State.key_fold, State.key_ite, State.key_foldl, keeps_next_iff, keepsC_ok, keepsC_error, keepsR_ok, keepsR_error, ite_self, implies_true, State.emit_key])))

theorem State.sendEvents_key : ∀ x0 s, (State.sendEvents x0 s).key = s.key := by
  intros; unfold State.sendEvents; (try simp only []); (repeat' ((first | (refine keeps_ite _ _ _ _ ?_ ?_) | (refine keepsC_bind _ _ _ ?_; intro _) | split | (refine (State.key_foldl _ _ _ ?_).trans ?_; intro _ _)) <;> (try simp only [↓State.key_mk, ↓State.key_fold, State.emit_key])))

theorem State.subWrite_key : ∀ x0 x1 s, (State.subWrite x0 x1 s).key = s.key := by
  intros; unfold State.subWrite; (try simp only []); (repeat' ((first | (refine keeps_ite _ _ _ _ ?_ ?_) | (refine keepsC_bind _ _ _ ?_; intro _) | split | (refine (State.key_foldl _ _ _ ?_).trans ?_; intro _ _)) <;> (try simp only [↓State.key_mk, ↓State.key_fold, State.key_ite, ite_self, State.sendEvents_key])))

theorem State.raiseRec_key : ∀ x0 s, (State.raiseRec x0 s).key = s.key := by
  intros; unfold State.raiseRec; simp only [↓State.key_mk, ↓State.key_fold, State.key_ite, State.key_foldl, ite_self, implies_true, State.logWrite_key, State.ringWrite_key, State.subWrite_key, State.signal_key]

theorem State.raise_key : ∀ x0 x1 x2 s, (State.raise x0 x1 x2 s).key = s.key := by
  intros; unfold State.raise; simp only [State.raiseRec_key]

theorem State.raiseFrame_key : ∀ x0 x1 x2 x3 s, (State.raiseFrame x0 x1 x2 x3 s).key = s.key := by
  intros; unfold State.raiseFrame; simp only [State.raiseRec_key]

theorem State.count_key : ∀ x0 s, (State.count x0 s).key = s.key := by
  intros; unfold State.count; simp only [↓State.key_mk, ↓State.key_fold]

theorem State.foundPoison_key : ∀ x0 s, (State.foundPoison x0 s).key = s.key := by
  intros; unfold State.foundPoison; (try simp only [↓State.key_mk, ↓State.key_fold, State.key_ite, State.key_foldl, keeps_next_iff, keepsC_ok, keepsC_error, keepsR_ok, keepsR_error, ite_self, implies_true, State.raise_key]); (repeat' ((first | (refine keeps_ite _ _ _ _ ?_ ?_) | (refine keepsC_bind _ _ _ ?_; intro _) | split | (refine (State.key_foldl _ _ _ ?_).trans ?_; intro _ _)) <;> (try simp only [↓State.key_mk, ↓State.key_fold, State.key_ite, State.key_foldl, keeps_next_iff, keepsC_ok, keepsC_error, keepsR_ok, keepsR_error, ite_self, implies_true, State.raise_key])))

theorem State.renewImage_key : ∀ s, (State.renewImage s).key = s.key := by
  intros; unfold State.renewImage; (try simp only [↓State.key_mk, ↓State.key_fold, State.key_ite, State.key_foldl, keeps_next_iff, keepsC_ok, keepsC_error, keepsR_ok, keepsR_error, ite_self, implies_true]); (repeat' ((first | (refine keeps_ite _ _ _ _ ?_ ?_) | (refine keepsC_bind _ _ _ ?_; intro _) | split | (refine (State.key_foldl _ _ _ ?_).trans ?_; intro _ _)) <;> (try simp only [↓State.key_mk, ↓State.key_fold, State.key_ite, State.key_foldl, keeps_next_iff, keepsC_ok, keepsC_error, keepsR_ok, keepsR_error, ite_self, implies_true])))

theorem State.finish_key : ∀ x0 x1 s, (State.finish x0 x1 s).key = s.key := by
  intros; unfold State.finish; (try simp only []); (repeat' ((first | (refine keeps_ite _ _ _ _ ?_ ?_) | (refine keepsC_bind _ _ _ ?_; intro _) | split | (refine (State.key_foldl _ _ _ ?_).trans ?_; intro _ _)) <;> (try simp only [↓State.key_mk, ↓State.key_fold])))

theorem State.freeUpdate_key : ∀ s, (State.freeUpdate s).key = s.key := by
  intros; unfold State.freeUpdate; simp only [↓State.key_mk, ↓State.key_fold]

theorem State.freeBuffer_key : ∀ x0 s, (State.freeBuffer x0 s).key = s.key := by
  intros; unfold State.freeBuffer; simp only [↓State.key_mk, ↓State.key_fold, State.key_foldl, implies_true, State.finish_key, State.raise_key]

theorem State.retire_key : ∀ x0 s, (State.retire x0 s).key = s.key := by
  intros; unfold State.retire; (try simp only [↓State.key_mk, ↓State.key_fold, State.key_ite, State.key_foldl, keeps_next_iff, keepsC_ok, keepsC_error, keepsR_ok, keepsR_error, ite_self, implies_true, State.freeBuffer_key, State.raise_key]); (repeat' ((first | (refine keeps_ite _ _ _ _ ?_ ?_) | (refine keepsC_bind _ _ _ ?_; intro _) | split | (refine (State.key_foldl _ _ _ ?_).trans ?_; intro _ _)) <;> (try simp only [State.key_ite, ite_self, State.freeBuffer_key, State.raise_key])))

theorem State.releaseBuffer_key : ∀ x0 s, (State.releaseBuffer x0 s).key = s.key := by
  intros; unfold State.releaseBuffer; simp only [↓State.key_mk, ↓State.key_fold, State.key_ite, ite_self, State.freeBuffer_key]

theorem State.endSession_key : ∀ x0 x1 s, (State.endSession x0 x1 s).key = s.key := by
  intros; unfold State.endSession; (try simp only []); (repeat' ((first | (refine keeps_ite _ _ _ _ ?_ ?_) | (refine keepsC_bind _ _ _ ?_; intro _) | split | (refine (State.key_foldl _ _ _ ?_).trans ?_; intro _ _)) <;> (try simp only [↓State.key_mk, ↓State.key_fold, State.key_ite, State.key_foldl, ite_self, implies_true, State.raise_key, State.freeUpdate_key, State.releaseBuffer_key])))

theorem State.setRing_key : ∀ x0 x1 s, (State.setRing x0 x1 s).key = s.key := by
  intros; unfold State.setRing; simp only [↓State.key_mk, ↓State.key_fold]

theorem State.armReset_key : ∀ x0 x1 s, (State.armReset x0 x1 s).key = s.key := by
  intros; unfold State.armReset; (try simp only [↓State.key_mk, ↓State.key_fold, State.key_ite, State.key_foldl, keeps_next_iff, keepsC_ok, keepsC_error, keepsR_ok, keepsR_error, ite_self, implies_true]); (repeat' ((first | (refine keeps_ite _ _ _ _ ?_ ?_) | (refine keepsC_bind _ _ _ ?_; intro _) | split | (refine (State.key_foldl _ _ _ ?_).trans ?_; intro _ _)) <;> (try simp only [↓State.key_mk, ↓State.key_fold, State.key_ite, State.key_foldl, keeps_next_iff, keepsC_ok, keepsC_error, keepsR_ok, keepsR_error, ite_self, implies_true])))

theorem State.sendReply_key : ∀ x0 x1 x2 x3 s, (State.sendReply x0 x1 x2 x3 s).key = s.key := by
  intros; unfold State.sendReply; (try simp only [↓State.key_mk, ↓State.key_fold, State.key_ite, State.key_foldl, keeps_next_iff, keepsC_ok, keepsC_error, keepsR_ok, keepsR_error, ite_self, implies_true, State.armReset_key, State.setRing_key, State.sendDatagram_key, State.emit_key, State.signal_key]); (repeat' ((first | (refine keeps_ite _ _ _ _ ?_ ?_) | (refine keepsC_bind _ _ _ ?_; intro _) | split | (refine (State.key_foldl _ _ _ ?_).trans ?_; intro _ _)) <;> (try simp only [↓State.key_mk, ↓State.key_fold, State.key_ite, State.key_foldl, keeps_next_iff, keepsC_ok, keepsC_error, keepsR_ok, keepsR_error, ite_self, implies_true, State.armReset_key, State.setRing_key, State.sendDatagram_key, State.emit_key, State.signal_key])))

theorem State.flushFuel_key : ∀ k n s, (State.flushFuel k n s).key = s.key := by
  intro k
  induction k with
  | zero => intro n s; rfl
  | succ k ih =>
    intro n s
    rw [State.flushFuel]
    split
    · rfl
    · split
      · rfl
      · split
        · split
          · rfl
          · simp only [State.setRing_key]
        · rw [ih, State.sendReply_key]

theorem State.flush_key : ∀ x0 s, (State.flush x0 s).key = s.key := by
  intros; unfold State.flush; simp only [State.flushFuel_key]

theorem State.record_key : ∀ x0 x1 s, (State.record x0 x1 s).key = s.key := by
  intros; unfold State.record; simp only [State.key_ite, ite_self, State.finish_key]

theorem State.complete_key : ∀ x0 x1 x2 s, (State.complete x0 x1 x2 s).key = s.key := by
  intros; unfold State.complete; (try simp only []); (repeat' ((first | (refine keeps_ite _ _ _ _ ?_ ?_) | (refine keepsC_bind _ _ _ ?_; intro _) | split | (refine (State.key_foldl _ _ _ ?_).trans ?_; intro _ _)) <;> (try simp only [State.setRing_key, State.record_key, State.flush_key])))

theorem State.completeAny_key : ∀ x0 x1 s, (State.completeAny x0 x1 s).key = s.key := by
  intros; unfold State.completeAny; simp only [State.key_foldl, implies_true, State.complete_key]

theorem State.disablePair_key : ∀ x0 s, (State.disablePair x0 s).key = s.key := by
  intros; unfold State.disablePair; simp only [State.setRing_key]

theorem State.pairError_key : ∀ x0 x1 s, (State.pairError x0 x1 s).key = s.key := by
  intros; unfold State.pairError; simp only [State.raise_key, State.setRing_key]

theorem State.startJob_key : ∀ x0 x1 x2 s, (State.startJob x0 x1 x2 s).2.key = s.key := by
  intros; unfold State.startJob; simp only [↓State.key_mk, ↓State.key_fold]

theorem State.takeJobId_key : ∀ x0 x1 x2 s, (State.takeJobId x0 x1 x2 s).2.key = s.key := by
  intros; unfold State.takeJobId; simp only [↓State.key_mk, ↓State.key_fold]

theorem State.endJob_key : ∀ x0 x1 x2 s, (State.endJob x0 x1 x2 s).key = s.key := by
  intros; unfold State.endJob; simp only [↓State.key_mk, ↓State.key_fold, State.finish_key, State.raise_key]

theorem State.elapse_key : ∀ x0 s, (State.elapse x0 s).key = s.key := by
  intros; unfold State.elapse; simp only [↓State.key_mk, ↓State.key_fold]

theorem State.advanceTo_key : ∀ x0 s, (State.advanceTo x0 s).key = s.key := by
  intros; unfold State.advanceTo; simp only [↓State.key_mk, ↓State.key_fold, State.key_ite, ite_self, State.elapse_key]

theorem State.advanceNow_key : ∀ x0 s, (State.advanceNow x0 s).key = s.key := by
  intros; unfold State.advanceNow; simp only [State.elapse_key]

theorem State.enqueue_key : ∀ x0 s, (State.enqueue x0 s).key = s.key := by
  intros; unfold State.enqueue; (try simp only [↓State.key_mk, ↓State.key_fold, State.key_ite, State.key_foldl, keeps_next_iff, keepsC_ok, keepsC_error, keepsR_ok, keepsR_error, ite_self, implies_true]); (repeat' ((first | (refine keeps_ite _ _ _ _ ?_ ?_) | (refine keepsC_bind _ _ _ ?_; intro _) | split | (refine (State.key_foldl _ _ _ ?_).trans ?_; intro _ _)) <;> (try simp only [↓State.key_mk, ↓State.key_fold, State.key_ite, State.key_foldl, keeps_next_iff, keepsC_ok, keepsC_error, keepsR_ok, keepsR_error, ite_self, implies_true])))

theorem State.mirrored_key : ∀ x0 x1 x2 s, (State.mirrored x0 x1 x2 s).1.key = s.key := by
  intros; unfold State.mirrored; (try simp only []); (repeat' ((first | (refine keeps_ite _ _ _ _ ?_ ?_) | (refine keepsC_bind _ _ _ ?_; intro _) | split | (refine (State.key_foldl _ _ _ ?_).trans ?_; intro _ _)) <;> (try simp only [↓State.key_mk, ↓State.key_fold, State.emit_key])))

theorem queueTimed_key : ∀ x0 x1 s, KeepsR s.key (queueTimed x0 x1 s) := by
  intros; unfold queueTimed; (try simp only [↓State.key_mk, ↓State.key_fold, State.key_ite, State.key_foldl, keeps_next_iff, keepsC_ok, keepsC_error, keepsR_ok, keepsR_error, ite_self, implies_true, State.enqueue_key, State.mirrored_key]); (repeat' ((first | (refine keeps_ite _ _ _ _ ?_ ?_) | (refine keepsC_bind _ _ _ ?_; intro _) | split | (refine (State.key_foldl _ _ _ ?_).trans ?_; intro _ _)) <;> (try simp only [↓State.key_mk, ↓State.key_fold, State.key_ite, State.key_foldl, keeps_next_iff, keepsC_ok, keepsC_error, keepsR_ok, keepsR_error, ite_self, implies_true, State.enqueue_key, State.mirrored_key])))

theorem runStaged_key : ∀ x0 x1 s, KeepsR s.key (runStaged x0 x1 s) := by
  intros; unfold runStaged; (try simp only []); (repeat' ((first | (refine keeps_ite _ _ _ _ ?_ ?_) | (refine keepsC_bind _ _ _ ?_; intro _) | split | (refine (State.key_foldl _ _ _ ?_).trans ?_; intro _ _)) <;> (try simp only [↓State.key_mk, ↓State.key_fold, keepsR_ok, keepsR_error])))

theorem Op.execute_key : ∀ op r s, op.Keeps → KeepsR s.key (Op.execute op r s) := by
  intro op r s h
  unfold Op.Keeps at h
  unfold Op.execute
  split
  · simp only [keepsR_error]
  · split
    · simp only [keepsR_error]
    · split <;> rename_i hb <;> rw [hb] at h
      · exact h r s
      · exact runStaged_key _ r s
      · split
        · simp only [keepsR_error]
        · split
          · simp only [keepsR_error]
          · exact queueTimed_key _ r s

theorem State.answer_key : ∀ x0 x1 s, (State.answer x0 x1 s).key = s.key := by
  intros; unfold State.answer; (try simp only []); (repeat' ((first | (refine keeps_ite _ _ _ _ ?_ ?_) | (refine keepsC_bind _ _ _ ?_; intro _) | split | (refine (State.key_foldl _ _ _ ?_).trans ?_; intro _ _)) <;> (try simp only [State.flush_key, State.setRing_key, State.record_key])))

theorem State.waitFor_key : ∀ x0 x1 s, (State.waitFor x0 x1 s).key = s.key := by
  intros; unfold State.waitFor; simp only [State.setRing_key]

theorem State.conclude_key : ∀ n x s, KeepsR s.key x → (State.conclude n x s).key = s.key := by
  intro n x s h
  unfold State.conclude
  split
  · exact State.answer_key _ _ _
  · rw [State.answer_key]; exact h _ _ rfl
  · rw [State.waitFor_key]; exact h _ _ rfl

theorem State.accept_key : ∀ x0 x1 s, (State.accept x0 x1 s).key = s.key := by
  intros; unfold State.accept; (try simp only [↓State.key_mk, ↓State.key_fold, State.key_ite, State.key_foldl, keeps_next_iff, keepsC_ok, keepsC_error, keepsR_ok, keepsR_error, ite_self, implies_true, State.setRing_key]); (repeat' ((first | (refine keeps_ite _ _ _ _ ?_ ?_) | (refine keepsC_bind _ _ _ ?_; intro _) | split | (refine (State.key_foldl _ _ _ ?_).trans ?_; intro _ _)) <;> (try simp only [↓State.key_mk, ↓State.key_fold, State.key_ite, State.key_foldl, keeps_next_iff, keepsC_ok, keepsC_error, keepsR_ok, keepsR_error, ite_self, implies_true, State.setRing_key])))

theorem State.touch_key : ∀ x0 x1 s, (State.touch x0 x1 s).key = s.key := by
  intros; unfold State.touch; (try simp only []); (repeat' ((first | (refine keeps_ite _ _ _ _ ?_ ?_) | (refine keepsC_bind _ _ _ ?_; intro _) | split | (refine (State.key_foldl _ _ _ ?_).trans ?_; intro _ _)) <;> (try simp only [↓State.key_mk, ↓State.key_fold, State.key_ite, ite_self])))

theorem State.hold_key : ∀ x0 x1 s, (State.hold x0 x1 s).key = s.key := by
  intros; unfold State.hold; simp only [↓State.key_mk, ↓State.key_fold, State.key_ite, ite_self, State.setRing_key, State.waitFor_key]

theorem State.concludeRead_key : ∀ r x s, KeepsR s.key x → (State.concludeRead r x s).key = s.key := by
  intro r x s h
  unfold State.concludeRead
  split
  · rw [State.answer_key, State.foundPoison_key]
  · exact State.conclude_key _ _ _ h

theorem State.start_key : ∀ op r s, op.Keeps → (State.start op r s).key = s.key := by
  intro op r s h
  unfold State.start
  split
  · exact State.answer_key _ _ _
  · simp only
    split
    · rw [State.concludeRead_key _ _ _ (Op.execute_key op r _ h), State.touch_key]
    · rw [State.hold_key, State.touch_key]

theorem hostCommand_key : ∀ op r s, op.Keeps → Keeps s.key (hostCommand op r s) := by
  intro op r s h
  unfold hostCommand
  split
  · exact keeps_next _ _ rfl
  · split
    · exact keeps_next _ _ rfl
    · refine keeps_next _ _ ?_
      rw [State.start_key _ _ _ h, State.accept_key]

theorem State.updLane_key : ∀ x0 x1 s, (State.updLane x0 x1 s).key = s.key := by
  intros; unfold State.updLane; simp only [↓State.key_mk, ↓State.key_fold]

theorem State.updFlow_key : ∀ x0 x1 s, (State.updFlow x0 x1 s).key = s.key := by
  intros; unfold State.updFlow; simp only [↓State.key_mk, ↓State.key_fold]

theorem State.updFrame_key : ∀ x0 x1 s, (State.updFrame x0 x1 s).key = s.key := by
  intros; unfold State.updFrame; simp only [↓State.key_mk, ↓State.key_fold]

end Sys2Proof.Machine
end

