-- ==== Sys2Proof/Laws/FrameShow.lean ====
section
/-! SUPPORT. The fuses, the queue and the flash stay (see Frame): the definitions of patch, playbacks, effects, FIFOs, packets and time. -/

namespace Sys2Proof.Machine

theorem typeDefineOp_key : typeDefineOp.Keeps := trivial

theorem typeDeleteOp_key : typeDeleteOp.Keeps := trivial

theorem patchAddOp_key : patchAddOp.Keeps := trivial

theorem patchRemoveOp_key : patchRemoveOp.Keeps := trivial

theorem patchReadOp_key : patchReadOp.Keeps := by
  unfold Op.Keeps patchReadOp; (try trivial); (try (intro r s; (try simp only []); (repeat' (first | (refine keepsR_bind _ _ _ ?_; intro _) | split) <;> (try simp only [keepsR_ok]))))

theorem State.updPar_key : ∀ x0 x1 s, (State.updPar x0 x1 s).key = s.key := by
  intros; unfold State.updPar; simp only [↓State.key_mk, ↓State.key_fold, State.key_ite, ite_self]

theorem paramWriteOp_key : paramWriteOp.Keeps := by
  unfold Op.Keeps paramWriteOp; (try trivial); (try (intro r n s; (try simp only [State.key_foldl, implies_true, State.updPar_key]); (repeat' (first | (refine keepsR_bind _ _ _ ?_; intro _) | split) <;> (try simp only [↓State.key_mk, ↓State.key_fold, State.key_ite, State.key_foldl, keeps_next_iff, keepsC_ok, keepsC_error, keepsR_ok, keepsR_error, ite_self, implies_true, State.updPar_key]))))

theorem paramReleaseOp_key : paramReleaseOp.Keeps := by
  unfold Op.Keeps paramReleaseOp; (try trivial); (try (intro r n s; (try simp only [↓State.key_mk, ↓State.key_fold, State.key_ite, State.key_foldl, ite_self, implies_true, State.updPar_key]); (repeat' (first | (refine keepsR_bind _ _ _ ?_; intro _) | split) <;> (try simp only [↓State.key_mk, ↓State.key_fold, State.key_ite, State.key_foldl, keeps_next_iff, keepsC_ok, keepsC_error, keepsR_ok, keepsR_error, ite_self, implies_true, State.updPar_key]))))

theorem paramReadOp_key : paramReadOp.Keeps := by
  unfold Op.Keeps paramReadOp; (try trivial); (try (intro r s; (try simp only []); (repeat' (first | (refine keepsR_bind _ _ _ ?_; intro _) | split) <;> (try simp only [keepsR_ok]))))

theorem sacnRxMapOp_key : sacnRxMapOp.Keeps := trivial

theorem execTypeDefine_key : ∀ x0 s, Keeps s.key (execTypeDefine x0 s) := by
  exact fun r s => hostCommand_key _ r s typeDefineOp_key

theorem execTypeDelete_key : ∀ x0 s, Keeps s.key (execTypeDelete x0 s) := by
  exact fun r s => hostCommand_key _ r s typeDeleteOp_key

theorem execPatchAdd_key : ∀ x0 s, Keeps s.key (execPatchAdd x0 s) := by
  exact fun r s => hostCommand_key _ r s patchAddOp_key

theorem execPatchRemove_key : ∀ x0 s, Keeps s.key (execPatchRemove x0 s) := by
  exact fun r s => hostCommand_key _ r s patchRemoveOp_key

theorem execPatchRead_key : ∀ x0 s, Keeps s.key (execPatchRead x0 s) := by
  exact fun r s => hostCommand_key _ r s patchReadOp_key

theorem execParamWrite_key : ∀ x0 s, Keeps s.key (execParamWrite x0 s) := by
  exact fun r s => hostCommand_key _ r s paramWriteOp_key

theorem execParamRelease_key : ∀ x0 s, Keeps s.key (execParamRelease x0 s) := by
  exact fun r s => hostCommand_key _ r s paramReleaseOp_key

theorem execParamRead_key : ∀ x0 s, Keeps s.key (execParamRead x0 s) := by
  exact fun r s => hostCommand_key _ r s paramReadOp_key

theorem execSacnRxMap_key : ∀ x0 s, Keeps s.key (execSacnRxMap x0 s) := by
  exact fun r s => hostCommand_key _ r s sacnRxMapOp_key

theorem playbackDefineOp_key : playbackDefineOp.Keeps := trivial

theorem curveTableOp_key : curveTableOp.Keeps := trivial

theorem State.updPb_key : ∀ x0 x1 s, (State.updPb x0 x1 s).key = s.key := by
  intros; unfold State.updPb; (try simp only [↓State.key_mk, ↓State.key_fold, State.key_ite, State.key_foldl, keeps_next_iff, keepsC_ok, keepsC_error, keepsR_ok, keepsR_error, ite_self, implies_true]); (repeat' ((first | (refine keeps_ite _ _ _ _ ?_ ?_) | (refine keepsC_bind _ _ _ ?_; intro _) | split | (refine (State.key_foldl _ _ _ ?_).trans ?_; intro _ _)) <;> (try simp only [↓State.key_mk, ↓State.key_fold])))

theorem cueStoreOp_key : cueStoreOp.Keeps := by
  unfold Op.Keeps cueStoreOp; (try trivial); (try (intro r n s; (try simp only [State.updPb_key]); (repeat' (first | (refine keepsR_bind _ _ _ ?_; intro _) | split) <;> (try simp only [↓State.key_mk, ↓State.key_fold, State.key_ite, State.key_foldl, keeps_next_iff, keepsC_ok, keepsC_error, keepsR_ok, keepsR_error, ite_self, implies_true, State.updPb_key]))))

theorem playbackGoOp_key : playbackGoOp.Keeps := by
  unfold Op.Keeps playbackGoOp; (try trivial); (try (intro r n s; (try simp only [State.updPb_key]); (repeat' (first | (refine keepsR_bind _ _ _ ?_; intro _) | split) <;> (try simp only [↓State.key_mk, ↓State.key_fold, State.key_ite, State.key_foldl, keeps_next_iff, keepsC_ok, keepsC_error, keepsR_ok, keepsR_error, ite_self, implies_true, State.updPb_key]))))

theorem playbackBackOp_key : playbackBackOp.Keeps := by
  unfold Op.Keeps playbackBackOp; (try trivial); (try (intro r n s; (try simp only [State.updPb_key]); (repeat' (first | (refine keepsR_bind _ _ _ ?_; intro _) | split) <;> (try simp only [↓State.key_mk, ↓State.key_fold, State.key_ite, State.key_foldl, keeps_next_iff, keepsC_ok, keepsC_error, keepsR_ok, keepsR_error, ite_self, implies_true, State.updPb_key]))))

theorem playbackGotoOp_key : playbackGotoOp.Keeps := by
  unfold Op.Keeps playbackGotoOp; (try trivial); (try (intro r n s; (try simp only [State.updPb_key]); (repeat' (first | (refine keepsR_bind _ _ _ ?_; intro _) | split) <;> (try simp only [↓State.key_mk, ↓State.key_fold, State.key_ite, State.key_foldl, keeps_next_iff, keepsC_ok, keepsC_error, keepsR_ok, keepsR_error, ite_self, implies_true, State.updPb_key]))))

theorem playbackReleaseOp_key : playbackReleaseOp.Keeps := by
  unfold Op.Keeps playbackReleaseOp; (try trivial); (try (intro r n s; (try simp only [State.updPb_key]); (repeat' (first | (refine keepsR_bind _ _ _ ?_; intro _) | split) <;> (try simp only [↓State.key_mk, ↓State.key_fold, State.key_ite, State.key_foldl, keeps_next_iff, keepsC_ok, keepsC_error, keepsR_ok, keepsR_error, ite_self, implies_true, State.updPb_key]))))

theorem playbackLevelOp_key : playbackLevelOp.Keeps := by
  unfold Op.Keeps playbackLevelOp; (try trivial); (try (intro r n s; (try simp only [State.updPb_key]); (repeat' (first | (refine keepsR_bind _ _ _ ?_; intro _) | split) <;> (try simp only [↓State.key_mk, ↓State.key_fold, State.key_ite, State.key_foldl, keeps_next_iff, keepsC_ok, keepsC_error, keepsR_ok, keepsR_error, ite_self, implies_true, State.updPb_key]))))

theorem playbackRateOp_key : playbackRateOp.Keeps := by
  unfold Op.Keeps playbackRateOp; (try trivial); (try (intro r n s; (try simp only [State.updPb_key]); (repeat' (first | (refine keepsR_bind _ _ _ ?_; intro _) | split) <;> (try simp only [↓State.key_mk, ↓State.key_fold, State.key_ite, State.key_foldl, keeps_next_iff, keepsC_ok, keepsC_error, keepsR_ok, keepsR_error, ite_self, implies_true, State.updPb_key]))))

theorem State.sortDelays_key : ∀ x0 x1 s, (State.sortDelays x0 x1 s).key = s.key := by
  intros; unfold State.sortDelays; simp only [↓State.key_mk, ↓State.key_fold]

theorem State.stepPlaybacks_key : ∀ x0 x1 s, (State.stepPlaybacks x0 x1 s).key = s.key := by
  intros; unfold State.stepPlaybacks; (try simp only [↓State.key_mk, ↓State.key_fold, State.key_ite, State.key_foldl, keeps_next_iff, keepsC_ok, keepsC_error, keepsR_ok, keepsR_error, ite_self, implies_true, State.updPb_key, State.sortDelays_key]); (repeat' ((first | (refine keeps_ite _ _ _ _ ?_ ?_) | (refine keepsC_bind _ _ _ ?_; intro _) | split | (refine (State.key_foldl _ _ _ ?_).trans ?_; intro _ _)) <;> (try simp only [↓State.key_mk, ↓State.key_fold, State.key_ite, State.key_foldl, keeps_next_iff, keepsC_ok, keepsC_error, keepsR_ok, keepsR_error, ite_self, implies_true, State.updPb_key, State.sortDelays_key])))

theorem State.cutPlaybacks_key : ∀ x0 x1 s, (State.cutPlaybacks x0 x1 s).key = s.key := by
  intros; unfold State.cutPlaybacks; (try simp only [↓State.key_mk, ↓State.key_fold, State.key_ite, State.key_foldl, keeps_next_iff, keepsC_ok, keepsC_error, keepsR_ok, keepsR_error, ite_self, implies_true, State.stepPlaybacks_key, State.updPb_key, State.sortDelays_key]); (repeat' ((first | (refine keeps_ite _ _ _ _ ?_ ?_) | (refine keepsC_bind _ _ _ ?_; intro _) | split | (refine (State.key_foldl _ _ _ ?_).trans ?_; intro _ _)) <;> (try simp only [↓State.key_mk, ↓State.key_fold, State.key_ite, State.key_foldl, keeps_next_iff, keepsC_ok, keepsC_error, keepsR_ok, keepsR_error, ite_self, implies_true, State.stepPlaybacks_key, State.updPb_key, State.sortDelays_key])))

theorem playbackStatusOp_key : playbackStatusOp.Keeps := by
  unfold Op.Keeps playbackStatusOp; (try trivial); (try (intro r s; (try simp only []); (repeat' (first | (refine keepsR_bind _ _ _ ?_; intro _) | split) <;> (try simp only [keepsR_ok]))))

theorem State.pressPlaybacks_key : ∀ x0 x1 s, (State.pressPlaybacks x0 x1 s).key = s.key := by
  intros; unfold State.pressPlaybacks; simp only [↓State.key_mk, ↓State.key_fold]

theorem execPlaybackDefine_key : ∀ x0 s, Keeps s.key (execPlaybackDefine x0 s) := by
  exact fun r s => hostCommand_key _ r s playbackDefineOp_key

theorem execCueStore_key : ∀ x0 s, Keeps s.key (execCueStore x0 s) := by
  exact fun r s => hostCommand_key _ r s cueStoreOp_key

theorem execPlaybackGo_key : ∀ x0 s, Keeps s.key (execPlaybackGo x0 s) := by
  exact fun r s => hostCommand_key _ r s playbackGoOp_key

theorem execPlaybackBack_key : ∀ x0 s, Keeps s.key (execPlaybackBack x0 s) := by
  exact fun r s => hostCommand_key _ r s playbackBackOp_key

theorem execPlaybackGoto_key : ∀ x0 s, Keeps s.key (execPlaybackGoto x0 s) := by
  exact fun r s => hostCommand_key _ r s playbackGotoOp_key

theorem execPlaybackRelease_key : ∀ x0 s, Keeps s.key (execPlaybackRelease x0 s) := by
  exact fun r s => hostCommand_key _ r s playbackReleaseOp_key

theorem execPlaybackLevel_key : ∀ x0 s, Keeps s.key (execPlaybackLevel x0 s) := by
  exact fun r s => hostCommand_key _ r s playbackLevelOp_key

theorem execPlaybackRate_key : ∀ x0 s, Keeps s.key (execPlaybackRate x0 s) := by
  exact fun r s => hostCommand_key _ r s playbackRateOp_key

theorem execCurveTable_key : ∀ x0 s, Keeps s.key (execCurveTable x0 s) := by
  exact fun r s => hostCommand_key _ r s curveTableOp_key

theorem execPlaybackStatus_key : ∀ x0 s, Keeps s.key (execPlaybackStatus x0 s) := by
  exact fun r s => hostCommand_key _ r s playbackStatusOp_key

theorem State.updGen_key : ∀ x0 x1 s, (State.updGen x0 x1 s).key = s.key := by
  intros; unfold State.updGen; (try simp only [↓State.key_mk, ↓State.key_fold, State.key_ite, State.key_foldl, keeps_next_iff, keepsC_ok, keepsC_error, keepsR_ok, keepsR_error, ite_self, implies_true]); (repeat' ((first | (refine keeps_ite _ _ _ _ ?_ ?_) | (refine keepsC_bind _ _ _ ?_; intro _) | split | (refine (State.key_foldl _ _ _ ?_).trans ?_; intro _ _)) <;> (try simp only [↓State.key_mk, ↓State.key_fold])))

theorem effectDefineOp_key : effectDefineOp.Keeps := trivial

theorem effectAssignOp_key : effectAssignOp.Keeps := trivial

theorem effectRateOp_key : effectRateOp.Keeps := by
  unfold Op.Keeps effectRateOp; (try trivial); (try (intro r n s; (try simp only [State.updGen_key]); (repeat' (first | (refine keepsR_bind _ _ _ ?_; intro _) | split) <;> (try simp only [↓State.key_mk, ↓State.key_fold, State.key_ite, State.key_foldl, keeps_next_iff, keepsC_ok, keepsC_error, keepsR_ok, keepsR_error, ite_self, implies_true, State.updGen_key]))))

theorem effectSizeOp_key : effectSizeOp.Keeps := by
  unfold Op.Keeps effectSizeOp; (try trivial); (try (intro r n s; (try simp only [State.updGen_key]); (repeat' (first | (refine keepsR_bind _ _ _ ?_; intro _) | split) <;> (try simp only [↓State.key_mk, ↓State.key_fold, State.key_ite, State.key_foldl, keeps_next_iff, keepsC_ok, keepsC_error, keepsR_ok, keepsR_error, ite_self, implies_true, State.updGen_key]))))

theorem effectStartOp_key : effectStartOp.Keeps := by
  unfold Op.Keeps effectStartOp; (try trivial); (try (intro r n s; (try simp only [State.updGen_key]); (repeat' (first | (refine keepsR_bind _ _ _ ?_; intro _) | split) <;> (try simp only [↓State.key_mk, ↓State.key_fold, State.key_ite, State.key_foldl, keeps_next_iff, keepsC_ok, keepsC_error, keepsR_ok, keepsR_error, ite_self, implies_true, State.updGen_key]))))

theorem effectStopOp_key : effectStopOp.Keeps := by
  unfold Op.Keeps effectStopOp; (try trivial); (try (intro r n s; (try simp only [State.updGen_key]); (repeat' (first | (refine keepsR_bind _ _ _ ?_; intro _) | split) <;> (try simp only [↓State.key_mk, ↓State.key_fold, State.key_ite, State.key_foldl, keeps_next_iff, keepsC_ok, keepsC_error, keepsR_ok, keepsR_error, ite_self, implies_true, State.updGen_key]))))

theorem effectPhaseOp_key : effectPhaseOp.Keeps := by
  unfold Op.Keeps effectPhaseOp; (try trivial); (try (intro r n s; (try simp only [State.updGen_key]); (repeat' (first | (refine keepsR_bind _ _ _ ?_; intro _) | split) <;> (try simp only [↓State.key_mk, ↓State.key_fold, State.key_ite, State.key_foldl, keeps_next_iff, keepsC_ok, keepsC_error, keepsR_ok, keepsR_error, ite_self, implies_true, State.updGen_key]))))

theorem State.cutEffects_key : ∀ x0 s, (State.cutEffects x0 s).key = s.key := by
  intros; unfold State.cutEffects; simp only [State.key_foldl, implies_true, State.updGen_key]

theorem effectStatusOp_key : effectStatusOp.Keeps := by
  unfold Op.Keeps effectStatusOp; (try trivial); (try (intro r s; (try simp only []); (repeat' (first | (refine keepsR_bind _ _ _ ?_; intro _) | split) <;> (try simp only [keepsR_ok]))))

theorem State.pressEffects_key : ∀ x0 x1 s, (State.pressEffects x0 x1 s).key = s.key := by
  intros; unfold State.pressEffects; simp only [↓State.key_mk, ↓State.key_fold]

theorem State.cutParams_key : ∀ s, (State.cutParams s).key = s.key := by
  intros; unfold State.cutParams; simp only [↓State.key_mk, ↓State.key_fold]

theorem State.pressParams_key : ∀ x0 x1 s, (State.pressParams x0 x1 s).key = s.key := by
  intros; unfold State.pressParams; simp only [↓State.key_mk, ↓State.key_fold]

theorem execEffectDefine_key : ∀ x0 s, Keeps s.key (execEffectDefine x0 s) := by
  exact fun r s => hostCommand_key _ r s effectDefineOp_key

theorem execEffectAssign_key : ∀ x0 s, Keeps s.key (execEffectAssign x0 s) := by
  exact fun r s => hostCommand_key _ r s effectAssignOp_key

theorem execEffectRate_key : ∀ x0 s, Keeps s.key (execEffectRate x0 s) := by
  exact fun r s => hostCommand_key _ r s effectRateOp_key

theorem execEffectSize_key : ∀ x0 s, Keeps s.key (execEffectSize x0 s) := by
  exact fun r s => hostCommand_key _ r s effectSizeOp_key

theorem execEffectStart_key : ∀ x0 s, Keeps s.key (execEffectStart x0 s) := by
  exact fun r s => hostCommand_key _ r s effectStartOp_key

theorem execEffectStop_key : ∀ x0 s, Keeps s.key (execEffectStop x0 s) := by
  exact fun r s => hostCommand_key _ r s effectStopOp_key

theorem execEffectPhase_key : ∀ x0 s, Keeps s.key (execEffectPhase x0 s) := by
  exact fun r s => hostCommand_key _ r s effectPhaseOp_key

theorem execEffectStatus_key : ∀ x0 s, Keeps s.key (execEffectStatus x0 s) := by
  exact fun r s => hostCommand_key _ r s effectStatusOp_key

theorem State.updInput_key : ∀ x0 x1 s, (State.updInput x0 x1 s).key = s.key := by
  intros; unfold State.updInput; simp only [↓State.key_mk, ↓State.key_fold]

theorem State.updPort_key : ∀ x0 x1 s, (State.updPort x0 x1 s).key = s.key := by
  intros; unfold State.updPort; simp only [↓State.key_mk, ↓State.key_fold]

theorem State.updDmx_key : ∀ x0 x1 s, (State.updDmx x0 x1 s).key = s.key := by
  intros; unfold State.updDmx; simp only [↓State.key_mk, ↓State.key_fold]

theorem State.setFifo_key : ∀ x0 x1 s, (State.setFifo x0 x1 s).key = s.key := by
  intros; unfold State.setFifo; (try simp only [↓State.key_mk, ↓State.key_fold, State.key_ite, State.key_foldl, keeps_next_iff, keepsC_ok, keepsC_error, keepsR_ok, keepsR_error, ite_self, implies_true, State.updInput_key, State.updLane_key, State.updPort_key, State.updDmx_key]); (repeat' ((first | (refine keeps_ite _ _ _ _ ?_ ?_) | (refine keepsC_bind _ _ _ ?_; intro _) | split | (refine (State.key_foldl _ _ _ ?_).trans ?_; intro _ _)) <;> (try simp only [State.updInput_key, State.updLane_key, State.updPort_key, State.updDmx_key])))

theorem State.windowReturn_key : ∀ x0 x1 x2 x3 s, (State.windowReturn x0 x1 x2 x3 s).2.key = s.key := by
  intros; unfold State.windowReturn; (try simp only [↓State.key_mk, ↓State.key_fold, State.key_ite, State.key_foldl, keeps_next_iff, keepsC_ok, keepsC_error, keepsR_ok, keepsR_error, ite_self, implies_true, State.setFifo_key]); (repeat' ((first | (refine keeps_ite _ _ _ _ ?_ ?_) | (refine keepsC_bind _ _ _ ?_; intro _) | split | (refine (State.key_foldl _ _ _ ?_).trans ?_; intro _ _)) <;> (try simp only [State.setFifo_key])))

theorem State.windowEnd_key : ∀ x0 x1 s, (State.windowEnd x0 x1 s).2.key = s.key := by
  intros; unfold State.windowEnd; (try simp only [↓State.key_mk, ↓State.key_fold, State.key_ite, State.key_foldl, keeps_next_iff, keepsC_ok, keepsC_error, keepsR_ok, keepsR_error, ite_self, implies_true, State.windowReturn_key]); (repeat' ((first | (refine keeps_ite _ _ _ _ ?_ ?_) | (refine keepsC_bind _ _ _ ?_; intro _) | split | (refine (State.key_foldl _ _ _ ?_).trans ?_; intro _ _)) <;> (try simp only [State.windowReturn_key])))

theorem State.readEnd_key : ∀ a b x, (State.readEnd a b x).key = x.2.key := by
  intros; unfold State.readEnd; rw [State.emit_key]

theorem State.endWait_key : ∀ x0 x1 s, (State.endWait x0 x1 s).key = s.key := by
  intros; unfold State.endWait; (try simp only [↓State.key_mk, ↓State.key_fold, State.key_ite, State.key_foldl, keeps_next_iff, keepsC_ok, keepsC_error, keepsR_ok, keepsR_error, ite_self, implies_true, State.readEnd_key, State.windowEnd_key]); (repeat' ((first | (refine keeps_ite _ _ _ _ ?_ ?_) | (refine keepsC_bind _ _ _ ?_; intro _) | split | (refine (State.key_foldl _ _ _ ?_).trans ?_; intro _ _)) <;> (try simp only [↓State.key_mk, ↓State.key_fold, State.key_ite, State.key_foldl, keeps_next_iff, keepsC_ok, keepsC_error, keepsR_ok, keepsR_error, ite_self, implies_true, State.readEnd_key, State.windowEnd_key])))

theorem State.serveReads_key : ∀ x0 s, (State.serveReads x0 s).key = s.key := by
  intros; unfold State.serveReads; simp only [State.key_ite, State.key_foldl, ite_self, implies_true, State.endWait_key]

theorem State.arrive_key : ∀ x0 x1 x2 s, (State.arrive x0 x1 x2 s).key = s.key := by
  intros; unfold State.arrive; simp only [State.serveReads_key, State.setFifo_key]

theorem State.laneSend_key : ∀ x0 x1 x2 x3 x4 x5 x6 s, (State.laneSend x0 x1 x2 x3 x4 x5 x6 s).key = s.key := by
  intros; unfold State.laneSend; (try simp only [↓State.key_mk, ↓State.key_fold, State.key_ite, State.key_foldl, keeps_next_iff, keepsC_ok, keepsC_error, keepsR_ok, keepsR_error, ite_self, implies_true, State.start_key, State.emit_key, State.updLane_key]); (repeat' ((first | (refine keeps_ite _ _ _ _ ?_ ?_) | (refine keepsC_bind _ _ _ ?_; intro _) | split | (refine (State.key_foldl _ _ _ ?_).trans ?_; intro _ _)) <;> (try simp only [↓State.key_mk, ↓State.key_fold, State.key_ite, State.key_foldl, keeps_next_iff, keepsC_ok, keepsC_error, keepsR_ok, keepsR_error, ite_self, implies_true, State.start_key, State.emit_key, State.updLane_key])))

theorem State.arpRequest_key : ∀ x0 x1 s, (State.arpRequest x0 x1 s).key = s.key := by
  intros; unfold State.arpRequest; simp only [State.laneSend_key]

theorem State.igmpReport_key : ∀ x0 x1 s, (State.igmpReport x0 x1 s).key = s.key := by
  intros; unfold State.igmpReport; simp only [State.key_ite, ite_self, State.laneSend_key]

theorem State.macReceive_key : ∀ n r b f s, (∀ t, (f t).key = t.key) → (State.macReceive n r b f s).key = s.key := by
  intro n r b f s h
  unfold State.macReceive
  exact key_ite_of _ _ _ _ (State.updLane_key _ _ _) (key_ite_of _ _ _ _ (State.updLane_key _ _ _) (h s))

theorem State.receive_key : ∀ n r f s, (∀ t, (f t).key = t.key) → (State.receive n r f s).key = s.key := by
  intro n r f s h
  unfold State.receive
  refine key_ite_of _ _ _ _ (key_ite_of _ _ _ _ (h s) rfl) ?_
  split
  · rfl
  · exact State.macReceive_key _ _ _ _ _ h

theorem State.receivePair_key : ∀ r f s, (∀ t, (f t).key = t.key) → (State.receivePair r f s).key = s.key := by
  intro r f s h
  unfold State.receivePair
  split
  · rfl
  · exact State.macReceive_key _ _ _ _ _ h

theorem State.updDom_key : ∀ x0 x1 s, (State.updDom x0 x1 s).key = s.key := by
  intros; unfold State.updDom; simp only [↓State.key_mk, ↓State.key_fold, State.key_ite, ite_self]

theorem State.stepBy_key : ∀ x0 s, (State.stepBy x0 s).key = s.key := by
  intros; unfold State.stepBy; simp only [↓State.key_mk, ↓State.key_fold, State.raise_key]

theorem State.stepTo_key : ∀ x0 x1 s, (State.stepTo x0 x1 s).key = s.key := by
  intros; unfold State.stepTo; simp only [State.key_ite, ite_self, State.stepBy_key, State.updDom_key]

theorem State.changeSource_key : ∀ x0 s, (State.changeSource x0 s).key = s.key := by
  intros; unfold State.changeSource; simp only [↓State.key_mk, ↓State.key_fold, State.key_ite, ite_self, State.raise_key, State.stepTo_key]

theorem State.firstLock_key : ∀ s, (State.firstLock s).key = s.key := by
  intros; unfold State.firstLock; simp only [State.key_ite, ite_self, State.changeSource_key]

theorem State.setSrc_key : ∀ x0 x1 s, (State.setSrc x0 x1 s).key = s.key := by
  intros; unfold State.setSrc; simp only [↓State.key_mk, ↓State.key_fold, State.key_ite, ite_self, State.raise_key, State.firstLock_key]

theorem State.setFreq_key : ∀ x0 s, (State.setFreq x0 s).key = s.key := by
  intros; unfold State.setFreq; simp only [↓State.key_mk, ↓State.key_fold, State.key_ite, ite_self]

theorem State.steerBy_key : ∀ x0 x1 x2 x3 x4 s, (State.steerBy x0 x1 x2 x3 x4 s).key = s.key := by
  intros; unfold State.steerBy; simp only [↓State.key_mk, ↓State.key_fold, State.key_ite, ite_self, State.setFreq_key, State.stepTo_key]

theorem State.measure_key : ∀ x0 x1 x2 x3 x4 s, (State.measure x0 x1 x2 x3 x4 s).key = s.key := by
  intros; unfold State.measure; simp only [↓State.key_mk, ↓State.key_fold, State.key_ite, ite_self, State.steerBy_key, State.setSrc_key]

theorem State.loseSource_key : ∀ x0 s, (State.loseSource x0 s).key = s.key := by
  intros; unfold State.loseSource; simp only [State.key_ite, ite_self, State.setSrc_key]

theorem State.ptpPorts_key : ∀ s, (State.ptpPorts s).key = s.key := by
  intros; unfold State.ptpPorts; (try simp only []); (repeat' ((first | (refine keeps_ite _ _ _ _ ?_ ?_) | (refine keepsC_bind _ _ _ ?_; intro _) | split | (refine (State.key_foldl _ _ _ ?_).trans ?_; intro _ _)) <;> (try simp only [State.key_ite, ite_self, State.setSrc_key])))

theorem State.takeMaster_key : ∀ x0 s, (State.takeMaster x0 s).key = s.key := by
  intros; unfold State.takeMaster; simp only [State.setSrc_key, State.updDom_key]

theorem State.selectMaster_key : ∀ x0 x1 s, (State.selectMaster x0 x1 s).key = s.key := by
  intros; unfold State.selectMaster; simp only [State.key_ite, ite_self, State.updDom_key, State.setSrc_key]

theorem State.runBmc_key : ∀ x0 x1 x2 s, (State.runBmc x0 x1 x2 s).key = s.key := by
  intros; unfold State.runBmc; (try simp only []); (repeat' ((first | (refine keeps_ite _ _ _ _ ?_ ?_) | (refine keepsC_bind _ _ _ ?_; intro _) | split | (refine (State.key_foldl _ _ _ ?_).trans ?_; intro _ _)) <;> (try simp only [State.key_ite, ite_self, State.takeMaster_key, State.updDom_key, State.setSrc_key, State.selectMaster_key])))

theorem State.latePtp_key : ∀ x0 s, (State.latePtp x0 s).key = s.key := by
  intros; unfold State.latePtp; simp only [↓State.key_mk, ↓State.key_fold, State.updDom_key]

theorem State.useAnnounce_key : ∀ x0 x1 s, (State.useAnnounce x0 x1 s).key = s.key := by
  intros; unfold State.useAnnounce; simp only [State.key_ite, ite_self, State.latePtp_key, State.runBmc_key, State.updDom_key]

theorem execPtpAnnounceRx_key : ∀ x0 s, Keeps s.key (execPtpAnnounceRx x0 s) := by
  intros; unfold execPtpAnnounceRx; (try simp only [keeps_next_iff]); (repeat' ((first | (refine State.receive_key _ _ _ _ ?_; intro _) | (refine keeps_ite _ _ _ _ ?_ ?_) | (refine keepsC_bind _ _ _ ?_; intro _) | split | (refine (State.key_foldl _ _ _ ?_).trans ?_; intro _ _)) <;> (try simp only [State.key_ite, State.useAnnounce_key])))

theorem State.useSync_key : ∀ x0 x1 x2 x3 x4 s, (State.useSync x0 x1 x2 x3 x4 s).key = s.key := by
  intros; unfold State.useSync; simp only [State.updDom_key, State.measure_key]

theorem State.ptpPacket_key : ∀ x0 x1 x2 x3 x4 x5 s, (State.ptpPacket x0 x1 x2 x3 x4 x5 s).key = s.key := by
  intros; unfold State.ptpPacket; simp only [State.laneSend_key]

theorem State.onDomain_key : ∀ n f s, (∀ d t, (f d t).key = t.key) → (State.onDomain n f s).key = s.key := by
  intro n f s h
  unfold State.onDomain
  refine key_ite_of _ _ _ _ rfl ?_
  split
  · rfl
  · exact h _ s

theorem State.receivePtp_key : ∀ p f s, (∀ d t, (f d t).key = t.key) → (State.receivePtp p f s).key = s.key := by
  intro p f s h
  exact State.receive_key _ _ _ _ fun t => State.onDomain_key _ _ _ h

theorem execPtpSyncRx_key : ∀ x0 s, Keeps s.key (execPtpSyncRx x0 s) := by
  intros; unfold execPtpSyncRx; simp only [State.key_ite, keeps_next_iff, ite_self, implies_true, State.receivePtp_key, State.latePtp_key, State.updDom_key, State.useSync_key]

theorem execPtpFollowUpRx_key : ∀ x0 s, Keeps s.key (execPtpFollowUpRx x0 s) := by
  intros; unfold execPtpFollowUpRx; (try simp only [keeps_next_iff]); (repeat' ((first | (refine State.receivePtp_key _ _ _ ?_; intro _ _) | (refine keeps_ite _ _ _ _ ?_ ?_) | (refine keepsC_bind _ _ _ ?_; intro _) | split | (refine (State.key_foldl _ _ _ ?_).trans ?_; intro _ _)) <;> (try simp only [State.key_ite, ite_self, State.useSync_key, State.updDom_key, State.latePtp_key])))

theorem execPtpDelayReqRx_key : ∀ x0 s, Keeps s.key (execPtpDelayReqRx x0 s) := by
  intros; unfold execPtpDelayReqRx; simp only [State.key_ite, keeps_next_iff, ite_self, implies_true, State.receivePtp_key, State.ptpPacket_key]

theorem execPtpDelayRespRx_key : ∀ x0 s, Keeps s.key (execPtpDelayRespRx x0 s) := by
  intros; unfold execPtpDelayRespRx; (try simp only [keeps_next_iff]); (repeat' ((first | (refine State.receivePtp_key _ _ _ ?_; intro _ _) | (refine keeps_ite _ _ _ _ ?_ ?_) | (refine keepsC_bind _ _ _ ?_; intro _) | split | (refine (State.key_foldl _ _ _ ?_).trans ?_; intro _ _)) <;> (try simp only [State.key_ite, ite_self, State.updDom_key, State.latePtp_key])))

theorem execAnnounceReceiptTimeout_key : ∀ x0 s, Keeps s.key (execAnnounceReceiptTimeout x0 s) := by
  intros; unfold execAnnounceReceiptTimeout; simp only [keeps_next_iff, implies_true, State.onDomain_key, State.advanceNow_key, State.updDom_key, State.runBmc_key, State.loseSource_key]

theorem execSyncReceiptTimeout_key : ∀ x0 s, Keeps s.key (execSyncReceiptTimeout x0 s) := by
  intros; unfold execSyncReceiptTimeout; simp only [State.key_ite, keeps_next_iff, ite_self, implies_true, State.onDomain_key, State.advanceNow_key, State.loseSource_key, State.updDom_key]

theorem execFollowUpTimeout_key : ∀ x0 s, Keeps s.key (execFollowUpTimeout x0 s) := by
  intros; unfold execFollowUpTimeout; (try simp only [keeps_next_iff]); (repeat' ((first | (refine State.onDomain_key _ _ _ ?_; intro _ _) | (refine keeps_ite _ _ _ _ ?_ ?_) | (refine keepsC_bind _ _ _ ?_; intro _) | split | (refine (State.key_foldl _ _ _ ?_).trans ?_; intro _ _)) <;> (try simp only [State.updDom_key, State.advanceNow_key])))

theorem execDelayRespTimeout_key : ∀ x0 s, Keeps s.key (execDelayRespTimeout x0 s) := by
  intros; unfold execDelayRespTimeout; (try simp only [keeps_next_iff]); (repeat' ((first | (refine State.onDomain_key _ _ _ ?_; intro _ _) | (refine keeps_ite _ _ _ _ ?_ ?_) | (refine keepsC_bind _ _ _ ?_; intro _) | split | (refine (State.key_foldl _ _ _ ?_).trans ?_; intro _ _)) <;> (try simp only [State.updDom_key, State.advanceNow_key])))

theorem execPtpSyncInterval_key : ∀ x0 s, Keeps s.key (execPtpSyncInterval x0 s) := by
  intros; unfold execPtpSyncInterval; simp only [State.key_ite, State.key_foldl, keeps_next_iff, ite_self, implies_true, State.onDomain_key, State.ptpPacket_key, State.updDom_key]

theorem execPtpAnnounceInterval_key : ∀ x0 s, Keeps s.key (execPtpAnnounceInterval x0 s) := by
  intros; unfold execPtpAnnounceInterval; simp only [State.key_ite, State.key_foldl, keeps_next_iff, ite_self, implies_true, State.onDomain_key, State.ptpPacket_key, State.updDom_key]

theorem execDelayReqInterval_key : ∀ x0 s, Keeps s.key (execDelayReqInterval x0 s) := by
  intros; unfold execDelayReqInterval; (try simp only [keeps_next_iff]); (repeat' ((first | (refine State.onDomain_key _ _ _ ?_; intro _ _) | (refine keeps_ite _ _ _ _ ?_ ?_) | (refine keepsC_bind _ _ _ ?_; intro _) | split | (refine (State.key_foldl _ _ _ ?_).trans ?_; intro _ _)) <;> (try simp only [State.key_ite, ite_self, State.ptpPacket_key, State.updDom_key])))

theorem execLtcCodeword_key : ∀ x0 s, Keeps s.key (execLtcCodeword x0 s) := by
  intros; unfold execLtcCodeword; (try simp only []); (repeat' ((first | (refine keeps_ite _ _ _ _ ?_ ?_) | (refine keepsC_bind _ _ _ ?_; intro _) | split | (refine (State.key_foldl _ _ _ ?_).trans ?_; intro _ _)) <;> (try simp only [↓State.key_mk, ↓State.key_fold, State.key_ite, keeps_next_iff, ite_self, State.raise_key, State.loseSource_key, State.measure_key])))

theorem execLtcCodewordMissing_key : ∀ s, Keeps s.key (execLtcCodewordMissing s) := by
  intros; unfold execLtcCodewordMissing; (try simp only []); (repeat' ((first | (refine keeps_ite _ _ _ _ ?_ ?_) | (refine keepsC_bind _ _ _ ?_; intro _) | split | (refine (State.key_foldl _ _ _ ?_).trans ?_; intro _ _)) <;> (try simp only [↓State.key_mk, ↓State.key_fold, State.key_ite, keeps_next_iff, ite_self, State.loseSource_key])))

theorem execFsyncEdge_key : ∀ x0 s, Keeps s.key (execFsyncEdge x0 s) := by
  intros; unfold execFsyncEdge; (try simp only []); (repeat' ((first | (refine keeps_ite _ _ _ _ ?_ ?_) | (refine keepsC_bind _ _ _ ?_; intro _) | split | (refine (State.key_foldl _ _ _ ?_).trans ?_; intro _ _)) <;> (try simp only [↓State.key_mk, ↓State.key_fold, State.key_ite, keeps_next_iff, ite_self, State.stepBy_key, State.measure_key])))

theorem execFsyncEdgeMissing_key : ∀ s, Keeps s.key (execFsyncEdgeMissing s) := by
  intros; unfold execFsyncEdgeMissing; (try simp only []); (repeat' ((first | (refine keeps_ite _ _ _ _ ?_ ?_) | (refine keepsC_bind _ _ _ ?_; intro _) | split | (refine (State.key_foldl _ _ _ ?_).trans ?_; intro _ _)) <;> (try simp only [↓State.key_mk, ↓State.key_fold, State.key_ite, keeps_next_iff, ite_self, State.loseSource_key])))

theorem execAutoSwitch_key : ∀ x0 s, Keeps s.key (execAutoSwitch x0 s) := by
  intros; unfold execAutoSwitch; (try simp only []); (repeat' ((first | (refine keeps_ite _ _ _ _ ?_ ?_) | (refine keepsC_bind _ _ _ ?_; intro _) | split | (refine (State.key_foldl _ _ _ ?_).trans ?_; intro _ _)) <;> (try simp only [keeps_next_iff, State.changeSource_key, State.advanceNow_key])))

theorem execSourceReversion_key : ∀ s, Keeps s.key (execSourceReversion s) := by
  intros; unfold execSourceReversion; (try simp only []); (repeat' ((first | (refine keeps_ite _ _ _ _ ?_ ?_) | (refine keepsC_bind _ _ _ ?_; intro _) | split | (refine (State.key_foldl _ _ _ ?_).trans ?_; intro _ _)) <;> (try simp only [keeps_next_iff, State.changeSource_key, State.advanceNow_key])))

theorem execSlewComplete_key : ∀ s, Keeps s.key (execSlewComplete s) := by
  intros; unfold execSlewComplete; simp only [keeps_next_iff, State.elapse_key]

theorem domainSelectOp_key : domainSelectOp.Keeps := by
  unfold Op.Keeps domainSelectOp; (try trivial); (try (intro r s; (try simp only []); (repeat' (first | (refine keepsR_bind _ _ _ ?_; intro _) | split) <;> (try simp only [↓State.key_mk, ↓State.key_fold, keepsR_ok, State.changeSource_key]))))

theorem State.timeSet_key : ∀ s, (State.timeSet s).key = s.key := by
  intros; unfold State.timeSet; simp only [↓State.key_mk, ↓State.key_fold, State.key_ite, ite_self, State.stepBy_key]

theorem execTimeSet_key : ∀ s, Keeps s.key (execTimeSet s) := by
  intros; unfold execTimeSet; simp only [keeps_next_iff, State.timeSet_key]

theorem timeConfigOp_key : timeConfigOp.Keeps := trivial

theorem State.restartSource_key : ∀ x0 x1 s, (State.restartSource x0 x1 s).key = s.key := by
  intros; unfold State.restartSource; (try simp only [State.setSrc_key]); (repeat' ((first | (refine keeps_ite _ _ _ _ ?_ ?_) | (refine keepsC_bind _ _ _ ?_; intro _) | split | (refine (State.key_foldl _ _ _ ?_).trans ?_; intro _ _)) <;> (try simp only [↓State.key_mk, ↓State.key_fold, State.updDom_key])))

theorem State.pressTime_key : ∀ x0 x1 s, (State.pressTime x0 x1 s).key = s.key := by
  intros; unfold State.pressTime; simp only [↓State.key_mk, ↓State.key_fold, State.key_ite, State.key_foldl, ite_self, implies_true, State.restartSource_key, State.changeSource_key]

theorem State.timeStatusBytes_key : ∀ s, (State.timeStatusBytes s).2.key = s.key := by
  intros; unfold State.timeStatusBytes; simp only [State.draw_key]

theorem timeStatusOp_key : timeStatusOp.Keeps := by
  unfold Op.Keeps timeStatusOp; (try trivial); (try (intro r s; (try simp only [keepsR_ok, State.timeStatusBytes_key]); (repeat' (first | (refine keepsR_bind _ _ _ ?_; intro _) | split) <;> (try simp only [↓State.key_mk, ↓State.key_fold, State.key_ite, State.key_foldl, keeps_next_iff, keepsC_ok, keepsC_error, keepsR_ok, keepsR_error, ite_self, implies_true, State.timeStatusBytes_key]))))

theorem triggerDefineOp_key : triggerDefineOp.Keeps := trivial

theorem State.updUnit_key : ∀ x0 x1 s, (State.updUnit x0 x1 s).key = s.key := by
  intros; unfold State.updUnit; simp only [↓State.key_mk, ↓State.key_fold]

theorem State.armUnit_key : ∀ x0 x1 s, (State.armUnit x0 x1 s).key = s.key := by
  intros; unfold State.armUnit; simp only [State.key_ite, ite_self, State.updUnit_key, State.raise_key]

theorem State.unitCtrl_key : ∀ x0 x1 s, (State.unitCtrl x0 x1 s).key = s.key := by
  intros; unfold State.unitCtrl; simp only [State.key_ite, ite_self, State.armUnit_key, State.updUnit_key]

theorem execTtuArm_key : ∀ x0 x1 s, Keeps s.key (execTtuArm x0 x1 s) := by
  intros; unfold execTtuArm; (try simp only [↓State.key_mk, ↓State.key_fold, State.key_ite, State.key_foldl, keeps_next_iff, keepsC_ok, keepsC_error, keepsR_ok, keepsR_error, ite_self, implies_true, State.unitCtrl_key]); (repeat' ((first | (refine keeps_ite _ _ _ _ ?_ ?_) | (refine keepsC_bind _ _ _ ?_; intro _) | split | (refine (State.key_foldl _ _ _ ?_).trans ?_; intro _ _)) <;> (try simp only [keeps_next_iff, State.unitCtrl_key])))

theorem execTtuDisarm_key : ∀ x0 s, Keeps s.key (execTtuDisarm x0 s) := by
  intros; unfold execTtuDisarm; (try simp only [↓State.key_mk, ↓State.key_fold, State.key_ite, State.key_foldl, keeps_next_iff, keepsC_ok, keepsC_error, keepsR_ok, keepsR_error, ite_self, implies_true, State.unitCtrl_key]); (repeat' ((first | (refine keeps_ite _ _ _ _ ?_ ?_) | (refine keepsC_bind _ _ _ ?_; intro _) | split | (refine (State.key_foldl _ _ _ ?_).trans ?_; intro _ _)) <;> (try simp only [keeps_next_iff, State.unitCtrl_key])))

theorem State.fireUnit_key : ∀ x0 x1 s, (State.fireUnit x0 x1 s).key = s.key := by
  intros; unfold State.fireUnit; simp only [State.key_ite, ite_self, State.advanceTo_key, State.raise_key, State.updUnit_key, State.drive_key]

theorem State.captureEdge_key : ∀ x0 x1 x2 s, (State.captureEdge x0 x1 x2 s).key = s.key := by
  intros; unfold State.captureEdge; simp only [State.key_ite, ite_self, State.updInput_key, State.arrive_key]

theorem State.ttiRinse_key : ∀ x0 s, (State.ttiRinse x0 s).key = s.key := by
  intros; unfold State.ttiRinse; simp only [State.updInput_key]

theorem execTtiRinse_key : ∀ x0 s, Keeps s.key (execTtiRinse x0 s) := by
  intros; unfold execTtiRinse; (try simp only [↓State.key_mk, ↓State.key_fold, State.key_ite, State.key_foldl, keeps_next_iff, keepsC_ok, keepsC_error, keepsR_ok, keepsR_error, ite_self, implies_true, State.ttiRinse_key]); (repeat' ((first | (refine keeps_ite _ _ _ _ ?_ ?_) | (refine keepsC_bind _ _ _ ?_; intro _) | split | (refine (State.key_foldl _ _ _ ?_).trans ?_; intro _ _)) <;> (try simp only [keeps_next_iff, State.ttiRinse_key])))

theorem State.timeLatch_key : ∀ x0 s, (State.timeLatch x0 s).key = s.key := by
  intros; unfold State.timeLatch; (try simp only []); (repeat' ((first | (refine keeps_ite _ _ _ _ ?_ ?_) | (refine keepsC_bind _ _ _ ?_; intro _) | split | (refine (State.key_foldl _ _ _ ?_).trans ?_; intro _ _)) <;> (try simp only [↓State.key_mk, ↓State.key_fold])))

theorem State.timeWrite_key : ∀ x0 x1 s, (State.timeWrite x0 x1 s).key = s.key := by
  intros; unfold State.timeWrite; (try simp only [State.key_ite, ite_self, State.unitCtrl_key, State.updUnit_key, State.updInput_key, State.ttiRinse_key]); (repeat' ((first | (refine keeps_ite _ _ _ _ ?_ ?_) | (refine keepsC_bind _ _ _ ?_; intro _) | split | (refine (State.key_foldl _ _ _ ?_).trans ?_; intro _ _)) <;> (try simp only [↓State.key_mk, ↓State.key_fold, State.key_ite, ite_self, State.timeSet_key])))

theorem execTimeConfig_key : ∀ x0 s, Keeps s.key (execTimeConfig x0 s) := by
  exact fun r s => hostCommand_key _ r s timeConfigOp_key

theorem execTimeStatus_key : ∀ x0 s, Keeps s.key (execTimeStatus x0 s) := by
  exact fun r s => hostCommand_key _ r s timeStatusOp_key

theorem execDomainSelect_key : ∀ x0 s, Keeps s.key (execDomainSelect x0 s) := by
  exact fun r s => hostCommand_key _ r s domainSelectOp_key

theorem execTriggerDefine_key : ∀ x0 s, Keeps s.key (execTriggerDefine x0 s) := by
  exact fun r s => hostCommand_key _ r s triggerDefineOp_key

end Sys2Proof.Machine
end

