-- ==== Sys2Proof/Laws/FrameOutput.lean ====
section
/-! SUPPORT. The fuses, the queue and the flash stay (see Frame): the definitions of networks, colour, canvases, ports and the scheduler. -/

namespace Sys2Proof.Machine

theorem laneDefineOp_key : laneDefineOp.Keeps := trivial

theorem flowDefineOp_key : flowDefineOp.Keeps := trivial

theorem flowDeleteOp_key : flowDeleteOp.Keeps := trivial

theorem sacnOutDefineOp_key : sacnOutDefineOp.Keeps := trivial

theorem sacnRxDefineOp_key : sacnRxDefineOp.Keeps := trivial

theorem ixnikDefineOp_key : ixnikDefineOp.Keeps := trivial

theorem flowEnableOp_key : flowEnableOp.Keeps := by
  unfold Op.Keeps flowEnableOp; (try trivial); (try (intro r n s; (try simp only [State.updFlow_key]); (repeat' (first | (refine keepsR_bind _ _ _ ?_; intro _) | split) <;> (try simp only [↓State.key_mk, ↓State.key_fold, State.key_ite, State.key_foldl, keeps_next_iff, keepsC_ok, keepsC_error, keepsR_ok, keepsR_error, ite_self, implies_true, State.updFlow_key]))))

theorem State.rinseFlow_key : ∀ x0 s, (State.rinseFlow x0 s).key = s.key := by
  intros; unfold State.rinseFlow; simp only [State.updFlow_key, State.completeAny_key]

theorem flowRinseOp_key : flowRinseOp.Keeps := by
  unfold Op.Keeps flowRinseOp; (try trivial); (try (intro r s; (try simp only []); (repeat' (first | (refine keepsR_bind _ _ _ ?_; intro _) | split) <;> (try simp only [keepsR_ok, State.updFlow_key, State.rinseFlow_key]))))

theorem flowStatsOp_key : flowStatsOp.Keeps := by
  unfold Op.Keeps flowStatsOp; (try trivial); (try (intro r s; (try simp only []); (repeat' (first | (refine keepsR_bind _ _ _ ?_; intro _) | split) <;> (try simp only [keepsR_ok]))))

theorem State.raiseDown_key : ∀ x0 s, (State.raiseDown x0 s).key = s.key := by
  intros; unfold State.raiseDown; (try simp only [↓State.key_mk, ↓State.key_fold, State.key_ite, State.key_foldl, keeps_next_iff, keepsC_ok, keepsC_error, keepsR_ok, keepsR_error, ite_self, implies_true, State.raise_key]); (repeat' ((first | (refine keeps_ite _ _ _ _ ?_ ?_) | (refine keepsC_bind _ _ _ ?_; intro _) | split | (refine (State.key_foldl _ _ _ ?_).trans ?_; intro _ _)) <;> (try simp only [↓State.key_mk, ↓State.key_fold, State.key_ite, State.key_foldl, keeps_next_iff, keepsC_ok, keepsC_error, keepsR_ok, keepsR_error, ite_self, implies_true, State.raise_key])))

theorem State.dropLink_key : ∀ x0 s, (State.dropLink x0 s).key = s.key := by
  intros; unfold State.dropLink; (try simp only [↓State.key_mk, ↓State.key_fold, State.key_ite, State.key_foldl, keeps_next_iff, keepsC_ok, keepsC_error, keepsR_ok, keepsR_error, ite_self, implies_true, State.emit_key, State.updLane_key, State.raiseDown_key]); (repeat' ((first | (refine keeps_ite _ _ _ _ ?_ ?_) | (refine keepsC_bind _ _ _ ?_; intro _) | split | (refine (State.key_foldl _ _ _ ?_).trans ?_; intro _ _)) <;> (try simp only [↓State.key_mk, ↓State.key_fold, State.key_ite, State.key_foldl, keeps_next_iff, keepsC_ok, keepsC_error, keepsR_ok, keepsR_error, ite_self, implies_true, State.emit_key, State.updLane_key, State.raiseDown_key])))

theorem execLaneLinkUp_key : ∀ x0 x1 x2 s, Keeps s.key (execLaneLinkUp x0 x1 x2 s) := by
  intros; unfold execLaneLinkUp; (try simp only [↓State.key_mk, ↓State.key_fold, State.key_ite, State.key_foldl, keeps_next_iff, keepsC_ok, keepsC_error, keepsR_ok, keepsR_error, ite_self, implies_true, State.updLane_key, State.dropLink_key, State.ptpPorts_key, State.raiseDown_key, State.raise_key, State.emit_key]); (repeat' ((first | (refine keeps_ite _ _ _ _ ?_ ?_) | (refine keepsC_bind _ _ _ ?_; intro _) | split | (refine (State.key_foldl _ _ _ ?_).trans ?_; intro _ _)) <;> (try simp only [↓State.key_mk, ↓State.key_fold, State.key_ite, State.key_foldl, keeps_next_iff, keepsC_ok, keepsC_error, keepsR_ok, keepsR_error, ite_self, implies_true, State.updLane_key, State.dropLink_key, State.ptpPorts_key, State.raiseDown_key, State.raise_key, State.emit_key])))

theorem execLaneLinkDown_key : ∀ x0 s, Keeps s.key (execLaneLinkDown x0 s) := by
  intros; unfold execLaneLinkDown; (try simp only [↓State.key_mk, ↓State.key_fold, State.key_ite, State.key_foldl, keeps_next_iff, keepsC_ok, keepsC_error, keepsR_ok, keepsR_error, ite_self, implies_true, State.dropLink_key, State.ptpPorts_key]); (repeat' ((first | (refine keeps_ite _ _ _ _ ?_ ?_) | (refine keepsC_bind _ _ _ ?_; intro _) | split | (refine (State.key_foldl _ _ _ ?_).trans ?_; intro _ _)) <;> (try simp only [↓State.key_mk, ↓State.key_fold, State.key_ite, State.key_foldl, keeps_next_iff, keepsC_ok, keepsC_error, keepsR_ok, keepsR_error, ite_self, implies_true, State.dropLink_key, State.ptpPorts_key])))

theorem execArpPacketRx_key : ∀ x0 x1 x2 x3 x4 s, Keeps s.key (execArpPacketRx x0 x1 x2 x3 x4 s) := by
  intros; unfold execArpPacketRx; simp only [State.key_ite, keeps_next_iff, ite_self, implies_true, State.receive_key, State.updLane_key, State.laneSend_key]

theorem execArpRefresh_key : ∀ x0 x1 x2 s, Keeps s.key (execArpRefresh x0 x1 x2 s) := by
  intros; unfold execArpRefresh; (try simp only [↓State.key_mk, ↓State.key_fold, State.key_ite, State.key_foldl, keeps_next_iff, keepsC_ok, keepsC_error, keepsR_ok, keepsR_error, ite_self, implies_true, State.updLane_key, State.arpRequest_key]); (repeat' ((first | (refine keeps_ite _ _ _ _ ?_ ?_) | (refine keepsC_bind _ _ _ ?_; intro _) | split | (refine (State.key_foldl _ _ _ ?_).trans ?_; intro _ _)) <;> (try simp only [keeps_next_iff, State.updLane_key, State.arpRequest_key])))

theorem execIcmpEchoRx_key : ∀ x0 x1 x2 s, Keeps s.key (execIcmpEchoRx x0 x1 x2 s) := by
  intros; unfold execIcmpEchoRx; (try simp only [↓State.key_mk, ↓State.key_fold, State.key_ite, State.key_foldl, keeps_next_iff, keepsC_ok, keepsC_error, keepsR_ok, keepsR_error, ite_self, implies_true, State.receive_key, State.updLane_key, State.laneSend_key]); (repeat' ((first | (refine keeps_ite _ _ _ _ ?_ ?_) | (refine keepsC_bind _ _ _ ?_; intro _) | split | (refine (State.key_foldl _ _ _ ?_).trans ?_; intro _ _)) <;> (try simp only [↓State.key_mk, ↓State.key_fold, State.key_ite, State.key_foldl, keeps_next_iff, keepsC_ok, keepsC_error, keepsR_ok, keepsR_error, ite_self, implies_true, State.receive_key, State.updLane_key, State.laneSend_key])))

theorem execIgmpQueryRx_key : ∀ x0 x1 s, Keeps s.key (execIgmpQueryRx x0 x1 s) := by
  intros; unfold execIgmpQueryRx; simp only [State.key_foldl, keeps_next_iff, implies_true, State.receive_key, State.igmpReport_key]

theorem State.settleRx_key : ∀ x0 x1 s, (State.settleRx x0 x1 s).key = s.key := by
  intros; unfold State.settleRx; (try simp only []); (repeat' ((first | (refine keeps_ite _ _ _ _ ?_ ?_) | (refine keepsC_bind _ _ _ ?_; intro _) | split | (refine (State.key_foldl _ _ _ ?_).trans ?_; intro _ _)) <;> (try simp only [↓State.key_mk, ↓State.key_fold, State.key_ite, ite_self, State.raise_key])))

theorem State.useSacn_key : ∀ x0 x1 s, (State.useSacn x0 x1 s).key = s.key := by
  intros; unfold State.useSacn; simp only [↓State.key_mk, ↓State.key_fold, State.key_ite, ite_self, State.settleRx_key]

theorem execSacnDataRx_key : ∀ x0 s, Keeps s.key (execSacnDataRx x0 s) := by
  intros; unfold execSacnDataRx; (try simp only [keeps_next_iff]); (repeat' ((first | (refine State.receive_key _ _ _ _ ?_; intro _) | (refine keeps_ite _ _ _ _ ?_ ?_) | (refine keepsC_bind _ _ _ ?_; intro _) | split | (refine (State.key_foldl _ _ _ ?_).trans ?_; intro _ _)) <;> (try simp only [State.key_ite, ite_self, State.useSacn_key])))

theorem execSacnSyncRx_key : ∀ x0 x1 x2 s, Keeps s.key (execSacnSyncRx x0 x1 x2 s) := by
  intros; unfold execSacnSyncRx; simp only [State.key_ite, State.key_foldl, keeps_next_iff, ite_self, implies_true, State.receive_key, State.settleRx_key]

theorem execSacnSyncTimeout_key : ∀ x0 x1 s, Keeps s.key (execSacnSyncTimeout x0 x1 s) := by
  intros; unfold execSacnSyncTimeout; (try simp only []); (repeat' ((first | (refine keeps_ite _ _ _ _ ?_ ?_) | (refine keepsC_bind _ _ _ ?_; intro _) | split | (refine (State.key_foldl _ _ _ ?_).trans ?_; intro _ _)) <;> (try simp only [keeps_next_iff, State.settleRx_key, State.advanceNow_key])))

theorem execSacnSourceTimeout_key : ∀ x0 x1 s, Keeps s.key (execSacnSourceTimeout x0 x1 s) := by
  intros; unfold execSacnSourceTimeout; (try simp only []); (repeat' ((first | (refine keeps_ite _ _ _ _ ?_ ?_) | (refine keepsC_bind _ _ _ ?_; intro _) | split | (refine (State.key_foldl _ _ _ ?_).trans ?_; intro _ _)) <;> (try simp only [keeps_next_iff, State.advanceNow_key, State.settleRx_key])))

theorem execSacnDiscoveryTx_key : ∀ x0 s, Keeps s.key (execSacnDiscoveryTx x0 s) := by
  intros; unfold execSacnDiscoveryTx; (try simp only []); (repeat' ((first | (refine keeps_ite _ _ _ _ ?_ ?_) | (refine keepsC_bind _ _ _ ?_; intro _) | split | (refine (State.key_foldl _ _ _ ?_).trans ?_; intro _ _)) <;> (try simp only [State.key_ite, State.key_foldl, keeps_next_iff, ite_self, implies_true, State.laneSend_key])))

theorem State.freezeMap_key : ∀ x0 x1 x2 s, (State.freezeMap x0 x1 x2 s).key = s.key := by
  intros; unfold State.freezeMap; (try simp only []); (repeat' ((first | (refine keeps_ite _ _ _ _ ?_ ?_) | (refine keepsC_bind _ _ _ ?_; intro _) | split | (refine (State.key_foldl _ _ _ ?_).trans ?_; intro _ _)) <;> (try simp only [State.key_foldl, implies_true, State.updPar_key])))

theorem State.cutSacn_key : ∀ x0 s, (State.cutSacn x0 s).key = s.key := by
  intros; unfold State.cutSacn; simp only [State.key_foldl, implies_true, State.freezeMap_key]

theorem State.ageClaims_key : ∀ s, (State.ageClaims s).key = s.key := by
  intros; unfold State.ageClaims; simp only [↓State.key_mk, ↓State.key_fold]

theorem State.takeClaim_key : ∀ x0 x1 x2 s, (State.takeClaim x0 x1 x2 s).key = s.key := by
  intros; unfold State.takeClaim; simp only [↓State.key_mk, ↓State.key_fold, State.key_ite, ite_self, State.raise_key]

theorem State.useIxnik_key : ∀ x0 x1 x2 x3 s, (State.useIxnik x0 x1 x2 x3 s).key = s.key := by
  intros; unfold State.useIxnik; simp only [↓State.key_mk, ↓State.key_fold, State.key_ite, ite_self, State.takeClaim_key]

theorem execQdataWrite_key : ∀ x0 x1 s, Keeps s.key (execQdataWrite x0 x1 s) := by
  intros; unfold execQdataWrite; simp only [State.key_ite, keeps_next_iff, ite_self, State.updLane_key]

theorem execFifoWriteWaitExpire_key : ∀ x0 x1 s, Keeps s.key (execFifoWriteWaitExpire x0 x1 s) := by
  intros; unfold execFifoWriteWaitExpire; (try simp only []); (repeat' ((first | (refine keeps_ite _ _ _ _ ?_ ?_) | (refine keepsC_bind _ _ _ ?_; intro _) | split | (refine (State.key_foldl _ _ _ ?_).trans ?_; intro _ _)) <;> (try simp only [keeps_next_iff, State.updLane_key, State.raise_key])))

theorem execQrinse_key : ∀ x0 s, Keeps s.key (execQrinse x0 s) := by
  intros; unfold execQrinse; simp only [State.key_ite, keeps_next_iff, ite_self, State.updLane_key]

theorem execRinsePartialTimeout_key : ∀ x0 s, Keeps s.key (execRinsePartialTimeout x0 s) := by
  intros; unfold execRinsePartialTimeout; simp only [State.key_ite, keeps_next_iff, ite_self, State.updLane_key]

theorem execLaneDefine_key : ∀ x0 s, Keeps s.key (execLaneDefine x0 s) := by
  exact fun r s => hostCommand_key _ r s laneDefineOp_key

theorem execFlowDefine_key : ∀ x0 s, Keeps s.key (execFlowDefine x0 s) := by
  exact fun r s => hostCommand_key _ r s flowDefineOp_key

theorem execFlowDelete_key : ∀ x0 s, Keeps s.key (execFlowDelete x0 s) := by
  exact fun r s => hostCommand_key _ r s flowDeleteOp_key

theorem execSacnOutDefine_key : ∀ x0 s, Keeps s.key (execSacnOutDefine x0 s) := by
  exact fun r s => hostCommand_key _ r s sacnOutDefineOp_key

theorem execSacnRxDefine_key : ∀ x0 s, Keeps s.key (execSacnRxDefine x0 s) := by
  exact fun r s => hostCommand_key _ r s sacnRxDefineOp_key

theorem execIxnikDefine_key : ∀ x0 s, Keeps s.key (execIxnikDefine x0 s) := by
  exact fun r s => hostCommand_key _ r s ixnikDefineOp_key

theorem execFlowEnable_key : ∀ x0 s, Keeps s.key (execFlowEnable x0 s) := by
  exact fun r s => hostCommand_key _ r s flowEnableOp_key

theorem execFlowRinse_key : ∀ x0 s, Keeps s.key (execFlowRinse x0 s) := by
  exact fun r s => hostCommand_key _ r s flowRinseOp_key

theorem execFlowStats_key : ∀ x0 s, Keeps s.key (execFlowStats x0 s) := by
  exact fun r s => hostCommand_key _ r s flowStatsOp_key

theorem colourSpaceOp_key : colourSpaceOp.Keeps := trivial

theorem mixStrategyOp_key : mixStrategyOp.Keeps := trivial

theorem dimCurveOp_key : dimCurveOp.Keeps := trivial

theorem calsetLoadOp_key : calsetLoadOp.Keeps := trivial

theorem sensorScriptOp_key : sensorScriptOp.Keeps := trivial

theorem State.freezeTests_key : ∀ x0 s, (State.freezeTests x0 s).key = s.key := by
  intros; unfold State.freezeTests; simp only [↓State.key_mk, ↓State.key_fold]

theorem calRunOp_key : calRunOp.Keeps := by
  unfold Op.Keeps calRunOp; (try trivial); (try (intro r s; (try simp only []); (repeat' (first | (refine keepsR_bind _ _ _ ?_; intro _) | split) <;> (try simp only [↓State.key_mk, ↓State.key_fold, keepsR_ok, keepsR_error, State.startJob_key]))))

theorem calResultOp_key : calResultOp.Keeps := by
  unfold Op.Keeps calResultOp; (try trivial); (try (intro r s; (try simp only []); (repeat' (first | (refine keepsR_bind _ _ _ ?_; intro _) | split) <;> (try simp only [keepsR_ok, keepsR_error]))))

theorem State.updRun_key : ∀ x0 x1 s, (State.updRun x0 x1 s).key = s.key := by
  intros; unfold State.updRun; simp only [↓State.key_mk, ↓State.key_fold]

theorem State.endRun_key : ∀ x0 x1 x2 x3 s, (State.endRun x0 x1 x2 x3 s).key = s.key := by
  intros; unfold State.endRun; simp only [State.endJob_key, State.updRun_key]

theorem State.endCalRuns_key : ∀ s, (State.endCalRuns s).key = s.key := by
  intros; unfold State.endCalRuns; simp only [State.key_foldl, implies_true, State.endRun_key]

theorem execCalRunStartTimeout_key : ∀ s, Keeps s.key (execCalRunStartTimeout s) := by
  intros; unfold execCalRunStartTimeout; (try simp only []); (repeat' ((first | (refine keeps_ite _ _ _ _ ?_ ?_) | (refine keepsC_bind _ _ _ ?_; intro _) | split | (refine (State.key_foldl _ _ _ ?_).trans ?_; intro _ _)) <;> (try simp only [keeps_next_iff, State.advanceNow_key, State.endRun_key])))

theorem execCalRunProgress_key : ∀ s, Keeps s.key (execCalRunProgress s) := by
  intros; unfold execCalRunProgress; (try simp only []); (repeat' ((first | (refine keeps_ite _ _ _ _ ?_ ?_) | (refine keepsC_bind _ _ _ ?_; intro _) | split | (refine (State.key_foldl _ _ _ ?_).trans ?_; intro _ _)) <;> (try simp only [↓State.key_mk, ↓State.key_fold, keeps_next_iff, State.advanceTo_key])))

theorem State.completeRun_key : ∀ x0 s, (State.completeRun x0 s).key = s.key := by
  intros; unfold State.completeRun; simp only [State.key_ite, ite_self, State.endRun_key, State.updRun_key]

theorem State.runReading_key : ∀ x0 x1 s, (State.runReading x0 x1 s).key = s.key := by
  intros; unfold State.runReading; (try simp only [State.key_ite, State.updRun_key]); (repeat' ((first | (refine keeps_ite _ _ _ _ ?_ ?_) | (refine keepsC_bind _ _ _ ?_; intro _) | split | (refine (State.key_foldl _ _ _ ?_).trans ?_; intro _ _)) <;> (try simp only [State.key_ite, ite_self, State.updRun_key, State.endRun_key, State.completeRun_key])))

theorem State.applyRun_key : ∀ x0 s, (State.applyRun x0 s).key = s.key := by
  intros; unfold State.applyRun; (try simp only [↓State.key_mk, ↓State.key_fold, State.key_ite, State.key_foldl, keeps_next_iff, keepsC_ok, keepsC_error, keepsR_ok, keepsR_error, ite_self, implies_true, State.updRun_key, State.renewImage_key]); (repeat' ((first | (refine keeps_ite _ _ _ _ ?_ ?_) | (refine keepsC_bind _ _ _ ?_; intro _) | split | (refine (State.key_foldl _ _ _ ?_).trans ?_; intro _ _)) <;> (try simp only [↓State.key_mk, ↓State.key_fold, State.key_ite, State.key_foldl, keeps_next_iff, keepsC_ok, keepsC_error, keepsR_ok, keepsR_error, ite_self, implies_true, State.updRun_key, State.renewImage_key])))

theorem State.applyCal_key : ∀ x0 s, (State.applyCal x0 s).key = s.key := by
  intros; unfold State.applyCal; simp only [↓State.key_mk, ↓State.key_fold, State.key_foldl, implies_true, State.applyRun_key]

theorem State.nameApplied_key : ∀ x0 s, (State.nameApplied x0 s).key = s.key := by
  intros; unfold State.nameApplied; simp only [State.key_foldl, implies_true, State.raise_key, State.updRun_key]

theorem State.updBus_key : ∀ x0 x1 s, (State.updBus x0 x1 s).key = s.key := by
  intros; unfold State.updBus; simp only [↓State.key_mk, ↓State.key_fold]

theorem State.startScript_key : ∀ x0 x1 x2 s, (State.startScript x0 x1 x2 s).key = s.key := by
  intros; unfold State.startScript; simp only [↓State.key_mk, ↓State.key_fold, State.key_ite, State.key_foldl, ite_self, implies_true, State.updBus_key, State.drive_key]

theorem execSensorScriptRun_key : ∀ x0 s, Keeps s.key (execSensorScriptRun x0 s) := by
  intros; unfold execSensorScriptRun; (try simp only []); (repeat' ((first | (refine keeps_ite _ _ _ _ ?_ ?_) | (refine keepsC_bind _ _ _ ?_; intro _) | split | (refine (State.key_foldl _ _ _ ?_).trans ?_; intro _ _)) <;> (try simp only [State.key_ite, keeps_next_iff, ite_self, State.advanceNow_key, State.startScript_key])))

theorem State.trimMeasure_key : ∀ x0 x1 x2 x3 x4 x5 s, (State.trimMeasure x0 x1 x2 x3 x4 x5 s).key = s.key := by
  intros; unfold State.trimMeasure; simp only [↓State.key_mk, ↓State.key_fold, State.key_ite, ite_self, State.raise_key]

theorem State.trimReading_key : ∀ x0 x1 x2 x3 s, (State.trimReading x0 x1 x2 x3 s).key = s.key := by
  intros; unfold State.trimReading; (try simp only []); (repeat' ((first | (refine keeps_ite _ _ _ _ ?_ ?_) | (refine keepsC_bind _ _ _ ?_; intro _) | split | (refine (State.key_foldl _ _ _ ?_).trans ?_; intro _ _)) <;> (try simp only [↓State.key_mk, ↓State.key_fold, State.key_ite, State.trimMeasure_key])))

theorem State.useReading_key : ∀ x0 x1 x2 x3 s, (State.useReading x0 x1 x2 x3 s).key = s.key := by
  intros; unfold State.useReading; (try simp only [↓State.key_mk, ↓State.key_fold, State.key_ite, State.key_foldl, ite_self, implies_true, State.trimReading_key]); (repeat' ((first | (refine keeps_ite _ _ _ _ ?_ ?_) | (refine keepsC_bind _ _ _ ?_; intro _) | split | (refine (State.key_foldl _ _ _ ?_).trans ?_; intro _ _)) <;> (try simp only [State.runReading_key])))

theorem execSensorReadingDone_key : ∀ x0 x1 s, Keeps s.key (execSensorReadingDone x0 x1 s) := by
  intros; unfold execSensorReadingDone; (try simp only []); (repeat' ((first | (refine keeps_ite _ _ _ _ ?_ ?_) | (refine keepsC_bind _ _ _ ?_; intro _) | split | (refine (State.key_foldl _ _ _ ?_).trans ?_; intro _ _)) <;> (try simp only [State.key_ite, keeps_next_iff, ite_self, State.updBus_key, State.useReading_key])))

theorem execSensorTransactionTimeout_key : ∀ x0 s, Keeps s.key (execSensorTransactionTimeout x0 s) := by
  intros; unfold execSensorTransactionTimeout; (try simp only []); (repeat' ((first | (refine keeps_ite _ _ _ _ ?_ ?_) | (refine keepsC_bind _ _ _ ?_; intro _) | split | (refine (State.key_foldl _ _ _ ?_).trans ?_; intro _ _)) <;> (try simp only [State.key_ite, keeps_next_iff, ite_self, State.advanceNow_key, State.raise_key, State.updBus_key, State.endRun_key])))

theorem trimControlOp_key : trimControlOp.Keeps := by
  unfold Op.Keeps trimControlOp; (try trivial); (try (intro r n s; (try simp only [↓State.key_mk, ↓State.key_fold, State.key_ite, ite_self]); (repeat' (first | (refine keepsR_bind _ _ _ ?_; intro _) | split) <;> (try simp only [↓State.key_mk, ↓State.key_fold, State.key_ite, State.key_foldl, keeps_next_iff, keepsC_ok, keepsC_error, keepsR_ok, keepsR_error, ite_self, implies_true]))))

theorem trimStatusOp_key : trimStatusOp.Keeps := by
  unfold Op.Keeps trimStatusOp; (try trivial); (try (intro r s; (try simp only []); (repeat' (first | (refine keepsR_bind _ _ _ ?_; intro _) | split) <;> (try simp only [keepsR_ok]))))

theorem State.cutColour_key : ∀ x0 x1 s, (State.cutColour x0 x1 s).key = s.key := by
  intros; unfold State.cutColour; simp only [↓State.key_mk, ↓State.key_fold, State.nameApplied_key, State.applyCal_key, State.freezeTests_key]

theorem State.keepTrims_key : ∀ s, (State.keepTrims s).key = s.key := by
  intros; unfold State.keepTrims; simp only [↓State.key_mk, ↓State.key_fold]

theorem State.unmute_key : ∀ s, (State.unmute s).key = s.key := by
  intros; unfold State.unmute; simp only [↓State.key_mk, ↓State.key_fold]

theorem State.pressScripts_key : ∀ x0 x1 s, (State.pressScripts x0 x1 s).key = s.key := by
  intros; unfold State.pressScripts; simp only [↓State.key_mk, ↓State.key_fold]

theorem State.pressColour_key : ∀ x0 x1 s, (State.pressColour x0 x1 s).key = s.key := by
  intros; unfold State.pressColour; simp only [↓State.key_mk, ↓State.key_fold, State.key_foldl, implies_true, State.updRun_key, State.endRun_key, State.pressScripts_key]

theorem execColourSpace_key : ∀ x0 s, Keeps s.key (execColourSpace x0 s) := by
  exact fun r s => hostCommand_key _ r s colourSpaceOp_key

theorem execMixStrategy_key : ∀ x0 s, Keeps s.key (execMixStrategy x0 s) := by
  exact fun r s => hostCommand_key _ r s mixStrategyOp_key

theorem execDimCurve_key : ∀ x0 s, Keeps s.key (execDimCurve x0 s) := by
  exact fun r s => hostCommand_key _ r s dimCurveOp_key

theorem execCalsetLoad_key : ∀ x0 s, Keeps s.key (execCalsetLoad x0 s) := by
  exact fun r s => hostCommand_key _ r s calsetLoadOp_key

theorem execSensorScript_key : ∀ x0 s, Keeps s.key (execSensorScript x0 s) := by
  exact fun r s => hostCommand_key _ r s sensorScriptOp_key

theorem execCalRun_key : ∀ x0 s, Keeps s.key (execCalRun x0 s) := by
  exact fun r s => hostCommand_key _ r s calRunOp_key

theorem execCalResult_key : ∀ x0 s, Keeps s.key (execCalResult x0 s) := by
  exact fun r s => hostCommand_key _ r s calResultOp_key

theorem execTrimControl_key : ∀ x0 s, Keeps s.key (execTrimControl x0 s) := by
  exact fun r s => hostCommand_key _ r s trimControlOp_key

theorem execTrimStatus_key : ∀ x0 s, Keeps s.key (execTrimStatus x0 s) := by
  exact fun r s => hostCommand_key _ r s trimStatusOp_key

theorem canvasDefineOp_key : canvasDefineOp.Keeps := trivial

theorem layerDefineOp_key : layerDefineOp.Keeps := trivial

theorem pixmapLoadOp_key : pixmapLoadOp.Keeps := trivial

theorem videoRxDefineOp_key : videoRxDefineOp.Keeps := trivial

theorem witnessDefineOp_key : witnessDefineOp.Keeps := trivial

theorem bufferRegisterOp_key : bufferRegisterOp.Keeps := by
  unfold Op.Keeps bufferRegisterOp; (try trivial); (try (intro r s; (try simp only []); (repeat' (first | (refine keepsR_bind _ _ _ ?_; intro _) | split) <;> (try simp only [↓State.key_mk, ↓State.key_fold, keepsR_ok, keepsR_error, State.draw_key]))))

theorem bufferReleaseOp_key : bufferReleaseOp.Keeps := by
  unfold Op.Keeps bufferReleaseOp; (try trivial); (try (intro r s; (try simp only []); (repeat' (first | (refine keepsR_bind _ _ _ ?_; intro _) | split) <;> (try simp only [↓State.key_mk, ↓State.key_fold, keepsR_ok, State.takeJobId_key, State.freeBuffer_key]))))

theorem State.updLayer_key : ∀ x0 x1 s, (State.updLayer x0 x1 s).key = s.key := by
  intros; unfold State.updLayer; simp only [↓State.key_mk, ↓State.key_fold]

theorem State.updCanvas_key : ∀ x0 x1 s, (State.updCanvas x0 x1 s).key = s.key := by
  intros; unfold State.updCanvas; simp only [↓State.key_mk, ↓State.key_fold]

theorem State.pressLayer_key : ∀ x0 x1 s, (State.pressLayer x0 x1 s).key = s.key := by
  intros; unfold State.pressLayer; simp only [State.key_ite, ite_self, State.updLayer_key, State.raise_key]

theorem State.fetchLate_key : ∀ x0 x1 s, (State.fetchLate x0 x1 s).key = s.key := by
  intros; unfold State.fetchLate; simp only [State.key_ite, ite_self, State.updLayer_key, State.retire_key, State.raise_key]

theorem State.startFetches_key : ∀ x0 x1 s, (State.startFetches x0 x1 s).key = s.key := by
  intros; unfold State.startFetches; simp only [State.key_ite, State.key_foldl, ite_self, implies_true, State.retire_key, State.updLayer_key, State.fetchLate_key]

theorem State.pressSet_key : ∀ x0 x1 s, (State.pressSet x0 x1 s).key = s.key := by
  intros; unfold State.pressSet; (try simp only [↓State.key_mk, ↓State.key_fold, State.key_ite, State.key_foldl, keeps_next_iff, keepsC_ok, keepsC_error, keepsR_ok, keepsR_error, ite_self, implies_true, State.updCanvas_key, State.pressLayer_key, State.renewImage_key, State.raiseFrame_key, State.retire_key]); (repeat' ((first | (refine keeps_ite _ _ _ _ ?_ ?_) | (refine keepsC_bind _ _ _ ?_; intro _) | split | (refine (State.key_foldl _ _ _ ?_).trans ?_; intro _ _)) <;> (try simp only [↓State.key_mk, ↓State.key_fold, State.key_ite, State.key_foldl, keeps_next_iff, keepsC_ok, keepsC_error, keepsR_ok, keepsR_error, ite_self, implies_true, State.updCanvas_key, State.pressLayer_key, State.renewImage_key, State.raiseFrame_key, State.retire_key])))

theorem execPressPoint_key : ∀ x0 s, Keeps s.key (execPressPoint x0 s) := by
  intros; unfold execPressPoint; (try simp only []); (repeat' ((first | (refine keeps_ite _ _ _ _ ?_ ?_) | (refine keepsC_bind _ _ _ ?_; intro _) | split | (refine (State.key_foldl _ _ _ ?_).trans ?_; intro _ _)) <;> (try simp only [State.key_ite, keeps_next_iff, ite_self, State.updCanvas_key, State.advanceTo_key, State.pressSet_key, State.startFetches_key, State.applyCal_key])))

theorem execPaletteCopyDone_key : ∀ x0 s, Keeps s.key (execPaletteCopyDone x0 s) := by
  intros; unfold execPaletteCopyDone; (try simp only [↓State.key_mk, ↓State.key_fold, State.key_ite, State.key_foldl, keeps_next_iff, keepsC_ok, keepsC_error, keepsR_ok, keepsR_error, ite_self, implies_true, State.updLayer_key]); (repeat' ((first | (refine keeps_ite _ _ _ _ ?_ ?_) | (refine keepsC_bind _ _ _ ?_; intro _) | split | (refine (State.key_foldl _ _ _ ?_).trans ?_; intro _ _)) <;> (try simp only [State.key_ite, keeps_next_iff, ite_self, State.updLayer_key])))

theorem execBufferFetchComplete_key : ∀ x0 x1 s, Keeps s.key (execBufferFetchComplete x0 x1 s) := by
  intros; unfold execBufferFetchComplete; (try simp only []); (repeat' ((first | (refine keeps_ite _ _ _ _ ?_ ?_) | (refine keepsC_bind _ _ _ ?_; intro _) | split | (refine (State.key_foldl _ _ _ ?_).trans ?_; intro _ _)) <;> (try simp only [keeps_next_iff, State.retire_key, State.updLayer_key])))

theorem State.failFetches_key : ∀ s, (State.failFetches s).key = s.key := by
  intros; unfold State.failFetches; simp only [State.key_foldl, implies_true, State.fetchLate_key]

theorem State.cutFetches_key : ∀ x0 s, (State.cutFetches x0 s).key = s.key := by
  intros; unfold State.cutFetches; simp only [State.key_foldl, implies_true, State.fetchLate_key]

theorem State.pressCanvases_key : ∀ x0 x1 s, (State.pressCanvases x0 x1 s).key = s.key := by
  intros; unfold State.pressCanvases; simp only [↓State.key_mk, ↓State.key_fold, State.key_foldl, implies_true, State.retire_key, State.raise_key]

theorem execVideoPacketRx_key : ∀ x0 x1 s, Keeps s.key (execVideoPacketRx x0 x1 s) := by
  intros; unfold execVideoPacketRx; (try simp only []); (repeat' ((first | (refine State.receive_key _ _ _ _ ?_; intro _) | (refine keeps_ite _ _ _ _ ?_ ?_) | (refine keepsC_bind _ _ _ ?_; intro _) | split | (refine (State.key_foldl _ _ _ ?_).trans ?_; intro _ _)) <;> (try simp only [↓State.key_mk, ↓State.key_fold, State.key_ite, keeps_next_iff, ite_self, implies_true, State.receive_key])))

theorem State.cutStream_key : ∀ x0 x1 x2 x3 s, (State.cutStream x0 x1 x2 x3 s).key = s.key := by
  intros; unfold State.cutStream; (try simp only [↓State.key_mk, ↓State.key_fold, State.key_ite, ite_self, State.raise_key]); (repeat' ((first | (refine keeps_ite _ _ _ _ ?_ ?_) | (refine keepsC_bind _ _ _ ?_; intro _) | split | (refine (State.key_foldl _ _ _ ?_).trans ?_; intro _ _)) <;> (try simp only [↓State.key_mk, ↓State.key_fold, State.key_ite, ite_self, State.raise_key])))

theorem State.cutVideo_key : ∀ x0 x1 s, (State.cutVideo x0 x1 s).key = s.key := by
  intros; unfold State.cutVideo; simp only [State.key_ite, State.key_foldl, ite_self, implies_true, State.cutStream_key, State.updLayer_key]

theorem State.pressVideo_key : ∀ x0 x1 s, (State.pressVideo x0 x1 s).key = s.key := by
  intros; unfold State.pressVideo; simp only [↓State.key_mk, ↓State.key_fold]

theorem videoRxStatusOp_key : videoRxStatusOp.Keeps := by
  unfold Op.Keeps videoRxStatusOp; (try trivial); (try (intro r s; (try simp only []); (repeat' (first | (refine keepsR_bind _ _ _ ?_; intro _) | split) <;> (try simp only [keepsR_ok]))))

theorem State.updWindow_key : ∀ x0 x1 s, (State.updWindow x0 x1 s).key = s.key := by
  intros; unfold State.updWindow; simp only [↓State.key_mk, ↓State.key_fold]

theorem State.compareWitness_key : ∀ x0 x1 x2 x3 s, (State.compareWitness x0 x1 x2 x3 s).key = s.key := by
  intros; unfold State.compareWitness; (try simp only []); (repeat' ((first | (refine keeps_ite _ _ _ _ ?_ ?_) | (refine keepsC_bind _ _ _ ?_; intro _) | split | (refine (State.key_foldl _ _ _ ?_).trans ?_; intro _ _)) <;> (try simp only [↓State.key_mk, ↓State.key_fold, State.key_ite, ite_self, State.updWindow_key, State.raise_key, State.updFrame_key, State.raiseFrame_key])))

theorem State.badExpected_key : ∀ s, (State.badExpected s).key = s.key := by
  intros; unfold State.badExpected; simp only [↓State.key_mk, ↓State.key_fold]

theorem execWitnessReloadDone_key : ∀ x0 x1 s, Keeps s.key (execWitnessReloadDone x0 x1 s) := by
  intros; unfold execWitnessReloadDone; (try simp only [↓State.key_mk, ↓State.key_fold, State.key_ite, State.key_foldl, keeps_next_iff, keepsC_ok, keepsC_error, keepsR_ok, keepsR_error, ite_self, implies_true, State.updWindow_key, State.raise_key, State.badExpected_key]); (repeat' ((first | (refine keeps_ite _ _ _ _ ?_ ?_) | (refine keepsC_bind _ _ _ ?_; intro _) | split | (refine (State.key_foldl _ _ _ ?_).trans ?_; intro _ _)) <;> (try simp only [keeps_next_iff, State.updWindow_key, State.raise_key, State.badExpected_key])))

theorem State.writeExpected_key : ∀ x0 x1 s, (State.writeExpected x0 x1 s).key = s.key := by
  intros; unfold State.writeExpected; simp only [State.key_ite, ite_self, State.updWindow_key]

theorem execWitnessExpectedWrite_key : ∀ x0 x1 s, Keeps s.key (execWitnessExpectedWrite x0 x1 s) := by
  intros; unfold execWitnessExpectedWrite; (try simp only [↓State.key_mk, ↓State.key_fold, State.key_ite, State.key_foldl, keeps_next_iff, keepsC_ok, keepsC_error, keepsR_ok, keepsR_error, ite_self, implies_true, State.writeExpected_key]); (repeat' ((first | (refine keeps_ite _ _ _ _ ?_ ?_) | (refine keepsC_bind _ _ _ ?_; intro _) | split | (refine (State.key_foldl _ _ _ ?_).trans ?_; intro _ _)) <;> (try simp only [keeps_next_iff, State.writeExpected_key])))

theorem State.pressWitness_key : ∀ x0 x1 s, (State.pressWitness x0 x1 s).key = s.key := by
  intros; unfold State.pressWitness; simp only [↓State.key_mk, ↓State.key_fold]

theorem State.canvasWrite_key : ∀ x0 x1 x2 s, (State.canvasWrite x0 x1 x2 s).key = s.key := by
  intros; unfold State.canvasWrite; (try simp only [State.key_ite]); (repeat' ((first | (refine keeps_ite _ _ _ _ ?_ ?_) | (refine keepsC_bind _ _ _ ?_; intro _) | split | (refine (State.key_foldl _ _ _ ?_).trans ?_; intro _ _)) <;> (try simp only [State.updCanvas_key])))

theorem State.writePalMap_key : ∀ x0 x1 s, (State.writePalMap x0 x1 s).key = s.key := by
  intros; unfold State.writePalMap; simp only [↓State.key_mk, ↓State.key_fold, State.key_ite, ite_self, State.updLayer_key]

theorem State.layerWrite_key : ∀ x0 x1 x2 s, (State.layerWrite x0 x1 x2 s).key = s.key := by
  intros; unfold State.layerWrite; (try simp only [State.key_ite]); (repeat' ((first | (refine keeps_ite _ _ _ _ ?_ ?_) | (refine keepsC_bind _ _ _ ?_; intro _) | split | (refine (State.key_foldl _ _ _ ?_).trans ?_; intro _ _)) <;> (try simp only [State.updLayer_key, State.writePalMap_key])))

theorem State.palWrite_key : ∀ x0 x1 s, (State.palWrite x0 x1 s).key = s.key := by
  intros; unfold State.palWrite; (try simp only [↓State.key_mk, ↓State.key_fold, State.key_ite, State.key_foldl, keeps_next_iff, keepsC_ok, keepsC_error, keepsR_ok, keepsR_error, ite_self, implies_true, State.updLayer_key]); (repeat' ((first | (refine keeps_ite _ _ _ _ ?_ ?_) | (refine keepsC_bind _ _ _ ?_; intro _) | split | (refine (State.key_foldl _ _ _ ?_).trans ?_; intro _ _)) <;> (try simp only [State.updLayer_key])))

theorem State.witWrite_key : ∀ x0 x1 s, (State.witWrite x0 x1 s).key = s.key := by
  intros; unfold State.witWrite; (try simp only [State.key_ite]); (repeat' ((first | (refine keeps_ite _ _ _ _ ?_ ?_) | (refine keepsC_bind _ _ _ ?_; intro _) | split | (refine (State.key_foldl _ _ _ ?_).trans ?_; intro _ _)) <;> (try simp only [↓State.key_mk, ↓State.key_fold, State.key_ite, ite_self, State.updWindow_key, State.writeExpected_key])))

theorem execCanvasCommitWrite_key : ∀ x0 s, Keeps s.key (execCanvasCommitWrite x0 s) := by
  intros; unfold execCanvasCommitWrite; (try simp only [↓State.key_mk, ↓State.key_fold, State.key_ite, State.key_foldl, keeps_next_iff, keepsC_ok, keepsC_error, keepsR_ok, keepsR_error, ite_self, implies_true, State.canvasWrite_key]); (repeat' ((first | (refine keeps_ite _ _ _ _ ?_ ?_) | (refine keepsC_bind _ _ _ ?_; intro _) | split | (refine (State.key_foldl _ _ _ ?_).trans ?_; intro _ _)) <;> (try simp only [keeps_next_iff, State.canvasWrite_key])))

theorem execPaletteWrite_key : ∀ x0 x1 s, Keeps s.key (execPaletteWrite x0 x1 s) := by
  intros; unfold execPaletteWrite; (try simp only [↓State.key_mk, ↓State.key_fold, State.key_ite, State.key_foldl, keeps_next_iff, keepsC_ok, keepsC_error, keepsR_ok, keepsR_error, ite_self, implies_true, State.palWrite_key]); (repeat' ((first | (refine keeps_ite _ _ _ _ ?_ ?_) | (refine keepsC_bind _ _ _ ?_; intro _) | split | (refine (State.key_foldl _ _ _ ?_).trans ?_; intro _ _)) <;> (try simp only [keeps_next_iff, State.palWrite_key])))

theorem execPalMapWrite_key : ∀ x0 x1 s, Keeps s.key (execPalMapWrite x0 x1 s) := by
  intros; unfold execPalMapWrite; (try simp only [↓State.key_mk, ↓State.key_fold, State.key_ite, State.key_foldl, keeps_next_iff, keepsC_ok, keepsC_error, keepsR_ok, keepsR_error, ite_self, implies_true, State.writePalMap_key]); (repeat' ((first | (refine keeps_ite _ _ _ _ ?_ ?_) | (refine keepsC_bind _ _ _ ?_; intro _) | split | (refine (State.key_foldl _ _ _ ?_).trans ?_; intro _ _)) <;> (try simp only [keeps_next_iff, State.writePalMap_key])))

theorem execCanvasDefine_key : ∀ x0 s, Keeps s.key (execCanvasDefine x0 s) := by
  exact fun r s => hostCommand_key _ r s canvasDefineOp_key

theorem execLayerDefine_key : ∀ x0 s, Keeps s.key (execLayerDefine x0 s) := by
  exact fun r s => hostCommand_key _ r s layerDefineOp_key

theorem execPixmapLoad_key : ∀ x0 s, Keeps s.key (execPixmapLoad x0 s) := by
  exact fun r s => hostCommand_key _ r s pixmapLoadOp_key

theorem execVideoRxDefine_key : ∀ x0 s, Keeps s.key (execVideoRxDefine x0 s) := by
  exact fun r s => hostCommand_key _ r s videoRxDefineOp_key

theorem execWitnessDefine_key : ∀ x0 s, Keeps s.key (execWitnessDefine x0 s) := by
  exact fun r s => hostCommand_key _ r s witnessDefineOp_key

theorem execBufferRegister_key : ∀ x0 s, Keeps s.key (execBufferRegister x0 s) := by
  exact fun r s => hostCommand_key _ r s bufferRegisterOp_key

theorem execBufferRelease_key : ∀ x0 s, Keeps s.key (execBufferRelease x0 s) := by
  exact fun r s => hostCommand_key _ r s bufferReleaseOp_key

theorem execVideoRxStatus_key : ∀ x0 s, Keeps s.key (execVideoRxStatus x0 s) := by
  exact fun r s => hostCommand_key _ r s videoRxStatusOp_key

theorem scanDefineOp_key : scanDefineOp.Keeps := trivial

theorem State.scanOut_key : ∀ x0 x1 x2 s, (State.scanOut x0 x1 x2 s).key = s.key := by
  intros; unfold State.scanOut; simp only [State.drive_key]

theorem State.scanOe_key : ∀ x0 x1 x2 x3 s, (State.scanOe x0 x1 x2 x3 s).key = s.key := by
  intros; unfold State.scanOe; (try simp only [↓State.key_mk, ↓State.key_fold, State.key_ite, State.key_foldl, keeps_next_iff, keepsC_ok, keepsC_error, keepsR_ok, keepsR_error, ite_self, implies_true, State.scanOut_key]); (repeat' ((first | (refine keeps_ite _ _ _ _ ?_ ?_) | (refine keepsC_bind _ _ _ ?_; intro _) | split | (refine (State.key_foldl _ _ _ ?_).trans ?_; intro _ _)) <;> (try simp only [↓State.key_mk, ↓State.key_fold, State.key_ite, State.key_foldl, keeps_next_iff, keepsC_ok, keepsC_error, keepsR_ok, keepsR_error, ite_self, implies_true, State.scanOut_key])))

theorem State.scanLat_key : ∀ x0 x1 x2 x3 s, (State.scanLat x0 x1 x2 x3 s).key = s.key := by
  intros; unfold State.scanLat; (try simp only [↓State.key_mk, ↓State.key_fold, State.key_ite, State.key_foldl, keeps_next_iff, keepsC_ok, keepsC_error, keepsR_ok, keepsR_error, ite_self, implies_true, State.scanOut_key]); (repeat' ((first | (refine keeps_ite _ _ _ _ ?_ ?_) | (refine keepsC_bind _ _ _ ?_; intro _) | split | (refine (State.key_foldl _ _ _ ?_).trans ?_; intro _ _)) <;> (try simp only [↓State.key_mk, ↓State.key_fold, State.key_ite, State.key_foldl, keeps_next_iff, keepsC_ok, keepsC_error, keepsR_ok, keepsR_error, ite_self, implies_true, State.scanOut_key])))

theorem State.scanAddress_key : ∀ x0 x1 x2 x3 s, (State.scanAddress x0 x1 x2 x3 s).key = s.key := by
  intros; unfold State.scanAddress; (try simp only [↓State.key_mk, ↓State.key_fold, State.key_ite, State.key_foldl, keeps_next_iff, keepsC_ok, keepsC_error, keepsR_ok, keepsR_error, ite_self, implies_true, State.scanOut_key]); (repeat' ((first | (refine keeps_ite _ _ _ _ ?_ ?_) | (refine keepsC_bind _ _ _ ?_; intro _) | split | (refine (State.key_foldl _ _ _ ?_).trans ?_; intro _ _)) <;> (try simp only [↓State.key_mk, ↓State.key_fold, State.key_ite, State.key_foldl, keeps_next_iff, keepsC_ok, keepsC_error, keepsR_ok, keepsR_error, ite_self, implies_true, State.scanOut_key])))

theorem State.scanStop_key : ∀ x0 x1 s, (State.scanStop x0 x1 s).key = s.key := by
  intros; unfold State.scanStop; (try simp only [↓State.key_mk, ↓State.key_fold, State.key_ite, State.key_foldl, keeps_next_iff, keepsC_ok, keepsC_error, keepsR_ok, keepsR_error, ite_self, implies_true, State.scanOut_key, State.scanOe_key]); (repeat' ((first | (refine keeps_ite _ _ _ _ ?_ ?_) | (refine keepsC_bind _ _ _ ?_; intro _) | split | (refine (State.key_foldl _ _ _ ?_).trans ?_; intro _ _)) <;> (try simp only [↓State.key_mk, ↓State.key_fold, State.key_ite, State.key_foldl, keeps_next_iff, keepsC_ok, keepsC_error, keepsR_ok, keepsR_error, ite_self, implies_true, State.scanOut_key, State.scanOe_key])))

theorem State.recordFaults_key : ∀ x0 x1 s, (State.recordFaults x0 x1 s).key = s.key := by
  intros; unfold State.recordFaults; simp only [State.key_foldl, implies_true, State.arrive_key]

theorem State.latchFaults_key : ∀ x0 x1 x2 s, (State.latchFaults x0 x1 x2 s).key = s.key := by
  intros; unfold State.latchFaults; (try simp only [State.key_ite]); (repeat' ((first | (refine keeps_ite _ _ _ _ ?_ ?_) | (refine keepsC_bind _ _ _ ?_; intro _) | split | (refine (State.key_foldl _ _ _ ?_).trans ?_; intro _ _)) <;> (try simp only [State.key_ite, ite_self, State.recordFaults_key, State.updPort_key, State.raise_key])))

theorem State.evaluateSlot_key : ∀ x0 x1 x2 s, (State.evaluateSlot x0 x1 x2 s).key = s.key := by
  intros; unfold State.evaluateSlot; simp only [State.updPort_key, State.latchFaults_key]

theorem State.drainReturn_key : ∀ x0 s, (State.drainReturn x0 s).key = s.key := by
  intros; unfold State.drainReturn; (try simp only []); (repeat' ((first | (refine keeps_ite _ _ _ _ ?_ ?_) | (refine keepsC_bind _ _ _ ?_; intro _) | split | (refine (State.key_foldl _ _ _ ?_).trans ?_; intro _ _)) <;> (try simp only [State.key_ite, State.key_foldl, ite_self, implies_true, State.evaluateSlot_key, State.updPort_key])))

theorem State.detectionSlot_key : ∀ x0 x1 x2 s, (State.detectionSlot x0 x1 x2 s).key = s.key := by
  intros; unfold State.detectionSlot; simp only [State.updPort_key, State.drainReturn_key]

theorem State.cutPort_key : ∀ x0 x1 s, (State.cutPort x0 x1 s).key = s.key := by
  intros; unfold State.cutPort; simp only [State.key_foldl, implies_true, State.updPort_key, State.raise_key]

theorem State.cutScan_key : ∀ x0 s, (State.cutScan x0 s).key = s.key := by
  intros; unfold State.cutScan; simp only [State.key_foldl, implies_true, State.cutPort_key]

theorem State.faultCtrl_key : ∀ x0 x1 s, (State.faultCtrl x0 x1 s).key = s.key := by
  intros; unfold State.faultCtrl; (try simp only []); (repeat' ((first | (refine keeps_ite _ _ _ _ ?_ ?_) | (refine keepsC_bind _ _ _ ?_; intro _) | split | (refine (State.key_foldl _ _ _ ?_).trans ?_; intro _ _)) <;> (try simp only [State.updPort_key, State.recordFaults_key])))

theorem execFaultCtrlWrite_key : ∀ x0 x1 s, Keeps s.key (execFaultCtrlWrite x0 x1 s) := by
  intros; unfold execFaultCtrlWrite; (try simp only [↓State.key_mk, ↓State.key_fold, State.key_ite, State.key_foldl, keeps_next_iff, keepsC_ok, keepsC_error, keepsR_ok, keepsR_error, ite_self, implies_true, State.faultCtrl_key]); (repeat' ((first | (refine keeps_ite _ _ _ _ ?_ ?_) | (refine keepsC_bind _ _ _ ?_; intro _) | split | (refine (State.key_foldl _ _ _ ?_).trans ?_; intro _ _)) <;> (try simp only [keeps_next_iff, State.faultCtrl_key])))

theorem State.seamWrite_key : ∀ x0 x1 x2 s, (State.seamWrite x0 x1 x2 s).key = s.key := by
  intros; unfold State.seamWrite; simp only [State.updPort_key]

theorem execSeamGainWrite_key : ∀ x0 x1 x2 s, Keeps s.key (execSeamGainWrite x0 x1 x2 s) := by
  intros; unfold execSeamGainWrite; (try simp only [↓State.key_mk, ↓State.key_fold, State.key_ite, State.key_foldl, keeps_next_iff, keepsC_ok, keepsC_error, keepsR_ok, keepsR_error, ite_self, implies_true, State.seamWrite_key]); (repeat' ((first | (refine keeps_ite _ _ _ _ ?_ ?_) | (refine keepsC_bind _ _ _ ?_; intro _) | split | (refine (State.key_foldl _ _ _ ?_).trans ?_; intro _ _)) <;> (try simp only [keeps_next_iff, State.seamWrite_key])))

theorem State.fullWrite_key : ∀ x0 s, (State.fullWrite x0 s).key = s.key := by
  intros; unfold State.fullWrite; simp only [State.key_ite, ite_self, State.updPort_key]

theorem execFullWriteRequest_key : ∀ x0 s, Keeps s.key (execFullWriteRequest x0 s) := by
  intros; unfold execFullWriteRequest; (try simp only [↓State.key_mk, ↓State.key_fold, State.key_ite, State.key_foldl, keeps_next_iff, keepsC_ok, keepsC_error, keepsR_ok, keepsR_error, ite_self, implies_true, State.fullWrite_key]); (repeat' ((first | (refine keeps_ite _ _ _ _ ?_ ?_) | (refine keepsC_bind _ _ _ ?_; intro _) | split | (refine (State.key_foldl _ _ _ ?_).trans ?_; intro _ _)) <;> (try simp only [keeps_next_iff, State.fullWrite_key])))

theorem State.retRinse_key : ∀ x0 s, (State.retRinse x0 s).key = s.key := by
  intros; unfold State.retRinse; simp only [State.updPort_key]

theorem execRetRinse_key : ∀ x0 s, Keeps s.key (execRetRinse x0 s) := by
  intros; unfold execRetRinse; (try simp only [↓State.key_mk, ↓State.key_fold, State.key_ite, State.key_foldl, keeps_next_iff, keepsC_ok, keepsC_error, keepsR_ok, keepsR_error, ite_self, implies_true, State.retRinse_key]); (repeat' ((first | (refine keeps_ite _ _ _ _ ?_ ?_) | (refine keepsC_bind _ _ _ ?_; intro _) | split | (refine (State.key_foldl _ _ _ ?_).trans ?_; intro _ _)) <;> (try simp only [keeps_next_iff, State.retRinse_key])))

theorem State.groupRearm_key : ∀ x0 x1 x2 s, (State.groupRearm x0 x1 x2 s).key = s.key := by
  intros; unfold State.groupRearm; simp only [State.updPort_key]

theorem execGroupRearm_key : ∀ x0 x1 x2 s, Keeps s.key (execGroupRearm x0 x1 x2 s) := by
  intros; unfold execGroupRearm; (try simp only [↓State.key_mk, ↓State.key_fold, State.key_ite, State.key_foldl, keeps_next_iff, keepsC_ok, keepsC_error, keepsR_ok, keepsR_error, ite_self, implies_true, State.groupRearm_key]); (repeat' ((first | (refine keeps_ite _ _ _ _ ?_ ?_) | (refine keepsC_bind _ _ _ ?_; intro _) | split | (refine (State.key_foldl _ _ _ ?_).trans ?_; intro _ _)) <;> (try simp only [keeps_next_iff, State.groupRearm_key])))

theorem execTeStuckTimeout_key : ∀ x0 s, Keeps s.key (execTeStuckTimeout x0 s) := by
  intros; unfold execTeStuckTimeout; (try simp only []); (repeat' ((first | (refine keeps_ite _ _ _ _ ?_ ?_) | (refine keepsC_bind _ _ _ ?_; intro _) | split | (refine (State.key_foldl _ _ _ ?_).trans ?_; intro _ _)) <;> (try simp only [State.key_ite, keeps_next_iff, ite_self, State.updPort_key, State.raise_key])))

theorem State.tripPorts_key : ∀ x0 s, (State.tripPorts x0 s).key = s.key := by
  intros; unfold State.tripPorts; (try simp only [↓State.key_mk, ↓State.key_fold, State.key_ite, State.key_foldl, keeps_next_iff, keepsC_ok, keepsC_error, keepsR_ok, keepsR_error, ite_self, implies_true, State.updPort_key, State.scanStop_key, State.raise_key]); (repeat' ((first | (refine keeps_ite _ _ _ _ ?_ ?_) | (refine keepsC_bind _ _ _ ?_; intro _) | split | (refine (State.key_foldl _ _ _ ?_).trans ?_; intro _ _)) <;> (try simp only [↓State.key_mk, ↓State.key_fold, State.key_ite, State.key_foldl, keeps_next_iff, keepsC_ok, keepsC_error, keepsR_ok, keepsR_error, ite_self, implies_true, State.updPort_key, State.scanStop_key, State.raise_key])))

theorem State.untripPorts_key : ∀ x0 s, (State.untripPorts x0 s).key = s.key := by
  intros; unfold State.untripPorts; simp only [State.key_foldl, implies_true, State.updPort_key]

theorem State.pressScan_key : ∀ x0 x1 x2 x3 s, (State.pressScan x0 x1 x2 x3 s).key = s.key := by
  intros; unfold State.pressScan; (try simp only [↓State.key_mk, ↓State.key_fold, State.key_ite, State.key_foldl, keeps_next_iff, keepsC_ok, keepsC_error, keepsR_ok, keepsR_error, ite_self, implies_true, State.updPort_key, State.scanStop_key]); (repeat' ((first | (refine keeps_ite _ _ _ _ ?_ ?_) | (refine keepsC_bind _ _ _ ?_; intro _) | split | (refine (State.key_foldl _ _ _ ?_).trans ?_; intro _ _)) <;> (try simp only [↓State.key_mk, ↓State.key_fold, State.key_ite, State.key_foldl, keeps_next_iff, keepsC_ok, keepsC_error, keepsR_ok, keepsR_error, ite_self, implies_true, State.updPort_key, State.scanStop_key])))

theorem State.endScan_key : ∀ x0 x1 x2 s, (State.endScan x0 x1 x2 s).key = s.key := by
  intros; unfold State.endScan; (try simp only [↓State.key_mk, ↓State.key_fold, State.key_ite, State.key_foldl, keeps_next_iff, keepsC_ok, keepsC_error, keepsR_ok, keepsR_error, ite_self, implies_true, State.updPort_key, State.scanStop_key]); (repeat' ((first | (refine keeps_ite _ _ _ _ ?_ ?_) | (refine keepsC_bind _ _ _ ?_; intro _) | split | (refine (State.key_foldl _ _ _ ?_).trans ?_; intro _ _)) <;> (try simp only [↓State.key_mk, ↓State.key_fold, State.key_ite, State.key_foldl, keeps_next_iff, keepsC_ok, keepsC_error, keepsR_ok, keepsR_error, ite_self, implies_true, State.updPort_key, State.scanStop_key])))

theorem State.scanWrite_key : ∀ x0 x1 x2 s, (State.scanWrite x0 x1 x2 s).key = s.key := by
  intros; unfold State.scanWrite; (try simp only []); (repeat' ((first | (refine keeps_ite _ _ _ _ ?_ ?_) | (refine keepsC_bind _ _ _ ?_; intro _) | split | (refine (State.key_foldl _ _ _ ?_).trans ?_; intro _ _)) <;> (try simp only [State.key_ite, ite_self, State.updPort_key, State.retRinse_key, State.fullWrite_key, State.faultCtrl_key, State.seamWrite_key, State.groupRearm_key])))

theorem execScanDefine_key : ∀ x0 s, Keeps s.key (execScanDefine x0 s) := by
  exact fun r s => hostCommand_key _ r s scanDefineOp_key

theorem dmxDefineOp_key : dmxDefineOp.Keeps := trivial

theorem State.uidRinse_key : ∀ x0 s, (State.uidRinse x0 s).key = s.key := by
  intros; unfold State.uidRinse; simp only [State.updDmx_key]

theorem execUidRinse_key : ∀ x0 s, Keeps s.key (execUidRinse x0 s) := by
  intros; unfold execUidRinse; (try simp only [↓State.key_mk, ↓State.key_fold, State.key_ite, State.key_foldl, keeps_next_iff, keepsC_ok, keepsC_error, keepsR_ok, keepsR_error, ite_self, implies_true, State.uidRinse_key]); (repeat' ((first | (refine keeps_ite _ _ _ _ ?_ ?_) | (refine keepsC_bind _ _ _ ?_; intro _) | split | (refine (State.key_foldl _ _ _ ?_).trans ?_; intro _ _)) <;> (try simp only [keeps_next_iff, State.uidRinse_key])))

theorem State.dmxWrite_key : ∀ x0 x1 x2 s, (State.dmxWrite x0 x1 x2 s).key = s.key := by
  intros; unfold State.dmxWrite; simp only [State.key_ite, ite_self, State.uidRinse_key]

theorem State.pressDmx_key : ∀ x0 s, (State.pressDmx x0 s).key = s.key := by
  intros; unfold State.pressDmx; simp only [↓State.key_mk, ↓State.key_fold]

theorem execDmxDefine_key : ∀ x0 s, Keeps s.key (execDmxDefine x0 s) := by
  exact fun r s => hostCommand_key _ r s dmxDefineOp_key

theorem State.settleLeads_key : ∀ x0 s, (State.settleLeads x0 s).key = s.key := by
  intros; unfold State.settleLeads; simp only [↓State.key_mk, ↓State.key_fold, State.key_ite, State.key_foldl, ite_self, implies_true, State.updFlow_key, State.raise_key]

theorem State.applyLatency_key : ∀ x0 s, (State.applyLatency x0 s).1.key = s.key := by
  intros; unfold State.applyLatency; (try simp only []); (repeat' ((first | (refine keeps_ite _ _ _ _ ?_ ?_) | (refine keepsC_bind _ _ _ ?_; intro _) | split | (refine (State.key_foldl _ _ _ ?_).trans ?_; intro _ _)) <;> (try simp only [↓State.key_mk, ↓State.key_fold])))

theorem State.cutLatency_key : ∀ n s, (State.cutLatency n s).key = s.key := by
  intro n s
  unfold State.cutLatency
  simp only [State.key_foldl, State.raiseFrame_key, implies_true, State.settleLeads_key, ↓State.key_mk, ↓State.key_fold]
  exact State.key_foldl_pair _ _ _ fun e x => applyLatency_key x e.1

theorem State.cutLatRuns_key : ∀ x0 s, (State.cutLatRuns x0 s).key = s.key := by
  intros; unfold State.cutLatRuns; simp only [↓State.key_mk, ↓State.key_fold]

theorem State.pressLatency_key : ∀ x0 x1 s, (State.pressLatency x0 x1 s).key = s.key := by
  intros; unfold State.pressLatency; simp only [↓State.key_mk, ↓State.key_fold]

theorem State.sendProbe_key : ∀ x0 x1 x2 s, (State.sendProbe x0 x1 x2 s).key = s.key := by
  intros; unfold State.sendProbe; simp only [State.laneSend_key]

theorem State.reportNode_key : ∀ x0 x1 s, (State.reportNode x0 x1 s).key = s.key := by
  intros; unfold State.reportNode; (try simp only [↓State.key_mk, ↓State.key_fold, State.key_ite, State.key_foldl, keeps_next_iff, keepsC_ok, keepsC_error, keepsR_ok, keepsR_error, ite_self, implies_true, State.emit_key]); (repeat' ((first | (refine keeps_ite _ _ _ _ ?_ ?_) | (refine keepsC_bind _ _ _ ?_; intro _) | split | (refine (State.key_foldl _ _ _ ?_).trans ?_; intro _ _)) <;> (try simp only [↓State.key_mk, ↓State.key_fold, State.key_ite, State.key_foldl, keeps_next_iff, keepsC_ok, keepsC_error, keepsR_ok, keepsR_error, ite_self, implies_true, State.emit_key])))

theorem execIxnikProbeRx_key : ∀ x0 x1 x2 x3 s, Keeps s.key (execIxnikProbeRx x0 x1 x2 x3 s) := by
  intros; unfold execIxnikProbeRx; (try simp only [↓State.key_mk, ↓State.key_fold, State.key_ite, State.key_foldl, keeps_next_iff, keepsC_ok, keepsC_error, keepsR_ok, keepsR_error, ite_self, implies_true, State.receive_key, State.updLane_key, State.laneSend_key, State.reportNode_key]); (repeat' ((first | (refine keeps_ite _ _ _ _ ?_ ?_) | (refine keepsC_bind _ _ _ ?_; intro _) | split | (refine (State.key_foldl _ _ _ ?_).trans ?_; intro _ _)) <;> (try simp only [↓State.key_mk, ↓State.key_fold, State.key_ite, State.key_foldl, keeps_next_iff, keepsC_ok, keepsC_error, keepsR_ok, keepsR_error, ite_self, implies_true, State.receive_key, State.updLane_key, State.laneSend_key, State.reportNode_key])))

theorem State.startProbing_key : ∀ x0 x1 s, (State.startProbing x0 x1 s).key = s.key := by
  intros; unfold State.startProbing; (try simp only []); (repeat' ((first | (refine keeps_ite _ _ _ _ ?_ ?_) | (refine keepsC_bind _ _ _ ?_; intro _) | split | (refine (State.key_foldl _ _ _ ?_).trans ?_; intro _ _)) <;> (try simp only [↓State.key_mk, ↓State.key_fold, State.sendProbe_key])))

theorem latencyMeasureOp_key : latencyMeasureOp.Keeps := by
  unfold Op.Keeps latencyMeasureOp; (try trivial); (try (intro r s; (try simp only []); (repeat' (first | (refine keepsR_bind _ _ _ ?_; intro _) | split) <;> (try simp only [↓State.key_mk, ↓State.key_fold, keepsR_ok, State.startJob_key, State.startProbing_key]))))

theorem State.endLatRun_key : ∀ x0 x1 x2 s, (State.endLatRun x0 x1 x2 s).key = s.key := by
  intros; unfold State.endLatRun; simp only [↓State.key_mk, ↓State.key_fold, State.key_ite, ite_self, State.endJob_key]

theorem State.updLatRun_key : ∀ x0 x1 s, (State.updLatRun x0 x1 s).key = s.key := by
  intros; unfold State.updLatRun; simp only [↓State.key_mk, ↓State.key_fold]

theorem State.addLatency_key : ∀ x0 s, (State.addLatency x0 s).key = s.key := by
  intros; unfold State.addLatency; simp only [↓State.key_mk, ↓State.key_fold]

theorem State.endLatRuns_key : ∀ s, (State.endLatRuns s).key = s.key := by
  intros; unfold State.endLatRuns; simp only [State.key_foldl, implies_true, State.endLatRun_key]

theorem execLatencyStartTimeout_key : ∀ s, Keeps s.key (execLatencyStartTimeout s) := by
  intros; unfold execLatencyStartTimeout; (try simp only []); (repeat' ((first | (refine keeps_ite _ _ _ _ ?_ ?_) | (refine keepsC_bind _ _ _ ?_; intro _) | split | (refine (State.key_foldl _ _ _ ?_).trans ?_; intro _ _)) <;> (try simp only [keeps_next_iff, State.advanceNow_key, State.endLatRun_key])))

theorem State.finishProbing_key : ∀ x0 x1 s, (State.finishProbing x0 x1 s).key = s.key := by
  intros; unfold State.finishProbing; simp only [↓State.key_mk, ↓State.key_fold, State.key_ite, ite_self, State.addLatency_key, State.endLatRun_key]

theorem State.measureLink_key : ∀ x0 x1 s, (State.measureLink x0 x1 s).key = s.key := by
  intros; unfold State.measureLink; (try simp only []); (repeat' ((first | (refine keeps_ite _ _ _ _ ?_ ?_) | (refine keepsC_bind _ _ _ ?_; intro _) | split | (refine (State.key_foldl _ _ _ ?_).trans ?_; intro _ _)) <;> (try simp only [↓State.key_mk, ↓State.key_fold, State.key_ite, ite_self, State.raise_key])))

theorem State.useProbeReply_key : ∀ x0 x1 x2 x3 x4 x5 s, (State.useProbeReply x0 x1 x2 x3 x4 x5 s).key = s.key := by
  intros; unfold State.useProbeReply; (try simp only []); (repeat' ((first | (refine keeps_ite _ _ _ _ ?_ ?_) | (refine keepsC_bind _ _ _ ?_; intro _) | split | (refine (State.key_foldl _ _ _ ?_).trans ?_; intro _ _)) <;> (try simp only [State.key_ite, State.endLatRun_key, State.finishProbing_key, State.updLatRun_key, State.sendProbe_key, State.elapse_key])))

theorem execProbeReplyRx_key : ∀ x0 x1 x2 x3 x4 x5 s, Keeps s.key (execProbeReplyRx x0 x1 x2 x3 x4 x5 s) := by
  intros; unfold execProbeReplyRx; (try simp only [keeps_next_iff]); (repeat' ((first | (refine State.receive_key _ _ _ _ ?_; intro _) | (refine keeps_ite _ _ _ _ ?_ ?_) | (refine keepsC_bind _ _ _ ?_; intro _) | split | (refine (State.key_foldl _ _ _ ?_).trans ?_; intro _ _)) <;> (try simp only [State.key_ite, ite_self, implies_true, State.receive_key, State.useProbeReply_key, State.measureLink_key])))

theorem execLatencyRepeatInterval_key : ∀ x0 s, Keeps s.key (execLatencyRepeatInterval x0 s) := by
  intros; unfold execLatencyRepeatInterval; (try simp only [keeps_next_iff]); (repeat' ((first | (refine keeps_ite _ _ _ _ ?_ ?_) | (refine keepsC_bind _ _ _ ?_; intro _) | split | (refine (State.key_foldl _ _ _ ?_).trans ?_; intro _ _)) <;> (try simp only [State.startProbing_key, State.advanceNow_key])))

theorem State.latCapture_key : ∀ x0 x1 x2 s, (State.latCapture x0 x1 x2 s).key = s.key := by
  intros; unfold State.latCapture; (try simp only []); (repeat' ((first | (refine keeps_ite _ _ _ _ ?_ ?_) | (refine keepsC_bind _ _ _ ?_; intro _) | split | (refine (State.key_foldl _ _ _ ?_).trans ?_; intro _ _)) <;> (try simp only [State.key_ite, ite_self, State.updLatRun_key, State.endLatRun_key, State.addLatency_key])))

theorem execLatencyCaptureTimeout_key : ∀ s, Keeps s.key (execLatencyCaptureTimeout s) := by
  intros; unfold execLatencyCaptureTimeout; (try simp only []); (repeat' ((first | (refine keeps_ite _ _ _ _ ?_ ?_) | (refine keepsC_bind _ _ _ ?_; intro _) | split | (refine (State.key_foldl _ _ _ ?_).trans ?_; intro _ _)) <;> (try simp only [keeps_next_iff, State.endLatRun_key, State.advanceTo_key])))

theorem execTtiEdge_key : ∀ x0 x1 s, Keeps s.key (execTtiEdge x0 x1 s) := by
  intros; unfold execTtiEdge; (try simp only []); (repeat' ((first | (refine keeps_ite _ _ _ _ ?_ ?_) | (refine keepsC_bind _ _ _ ?_; intro _) | split | (refine (State.key_foldl _ _ _ ?_).trans ?_; intro _ _)) <;> (try simp only [State.key_ite, keeps_next_iff, ite_self, State.captureEdge_key, State.latCapture_key])))

theorem latencyTableOp_key : latencyTableOp.Keeps := by
  unfold Op.Keeps latencyTableOp; (try trivial); (try (intro r s; (try simp only []); (repeat' (first | (refine keepsR_bind _ _ _ ?_; intro _) | split) <;> (try simp only [keepsR_ok]))))

theorem execLatencyMeasure_key : ∀ x0 s, Keeps s.key (execLatencyMeasure x0 s) := by
  exact fun r s => hostCommand_key _ r s latencyMeasureOp_key

theorem execLatencyTable_key : ∀ x0 s, Keeps s.key (execLatencyTable x0 s) := by
  exact fun r s => hostCommand_key _ r s latencyTableOp_key

theorem State.useFeeds_key : ∀ x0 x1 x2 x3 s, (State.useFeeds x0 x1 x2 x3 s).key = s.key := by
  intros; unfold State.useFeeds; (try simp only []); (repeat' ((first | (refine keeps_ite _ _ _ _ ?_ ?_) | (refine keepsC_bind _ _ _ ?_; intro _) | split | (refine (State.key_foldl _ _ _ ?_).trans ?_; intro _ _)) <;> (try simp only [↓State.key_mk, ↓State.key_fold])))

theorem State.putInForce_key : ∀ x0 x1 x2 x3 x4 x5 s, (State.putInForce x0 x1 x2 x3 x4 x5 s).key = s.key := by
  intros; unfold State.putInForce; simp only [State.updPort_key]

theorem State.keepScan_key : ∀ x0 x1 s, (State.keepScan x0 x1 s).key = s.key := by
  intros; unfold State.keepScan; (try simp only [↓State.key_mk, ↓State.key_fold, State.key_ite, State.key_foldl, keeps_next_iff, keepsC_ok, keepsC_error, keepsR_ok, keepsR_error, ite_self, implies_true, State.updPort_key]); (repeat' ((first | (refine keeps_ite _ _ _ _ ?_ ?_) | (refine keepsC_bind _ _ _ ?_; intro _) | split | (refine (State.key_foldl _ _ _ ?_).trans ?_; intro _ _)) <;> (try simp only [↓State.key_mk, ↓State.key_fold, State.key_ite, State.key_foldl, keeps_next_iff, keepsC_ok, keepsC_error, keepsR_ok, keepsR_error, ite_self, implies_true, State.updPort_key])))

theorem State.scanSwap_key : ∀ x0 x1 x2 s, (State.scanSwap x0 x1 x2 s).key = s.key := by
  intros; unfold State.scanSwap; (try simp only [↓State.key_mk, ↓State.key_fold, State.key_ite, State.key_foldl, keeps_next_iff, keepsC_ok, keepsC_error, keepsR_ok, keepsR_error, ite_self, implies_true, State.scanOut_key, State.scanLat_key]); (repeat' ((first | (refine keeps_ite _ _ _ _ ?_ ?_) | (refine keepsC_bind _ _ _ ?_; intro _) | split | (refine (State.key_foldl _ _ _ ?_).trans ?_; intro _ _)) <;> (try simp only [↓State.key_mk, ↓State.key_fold, State.key_ite, State.key_foldl, keeps_next_iff, keepsC_ok, keepsC_error, keepsR_ok, keepsR_error, ite_self, implies_true, State.scanOut_key, State.scanLat_key])))

theorem State.issueScan_key : ∀ p f n s, (State.issueScan p f n s).1.key = s.key := by
  intro p f n s
  unfold State.issueScan
  dsimp only
  repeat' split
  all_goals simp only [State.key_ite, ite_self, State.keepScan_key, State.updPort_key, State.useFeeds_key, State.scanStop_key, State.scanOut_key, State.putInForce_key, State.scanSwap_key]

theorem State.scanVisit_key : ∀ x0 x1 x2 x3 x4 x5 x6 x7 s, (State.scanVisit x0 x1 x2 x3 x4 x5 x6 x7 s).key = s.key := by
  intros; unfold State.scanVisit; (try simp only [↓State.key_mk, ↓State.key_fold, State.key_ite, State.key_foldl, keeps_next_iff, keepsC_ok, keepsC_error, keepsR_ok, keepsR_error, ite_self, implies_true, State.scanLat_key, State.scanOe_key, State.scanOut_key, State.scanAddress_key]); (repeat' ((first | (refine keeps_ite _ _ _ _ ?_ ?_) | (refine keepsC_bind _ _ _ ?_; intro _) | split | (refine (State.key_foldl _ _ _ ?_).trans ?_; intro _ _)) <;> (try simp only [↓State.key_mk, ↓State.key_fold, State.key_ite, State.key_foldl, keeps_next_iff, keepsC_ok, keepsC_error, keepsR_ok, keepsR_error, ite_self, implies_true, State.scanLat_key, State.scanOe_key, State.scanOut_key, State.scanAddress_key])))

theorem State.scanVisits_key : ∀ p d c u r l k s, (State.scanVisits p d c u r l k s).key = s.key := by
  intro p d c u r l
  induction l with
  | nil => intros; rfl
  | cons v l ih => intro k s; exact (ih _ _).trans (State.scanVisit_key _ _ _ _ _ _ _ _ _)

theorem State.emitRefresh_key : ∀ x0 x1 x2 x3 x4 s, (State.emitRefresh x0 x1 x2 x3 x4 s).key = s.key := by
  intros; unfold State.emitRefresh; (try simp only [↓State.key_mk, ↓State.key_fold, State.key_ite, State.key_foldl, keeps_next_iff, keepsC_ok, keepsC_error, keepsR_ok, keepsR_error, ite_self, implies_true, State.scanAddress_key, State.scanOut_key, State.scanVisits_key]); (repeat' ((first | (refine keeps_ite _ _ _ _ ?_ ?_) | (refine keepsC_bind _ _ _ ?_; intro _) | split | (refine (State.key_foldl _ _ _ ?_).trans ?_; intro _ _)) <;> (try simp only [↓State.key_mk, ↓State.key_fold, State.key_ite, State.key_foldl, keeps_next_iff, keepsC_ok, keepsC_error, keepsR_ok, keepsR_error, ite_self, implies_true, State.scanAddress_key, State.scanOut_key, State.scanVisits_key])))

theorem State.emitSlot_key : ∀ x0 x1 x2 x3 s, (State.emitSlot x0 x1 x2 x3 s).key = s.key := by
  intros; unfold State.emitSlot; (try simp only [↓State.key_mk, ↓State.key_fold, State.key_ite, State.key_foldl, keeps_next_iff, keepsC_ok, keepsC_error, keepsR_ok, keepsR_error, ite_self, implies_true, State.scanOut_key, State.scanAddress_key, State.scanLat_key, State.scanOe_key]); (repeat' ((first | (refine keeps_ite _ _ _ _ ?_ ?_) | (refine keepsC_bind _ _ _ ?_; intro _) | split | (refine (State.key_foldl _ _ _ ?_).trans ?_; intro _ _)) <;> (try simp only [↓State.key_mk, ↓State.key_fold, State.key_ite, State.key_foldl, keeps_next_iff, keepsC_ok, keepsC_error, keepsR_ok, keepsR_error, ite_self, implies_true, State.scanOut_key, State.scanAddress_key, State.scanLat_key, State.scanOe_key])))

theorem State.runSlot_key : ∀ x0 x1 x2 x3 x4 s, (State.runSlot x0 x1 x2 x3 x4 s).key = s.key := by
  intros; unfold State.runSlot; (try simp only [↓State.key_mk, ↓State.key_fold, State.key_ite, State.key_foldl, keeps_next_iff, keepsC_ok, keepsC_error, keepsR_ok, keepsR_error, ite_self, implies_true, State.emitSlot_key, State.detectionSlot_key]); (repeat' ((first | (refine keeps_ite _ _ _ _ ?_ ?_) | (refine keepsC_bind _ _ _ ?_; intro _) | split | (refine (State.key_foldl _ _ _ ?_).trans ?_; intro _ _)) <;> (try simp only [↓State.key_mk, ↓State.key_fold, State.key_ite, State.key_foldl, keeps_next_iff, keepsC_ok, keepsC_error, keepsR_ok, keepsR_error, ite_self, implies_true, State.emitSlot_key, State.detectionSlot_key])))

theorem execScanRefreshStart_key : ∀ x0 x1 s, Keeps s.key (execScanRefreshStart x0 x1 s) := by
  intros; unfold execScanRefreshStart; (try simp only [↓State.key_mk, ↓State.key_fold, State.key_ite, State.key_foldl, keeps_next_iff, keepsC_ok, keepsC_error, keepsR_ok, keepsR_error, ite_self, implies_true, State.advanceTo_key, State.scanOut_key, State.emitRefresh_key, State.updPort_key, State.runSlot_key]); (repeat' ((first | (refine keeps_ite _ _ _ _ ?_ ?_) | (refine keepsC_bind _ _ _ ?_; intro _) | split | (refine (State.key_foldl _ _ _ ?_).trans ?_; intro _ _)) <;> (try simp only [↓State.key_mk, ↓State.key_fold, State.key_ite, State.key_foldl, keeps_next_iff, keepsC_ok, keepsC_error, keepsR_ok, keepsR_error, ite_self, implies_true, State.advanceTo_key, State.scanOut_key, State.emitRefresh_key, State.updPort_key, State.runSlot_key])))

theorem State.emitLine_key : ∀ x0 x1 x2 x3 x4 s, (State.emitLine x0 x1 x2 x3 x4 s).key = s.key := by
  intros; unfold State.emitLine; (try simp only [↓State.key_mk, ↓State.key_fold, State.key_ite, State.key_foldl, keeps_next_iff, keepsC_ok, keepsC_error, keepsR_ok, keepsR_error, ite_self, implies_true, State.scanOut_key, State.scanOe_key, State.scanAddress_key, State.scanLat_key]); (repeat' ((first | (refine keeps_ite _ _ _ _ ?_ ?_) | (refine keepsC_bind _ _ _ ?_; intro _) | split | (refine (State.key_foldl _ _ _ ?_).trans ?_; intro _ _)) <;> (try simp only [↓State.key_mk, ↓State.key_fold, State.key_ite, State.key_foldl, keeps_next_iff, keepsC_ok, keepsC_error, keepsR_ok, keepsR_error, ite_self, implies_true, State.scanOut_key, State.scanOe_key, State.scanAddress_key, State.scanLat_key])))

theorem execScanLineWrite_key : ∀ x0 x1 x2 s, Keeps s.key (execScanLineWrite x0 x1 x2 s) := by
  intros; unfold execScanLineWrite; (try simp only [↓State.key_mk, ↓State.key_fold, State.key_ite, State.key_foldl, keeps_next_iff, keepsC_ok, keepsC_error, keepsR_ok, keepsR_error, ite_self, implies_true, State.advanceTo_key, State.updPort_key, State.emitLine_key, State.runSlot_key]); (repeat' ((first | (refine keeps_ite _ _ _ _ ?_ ?_) | (refine keepsC_bind _ _ _ ?_; intro _) | split | (refine (State.key_foldl _ _ _ ?_).trans ?_; intro _ _)) <;> (try simp only [↓State.key_mk, ↓State.key_fold, State.key_ite, State.key_foldl, keeps_next_iff, keepsC_ok, keepsC_error, keepsR_ok, keepsR_error, ite_self, implies_true, State.advanceTo_key, State.updPort_key, State.emitLine_key, State.runSlot_key])))

theorem rdmRequestOp_key : rdmRequestOp.Keeps := by
  unfold Op.Keeps rdmRequestOp; (try trivial); (try (intro r s; (try simp only []); (repeat' (first | (refine keepsR_bind _ _ _ ?_; intro _) | split) <;> (try simp only [keepsR_ok, State.updDmx_key]))))

theorem rdmDiscoverOp_key : rdmDiscoverOp.Keeps := by
  unfold Op.Keeps rdmDiscoverOp; (try trivial); (try (intro r s; (try simp only []); (repeat' (first | (refine keepsR_bind _ _ _ ?_; intro _) | split) <;> (try simp only [keepsR_ok, State.startJob_key, State.updDmx_key]))))

theorem State.startRdm_key : ∀ x0 x1 x2 x3 x4 s, (State.startRdm x0 x1 x2 x3 x4 s).key = s.key := by
  intros; unfold State.startRdm; simp only [State.advanceTo_key, State.drive_key, State.updDmx_key]

theorem execRdmTransactionStart_key : ∀ x0 s, Keeps s.key (execRdmTransactionStart x0 s) := by
  intros; unfold execRdmTransactionStart; (try simp only []); (repeat' ((first | (refine keeps_ite _ _ _ _ ?_ ?_) | (refine keepsC_bind _ _ _ ?_; intro _) | split | (refine (State.key_foldl _ _ _ ?_).trans ?_; intro _ _)) <;> (try simp only [keeps_next_iff, State.updDmx_key, State.startRdm_key])))

theorem State.endRequest_key : ∀ x0 x1 s, (State.endRequest x0 x1 s).key = s.key := by
  intros; unfold State.endRequest; simp only [State.completeAny_key, State.updDmx_key]

theorem State.nextBranch_key : ∀ x0 x1 s, (State.nextBranch x0 x1 s).key = s.key := by
  intros; unfold State.nextBranch; (try simp only [↓State.key_mk, ↓State.key_fold, State.key_ite, State.key_foldl, keeps_next_iff, keepsC_ok, keepsC_error, keepsR_ok, keepsR_error, ite_self, implies_true, State.updDmx_key, State.endJob_key]); (repeat' ((first | (refine keeps_ite _ _ _ _ ?_ ?_) | (refine keepsC_bind _ _ _ ?_; intro _) | split | (refine (State.key_foldl _ _ _ ?_).trans ?_; intro _ _)) <;> (try simp only [State.updDmx_key, State.endJob_key])))

theorem State.collide_key : ∀ x0 x1 x2 x3 s, (State.collide x0 x1 x2 x3 s).key = s.key := by
  intros; unfold State.collide; simp only [State.key_ite, ite_self, State.updDmx_key, State.nextBranch_key]

theorem State.foundUid_key : ∀ x0 x1 s, (State.foundUid x0 x1 s).key = s.key := by
  intros; unfold State.foundUid; simp only [State.arrive_key]

theorem State.discResponse_key : ∀ x0 x1 x2 s, (State.discResponse x0 x1 x2 s).key = s.key := by
  intros; unfold State.discResponse; (try simp only []); (repeat' ((first | (refine keeps_ite _ _ _ _ ?_ ?_) | (refine keepsC_bind _ _ _ ?_; intro _) | split | (refine (State.key_foldl _ _ _ ?_).trans ?_; intro _ _)) <;> (try simp only [State.key_ite, ite_self, State.updDmx_key, State.collide_key, State.foundUid_key])))

theorem State.cutRdm_key : ∀ x0 s, (State.cutRdm x0 s).key = s.key := by
  intros; unfold State.cutRdm; (try simp only [↓State.key_mk, ↓State.key_fold, State.key_ite, State.key_foldl, keeps_next_iff, keepsC_ok, keepsC_error, keepsR_ok, keepsR_error, ite_self, implies_true, State.updDmx_key, State.endRequest_key, State.collide_key]); (repeat' ((first | (refine keeps_ite _ _ _ _ ?_ ?_) | (refine keepsC_bind _ _ _ ?_; intro _) | split | (refine (State.key_foldl _ _ _ ?_).trans ?_; intro _ _)) <;> (try simp only [↓State.key_mk, ↓State.key_fold, State.key_ite, State.key_foldl, keeps_next_iff, keepsC_ok, keepsC_error, keepsR_ok, keepsR_error, ite_self, implies_true, State.updDmx_key, State.endRequest_key, State.collide_key])))

theorem State.lateResponse_key : ∀ x0 x1 s, (State.lateResponse x0 x1 s).key = s.key := by
  intros; unfold State.lateResponse; (try simp only [↓State.key_mk, ↓State.key_fold, State.key_ite, State.key_foldl, keeps_next_iff, keepsC_ok, keepsC_error, keepsR_ok, keepsR_error, ite_self, implies_true, State.updDmx_key]); (repeat' ((first | (refine keeps_ite _ _ _ _ ?_ ?_) | (refine keepsC_bind _ _ _ ?_; intro _) | split | (refine (State.key_foldl _ _ _ ?_).trans ?_; intro _ _)) <;> (try simp only [↓State.key_mk, ↓State.key_fold, State.key_ite, State.key_foldl, keeps_next_iff, keepsC_ok, keepsC_error, keepsR_ok, keepsR_error, ite_self, implies_true, State.updDmx_key])))

theorem execRdmResponseRx_key : ∀ x0 x1 s, Keeps s.key (execRdmResponseRx x0 x1 s) := by
  intros; unfold execRdmResponseRx; (try simp only [↓State.key_mk, ↓State.key_fold, State.key_ite, State.key_foldl, keeps_next_iff, keepsC_ok, keepsC_error, keepsR_ok, keepsR_error, ite_self, implies_true, State.updDmx_key, State.lateResponse_key, State.endRequest_key, State.discResponse_key]); (repeat' ((first | (refine keeps_ite _ _ _ _ ?_ ?_) | (refine keepsC_bind _ _ _ ?_; intro _) | split | (refine (State.key_foldl _ _ _ ?_).trans ?_; intro _ _)) <;> (try simp only [↓State.key_mk, ↓State.key_fold, State.key_ite, State.key_foldl, keeps_next_iff, keepsC_ok, keepsC_error, keepsR_ok, keepsR_error, ite_self, implies_true, State.updDmx_key, State.lateResponse_key, State.endRequest_key, State.discResponse_key])))

theorem execRdmResponseTimeout_key : ∀ x0 s, Keeps s.key (execRdmResponseTimeout x0 s) := by
  intros; unfold execRdmResponseTimeout; (try simp only []); (repeat' ((first | (refine keeps_ite _ _ _ _ ?_ ?_) | (refine keepsC_bind _ _ _ ?_; intro _) | split | (refine (State.key_foldl _ _ _ ?_).trans ?_; intro _ _)) <;> (try simp only [keeps_next_iff, State.endRequest_key, State.advanceNow_key, State.updDmx_key, State.nextBranch_key, State.collide_key])))

theorem State.pressRdm_key : ∀ x0 s, (State.pressRdm x0 s).key = s.key := by
  intros; unfold State.pressRdm; (try simp only []); (repeat' ((first | (refine keeps_ite _ _ _ _ ?_ ?_) | (refine keepsC_bind _ _ _ ?_; intro _) | split | (refine (State.key_foldl _ _ _ ?_).trans ?_; intro _ _)) <;> (try simp only [State.key_ite, ite_self, State.endRequest_key, State.endJob_key, State.updDmx_key])))

theorem execRdmRequest_key : ∀ x0 s, Keeps s.key (execRdmRequest x0 s) := by
  exact fun r s => hostCommand_key _ r s rdmRequestOp_key

theorem execRdmDiscover_key : ∀ x0 s, Keeps s.key (execRdmDiscover x0 s) := by
  exact fun r s => hostCommand_key _ r s rdmDiscoverOp_key

theorem State.dispatch_key : ∀ s, (State.dispatch s).key = s.key := by
  intros; unfold State.dispatch; simp only [↓State.key_mk, ↓State.key_fold]

theorem State.startReady_key : ∀ s, (State.startReady s).key = s.key := by
  intros; unfold State.startReady; simp only [↓State.key_mk, ↓State.key_fold, State.dispatch_key]

theorem State.releaseFrame_key : ∀ x0 x1 s, (State.releaseFrame x0 x1 s).key = s.key := by
  intros; unfold State.releaseFrame; (try simp only [↓State.key_mk, ↓State.key_fold, State.key_ite, State.key_foldl, keeps_next_iff, keepsC_ok, keepsC_error, keepsR_ok, keepsR_error, ite_self, implies_true, State.updFlow_key]); (repeat' ((first | (refine keeps_ite _ _ _ _ ?_ ?_) | (refine keepsC_bind _ _ _ ?_; intro _) | split | (refine (State.key_foldl _ _ _ ?_).trans ?_; intro _ _)) <;> (try simp only [State.updFlow_key])))

theorem State.releaseFlows_key : ∀ x0 x1 s, (State.releaseFlows x0 x1 s).key = s.key := by
  intros; unfold State.releaseFlows; (try simp only []); (repeat' ((first | (refine keeps_ite _ _ _ _ ?_ ?_) | (refine keepsC_bind _ _ _ ?_; intro _) | split | (refine (State.key_foldl _ _ _ ?_).trans ?_; intro _ _)) <;> (try simp only [State.key_foldl, implies_true, State.releaseFrame_key])))

theorem State.compareWindow_key : ∀ x0 x1 x2 s, (State.compareWindow x0 x1 x2 s).key = s.key := by
  intros; unfold State.compareWindow; (try simp only [↓State.key_mk, ↓State.key_fold, State.key_ite, State.key_foldl, keeps_next_iff, keepsC_ok, keepsC_error, keepsR_ok, keepsR_error, ite_self, implies_true, State.compareWitness_key, State.updFrame_key]); (repeat' ((first | (refine keeps_ite _ _ _ _ ?_ ?_) | (refine keepsC_bind _ _ _ ?_; intro _) | split | (refine (State.key_foldl _ _ _ ?_).trans ?_; intro _ _)) <;> (try simp only [State.key_ite, ite_self, State.compareWitness_key, State.updFrame_key])))

theorem State.compareWindows_key : ∀ x0 x1 x2 s, (State.compareWindows x0 x1 x2 s).key = s.key := by
  intros; unfold State.compareWindows; (try simp only []); (repeat' ((first | (refine keeps_ite _ _ _ _ ?_ ?_) | (refine keepsC_bind _ _ _ ?_; intro _) | split | (refine (State.key_foldl _ _ _ ?_).trans ?_; intro _ _)) <;> (try simp only [State.key_foldl, implies_true, State.compareWindow_key])))

theorem State.compareOwed_key : ∀ x0 s, (State.compareOwed x0 s).key = s.key := by
  intros; unfold State.compareOwed; (try simp only [↓State.key_mk, ↓State.key_fold, State.key_ite, State.key_foldl, keeps_next_iff, keepsC_ok, keepsC_error, keepsR_ok, keepsR_error, ite_self, implies_true, State.compareWindow_key, State.updFrame_key]); (repeat' ((first | (refine keeps_ite _ _ _ _ ?_ ?_) | (refine keepsC_bind _ _ _ ?_; intro _) | split | (refine (State.key_foldl _ _ _ ?_).trans ?_; intro _ _)) <;> (try simp only [State.key_foldl, implies_true, State.compareWindow_key, State.updFrame_key])))

theorem execJobComplete_key : ∀ x0 x1 s, Keeps s.key (execJobComplete x0 x1 s) := by
  intros; unfold execJobComplete; (try simp only []); (repeat' ((first | (refine keeps_ite _ _ _ _ ?_ ?_) | (refine keepsC_bind _ _ _ ?_; intro _) | split | (refine (State.key_foldl _ _ _ ?_).trans ?_; intro _ _)) <;> (try simp only [↓State.key_mk, ↓State.key_fold, keeps_next_iff, State.updFrame_key, State.releaseFlows_key, State.compareWindows_key, State.startReady_key])))

theorem State.endSegment_key : ∀ x0 x1 s, (State.endSegment x0 x1 s).key = s.key := by
  intros; unfold State.endSegment; simp only [↓State.key_mk, ↓State.key_fold, State.key_ite, ite_self, State.dispatch_key]

theorem State.stopJob_key : ∀ x0 x1 s, (State.stopJob x0 x1 s).key = s.key := by
  intros; unfold State.stopJob; simp only [↓State.key_mk, ↓State.key_fold, State.dispatch_key]

theorem execBackgroundItemComplete_key : ∀ x0 x1 s, Keeps s.key (execBackgroundItemComplete x0 x1 s) := by
  intros; unfold execBackgroundItemComplete; (try simp only []); (repeat' ((first | (refine keeps_ite _ _ _ _ ?_ ?_) | (refine keepsC_bind _ _ _ ?_; intro _) | split | (refine (State.key_foldl _ _ _ ?_).trans ?_; intro _ _)) <;> (try simp only [↓State.key_mk, ↓State.key_fold, keeps_next_iff, State.dispatch_key])))

theorem State.queueJobs_key : ∀ x0 s, (State.queueJobs x0 s).key = s.key := by
  intros; unfold State.queueJobs; simp only [↓State.key_mk, ↓State.key_fold]

theorem State.openSlot_key : ∀ s, (State.openSlot s).key = s.key := by
  intros; unfold State.openSlot; simp only [↓State.key_mk, ↓State.key_fold]

theorem State.place_key : ∀ x0 x1 x2 x3 x4 x5 x6 s, (State.place x0 x1 x2 x3 x4 x5 x6 s).key = s.key := by
  intros; unfold State.place; simp only [State.key_foldl, implies_true, State.emit_key]

theorem State.useRaised_key : ∀ x0 s, (State.useRaised x0 s).key = s.key := by
  intros; unfold State.useRaised; (try simp only []); (repeat' ((first | (refine keeps_ite _ _ _ _ ?_ ?_) | (refine keepsC_bind _ _ _ ?_; intro _) | split | (refine (State.key_foldl _ _ _ ?_).trans ?_; intro _ _)) <;> (try simp only [↓State.key_mk, ↓State.key_fold])))

theorem State.flowFrame_key : ∀ x0 x1 x2 x3 x4 x5 x6 s, (State.flowFrame x0 x1 x2 x3 x4 x5 x6 s).2.2.key = s.key := by
  intros; unfold State.flowFrame; (try simp only []); (repeat' ((first | (refine keeps_ite _ _ _ _ ?_ ?_) | (refine keepsC_bind _ _ _ ?_; intro _) | split | (refine (State.key_foldl _ _ _ ?_).trans ?_; intro _ _)) <;> (try simp only [State.updFlow_key, State.useRaised_key])))

theorem State.countLaunch_key : ∀ x0 x1 x2 x3 x4 s, (State.countLaunch x0 x1 x2 x3 x4 s).key = s.key := by
  intros; unfold State.countLaunch; simp only [State.key_ite, ite_self, State.updLane_key, State.updFlow_key, State.raise_key]

theorem State.sendFrame_key : ∀ x0 x1 x2 x3 x4 x5 x6 s, (State.sendFrame x0 x1 x2 x3 x4 x5 x6 s).key = s.key := by
  intros; unfold State.sendFrame; simp only [State.key_ite, ite_self, State.flowFrame_key, State.countLaunch_key, State.place_key, State.emit_key]

theorem State.markLate_key : ∀ x0 x1 s, (State.markLate x0 x1 s).key = s.key := by
  intros; unfold State.markLate; simp only [State.key_ite, ite_self, State.updDmx_key]

theorem State.countLate_key : ∀ x0 x1 x2 s, (State.countLate x0 x1 x2 s).key = s.key := by
  intros; unfold State.countLate; simp only [State.key_ite, ite_self, State.markLate_key, State.updFlow_key, State.raiseFrame_key]

theorem State.sendDmx_key : ∀ x0 x1 x2 x3 s, (State.sendDmx x0 x1 x2 x3 s).key = s.key := by
  intros; unfold State.sendDmx; (try simp only [↓State.key_mk, ↓State.key_fold, State.key_ite, State.key_foldl, keeps_next_iff, keepsC_ok, keepsC_error, keepsR_ok, keepsR_error, ite_self, implies_true, State.cutRdm_key, State.updDmx_key, State.drive_key]); (repeat' ((first | (refine keeps_ite _ _ _ _ ?_ ?_) | (refine keepsC_bind _ _ _ ?_; intro _) | split | (refine (State.key_foldl _ _ _ ?_).trans ?_; intro _ _)) <;> (try simp only [↓State.key_mk, ↓State.key_fold, State.key_ite, State.key_foldl, keeps_next_iff, keepsC_ok, keepsC_error, keepsR_ok, keepsR_error, ite_self, implies_true, State.cutRdm_key, State.updDmx_key, State.drive_key])))

theorem State.repeatLast_key : ∀ x0 x1 x2 x3 s, (State.repeatLast x0 x1 x2 x3 s).key = s.key := by
  intros; unfold State.repeatLast; (try simp only [↓State.key_mk, ↓State.key_fold, State.key_ite, State.key_foldl, keeps_next_iff, keepsC_ok, keepsC_error, keepsR_ok, keepsR_error, ite_self, implies_true, State.sendFrame_key, State.sendDmx_key, State.emit_key, State.updFlow_key]); (repeat' ((first | (refine keeps_ite _ _ _ _ ?_ ?_) | (refine keepsC_bind _ _ _ ?_; intro _) | split | (refine (State.key_foldl _ _ _ ?_).trans ?_; intro _ _)) <;> (try simp only [↓State.key_mk, ↓State.key_fold, State.key_ite, State.key_foldl, keeps_next_iff, keepsC_ok, keepsC_error, keepsR_ok, keepsR_error, ite_self, implies_true, State.sendFrame_key, State.sendDmx_key, State.emit_key, State.updFlow_key])))

theorem State.replace_key : ∀ x0 x1 x2 x3 s, (State.replace x0 x1 x2 x3 s).key = s.key := by
  intros; unfold State.replace; simp only [State.key_ite, ite_self, State.repeatLast_key]

theorem State.launchNew_key : ∀ x0 x1 x2 x3 x4 s, (State.launchNew x0 x1 x2 x3 x4 s).key = s.key := by
  intros; unfold State.launchNew; (try simp only [↓State.key_mk, ↓State.key_fold, State.key_ite, State.key_foldl, keeps_next_iff, keepsC_ok, keepsC_error, keepsR_ok, keepsR_error, ite_self, implies_true, State.sendFrame_key, State.sendDmx_key, State.emit_key, State.updFlow_key]); (repeat' ((first | (refine keeps_ite _ _ _ _ ?_ ?_) | (refine keepsC_bind _ _ _ ?_; intro _) | split | (refine (State.key_foldl _ _ _ ?_).trans ?_; intro _ _)) <;> (try simp only [↓State.key_mk, ↓State.key_fold, State.key_ite, State.key_foldl, keeps_next_iff, keepsC_ok, keepsC_error, keepsR_ok, keepsR_error, ite_self, implies_true, State.sendFrame_key, State.sendDmx_key, State.emit_key, State.updFlow_key])))

theorem State.countUnresolved_key : ∀ x0 x1 s, (State.countUnresolved x0 x1 s).key = s.key := by
  intros; unfold State.countUnresolved; simp only [State.key_ite, ite_self, State.updLane_key, State.updFlow_key, State.raise_key]

theorem State.ifSendable_key : ∀ c n k b f s, (∀ t, (f t).key = t.key) → (State.ifSendable c n k b f s).key = s.key := by
  intro c n k b f s h
  unfold State.ifSendable
  split
  · exact h s
  · split
    · simp only [State.updFlow_key]
    · split
      · simp only [State.countUnresolved_key]
      · exact h s

theorem State.withhold_key : ∀ x0 x1 x2 x3 s, (State.withhold x0 x1 x2 x3 s).key = s.key := by
  intros; unfold State.withhold; simp only [State.replace_key, State.updFlow_key]

theorem State.issueFed_key : ∀ x0 x1 x2 x3 x4 s, (State.issueFed x0 x1 x2 x3 x4 s).key = s.key := by
  intros; unfold State.issueFed; (try simp only [State.key_ite, State.repeatLast_key]); (repeat' ((first | (refine keeps_ite _ _ _ _ ?_ ?_) | (refine keepsC_bind _ _ _ ?_; intro _) | split | (refine (State.key_foldl _ _ _ ?_).trans ?_; intro _ _)) <;> (try simp only [State.key_ite, ite_self, State.useFeeds_key, State.withhold_key, State.launchNew_key, State.replace_key, State.countLate_key])))

theorem State.issueFrame_key : ∀ x0 x1 x2 x3 s, (State.issueFrame x0 x1 x2 x3 s).key = s.key := by
  intros; unfold State.issueFrame; (try simp only [State.key_ite, State.replace_key, State.updFlow_key, State.withhold_key]); (repeat' ((first | (refine keeps_ite _ _ _ _ ?_ ?_) | (refine keepsC_bind _ _ _ ?_; intro _) | split | (refine (State.key_foldl _ _ _ ?_).trans ?_; intro _ _)) <;> (try simp only [State.replace_key, State.launchNew_key, State.countLate_key])))

theorem State.issuePanel_key : ∀ c a n f s, (State.issuePanel c a n f s).key = s.key := by
  intro c a n f s
  unfold State.issuePanel
  have h : ∀ p g : Nat, ∀ i, ∀ t u, State.issueScan p g i t = u → u.1.key = t.key := fun p g i t u e => e ▸ State.issueScan_key p g i t
  have h0 : (if s.withheldAt c a n f = true then State.updFlow a (fun x => { x with ready := x.ready.filter fun e => e.frame ≠ n }) s else s).key = s.key :=
    key_ite_of _ _ _ _ (State.updFlow_key _ _ _) rfl
  simp only
  split <;> rename_i e <;> have e1 := (h _ _ _ _ _ e).trans h0
  · rw [State.launchNew_key]; exact e1
  · exact e1
  · rw [State.replace_key]
    split
    · rw [State.updFlow_key]; exact e1
    · split
      · rw [State.updFlow_key]; exact e1
      · rw [State.countLate_key]; exact e1

theorem State.issue_key : ∀ x0 x1 x2 x3 s, (State.issue x0 x1 x2 x3 s).key = s.key := by
  intros; unfold State.issue; dsimp only; (try simp only [↓State.key_mk, ↓State.key_fold, State.key_ite, State.key_foldl, keeps_next_iff, keepsC_ok, keepsC_error, keepsR_ok, keepsR_error, ite_self, implies_true, State.endScan_key, State.issuePanel_key, State.ifSendable_key, State.sendFrame_key, State.markLate_key, State.keepScan_key, State.repeatLast_key, State.countLate_key, State.issueFrame_key, State.issueFed_key]); (repeat' ((first | (refine keeps_ite _ _ _ _ ?_ ?_) | (refine keepsC_bind _ _ _ ?_; intro _) | split | (refine (State.key_foldl _ _ _ ?_).trans ?_; intro _ _)) <;> (try simp only [↓State.key_mk, ↓State.key_fold, State.key_ite, State.key_foldl, keeps_next_iff, keepsC_ok, keepsC_error, keepsR_ok, keepsR_error, ite_self, implies_true, State.endScan_key, State.issuePanel_key, State.ifSendable_key, State.sendFrame_key, State.markLate_key, State.keepScan_key, State.repeatLast_key, State.countLate_key, State.issueFrame_key, State.issueFed_key])))

theorem State.afterIssue_key : ∀ x0 x1 s, (State.afterIssue x0 x1 s).key = s.key := by
  intros; unfold State.afterIssue; simp only [↓State.key_mk, ↓State.key_fold, State.key_ite, ite_self]

theorem execLaunchInstant_key : ∀ x0 s, Keeps s.key (execLaunchInstant x0 s) := by
  intros; unfold execLaunchInstant; (try simp only []); (repeat' ((first | (refine keeps_ite _ _ _ _ ?_ ?_) | (refine keepsC_bind _ _ _ ?_; intro _) | split | (refine (State.key_foldl _ _ _ ?_).trans ?_; intro _ _)) <;> (try simp only [keeps_next_iff, State.afterIssue_key, State.advanceTo_key, State.updFlow_key, State.issue_key])))

theorem execIxnikPacketRx_key : ∀ x0 x1 x2 s, Keeps s.key (execIxnikPacketRx x0 x1 x2 s) := by
  intros; unfold execIxnikPacketRx; (try simp only [keeps_next_iff]); (repeat' ((first | (refine State.receive_key _ _ _ _ ?_; intro _) | (refine keeps_ite _ _ _ _ ?_ ?_) | (refine keepsC_bind _ _ _ ?_; intro _) | split | (refine (State.key_foldl _ _ _ ?_).trans ?_; intro _ _)) <;> (try simp only [State.key_ite, State.updLane_key, State.compareOwed_key, State.useIxnik_key])))

theorem State.launchQueue_key : ∀ x0 s, (State.launchQueue x0 s).key = s.key := by
  intros; unfold State.launchQueue; (try simp only []); (repeat' ((first | (refine keeps_ite _ _ _ _ ?_ ?_) | (refine keepsC_bind _ _ _ ?_; intro _) | split | (refine (State.key_foldl _ _ _ ?_).trans ?_; intro _ _)) <;> (try simp only [State.key_ite, ite_self, State.updLane_key, State.emit_key, State.arrive_key])))

theorem execTtuPulse_key : ∀ x0 s, Keeps s.key (execTtuPulse x0 s) := by
  intros; unfold execTtuPulse; (try simp only []); (repeat' ((first | (refine keeps_ite _ _ _ _ ?_ ?_) | (refine keepsC_bind _ _ _ ?_; intro _) | split | (refine (State.key_foldl _ _ _ ?_).trans ?_; intro _ _)) <;> (try simp only [State.key_ite, keeps_next_iff, ite_self, State.fireUnit_key, State.launchQueue_key])))

end Sys2Proof.Machine
end

