-- ==== Sys2Proof/Laws/FrameUnit.lean ====
section
/-! SUPPORT. The fuses, the queue and the flash stay (see Frame): the definitions of metering, checks, storage and health. -/

namespace Sys2Proof.Machine

theorem meterDefineOp_key : meterDefineOp.Keeps := trivial

theorem feederDefineOp_key : feederDefineOp.Keeps := trivial

theorem State.latchMeter_key : ∀ x0 x1 x2 x3 s, (State.latchMeter x0 x1 x2 x3 s).key = s.key := by
  intros; unfold State.latchMeter; (try simp only [↓State.key_mk, ↓State.key_fold, State.key_ite, State.key_foldl, keeps_next_iff, keepsC_ok, keepsC_error, keepsR_ok, keepsR_error, ite_self, implies_true, NonVolatile.putAcc_flash, State.key_fold]); (repeat' ((first | (refine keeps_ite _ _ _ _ ?_ ?_) | (refine keepsC_bind _ _ _ ?_; intro _) | split | (refine (State.key_foldl _ _ _ ?_).trans ?_; intro _ _)) <;> (try simp only [↓State.key_mk, ↓State.key_fold, State.key_ite, State.key_foldl, keeps_next_iff, keepsC_ok, keepsC_error, keepsR_ok, keepsR_error, ite_self, implies_true, NonVolatile.putAcc_flash, State.key_fold])))

theorem State.addPulses_key : ∀ x0 x1 x2 s, (State.addPulses x0 x1 x2 s).key = s.key := by
  intros; unfold State.addPulses; simp only [↓State.key_mk, ↓State.key_fold, State.key_ite, State.key_foldl, ite_self, implies_true]

theorem State.pulseOut_key : ∀ x0 s, (State.pulseOut x0 s).key = s.key := by
  intros; unfold State.pulseOut; (try simp only [↓State.key_mk, ↓State.key_fold, State.key_ite, State.key_foldl, keeps_next_iff, keepsC_ok, keepsC_error, keepsR_ok, keepsR_error, ite_self, implies_true, State.drive_key]); (repeat' ((first | (refine keeps_ite _ _ _ _ ?_ ?_) | (refine keepsC_bind _ _ _ ?_; intro _) | split | (refine (State.key_foldl _ _ _ ?_).trans ?_; intro _ _)) <;> (try simp only [↓State.key_mk, ↓State.key_fold, State.key_ite, State.key_foldl, keeps_next_iff, keepsC_ok, keepsC_error, keepsR_ok, keepsR_error, ite_self, implies_true, State.drive_key])))

theorem execEpoPulse_key : ∀ x0 s, Keeps s.key (execEpoPulse x0 s) := by
  intros; unfold execEpoPulse; (try simp only [↓State.key_mk, ↓State.key_fold, State.key_ite, State.key_foldl, keeps_next_iff, keepsC_ok, keepsC_error, keepsR_ok, keepsR_error, ite_self, implies_true, State.advanceNow_key, State.count_key, State.pulseOut_key]); (repeat' ((first | (refine keeps_ite _ _ _ _ ?_ ?_) | (refine keepsC_bind _ _ _ ?_; intro _) | split | (refine (State.key_foldl _ _ _ ?_).trans ?_; intro _ _)) <;> (try simp only [↓State.key_mk, ↓State.key_fold, State.key_ite, State.key_foldl, keeps_next_iff, keepsC_ok, keepsC_error, keepsR_ok, keepsR_error, ite_self, implies_true, State.advanceNow_key, State.count_key, State.pulseOut_key])))

theorem State.updFeeder_key : ∀ x0 x1 s, (State.updFeeder x0 x1 s).key = s.key := by
  intros; unfold State.updFeeder; simp only [↓State.key_mk, ↓State.key_fold]

theorem State.feederOut_key : ∀ x0 x1 x2 x3 x4 s, (State.feederOut x0 x1 x2 x3 x4 s).key = s.key := by
  intros; unfold State.feederOut; simp only [State.drive_key]

theorem State.openOutputs_key : ∀ x0 x1 s, (State.openOutputs x0 x1 s).key = s.key := by
  intros; unfold State.openOutputs; simp only [State.feederOut_key]

theorem State.feederLevels_key : ∀ x0 s, (State.feederLevels x0 s).key = s.key := by
  intros; unfold State.feederLevels; (try simp only [↓State.key_mk, ↓State.key_fold, State.key_ite, State.key_foldl, keeps_next_iff, keepsC_ok, keepsC_error, keepsR_ok, keepsR_error, ite_self, implies_true, State.feederOut_key]); (repeat' ((first | (refine keeps_ite _ _ _ _ ?_ ?_) | (refine keepsC_bind _ _ _ ?_; intro _) | split | (refine (State.key_foldl _ _ _ ?_).trans ?_; intro _ _)) <;> (try simp only [↓State.key_mk, ↓State.key_fold, State.key_ite, State.key_foldl, keeps_next_iff, keepsC_ok, keepsC_error, keepsR_ok, keepsR_error, ite_self, implies_true, State.feederOut_key])))

theorem State.openFeeder_key : ∀ x0 x1 x2 s, (State.openFeeder x0 x1 x2 s).key = s.key := by
  intros; unfold State.openFeeder; simp only [State.openOutputs_key, State.updFeeder_key]

theorem State.closeFeeder_key : ∀ x0 s, (State.closeFeeder x0 s).key = s.key := by
  intros; unfold State.closeFeeder; simp only [State.updFeeder_key, State.untripPorts_key, State.feederOut_key]

theorem State.sampleFeeder_key : ∀ x0 x1 x2 x3 x4 s, (State.sampleFeeder x0 x1 x2 x3 x4 s).key = s.key := by
  intros; unfold State.sampleFeeder; simp only [State.key_ite, ite_self, State.updFeeder_key, State.raise_key, State.tripPorts_key, State.openFeeder_key]

theorem execFeederBleedDone_key : ∀ x0 s, Keeps s.key (execFeederBleedDone x0 s) := by
  intros; unfold execFeederBleedDone; (try simp only [↓State.key_mk, ↓State.key_fold, State.key_ite, State.key_foldl, keeps_next_iff, keepsC_ok, keepsC_error, keepsR_ok, keepsR_error, ite_self, implies_true, State.feederOut_key, State.updFeeder_key]); (repeat' ((first | (refine keeps_ite _ _ _ _ ?_ ?_) | (refine keepsC_bind _ _ _ ?_; intro _) | split | (refine (State.key_foldl _ _ _ ?_).trans ?_; intro _ _)) <;> (try simp only [keeps_next_iff, State.feederOut_key, State.updFeeder_key])))

theorem execFeederBleedTimeout_key : ∀ x0 s, Keeps s.key (execFeederBleedTimeout x0 s) := by
  intros; unfold execFeederBleedTimeout; (try simp only []); (repeat' ((first | (refine keeps_ite _ _ _ _ ?_ ?_) | (refine keepsC_bind _ _ _ ?_; intro _) | split | (refine (State.key_foldl _ _ _ ?_).trans ?_; intro _ _)) <;> (try simp only [keeps_next_iff, State.advanceNow_key, State.raise_key, State.updFeeder_key])))

theorem feederResetOp_key : feederResetOp.Keeps := by
  unfold Op.Keeps feederResetOp; (try trivial); (try (intro r s; (try simp only []); (repeat' (first | (refine keepsR_bind _ _ _ ?_; intro _) | split) <;> (try simp only [State.key_ite, keepsR_ok, ite_self, State.closeFeeder_key, State.openFeeder_key]))))

theorem State.clipInput_key : ∀ x0 s, (State.clipInput x0 s).key = s.key := by
  intros; unfold State.clipInput; simp only [↓State.key_mk, ↓State.key_fold, State.key_ite, ite_self, State.raise_key]

theorem State.saturateDelta_key : ∀ x0 x1 x2 s, (State.saturateDelta x0 x1 x2 s).key = s.key := by
  intros; unfold State.saturateDelta; (try simp only [↓State.key_mk, ↓State.key_fold, State.key_ite, State.key_foldl, keeps_next_iff, keepsC_ok, keepsC_error, keepsR_ok, keepsR_error, ite_self, implies_true, State.raise_key]); (repeat' ((first | (refine keeps_ite _ _ _ _ ?_ ?_) | (refine keepsC_bind _ _ _ ?_; intro _) | split | (refine (State.key_foldl _ _ _ ?_).trans ?_; intro _ _)) <;> (try simp only [↓State.key_mk, ↓State.key_fold, State.key_ite, State.key_foldl, keeps_next_iff, keepsC_ok, keepsC_error, keepsR_ok, keepsR_error, ite_self, implies_true, State.raise_key])))

theorem State.sampleMeter_key : ∀ x0 x1 x2 x3 s, (State.sampleMeter x0 x1 x2 x3 s).key = s.key := by
  intros; unfold State.sampleMeter; (try simp only [↓State.key_mk, ↓State.key_fold, State.key_ite, State.key_foldl, keeps_next_iff, keepsC_ok, keepsC_error, keepsR_ok, keepsR_error, ite_self, implies_true, State.latchMeter_key, State.raise_key, State.clipInput_key, State.saturateDelta_key, State.addPulses_key, State.sampleFeeder_key]); (repeat' ((first | (refine keeps_ite _ _ _ _ ?_ ?_) | (refine keepsC_bind _ _ _ ?_; intro _) | split | (refine (State.key_foldl _ _ _ ?_).trans ?_; intro _ _)) <;> (try simp only [↓State.key_mk, ↓State.key_fold, State.key_ite, State.key_foldl, keeps_next_iff, keepsC_ok, keepsC_error, keepsR_ok, keepsR_error, ite_self, implies_true, State.latchMeter_key, State.raise_key, State.clipInput_key, State.saturateDelta_key, State.addPulses_key, State.sampleFeeder_key])))

theorem execMeterSample_key : ∀ x0 s, Keeps s.key (execMeterSample x0 s) := by
  intros; unfold execMeterSample; (try simp only []); (repeat' ((first | (refine keeps_ite _ _ _ _ ?_ ?_) | (refine keepsC_bind _ _ _ ?_; intro _) | split | (refine (State.key_foldl _ _ _ ?_).trans ?_; intro _ _)) <;> (try simp only [↓State.key_mk, ↓State.key_fold, State.key_foldl, keeps_next_iff, implies_true, State.advanceNow_key, State.sampleMeter_key])))

theorem execMeterLineTimeout_key : ∀ x0 s, Keeps s.key (execMeterLineTimeout x0 s) := by
  intros; unfold execMeterLineTimeout; (try simp only []); (repeat' ((first | (refine keeps_ite _ _ _ _ ?_ ?_) | (refine keepsC_bind _ _ _ ?_; intro _) | split | (refine (State.key_foldl _ _ _ ?_).trans ?_; intro _ _)) <;> (try simp only [↓State.key_mk, ↓State.key_fold, keeps_next_iff, State.advanceNow_key, State.raise_key])))

theorem State.readSeq_key : ∀ x0 s, (State.readSeq x0 s).1.key = s.key := by
  intros; unfold State.readSeq; simp only [↓State.key_mk, ↓State.key_fold]

theorem execMeterSeqRead_key : ∀ x0 s, Keeps s.key (execMeterSeqRead x0 s) := by
  intros; unfold execMeterSeqRead; (try simp only [keeps_next_iff, State.emit_key]); (repeat' ((first | (refine keeps_ite _ _ _ _ ?_ ?_) | (refine keepsC_bind _ _ _ ?_; intro _) | split | (refine (State.key_foldl _ _ _ ?_).trans ?_; intro _ _)) <;> (try simp only [State.readSeq_key])))

theorem State.readDelta_key : ∀ x0 x1 x2 s, (State.readDelta x0 x1 x2 s).1.key = s.key := by
  intros; unfold State.readDelta; (try simp only [↓State.key_mk, ↓State.key_fold, State.key_ite, State.key_foldl, keeps_next_iff, keepsC_ok, keepsC_error, keepsR_ok, keepsR_error, ite_self, implies_true, State.saturateDelta_key]); (repeat' ((first | (refine keeps_ite _ _ _ _ ?_ ?_) | (refine keepsC_bind _ _ _ ?_; intro _) | split | (refine (State.key_foldl _ _ _ ?_).trans ?_; intro _ _)) <;> (try simp only [↓State.key_mk, ↓State.key_fold, State.key_ite, State.key_foldl, keeps_next_iff, keepsC_ok, keepsC_error, keepsR_ok, keepsR_error, ite_self, implies_true, State.saturateDelta_key])))

theorem execDeltaRead_key : ∀ x0 x1 x2 s, Keeps s.key (execDeltaRead x0 x1 x2 s) := by
  intros; unfold execDeltaRead; simp only [keeps_next_iff, State.readDelta_key, State.emit_key]

theorem meterReadOp_key : meterReadOp.Keeps := by
  unfold Op.Keeps meterReadOp; (try trivial); (try (intro r s; (try simp only []); (repeat' (first | (refine keepsR_bind _ _ _ ?_; intro _) | split) <;> (try simp only [keepsR_ok, keepsR_error]))))

theorem State.pressMeter_key : ∀ x0 x1 x2 x3 s, (State.pressMeter x0 x1 x2 x3 s).key = s.key := by
  intros; unfold State.pressMeter; (try simp only [↓State.key_mk, ↓State.key_fold, State.key_ite, State.key_foldl, keeps_next_iff, keepsC_ok, keepsC_error, keepsR_ok, keepsR_error, ite_self, implies_true, NonVolatile.putAcc_flash, State.key_fold]); (repeat' ((first | (refine keeps_ite _ _ _ _ ?_ ?_) | (refine keepsC_bind _ _ _ ?_; intro _) | split | (refine (State.key_foldl _ _ _ ?_).trans ?_; intro _ _)) <;> (try simp only [↓State.key_mk, ↓State.key_fold, State.key_ite, State.key_foldl, keeps_next_iff, keepsC_ok, keepsC_error, keepsR_ok, keepsR_error, ite_self, implies_true, NonVolatile.putAcc_flash, State.key_fold])))

theorem State.pressFeeder_key : ∀ x0 x1 x2 s, (State.pressFeeder x0 x1 x2 s).key = s.key := by
  intros; unfold State.pressFeeder; simp only [State.key_ite, ite_self, State.updFeeder_key, State.closeFeeder_key]

theorem State.pressPulse_key : ∀ x0 x1 x2 s, (State.pressPulse x0 x1 x2 s).key = s.key := by
  intros; unfold State.pressPulse; simp only [↓State.key_mk, ↓State.key_fold, State.key_ite, ite_self]

theorem State.pressMeters_key : ∀ x0 x1 x2 s, (State.pressMeters x0 x1 x2 s).key = s.key := by
  intros; unfold State.pressMeters; (try simp only [↓State.key_mk, ↓State.key_fold, State.key_ite, State.key_foldl, keeps_next_iff, keepsC_ok, keepsC_error, keepsR_ok, keepsR_error, ite_self, implies_true, State.openFeeder_key, State.pressPulse_key, State.pressMeter_key, State.pressFeeder_key, NonVolatile.putAcc_flash, State.key_fold]); (repeat' ((first | (refine keeps_ite _ _ _ _ ?_ ?_) | (refine keepsC_bind _ _ _ ?_; intro _) | split | (refine (State.key_foldl _ _ _ ?_).trans ?_; intro _ _)) <;> (try simp only [↓State.key_mk, ↓State.key_fold, State.key_ite, State.key_foldl, keeps_next_iff, keepsC_ok, keepsC_error, keepsR_ok, keepsR_error, ite_self, implies_true, State.openFeeder_key, State.pressPulse_key, State.pressMeter_key, State.pressFeeder_key, NonVolatile.putAcc_flash, State.key_fold])))

theorem NonVolatile.putAccs_flash (l : Tab Meter) (n : NonVolatile) :
    (l.foldl (fun (n : NonVolatile) e => n.putAcc e.1 e.2.sets) n).flash = n.flash := by
  induction l generalizing n with
  | nil => rfl
  | cons e l ih => exact (ih _).trans (NonVolatile.putAcc_flash _ _ _)

theorem State.energyWrite_key : ∀ s, (State.energyWrite s).key = s.key := by
  intros; unfold State.energyWrite; simp only [↓State.key_mk, NonVolatile.putAccs_flash, State.key_fold]

theorem State.addNight_key : ∀ x0 s, (State.addNight x0 s).key = s.key := by
  intros; unfold State.addNight; simp only [↓State.key_mk, ↓State.key_fold, State.key_ite, ite_self]

theorem State.nightClock_key : ∀ s, (State.nightClock s).key = s.key := by
  intros; unfold State.nightClock; (try simp only [↓State.key_mk, ↓State.key_fold, State.key_ite, State.key_foldl, keeps_next_iff, keepsC_ok, keepsC_error, keepsR_ok, keepsR_error, ite_self, implies_true, State.emit_key]); (repeat' ((first | (refine keeps_ite _ _ _ _ ?_ ?_) | (refine keepsC_bind _ _ _ ?_; intro _) | split | (refine (State.key_foldl _ _ _ ?_).trans ?_; intro _ _)) <;> (try simp only [↓State.key_mk, ↓State.key_fold, State.key_ite, State.key_foldl, keeps_next_iff, keepsC_ok, keepsC_error, keepsR_ok, keepsR_error, ite_self, implies_true, State.emit_key])))

theorem execNightMeterWindow_key : ∀ x0 s, Keeps s.key (execNightMeterWindow x0 s) := by
  intros; unfold execNightMeterWindow; (try simp only [↓State.key_mk, ↓State.key_fold, State.key_ite, State.key_foldl, keeps_next_iff, keepsC_ok, keepsC_error, keepsR_ok, keepsR_error, ite_self, implies_true, State.elapse_key, State.nightClock_key, State.start_key, State.addNight_key]); (repeat' ((first | (refine keeps_ite _ _ _ _ ?_ ?_) | (refine keepsC_bind _ _ _ ?_; intro _) | split | (refine (State.key_foldl _ _ _ ?_).trans ?_; intro _ _)) <;> (try simp only [↓State.key_mk, ↓State.key_fold, State.key_ite, State.key_foldl, keeps_next_iff, keepsC_ok, keepsC_error, keepsR_ok, keepsR_error, ite_self, implies_true, State.elapse_key, State.nightClock_key, State.start_key, State.addNight_key])))

theorem nightMeterReadOp_key : nightMeterReadOp.Keeps := by
  unfold Op.Keeps nightMeterReadOp; (try trivial); (try (intro r s; (try simp only [↓State.key_mk, ↓State.key_fold, State.key_ite, keepsR_ok, ite_self]); (repeat' (first | (refine keepsR_bind _ _ _ ?_; intro _) | split) <;> (try simp only [↓State.key_mk, ↓State.key_fold, State.key_ite, State.key_foldl, keeps_next_iff, keepsC_ok, keepsC_error, keepsR_ok, keepsR_error, ite_self, implies_true]))))

theorem State.readRtc_key : ∀ s, (State.readRtc s).1.key = s.key := by
  intros; unfold State.readRtc; simp only [↓State.key_mk, ↓State.key_fold]

theorem execRtcFracRead_key : ∀ s, Keeps s.key (execRtcFracRead s) := by
  intros; unfold execRtcFracRead; simp only [keeps_next_iff, State.emit_key, State.readRtc_key]

theorem execBackupPowerLoss_key : ∀ s, Keeps s.key (execBackupPowerLoss s) := by
  intros; unfold execBackupPowerLoss; simp only [↓State.key_mk, ↓State.key_fold, State.key_ite, keeps_next_iff, ite_self]

theorem execBackupPowerReturn_key : ∀ s, Keeps s.key (execBackupPowerReturn s) := by
  intros; unfold execBackupPowerReturn; simp only [↓State.key_mk, ↓State.key_fold, State.key_ite, keeps_next_iff, ite_self]

theorem execTamperSample_key : ∀ x0 s, Keeps s.key (execTamperSample x0 s) := by
  intros; unfold execTamperSample; (try simp only []); (repeat' ((first | (refine keeps_ite _ _ _ _ ?_ ?_) | (refine keepsC_bind _ _ _ ?_; intro _) | split | (refine (State.key_foldl _ _ _ ?_).trans ?_; intro _ _)) <;> (try simp only [↓State.key_mk, ↓State.key_fold, keeps_next_iff, State.elapse_key])))

theorem State.moveTamper_key : ∀ s, (State.moveTamper s).key = s.key := by
  intros; unfold State.moveTamper; (try simp only []); (repeat' ((first | (refine keeps_ite _ _ _ _ ?_ ?_) | (refine keepsC_bind _ _ _ ?_; intro _) | split | (refine (State.key_foldl _ _ _ ?_).trans ?_; intro _ _)) <;> (try simp only [↓State.key_mk, ↓State.key_fold, State.raise_key])))

theorem execTamperRecordMove_key : ∀ s, Keeps s.key (execTamperRecordMove s) := by
  intros; unfold execTamperRecordMove; simp only [State.key_ite, keeps_next_iff, ite_self, State.moveTamper_key]

theorem State.moveTampers_key : ∀ s, (State.moveTampers s).key = s.key := by
  intros; unfold State.moveTampers; simp only [State.key_foldl, implies_true, State.moveTamper_key]

theorem State.meterWrite_key : ∀ x0 x1 s, (State.meterWrite x0 x1 s).key = s.key := by
  intros; unfold State.meterWrite; (try simp only []); (repeat' ((first | (refine keeps_ite _ _ _ _ ?_ ?_) | (refine keepsC_bind _ _ _ ?_; intro _) | split | (refine (State.key_foldl _ _ _ ?_).trans ?_; intro _ _)) <;> (try simp only [↓State.key_mk, ↓State.key_fold, State.key_ite, ite_self])))

theorem execMeterDefine_key : ∀ x0 s, Keeps s.key (execMeterDefine x0 s) := by
  exact fun r s => hostCommand_key _ r s meterDefineOp_key

theorem execFeederDefine_key : ∀ x0 s, Keeps s.key (execFeederDefine x0 s) := by
  exact fun r s => hostCommand_key _ r s feederDefineOp_key

theorem execMeterRead_key : ∀ x0 s, Keeps s.key (execMeterRead x0 s) := by
  exact fun r s => hostCommand_key _ r s meterReadOp_key

theorem execFeederReset_key : ∀ x0 s, Keeps s.key (execFeederReset x0 s) := by
  exact fun r s => hostCommand_key _ r s feederResetOp_key

theorem execNightMeterRead_key : ∀ x0 s, Keeps s.key (execNightMeterRead x0 s) := by
  exact fun r s => hostCommand_key _ r s nightMeterReadOp_key

theorem State.ledgerWrite_key : ∀ x0 x1 s, (State.ledgerWrite x0 x1 s).key = s.key := by
  intros; unfold State.ledgerWrite; simp only [↓State.key_mk, ↓State.key_fold, State.key_ite, ite_self]

theorem State.memCorrected_key : ∀ x0 x1 s, (State.memCorrected x0 x1 s).key = s.key := by
  intros; unfold State.memCorrected; simp only [↓State.key_mk, ↓State.key_fold, State.key_ite, ite_self, State.raise_key]

theorem State.forceHold_key : ∀ s, (State.forceHold s).key = s.key := by
  intros; unfold State.forceHold; (try simp only [↓State.key_mk, ↓State.key_fold, State.key_ite, State.key_foldl, keeps_next_iff, keepsC_ok, keepsC_error, keepsR_ok, keepsR_error, ite_self, implies_true, State.enqueue_key]); (repeat' ((first | (refine keeps_ite _ _ _ _ ?_ ?_) | (refine keepsC_bind _ _ _ ?_; intro _) | split | (refine (State.key_foldl _ _ _ ?_).trans ?_; intro _ _)) <;> (try simp only [↓State.key_mk, ↓State.key_fold, State.key_ite, State.key_foldl, keeps_next_iff, keepsC_ok, keepsC_error, keepsR_ok, keepsR_error, ite_self, implies_true, State.enqueue_key])))

theorem State.loseImage_key : ∀ s, (State.loseImage s).key = s.key := by
  intros; unfold State.loseImage; (try simp only [↓State.key_mk, ↓State.key_fold, State.key_ite, State.key_foldl, keeps_next_iff, keepsC_ok, keepsC_error, keepsR_ok, keepsR_error, ite_self, implies_true, State.forceHold_key]); (repeat' ((first | (refine keeps_ite _ _ _ _ ?_ ?_) | (refine keepsC_bind _ _ _ ?_; intro _) | split | (refine (State.key_foldl _ _ _ ?_).trans ?_; intro _ _)) <;> (try simp only [↓State.key_mk, ↓State.key_fold, State.key_ite, State.key_foldl, keeps_next_iff, keepsC_ok, keepsC_error, keepsR_ok, keepsR_error, ite_self, implies_true, State.forceHold_key])))

theorem State.badCopy_key : ∀ x0 x1 s, (State.badCopy x0 x1 s).key = s.key := by
  intros; unfold State.badCopy; (try simp only [↓State.key_mk, ↓State.key_fold, State.key_ite, State.key_foldl, keeps_next_iff, keepsC_ok, keepsC_error, keepsR_ok, keepsR_error, ite_self, implies_true, State.loseImage_key]); (repeat' ((first | (refine keeps_ite _ _ _ _ ?_ ?_) | (refine keepsC_bind _ _ _ ?_; intro _) | split | (refine (State.key_foldl _ _ _ ?_).trans ?_; intro _ _)) <;> (try simp only [↓State.key_mk, ↓State.key_fold, State.key_ite, State.key_foldl, keeps_next_iff, keepsC_ok, keepsC_error, keepsR_ok, keepsR_error, ite_self, implies_true, State.loseImage_key])))

theorem State.restartCore_key : ∀ x0 s, (State.restartCore x0 s).key = s.key := by
  intros; unfold State.restartCore; (try simp only [↓State.key_mk, ↓State.key_fold, State.key_ite, State.key_foldl, keeps_next_iff, keepsC_ok, keepsC_error, keepsR_ok, keepsR_error, ite_self, implies_true, State.count_key]); (repeat' ((first | (refine keeps_ite _ _ _ _ ?_ ?_) | (refine keepsC_bind _ _ _ ?_; intro _) | split | (refine (State.key_foldl _ _ _ ?_).trans ?_; intro _ _)) <;> (try simp only [↓State.key_mk, ↓State.key_fold, State.key_ite, State.key_foldl, keeps_next_iff, keepsC_ok, keepsC_error, keepsR_ok, keepsR_error, ite_self, implies_true, State.count_key])))

theorem State.repair_key : ∀ x0 s, (State.repair x0 s).key = s.key := by
  intros; unfold State.repair; (try simp only [↓State.key_mk, ↓State.key_fold, State.key_ite, State.key_foldl, keeps_next_iff, keepsC_ok, keepsC_error, keepsR_ok, keepsR_error, ite_self, implies_true, State.forceHold_key, State.loseImage_key, State.badCopy_key, State.updPar_key, State.updPb_key, State.updGen_key, State.restartCore_key]); (repeat' ((first | (refine keeps_ite _ _ _ _ ?_ ?_) | (refine keepsC_bind _ _ _ ?_; intro _) | split | (refine (State.key_foldl _ _ _ ?_).trans ?_; intro _ _)) <;> (try simp only [↓State.key_mk, ↓State.key_fold, State.key_ite, State.key_foldl, keeps_next_iff, keepsC_ok, keepsC_error, keepsR_ok, keepsR_error, ite_self, implies_true, State.forceHold_key, State.loseImage_key, State.badCopy_key, State.updPar_key, State.updPb_key, State.updGen_key, State.restartCore_key])))

theorem State.repairAll_key : ∀ s, (State.repairAll s).key = s.key := by
  intros; unfold State.repairAll; (try simp only [↓State.key_mk, ↓State.key_fold, State.key_ite, State.key_foldl, keeps_next_iff, keepsC_ok, keepsC_error, keepsR_ok, keepsR_error, ite_self, implies_true, State.repair_key]); (repeat' ((first | (refine keeps_ite _ _ _ _ ?_ ?_) | (refine keepsC_bind _ _ _ ?_; intro _) | split | (refine (State.key_foldl _ _ _ ?_).trans ?_; intro _ _)) <;> (try simp only [↓State.key_mk, ↓State.key_fold, State.key_ite, State.key_foldl, keeps_next_iff, keepsC_ok, keepsC_error, keepsR_ok, keepsR_error, ite_self, implies_true, State.repair_key])))

theorem State.memPoisoned_key : ∀ x0 s, (State.memPoisoned x0 s).key = s.key := by
  intros; unfold State.memPoisoned; (try simp only [↓State.key_mk, ↓State.key_fold, State.key_ite, State.key_foldl, keeps_next_iff, keepsC_ok, keepsC_error, keepsR_ok, keepsR_error, ite_self, implies_true, State.foundPoison_key, State.repairAll_key]); (repeat' ((first | (refine keeps_ite _ _ _ _ ?_ ?_) | (refine keepsC_bind _ _ _ ?_; intro _) | split | (refine (State.key_foldl _ _ _ ?_).trans ?_; intro _ _)) <;> (try simp only [↓State.key_mk, ↓State.key_fold, State.key_ite, State.key_foldl, keeps_next_iff, keepsC_ok, keepsC_error, keepsR_ok, keepsR_error, ite_self, implies_true, State.foundPoison_key, State.repairAll_key])))

theorem State.scrubbed_key : ∀ x0 s, (State.scrubbed x0 s).key = s.key := by
  intros; unfold State.scrubbed; (try simp only []); (repeat' ((first | (refine keeps_ite _ _ _ _ ?_ ?_) | (refine keepsC_bind _ _ _ ?_; intro _) | split | (refine (State.key_foldl _ _ _ ?_).trans ?_; intro _ _)) <;> (try simp only [↓State.key_mk, ↓State.key_fold, State.key_ite, ite_self])))

theorem State.scrubStart_key : ∀ k s, (State.scrubStart k s).key = s.key := by
  intro k s
  cases k
  · rw [State.scrubStart, State.key_mk, State.key_fold, State.advanceNow_key]
  · rw [State.scrubStart, State.key_mk, State.key_fold, State.advanceNow_key]
  · rfl

theorem State.badRecord_key : ∀ x0 s, (State.badRecord x0 s).key = s.key := by
  intros; unfold State.badRecord; dsimp only; (try simp only [↓State.key_mk, ↓State.key_fold, State.key_ite, State.key_foldl, keeps_next_iff, keepsC_ok, keepsC_error, keepsR_ok, keepsR_error, ite_self, implies_true, NonVolatile.dropBoot_flash, State.key_fold, NonVolatile.restoreAcc_flash]); (repeat' ((first | (refine keeps_ite _ _ _ _ ?_ ?_) | (refine keepsC_bind _ _ _ ?_; intro _) | split | (refine (State.key_foldl _ _ _ ?_).trans ?_; intro _ _)) <;> (try simp only [↓State.key_mk, ↓State.key_fold, State.key_ite, State.key_foldl, keeps_next_iff, keepsC_ok, keepsC_error, keepsR_ok, keepsR_error, ite_self, implies_true, NonVolatile.dropBoot_flash, State.key_fold, NonVolatile.restoreAcc_flash])))

theorem State.memFound_key : ∀ x0 x1 x2 s, (State.memFound x0 x1 x2 s).key = s.key := by
  intros; unfold State.memFound; (try simp only [↓State.key_mk, ↓State.key_fold, State.key_ite, State.key_foldl, keeps_next_iff, keepsC_ok, keepsC_error, keepsR_ok, keepsR_error, ite_self, implies_true, State.memCorrected_key, State.memPoisoned_key]); (repeat' ((first | (refine keeps_ite _ _ _ _ ?_ ?_) | (refine keepsC_bind _ _ _ ?_; intro _) | split | (refine (State.key_foldl _ _ _ ?_).trans ?_; intro _ _)) <;> (try simp only [↓State.key_mk, ↓State.key_fold, State.key_ite, State.key_foldl, keeps_next_iff, keepsC_ok, keepsC_error, keepsR_ok, keepsR_error, ite_self, implies_true, State.memCorrected_key, State.memPoisoned_key])))

theorem execScrubItem_key : ∀ x0 s, Keeps s.key (execScrubItem x0 s) := by
  intros; unfold execScrubItem; (try simp only [↓State.key_mk, ↓State.key_fold, State.key_ite, State.key_foldl, keeps_next_iff, keepsC_ok, keepsC_error, keepsR_ok, keepsR_error, ite_self, implies_true, State.memFound_key, State.scrubStart_key, State.scrubbed_key, State.badRecord_key]); (repeat' ((first | (refine keeps_ite _ _ _ _ ?_ ?_) | (refine keepsC_bind _ _ _ ?_; intro _) | split | (refine (State.key_foldl _ _ _ ?_).trans ?_; intro _ _)) <;> (try simp only [↓State.key_mk, ↓State.key_fold, State.key_ite, State.key_foldl, keeps_next_iff, keepsC_ok, keepsC_error, keepsR_ok, keepsR_error, ite_self, implies_true, State.memFound_key, State.scrubStart_key, State.scrubbed_key, State.badRecord_key])))

theorem execJobSegmentComplete_key : ∀ x0 x1 s, Keeps s.key (execJobSegmentComplete x0 x1 s) := by
  intros; unfold execJobSegmentComplete; (try simp only [↓State.key_mk, ↓State.key_fold, State.key_ite, State.key_foldl, keeps_next_iff, keepsC_ok, keepsC_error, keepsR_ok, keepsR_error, ite_self, implies_true, State.endSegment_key, State.updLane_key, State.raise_key, State.memCorrected_key, State.memPoisoned_key, State.stopJob_key]); (repeat' ((first | (refine keeps_ite _ _ _ _ ?_ ?_) | (refine keepsC_bind _ _ _ ?_; intro _) | split | (refine (State.key_foldl _ _ _ ?_).trans ?_; intro _ _)) <;> (try simp only [↓State.key_mk, ↓State.key_fold, State.key_ite, State.key_foldl, keeps_next_iff, keepsC_ok, keepsC_error, keepsR_ok, keepsR_error, ite_self, implies_true, State.endSegment_key, State.updLane_key, State.raise_key, State.memCorrected_key, State.memPoisoned_key, State.stopJob_key])))

theorem execImageRewriteDone_key : ∀ s, Keeps s.key (execImageRewriteDone s) := by
  intros; unfold execImageRewriteDone; simp only [↓State.key_mk, ↓State.key_fold, State.key_ite, keeps_next_iff, ite_self]

theorem execScheduleRestoreDone_key : ∀ s, Keeps s.key (execScheduleRestoreDone s) := by
  intros; unfold execScheduleRestoreDone; simp only [↓State.key_mk, ↓State.key_fold, State.key_ite, keeps_next_iff, ite_self]

theorem State.updChan_key : ∀ x0 x1 s, (State.updChan x0 x1 s).key = s.key := by
  intros; unfold State.updChan; simp only [↓State.key_mk, ↓State.key_fold]

theorem State.fillRegion_key : ∀ x0 x1 s, (State.fillRegion x0 x1 s).key = s.key := by
  intros; unfold State.fillRegion; simp only [State.draw_key, State.updChan_key]

theorem State.startChan_key : ∀ x0 x1 s, (State.startChan x0 x1 s).key = s.key := by
  intros; unfold State.startChan; simp only [State.key_ite, ite_self, State.fillRegion_key, State.updChan_key]

theorem State.chanRegStart_key : ∀ x0 s, (State.chanRegStart x0 s).key = s.key := by
  intros; unfold State.chanRegStart; simp only [State.key_ite, ite_self, State.updChan_key, State.startChan_key]

theorem execChkRegStart_key : ∀ x0 s, Keeps s.key (execChkRegStart x0 s) := by
  intros; unfold execChkRegStart; (try simp only [↓State.key_mk, ↓State.key_fold, State.key_ite, State.key_foldl, keeps_next_iff, keepsC_ok, keepsC_error, keepsR_ok, keepsR_error, ite_self, implies_true, State.chanRegStart_key]); (repeat' ((first | (refine keeps_ite _ _ _ _ ?_ ?_) | (refine keepsC_bind _ _ _ ?_; intro _) | split | (refine (State.key_foldl _ _ _ ?_).trans ?_; intro _ _)) <;> (try simp only [keeps_next_iff, State.chanRegStart_key])))

theorem State.chanAbort_key : ∀ x0 s, (State.chanAbort x0 s).key = s.key := by
  intros; unfold State.chanAbort; simp only [State.updChan_key]

theorem execChkAbort_key : ∀ x0 s, Keeps s.key (execChkAbort x0 s) := by
  intros; unfold execChkAbort; (try simp only [↓State.key_mk, ↓State.key_fold, State.key_ite, State.key_foldl, keeps_next_iff, keepsC_ok, keepsC_error, keepsR_ok, keepsR_error, ite_self, implies_true, State.chanAbort_key]); (repeat' ((first | (refine keeps_ite _ _ _ _ ?_ ?_) | (refine keepsC_bind _ _ _ ?_; intro _) | split | (refine (State.key_foldl _ _ _ ?_).trans ?_; intro _ _)) <;> (try simp only [keeps_next_iff, State.chanAbort_key])))

theorem State.commitExpected_key : ∀ x0 x1 s, (State.commitExpected x0 x1 s).key = s.key := by
  intros; unfold State.commitExpected; simp only [State.updChan_key]

theorem execChkExpectedCommit_key : ∀ x0 x1 s, Keeps s.key (execChkExpectedCommit x0 x1 s) := by
  intros; unfold execChkExpectedCommit; (try simp only [↓State.key_mk, ↓State.key_fold, State.key_ite, State.key_foldl, keeps_next_iff, keepsC_ok, keepsC_error, keepsR_ok, keepsR_error, ite_self, implies_true, State.commitExpected_key]); (repeat' ((first | (refine keeps_ite _ _ _ _ ?_ ?_) | (refine keepsC_bind _ _ _ ?_; intro _) | split | (refine (State.key_foldl _ _ _ ?_).trans ?_; intro _ _)) <;> (try simp only [keeps_next_iff, State.commitExpected_key])))

theorem State.compareChan_key : ∀ x0 s, (State.compareChan x0 s).key = s.key := by
  intros; unfold State.compareChan; simp only [State.key_ite, ite_self, State.updChan_key, State.raise_key]

theorem execChkPassComplete_key : ∀ x0 x1 s, Keeps s.key (execChkPassComplete x0 x1 s) := by
  intros; unfold execChkPassComplete; (try simp only [↓State.key_mk, ↓State.key_fold, State.key_ite, State.key_foldl, keeps_next_iff, keepsC_ok, keepsC_error, keepsR_ok, keepsR_error, ite_self, implies_true, State.memPoisoned_key, State.updChan_key, State.advanceNow_key, State.raise_key, State.compareChan_key]); (repeat' ((first | (refine keeps_ite _ _ _ _ ?_ ?_) | (refine keepsC_bind _ _ _ ?_; intro _) | split | (refine (State.key_foldl _ _ _ ?_).trans ?_; intro _ _)) <;> (try simp only [↓State.key_mk, ↓State.key_fold, State.key_ite, State.key_foldl, keeps_next_iff, keepsC_ok, keepsC_error, keepsR_ok, keepsR_error, ite_self, implies_true, State.memPoisoned_key, State.updChan_key, State.advanceNow_key, State.raise_key, State.compareChan_key])))

theorem execChkExpectedReloadDone_key : ∀ x0 x1 s, Keeps s.key (execChkExpectedReloadDone x0 x1 s) := by
  intros; unfold execChkExpectedReloadDone; (try simp only []); (repeat' ((first | (refine keeps_ite _ _ _ _ ?_ ?_) | (refine keepsC_bind _ _ _ ?_; intro _) | split | (refine (State.key_foldl _ _ _ ?_).trans ?_; intro _ _)) <;> (try simp only [keeps_next_iff, State.compareChan_key, State.updChan_key, State.raise_key, State.badExpected_key])))

theorem execExpectedLedgerCopy_key : ∀ x0 s, Keeps s.key (execExpectedLedgerCopy x0 s) := by
  intros; unfold execExpectedLedgerCopy; (try simp only []); (repeat' ((first | (refine keeps_ite _ _ _ _ ?_ ?_) | (refine keepsC_bind _ _ _ ?_; intro _) | split | (refine (State.key_foldl _ _ _ ?_).trans ?_; intro _ _)) <;> (try simp only [↓State.key_mk, ↓State.key_fold, State.key_ite, keeps_next_iff, ite_self, State.updChan_key])))

theorem chkStartOp_key : chkStartOp.Keeps := by
  unfold Op.Keeps chkStartOp; (try trivial); (try (intro r s; (try simp only []); (repeat' (first | (refine keepsR_bind _ _ _ ?_; intro _) | split) <;> (try simp only [keepsR_ok, State.updChan_key, State.startChan_key]))))

theorem chkResultOp_key : chkResultOp.Keeps := by
  unfold Op.Keeps chkResultOp; (try trivial); (try (intro r s; (try simp only []); (repeat' (first | (refine keepsR_bind _ _ _ ?_; intro _) | split) <;> (try simp only [keepsR_ok]))))

theorem chkExpectOp_key : chkExpectOp.Keeps := by
  unfold Op.Keeps chkExpectOp; (try trivial); (try (intro r s; (try simp only []); (repeat' (first | (refine keepsR_bind _ _ _ ?_; intro _) | split) <;> (try simp only [keepsR_ok, State.commitExpected_key]))))

theorem chkModeOp_key : chkModeOp.Keeps := by
  unfold Op.Keeps chkModeOp; (try trivial); (try (intro r s; (try simp only []); (repeat' (first | (refine keepsR_bind _ _ _ ?_; intro _) | split) <;> (try simp only [keepsR_ok, State.updChan_key]))))

theorem State.chkLatch_key : ∀ o s, (State.chkLatch o s).key = s.key := by
  intro o s
  unfold State.chkLatch
  rw [State.key_ite, State.key_ite, State.key_mk, State.key_fold, State.updChan_key, ite_self, ite_self]

theorem State.chanWrite_key : ∀ x0 x1 x2 s, (State.chanWrite x0 x1 x2 s).key = s.key := by
  intros; unfold State.chanWrite; (try simp only []); (repeat' ((first | (refine keeps_ite _ _ _ _ ?_ ?_) | (refine keepsC_bind _ _ _ ?_; intro _) | split | (refine (State.key_foldl _ _ _ ?_).trans ?_; intro _ _)) <;> (try simp only [State.key_ite, ite_self, State.chanRegStart_key, State.chanAbort_key, State.updChan_key, State.commitExpected_key])))

theorem State.chkWrite_key : ∀ x0 x1 s, (State.chkWrite x0 x1 s).key = s.key := by
  intros; unfold State.chkWrite; simp only [↓State.key_mk, ↓State.key_fold, State.key_ite, ite_self, State.chanWrite_key]

theorem execChkStart_key : ∀ x0 s, Keeps s.key (execChkStart x0 s) := by
  exact fun r s => hostCommand_key _ r s chkStartOp_key

theorem execChkResult_key : ∀ x0 s, Keeps s.key (execChkResult x0 s) := by
  exact fun r s => hostCommand_key _ r s chkResultOp_key

theorem execChkExpect_key : ∀ x0 s, Keeps s.key (execChkExpect x0 s) := by
  exact fun r s => hostCommand_key _ r s chkExpectOp_key

theorem execChkMode_key : ∀ x0 s, Keeps s.key (execChkMode x0 s) := by
  exact fun r s => hostCommand_key _ r s chkModeOp_key

theorem flashReadOp_key : flashReadOp.Keeps := by
  unfold Op.Keeps flashReadOp; (try trivial); (try (intro r s; (try simp only []); (repeat' (first | (refine keepsR_bind _ _ _ ?_; intro _) | split) <;> (try simp only [keepsR_ok]))))

theorem personalityReadOp_key : personalityReadOp.Keeps := by
  unfold Op.Keeps personalityReadOp; (try trivial); (try (intro r s; (try simp only [keepsR_ok]); (repeat' (first | (refine keepsR_bind _ _ _ ?_; intro _) | split) <;> (try simp only [↓State.key_mk, ↓State.key_fold, State.key_ite, State.key_foldl, keeps_next_iff, keepsC_ok, keepsC_error, keepsR_ok, keepsR_error, ite_self, implies_true]))))

theorem updateOpenOp_key : updateOpenOp.Keeps := by
  unfold Op.Keeps updateOpenOp; (try trivial); (try (intro r s; (try simp only []); (repeat' (first | (refine keepsR_bind _ _ _ ?_; intro _) | split) <;> (try simp only [↓State.key_mk, ↓State.key_fold, keepsR_ok, State.freeUpdate_key]))))

theorem updateBlockOp_key : updateBlockOp.Keeps := by
  unfold Op.Keeps updateBlockOp; (try trivial); (try (intro r s; (try simp only []); (repeat' (first | (refine keepsR_bind _ _ _ ?_; intro _) | split) <;> (try simp only [↓State.key_mk, ↓State.key_fold, keepsR_ok]))))

theorem updateCloseOp_key : updateCloseOp.Keeps := by
  unfold Op.Keeps updateCloseOp; (try trivial); (try (intro r s; (try simp only []); (repeat' (first | (refine keepsR_bind _ _ _ ?_; intro _) | split) <;> (try simp only [↓State.key_mk, ↓State.key_fold, keepsR_ok, State.startJob_key]))))

theorem State.endClose_key : ∀ x0 x1 x2 s, (State.endClose x0 x1 x2 s).key = s.key := by
  intros; unfold State.endClose; simp only [↓State.key_mk, ↓State.key_fold, State.endJob_key]

theorem updateAbortOp_key : updateAbortOp.Keeps := by
  unfold Op.Keeps updateAbortOp; (try trivial); (try (intro r s; (try simp only []); (repeat' (first | (refine keepsR_bind _ _ _ ?_; intro _) | split) <;> (try simp only [keepsR_ok, State.freeUpdate_key]))))

theorem execUpdateSlotIdleTimeout_key : ∀ s, Keeps s.key (execUpdateSlotIdleTimeout s) := by
  intros; unfold execUpdateSlotIdleTimeout; (try simp only [↓State.key_mk, ↓State.key_fold, State.key_ite, State.key_foldl, keeps_next_iff, keepsC_ok, keepsC_error, keepsR_ok, keepsR_error, ite_self, implies_true, State.raise_key, State.freeUpdate_key, State.advanceNow_key]); (repeat' ((first | (refine keeps_ite _ _ _ _ ?_ ?_) | (refine keepsC_bind _ _ _ ?_; intro _) | split | (refine (State.key_foldl _ _ _ ?_).trans ?_; intro _ _)) <;> (try simp only [keeps_next_iff, State.raise_key, State.freeUpdate_key, State.advanceNow_key])))

theorem State.beginPause_key : ∀ s, (State.beginPause s).key = s.key := by
  intros; unfold State.beginPause; (try simp only []); (repeat' ((first | (refine keeps_ite _ _ _ _ ?_ ?_) | (refine keepsC_bind _ _ _ ?_; intro _) | split | (refine (State.key_foldl _ _ _ ?_).trans ?_; intro _ _)) <;> (try simp only [↓State.key_mk, ↓State.key_fold, State.freeUpdate_key])))

theorem State.activateSlot_key : ∀ x0 x1 s, (State.activateSlot x0 x1 s).key = s.key := by
  intros; unfold State.activateSlot; simp only [↓State.key_mk, ↓State.key_fold, State.key_ite, ite_self, State.beginPause_key]

theorem State.fallBack_key : ∀ x0 s, (State.fallBack x0 s).key = s.key := by
  intros; unfold State.fallBack; simp only [↓State.key_mk, ↓State.key_fold, State.key_ite, ite_self, State.activateSlot_key]

theorem updateActivateOp_key : updateActivateOp.Keeps := by
  unfold Op.Keeps updateActivateOp; (try trivial); (try (intro r s; (try simp only []); (repeat' (first | (refine keepsR_bind _ _ _ ?_; intro _) | split) <;> (try simp only [↓State.key_mk, ↓State.key_fold, NonVolatile.putBoot_flash, State.key_fold, keepsR_ok, State.freeUpdate_key, State.activateSlot_key]))))

theorem execTrialTimeout_key : ∀ s, Keeps s.key (execTrialTimeout s) := by
  intros; unfold execTrialTimeout; (try simp only [↓State.key_mk, ↓State.key_fold, State.key_ite, State.key_foldl, keeps_next_iff, keepsC_ok, keepsC_error, keepsR_ok, keepsR_error, ite_self, implies_true, State.fallBack_key, State.advanceNow_key]); (repeat' ((first | (refine keeps_ite _ _ _ _ ?_ ?_) | (refine keepsC_bind _ _ _ ?_; intro _) | split | (refine (State.key_foldl _ _ _ ?_).trans ?_; intro _ _)) <;> (try simp only [keeps_next_iff, State.fallBack_key, State.advanceNow_key])))

theorem healthConfirmOp_key : healthConfirmOp.Keeps := by
  unfold Op.Keeps healthConfirmOp; (try trivial); (try (intro r s; (try simp only []); (repeat' (first | (refine keepsR_bind _ _ _ ?_; intro _) | split) <;> (try simp only [↓State.key_mk, ↓State.key_fold, NonVolatile.putBoot_flash, State.key_fold, keepsR_ok, State.raise_key]))))

theorem ownerLockOp_key : ownerLockOp.Keeps := by
  unfold Op.Keeps ownerLockOp; (try trivial); (try (intro r s; (try simp only []); (repeat' (first | (refine keepsR_bind _ _ _ ?_; intro _) | split) <;> (try simp only [↓State.key_mk, ↓State.key_fold, keepsR_ok]))))

theorem execOwnerLockLockoutEnd_key : ∀ s, Keeps s.key (execOwnerLockLockoutEnd s) := by
  intros; unfold execOwnerLockLockoutEnd; (try simp only []); (repeat' ((first | (refine keeps_ite _ _ _ _ ?_ ?_) | (refine keepsC_bind _ _ _ ?_; intro _) | split | (refine (State.key_foldl _ _ _ ?_).trans ?_; intro _ _)) <;> (try simp only [↓State.key_mk, ↓State.key_fold, keeps_next_iff, State.advanceNow_key])))

theorem configSaveOp_key : configSaveOp.Keeps := by
  unfold Op.Keeps configSaveOp; (try trivial); (try (intro r s; (try simp only []); (repeat' (first | (refine keepsR_bind _ _ _ ?_; intro _) | split) <;> (try simp only [↓State.key_mk, ↓State.key_fold, keepsR_ok]))))

theorem configLoadOp_key : configLoadOp.Keeps := by
  unfold Op.Keeps configLoadOp; (try trivial); (try (intro r s; (try simp only []); (repeat' (first | (refine keepsR_bind _ _ _ ?_; intro _) | split) <;> (try simp only [↓State.key_mk, ↓State.key_fold, keepsR_ok, keepsR_error]))))

theorem calsetSaveOp_key : calsetSaveOp.Keeps := by
  unfold Op.Keeps calsetSaveOp; (try trivial); (try (intro r s; (try simp only []); (repeat' (first | (refine keepsR_bind _ _ _ ?_; intro _) | split) <;> (try simp only [↓State.key_mk, ↓State.key_fold, keepsR_ok]))))

theorem execFlashRead_key : ∀ x0 s, Keeps s.key (execFlashRead x0 s) := by
  exact fun r s => hostCommand_key _ r s flashReadOp_key

theorem execPersonalityRead_key : ∀ x0 s, Keeps s.key (execPersonalityRead x0 s) := by
  exact fun r s => hostCommand_key _ r s personalityReadOp_key

theorem execUpdateOpen_key : ∀ x0 s, Keeps s.key (execUpdateOpen x0 s) := by
  exact fun r s => hostCommand_key _ r s updateOpenOp_key

theorem execUpdateBlock_key : ∀ x0 s, Keeps s.key (execUpdateBlock x0 s) := by
  exact fun r s => hostCommand_key _ r s updateBlockOp_key

theorem execUpdateClose_key : ∀ x0 s, Keeps s.key (execUpdateClose x0 s) := by
  exact fun r s => hostCommand_key _ r s updateCloseOp_key

theorem execUpdateAbort_key : ∀ x0 s, Keeps s.key (execUpdateAbort x0 s) := by
  exact fun r s => hostCommand_key _ r s updateAbortOp_key

theorem execUpdateActivate_key : ∀ x0 s, Keeps s.key (execUpdateActivate x0 s) := by
  exact fun r s => hostCommand_key _ r s updateActivateOp_key

theorem execHealthConfirm_key : ∀ x0 s, Keeps s.key (execHealthConfirm x0 s) := by
  exact fun r s => hostCommand_key _ r s healthConfirmOp_key

theorem execOwnerLock_key : ∀ x0 s, Keeps s.key (execOwnerLock x0 s) := by
  exact fun r s => hostCommand_key _ r s ownerLockOp_key

theorem execConfigSave_key : ∀ x0 s, Keeps s.key (execConfigSave x0 s) := by
  exact fun r s => hostCommand_key _ r s configSaveOp_key

theorem execConfigLoad_key : ∀ x0 s, Keeps s.key (execConfigLoad x0 s) := by
  exact fun r s => hostCommand_key _ r s configLoadOp_key

theorem execCalsetSave_key : ∀ x0 s, Keeps s.key (execCalsetSave x0 s) := by
  exact fun r s => hostCommand_key _ r s calsetSaveOp_key

theorem State.restart_key : ∀ x0 s, (State.restart x0 s).key = s.key := by
  intros; unfold State.restart; simp only [↓State.key_mk, ↓State.key_fold]

theorem State.loseSupply_key : ∀ s, (State.loseSupply s).key = s.key := by
  intros; unfold State.loseSupply; (try simp only [↓State.key_mk, ↓State.key_fold, State.key_ite, State.key_foldl, keeps_next_iff, keepsC_ok, keepsC_error, keepsR_ok, keepsR_error, ite_self, implies_true]); (repeat' ((first | (refine keeps_ite _ _ _ _ ?_ ?_) | (refine keepsC_bind _ _ _ ?_; intro _) | split | (refine (State.key_foldl _ _ _ ?_).trans ?_; intro _ _)) <;> (try simp only [↓State.key_mk, ↓State.key_fold, State.key_ite, State.key_foldl, keeps_next_iff, keepsC_ok, keepsC_error, keepsR_ok, keepsR_error, ite_self, implies_true])))

theorem State.leaveEnvelope_key : ∀ x0 s, (State.leaveEnvelope x0 s).key = s.key := by
  intros; unfold State.leaveEnvelope; (try simp only []); (repeat' ((first | (refine keeps_ite _ _ _ _ ?_ ?_) | (refine keepsC_bind _ _ _ ?_; intro _) | split | (refine (State.key_foldl _ _ _ ?_).trans ?_; intro _ _)) <;> (try simp only [↓State.key_mk, ↓State.key_fold, State.raise_key, State.count_key])))

theorem State.checkEnvelope_key : ∀ x0 s, (State.checkEnvelope x0 s).key = s.key := by
  intros; unfold State.checkEnvelope; (try simp only []); (repeat' ((first | (refine keeps_ite _ _ _ _ ?_ ?_) | (refine keepsC_bind _ _ _ ?_; intro _) | split | (refine (State.key_foldl _ _ _ ?_).trans ?_; intro _ _)) <;> (try simp only [↓State.key_mk, ↓State.key_fold, State.key_ite, ite_self, State.leaveEnvelope_key, State.raise_key])))

theorem execVcoreUndervoltage_key : ∀ x0 s, Keeps s.key (execVcoreUndervoltage x0 s) := by
  intros; unfold execVcoreUndervoltage; (try simp only [↓State.key_mk, ↓State.key_fold, State.key_ite, State.key_foldl, keeps_next_iff, keepsC_ok, keepsC_error, keepsR_ok, keepsR_error, ite_self, implies_true, State.leaveEnvelope_key]); (repeat' ((first | (refine keeps_ite _ _ _ _ ?_ ?_) | (refine keepsC_bind _ _ _ ?_; intro _) | split | (refine (State.key_foldl _ _ _ ?_).trans ?_; intro _ _)) <;> (try simp only [State.key_ite, keeps_next_iff, ite_self, State.leaveEnvelope_key])))

theorem State.checkTemp_key : ∀ x0 x1 s, (State.checkTemp x0 x1 s).key = s.key := by
  intros; unfold State.checkTemp; simp only [↓State.key_mk, ↓State.key_fold, State.key_ite, ite_self, State.raise_key]

theorem State.checkVolt_key : ∀ x0 x1 s, (State.checkVolt x0 x1 s).key = s.key := by
  intros; unfold State.checkVolt; simp only [↓State.key_mk, ↓State.key_fold, State.key_ite, ite_self, State.raise_key]

theorem eachIndexed_key {α : Type} (l : List α) (f : Nat → α → State → State) (h : ∀ i x s, (f i x s).key = s.key) :
    ∀ i s, (eachIndexed l i f s).key = s.key := by
  induction l with
  | nil => intro i s; rfl
  | cons x l ih => intro i s; rw [eachIndexed, ih, h]

theorem execHoldupExit_key : ∀ s, Keeps s.key (execHoldupExit s) := by
  intros; unfold execHoldupExit; simp only [↓State.key_mk, ↓State.key_fold, keeps_next_iff]

theorem State.checkBanks_key : ∀ x0 s, (State.checkBanks x0 s).key = s.key := by
  intros; unfold State.checkBanks; (try simp only [↓State.key_mk, ↓State.key_fold, State.key_ite, State.key_foldl, keeps_next_iff, keepsC_ok, keepsC_error, keepsR_ok, keepsR_error, ite_self, implies_true, State.emit_key, State.feederLevels_key]); (repeat' ((first | (refine keeps_ite _ _ _ _ ?_ ?_) | (refine keepsC_bind _ _ _ ?_; intro _) | split | (refine (State.key_foldl _ _ _ ?_).trans ?_; intro _ _)) <;> (try simp only [↓State.key_mk, ↓State.key_fold, State.key_ite, State.key_foldl, keeps_next_iff, keepsC_ok, keepsC_error, keepsR_ok, keepsR_error, ite_self, implies_true, State.emit_key, State.feederLevels_key])))

theorem State.checkAvs_key : ∀ x0 x1 s, (State.checkAvs x0 x1 s).key = s.key := by
  intros; unfold State.checkAvs; simp only [↓State.key_mk, ↓State.key_fold, State.key_ite, ite_self, State.raise_key]

theorem State.sendVcore_key : ∀ s, (State.sendVcore s).key = s.key := by
  intros; unfold State.sendVcore; (try simp only [↓State.key_mk, ↓State.key_fold, State.key_ite, State.key_foldl, keeps_next_iff, keepsC_ok, keepsC_error, keepsR_ok, keepsR_error, ite_self, implies_true, State.drive_key]); (repeat' ((first | (refine keeps_ite _ _ _ _ ?_ ?_) | (refine keepsC_bind _ _ _ ?_; intro _) | split | (refine (State.key_foldl _ _ _ ?_).trans ?_; intro _ _)) <;> (try simp only [↓State.key_mk, ↓State.key_fold, State.key_ite, State.key_foldl, keeps_next_iff, keepsC_ok, keepsC_error, keepsR_ok, keepsR_error, ite_self, implies_true, State.drive_key])))

theorem State.stepAvs_key : ∀ x0 s, (State.stepAvs x0 s).key = s.key := by
  intros; unfold State.stepAvs; (try simp only [↓State.key_mk, ↓State.key_fold, State.key_ite, State.key_foldl, keeps_next_iff, keepsC_ok, keepsC_error, keepsR_ok, keepsR_error, ite_self, implies_true, State.sendVcore_key]); (repeat' ((first | (refine keeps_ite _ _ _ _ ?_ ?_) | (refine keepsC_bind _ _ _ ?_; intro _) | split | (refine (State.key_foldl _ _ _ ?_).trans ?_; intro _ _)) <;> (try simp only [↓State.key_mk, ↓State.key_fold, State.key_ite, State.key_foldl, keeps_next_iff, keepsC_ok, keepsC_error, keepsR_ok, keepsR_error, ite_self, implies_true, State.sendVcore_key])))

theorem execThermalHoldStep_key : ∀ x0 s, Keeps s.key (execThermalHoldStep x0 s) := by
  intros; unfold execThermalHoldStep; (try simp only []); (repeat' ((first | (refine keeps_ite _ _ _ _ ?_ ?_) | (refine keepsC_bind _ _ _ ?_; intro _) | split | (refine (State.key_foldl _ _ _ ?_).trans ?_; intro _ _)) <;> (try simp only [↓State.key_mk, ↓State.key_fold, State.key_ite, keeps_next_iff, ite_self, State.elapse_key])))

theorem execCoreWatchdogExpire_key : ∀ x0 s, Keeps s.key (execCoreWatchdogExpire x0 s) := by
  intros; unfold execCoreWatchdogExpire; (try simp only []); (repeat' ((first | (refine keeps_ite _ _ _ _ ?_ ?_) | (refine keepsC_bind _ _ _ ?_; intro _) | split | (refine (State.key_foldl _ _ _ ?_).trans ?_; intro _ _)) <;> (try simp only [↓State.key_mk, ↓State.key_fold, State.key_ite, keeps_next_iff, ite_self, State.raise_key, State.count_key, State.forceHold_key, State.fallBack_key])))

theorem execCoreRestartDone_key : ∀ x0 s, Keeps s.key (execCoreRestartDone x0 s) := by
  intros; unfold execCoreRestartDone; (try simp only []); (repeat' ((first | (refine keeps_ite _ _ _ _ ?_ ?_) | (refine keepsC_bind _ _ _ ?_; intro _) | split | (refine (State.key_foldl _ _ _ ?_).trans ?_; intro _ _)) <;> (try simp only [↓State.key_mk, ↓State.key_fold, keeps_next_iff])))

theorem healthReadOp_key : healthReadOp.Keeps := by
  unfold Op.Keeps healthReadOp; (try trivial); (try (intro r s; (try simp only [keepsR_ok]); (repeat' (first | (refine keepsR_bind _ _ _ ?_; intro _) | split) <;> (try simp only [↓State.key_mk, ↓State.key_fold, State.key_ite, State.key_foldl, keeps_next_iff, keepsC_ok, keepsC_error, keepsR_ok, keepsR_error, ite_self, implies_true]))))

theorem avsStatusOp_key : avsStatusOp.Keeps := by
  unfold Op.Keeps avsStatusOp; (try trivial); (try (intro r s; (try simp only [keepsR_ok]); (repeat' (first | (refine keepsR_bind _ _ _ ?_; intro _) | split) <;> (try simp only [↓State.key_mk, ↓State.key_fold, State.key_ite, State.key_foldl, keeps_next_iff, keepsC_ok, keepsC_error, keepsR_ok, keepsR_error, ite_self, implies_true]))))

theorem eventRouteOp_key : eventRouteOp.Keeps := by
  unfold Op.Keeps eventRouteOp; (try trivial); (try (intro r s; (try simp only []); (repeat' (first | (refine keepsR_bind _ _ _ ?_; intro _) | split) <;> (try simp only [↓State.key_mk, ↓State.key_fold, keepsR_ok]))))

theorem eventMaskOp_key : eventMaskOp.Keeps := by
  unfold Op.Keeps eventMaskOp; (try trivial); (try (intro r s; (try simp only []); (repeat' (first | (refine keepsR_bind _ _ _ ?_; intro _) | split) <;> (try simp only [↓State.key_mk, ↓State.key_fold, keepsR_ok]))))

theorem logReadOp_key : logReadOp.Keeps := by
  unfold Op.Keeps logReadOp; (try trivial); (try (intro r s; (try simp only []); (repeat' (first | (refine keepsR_bind _ _ _ ?_; intro _) | split) <;> (try simp only [keepsR_ok]))))

theorem countersReadOp_key : countersReadOp.Keeps := by
  unfold Op.Keeps countersReadOp; (try trivial); (try (intro r s; (try simp only []); (repeat' (first | (refine keepsR_bind _ _ _ ?_; intro _) | split) <;> (try simp only [keepsR_ok]))))

theorem execEventDatagramSend_key : ∀ x0 s, Keeps s.key (execEventDatagramSend x0 s) := by
  intros; unfold execEventDatagramSend; (try simp only [↓State.key_mk, ↓State.key_fold, State.key_ite, State.key_foldl, keeps_next_iff, keepsC_ok, keepsC_error, keepsR_ok, keepsR_error, ite_self, implies_true, State.sendEvents_key, State.advanceNow_key]); (repeat' ((first | (refine keeps_ite _ _ _ _ ?_ ?_) | (refine keepsC_bind _ _ _ ?_; intro _) | split | (refine (State.key_foldl _ _ _ ?_).trans ?_; intro _ _)) <;> (try simp only [State.key_ite, keeps_next_iff, ite_self, State.sendEvents_key, State.advanceNow_key])))

theorem execVectorHoldoffExpire_key : ∀ x0 s, Keeps s.key (execVectorHoldoffExpire x0 s) := by
  intros; unfold execVectorHoldoffExpire; (try simp only []); (repeat' ((first | (refine keeps_ite _ _ _ _ ?_ ?_) | (refine keepsC_bind _ _ _ ?_; intro _) | split | (refine (State.key_foldl _ _ _ ?_).trans ?_; intro _ _)) <;> (try simp only [↓State.key_mk, ↓State.key_fold, State.key_ite, keeps_next_iff, ite_self, State.advanceNow_key, State.signal_key])))

theorem execUart1LogLine_key : ∀ x0 s, Keeps s.key (execUart1LogLine x0 s) := by
  intros; unfold execUart1LogLine; (try simp only []); (repeat' ((first | (refine keeps_ite _ _ _ _ ?_ ?_) | (refine keepsC_bind _ _ _ ?_; intro _) | split | (refine (State.key_foldl _ _ _ ?_).trans ?_; intro _ _)) <;> (try simp only [↓State.key_mk, ↓State.key_fold, State.key_ite, keeps_next_iff, ite_self, State.advanceNow_key, State.drive_key])))

theorem State.sweepLatch_key : ∀ s, (State.sweepLatch s).key = s.key := by
  intros; unfold State.sweepLatch; simp only [↓State.key_mk, ↓State.key_fold]

theorem execSweepRead_key : ∀ s, Keeps s.key (execSweepRead s) := by
  intros; unfold execSweepRead; simp only [keeps_next_iff, State.emit_key, State.sweepLatch_key]

theorem State.monWrite_key : ∀ x0 x1 s, (State.monWrite x0 x1 s).key = s.key := by
  intros; unfold State.monWrite; simp only [↓State.key_mk, ↓State.key_fold, State.key_ite, ite_self]

theorem State.evtLatch_key : ∀ x0 s, (State.evtLatch x0 s).key = s.key := by
  intros; unfold State.evtLatch; simp only [↓State.key_mk, ↓State.key_fold, State.key_ite, ite_self]

theorem State.evtEnable_key : ∀ s, (State.evtEnable s).key = s.key := by
  intros; unfold State.evtEnable; simp only [↓State.key_mk, ↓State.key_fold, State.key_ite, ite_self, State.busMaster_key]

theorem execEvtRingEnable_key : ∀ s, Keeps s.key (execEvtRingEnable s) := by
  intros; unfold execEvtRingEnable; (try simp only [↓State.key_mk, ↓State.key_fold, State.key_ite, State.key_foldl, keeps_next_iff, keepsC_ok, keepsC_error, keepsR_ok, keepsR_error, ite_self, implies_true, State.evtEnable_key, State.busMaster_key]); (repeat' ((first | (refine keeps_ite _ _ _ _ ?_ ?_) | (refine keepsC_bind _ _ _ ?_; intro _) | split | (refine (State.key_foldl _ _ _ ?_).trans ?_; intro _ _)) <;> (try simp only [↓State.key_mk, ↓State.key_fold, State.key_ite, State.key_foldl, keeps_next_iff, keepsC_ok, keepsC_error, keepsR_ok, keepsR_error, ite_self, implies_true, State.evtEnable_key, State.busMaster_key])))

theorem State.evtWrite_key : ∀ o v s, (State.evtWrite o v s).key = s.key := by
  intro o v s
  have h : ∀ e : Evt, State.key { s with evt := e } = s.key := fun e => by rw [State.key_mk, State.key_fold]
  unfold State.evtWrite
  refine key_ite_of _ _ _ _ (key_ite_of _ _ _ _ (State.evtEnable_key s) (h _)) ?_
  refine key_ite_of _ _ _ _ (key_ite_of _ _ _ _ rfl (h _)) ?_
  refine key_ite_of _ _ _ _ (key_ite_of _ _ _ _ rfl (h _)) ?_
  refine key_ite_of _ _ _ _ (key_ite_of _ _ _ _ rfl (h _)) ?_
  exact key_ite_of _ _ _ _ (h _) (key_ite_of _ _ _ _ (h _) (key_ite_of _ _ _ _ (h _)
    (key_ite_of _ _ _ _ (h _) (key_ite_of _ _ _ _ (h _) rfl))))

theorem execHealthRead_key : ∀ x0 s, Keeps s.key (execHealthRead x0 s) := by
  exact fun r s => hostCommand_key _ r s healthReadOp_key

theorem execEventRoute_key : ∀ x0 s, Keeps s.key (execEventRoute x0 s) := by
  exact fun r s => hostCommand_key _ r s eventRouteOp_key

theorem execEventMask_key : ∀ x0 s, Keeps s.key (execEventMask x0 s) := by
  exact fun r s => hostCommand_key _ r s eventMaskOp_key

theorem execLogRead_key : ∀ x0 s, Keeps s.key (execLogRead x0 s) := by
  exact fun r s => hostCommand_key _ r s logReadOp_key

theorem execCountersRead_key : ∀ x0 s, Keeps s.key (execCountersRead x0 s) := by
  exact fun r s => hostCommand_key _ r s countersReadOp_key

theorem execAvsStatus_key : ∀ x0 s, Keeps s.key (execAvsStatus x0 s) := by
  exact fun r s => hostCommand_key _ r s avsStatusOp_key

end Sys2Proof.Machine
end

