-- ==== Sys2Proof/Laws/FrameHost.lean ====
section
/-! SUPPORT. The fuses, the queue and the flash stay (see Frame): the definitions of sessions, presses, the pair, start-up, registers, Niwin and packets. -/

namespace Sys2Proof.Machine

theorem State.withdrawn_key : ∀ x0 x1 s, (State.withdrawn x0 x1 s).key = s.key := by
  intros; unfold State.withdrawn; simp only [State.raise_key, State.count_key]

theorem State.withdraw_key : ∀ x0 x1 s, (State.withdraw x0 x1 s).key = s.key := by
  intros; unfold State.withdraw; simp only [↓State.key_mk, ↓State.key_fold, State.key_foldl, implies_true, State.withdrawn_key]

theorem identifyOp_key : identifyOp.Keeps := by
  unfold Op.Keeps identifyOp; (try trivial); (try (intro r s; (try simp only [keepsR_ok]); (repeat' (first | (refine keepsR_bind _ _ _ ?_; intro _) | split) <;> (try simp only [↓State.key_mk, ↓State.key_fold, State.key_ite, State.key_foldl, keeps_next_iff, keepsC_ok, keepsC_error, keepsR_ok, keepsR_error, ite_self, implies_true]))))

theorem sessionOpenOp_key : sessionOpenOp.Keeps := by
  unfold Op.Keeps sessionOpenOp; (try trivial); (try (intro r s; (try simp only []); (repeat' (first | (refine keepsR_bind _ _ _ ?_; intro _) | split) <;> (try simp only [↓State.key_mk, ↓State.key_fold, keepsR_ok, keepsR_error]))))

theorem sessionCloseOp_key : sessionCloseOp.Keeps := by
  unfold Op.Keeps sessionCloseOp; (try trivial); (try (intro r s; (try simp only [State.key_ite, keepsR_ok, ite_self, State.endSession_key, State.withdraw_key]); (repeat' (first | (refine keepsR_bind _ _ _ ?_; intro _) | split) <;> (try simp only [↓State.key_mk, ↓State.key_fold, State.key_ite, State.key_foldl, keeps_next_iff, keepsC_ok, keepsC_error, keepsR_ok, keepsR_error, ite_self, implies_true, State.endSession_key, State.withdraw_key]))))

theorem sessionKeepaliveOp_key : sessionKeepaliveOp.Keeps := by
  unfold Op.Keeps sessionKeepaliveOp; (try trivial); (try (intro r s; (try simp only [keepsR_ok]); (repeat' (first | (refine keepsR_bind _ _ _ ?_; intro _) | split) <;> (try simp only [↓State.key_mk, ↓State.key_fold, State.key_ite, State.key_foldl, keeps_next_iff, keepsC_ok, keepsC_error, keepsR_ok, keepsR_error, ite_self, implies_true]))))

theorem tagStatusOp_key : tagStatusOp.Keeps := by
  unfold Op.Keeps tagStatusOp; (try trivial); (try (intro r s; (try simp only []); (repeat' (first | (refine keepsR_bind _ _ _ ?_; intro _) | split) <;> (try simp only [keepsR_ok, keepsR_error]))))

theorem timedCancelOp_key : timedCancelOp.Keeps := by
  unfold Op.Keeps timedCancelOp; (try trivial); (try (intro r s; (try simp only []); (repeat' (first | (refine keepsR_bind _ _ _ ?_; intro _) | split) <;> (try simp only [keepsR_ok, keepsR_error, State.withdraw_key]))))

theorem sessionListOp_key : sessionListOp.Keeps := by
  unfold Op.Keeps sessionListOp; (try trivial); (try (intro r s; (try simp only [keepsR_ok]); (repeat' (first | (refine keepsR_bind _ _ _ ?_; intro _) | split) <;> (try simp only [↓State.key_mk, ↓State.key_fold, State.key_ite, State.key_foldl, keeps_next_iff, keepsC_ok, keepsC_error, keepsR_ok, keepsR_error, ite_self, implies_true]))))

theorem execSessionKeepaliveExpire_key : ∀ x0 s, Keeps s.key (execSessionKeepaliveExpire x0 s) := by
  intros; unfold execSessionKeepaliveExpire; (try simp only [↓State.key_mk, ↓State.key_fold, State.key_ite, State.key_foldl, keeps_next_iff, keepsC_ok, keepsC_error, keepsR_ok, keepsR_error, ite_self, implies_true, State.endSession_key, State.advanceNow_key]); (repeat' ((first | (refine keeps_ite _ _ _ _ ?_ ?_) | (refine keepsC_bind _ _ _ ?_; intro _) | split | (refine (State.key_foldl _ _ _ ?_).trans ?_; intro _ _)) <;> (try simp only [keeps_next_iff, State.endSession_key, State.advanceNow_key])))

theorem State.loseSessions_key : ∀ x0 s, (State.loseSessions x0 s).key = s.key := by
  intros; unfold State.loseSessions; simp only [State.key_ite, State.key_foldl, ite_self, implies_true, State.endSession_key]

theorem State.badIndex_key : ∀ x0 s, (State.badIndex x0 s).key = s.key := by
  intros; unfold State.badIndex; simp only [State.pairError_key, State.disablePair_key]

theorem State.writeCmdTail_key : ∀ x0 x1 s, (State.writeCmdTail x0 x1 s).key = s.key := by
  intros; unfold State.writeCmdTail; simp only [State.key_ite, ite_self, State.setRing_key, State.badIndex_key]

theorem State.writeRplTail_key : ∀ x0 x1 s, (State.writeRplTail x0 x1 s).key = s.key := by
  intros; unfold State.writeRplTail; simp only [State.key_ite, ite_self, State.setRing_key, State.badIndex_key, State.flush_key]

theorem State.enableRing_key : ∀ x0 s, (State.enableRing x0 s).key = s.key := by
  intros; unfold State.enableRing; simp only [State.key_ite, ite_self, State.setRing_key, State.busMaster_key]

theorem State.settleDisable_key : ∀ x0 s, (State.settleDisable x0 s).key = s.key := by
  intros; unfold State.settleDisable; simp only [State.key_ite, ite_self, State.setRing_key]

theorem State.disableRing_key : ∀ x0 s, (State.disableRing x0 s).key = s.key := by
  intros; unfold State.disableRing; simp only [State.settleDisable_key, State.setRing_key]

theorem State.rinseRing_key : ∀ x0 s, (State.rinseRing x0 s).key = s.key := by
  intros; unfold State.rinseRing; simp only [State.setRing_key]

theorem State.setSource_key : ∀ x0 x1 s, (State.setSource x0 x1 s).key = s.key := by
  intros; unfold State.setSource; simp only [State.key_ite, ite_self, State.setRing_key]

theorem State.writeCtrl_key : ∀ x0 x1 s, (State.writeCtrl x0 x1 s).key = s.key := by
  intros; unfold State.writeCtrl; simp only [State.key_ite, ite_self, State.setSource_key, State.enableRing_key, State.disableRing_key, State.rinseRing_key]

theorem State.writeRing_key : ∀ x0 x1 x2 s, (State.writeRing x0 x1 x2 s).key = s.key := by
  intros; unfold State.writeRing; (try simp only []); (repeat' ((first | (refine keeps_ite _ _ _ _ ?_ ?_) | (refine keepsC_bind _ _ _ ?_; intro _) | split | (refine (State.key_foldl _ _ _ ?_).trans ?_; intro _ _)) <;> (try simp only [State.key_ite, ite_self, State.setRing_key, State.writeCtrl_key, State.writeCmdTail_key, State.writeRplTail_key])))

theorem onPair_key : ∀ n s f, (∀ t, (f t).key = t.key) → Keeps s.key (onPair n s f) := by
  intro n s f h
  unfold onPair
  split
  · exact keeps_next _ _ rfl
  · exact keeps_next _ _ (h s)

theorem execCmdTailWrite_key : ∀ x0 x1 s, Keeps s.key (execCmdTailWrite x0 x1 s) := by
  intros; unfold execCmdTailWrite; simp only [implies_true, onPair_key, State.writeCmdTail_key]

theorem execRplTailWrite_key : ∀ x0 x1 s, Keeps s.key (execRplTailWrite x0 x1 s) := by
  intros; unfold execRplTailWrite; simp only [implies_true, onPair_key, State.writeRplTail_key]

theorem execReplyStallTimeout_key : ∀ n s, Keeps s.key (execReplyStallTimeout n s) := by
  intro n s
  refine onPair_key _ _ _ fun s => ?_
  split
  · rfl
  · refine key_ite_of _ _ _ _ rfl ?_
    rw [State.raise_key]
    refine key_ite_of _ _ _ _ ?_ ?_
    · rw [State.setRing_key, State.advanceNow_key]
    · rw [State.pairError_key, State.setRing_key, State.advanceNow_key]

theorem State.expireSlot_key : ∀ x0 x1 x2 s, (State.expireSlot x0 x1 x2 s).key = s.key := by
  intros; unfold State.expireSlot; simp only [↓State.key_mk, ↓State.key_fold, State.key_ite, ite_self, State.flush_key, State.setRing_key, State.record_key]

theorem execReplyTimeoutExpire_key : ∀ x0 x1 s, Keeps s.key (execReplyTimeoutExpire x0 x1 s) := by
  intros; unfold execReplyTimeoutExpire; (try simp only [↓State.key_mk, ↓State.key_fold, State.key_ite, State.key_foldl, keeps_next_iff, keepsC_ok, keepsC_error, keepsR_ok, keepsR_error, ite_self, implies_true, onPair_key, State.expireSlot_key, State.advanceNow_key]); (repeat' ((first | (refine onPair_key _ _ _ ?_; intro _) | (refine keeps_ite _ _ _ _ ?_ ?_) | (refine keepsC_bind _ _ _ ?_; intro _) | split | (refine (State.key_foldl _ _ _ ?_).trans ?_; intro _ _)) <;> (try simp only [State.key_ite, ite_self, State.expireSlot_key, State.advanceNow_key])))

theorem execHostqEnableSet_key : ∀ x0 s, Keeps s.key (execHostqEnableSet x0 s) := by
  intros; unfold execHostqEnableSet; simp only [implies_true, onPair_key, State.enableRing_key]

theorem execHostqEnableClear_key : ∀ x0 s, Keeps s.key (execHostqEnableClear x0 s) := by
  intros; unfold execHostqEnableClear; simp only [implies_true, onPair_key, State.disableRing_key]

theorem execHostqDisableDone_key : ∀ x0 s, Keeps s.key (execHostqDisableDone x0 s) := by
  intros; unfold execHostqDisableDone; simp only [implies_true, onPair_key, State.settleDisable_key]

theorem execHostqRinse_key : ∀ x0 s, Keeps s.key (execHostqRinse x0 s) := by
  intros; unfold execHostqRinse; simp only [implies_true, onPair_key, State.rinseRing_key]

theorem State.aerError_key : ∀ s, (State.aerError s).key = s.key := by
  intros; unfold State.aerError; (try simp only [↓State.key_mk, ↓State.key_fold, State.key_ite, State.key_foldl, keeps_next_iff, keepsC_ok, keepsC_error, keepsR_ok, keepsR_error, ite_self, implies_true, State.draw_key]); (repeat' ((first | (refine keeps_ite _ _ _ _ ?_ ?_) | (refine keepsC_bind _ _ _ ?_; intro _) | split | (refine (State.key_foldl _ _ _ ?_).trans ?_; intro _ _)) <;> (try simp only [↓State.key_mk, ↓State.key_fold, State.key_ite, State.key_foldl, keeps_next_iff, keepsC_ok, keepsC_error, keepsR_ok, keepsR_error, ite_self, implies_true, State.draw_key])))

theorem execDmaReadFail_key : ∀ x0 s, Keeps s.key (execDmaReadFail x0 s) := by
  intros; unfold execDmaReadFail; (try simp only [↓State.key_mk, ↓State.key_fold, State.key_ite, State.key_foldl, keeps_next_iff, keepsC_ok, keepsC_error, keepsR_ok, keepsR_error, ite_self, implies_true, onPair_key, State.disablePair_key, State.aerError_key, State.pairError_key, State.fetchLate_key]); (repeat' ((first | (refine keeps_ite _ _ _ _ ?_ ?_) | (refine keepsC_bind _ _ _ ?_; intro _) | split | (refine (State.key_foldl _ _ _ ?_).trans ?_; intro _ _)) <;> (try simp only [↓State.key_mk, ↓State.key_fold, State.key_ite, State.key_foldl, keeps_next_iff, keepsC_ok, keepsC_error, keepsR_ok, keepsR_error, ite_self, implies_true, onPair_key, State.disablePair_key, State.aerError_key, State.pairError_key, State.fetchLate_key])))

theorem execRplDmaFail_key : ∀ x0 s, Keeps s.key (execRplDmaFail x0 s) := by
  intros; unfold execRplDmaFail; simp only [State.key_ite, ite_self, implies_true, onPair_key, State.flush_key, State.pairError_key, State.disablePair_key]

theorem execIdentify_key : ∀ x0 s, Keeps s.key (execIdentify x0 s) := by
  exact fun r s => hostCommand_key _ r s identifyOp_key

theorem execSessionOpen_key : ∀ x0 s, Keeps s.key (execSessionOpen x0 s) := by
  exact fun r s => hostCommand_key _ r s sessionOpenOp_key

theorem execSessionClose_key : ∀ x0 s, Keeps s.key (execSessionClose x0 s) := by
  exact fun r s => hostCommand_key _ r s sessionCloseOp_key

theorem execSessionKeepalive_key : ∀ x0 s, Keeps s.key (execSessionKeepalive x0 s) := by
  exact fun r s => hostCommand_key _ r s sessionKeepaliveOp_key

theorem execTagStatus_key : ∀ x0 s, Keeps s.key (execTagStatus x0 s) := by
  exact fun r s => hostCommand_key _ r s tagStatusOp_key

theorem execTimedCancel_key : ∀ x0 s, Keeps s.key (execTimedCancel x0 s) := by
  exact fun r s => hostCommand_key _ r s timedCancelOp_key

theorem execSessionList_key : ∀ x0 s, Keeps s.key (execSessionList x0 s) := by
  exact fun r s => hostCommand_key _ r s sessionListOp_key

theorem setFrameOp_key : setFrameOp.Keeps := trivial

theorem setEnvelopeOp_key : setEnvelopeOp.Keeps := trivial

theorem setRoleOp_key : setRoleOp.Keeps := trivial

theorem pairDefineOp_key : pairDefineOp.Keeps := trivial

theorem stageReadOp_key : stageReadOp.Keeps := by
  unfold Op.Keeps stageReadOp; (try trivial); (try (intro r s; (try simp only []); (repeat' (first | (refine keepsR_bind _ _ _ ?_; intro _) | split) <;> (try simp only [keepsR_ok, keepsR_error]))))

theorem basteBeginOp_key : basteBeginOp.Keeps := by
  unfold Op.Keeps basteBeginOp; (try trivial); (try (intro r s; (try simp only []); (repeat' (first | (refine keepsR_bind _ _ _ ?_; intro _) | split) <;> (try simp only [↓State.key_mk, ↓State.key_fold, keepsR_ok]))))

theorem basteAbortOp_key : basteAbortOp.Keeps := by
  unfold Op.Keeps basteAbortOp; (try trivial); (try (intro r s; (try simp only []); (repeat' (first | (refine keepsR_bind _ _ _ ?_; intro _) | split) <;> (try simp only [↓State.key_mk, ↓State.key_fold, keepsR_ok]))))

theorem State.startAdmission_key : ∀ a b c d s t, State.startAdmission a b c d s = .ok t → t.2.key = s.key := by
  intro a b c d s t e
  unfold State.startAdmission at e
  simp only [bind, Except.bind] at e
  (repeat' split at e) <;> first | (cases e; done) | (cases e; exact State.startJob_key 0x0201 a b s)

theorem admitOp_key : admitOp.Keeps := by
  unfold Op.Keeps admitOp
  intro r s
  simp only [bind, Except.bind]
  split
  · exact keepsR_error _ _ ▸ trivial
  · rename_i x e
    rw [keepsR_ok]
    exact State.startAdmission_key _ _ _ _ _ _ e

theorem pressConfigOp_key : pressConfigOp.Keeps := by
  unfold Op.Keeps pressConfigOp; (try trivial); (try (intro r s; (try simp only []); (repeat' (first | (refine keepsR_bind _ _ _ ?_; intro _) | split) <;> (try simp only [↓State.key_mk, ↓State.key_fold, keepsR_ok, keepsR_error]))))

theorem admitReportOp_key : admitReportOp.Keeps := by
  unfold Op.Keeps admitReportOp; (try trivial); (try (intro r s; (try simp only []); (repeat' (first | (refine keepsR_bind _ _ _ ?_; intro _) | split) <;> (try simp only [keepsR_ok, keepsR_error]))))

theorem execSetFrame_key : ∀ x0 s, Keeps s.key (execSetFrame x0 s) := by
  exact fun r s => hostCommand_key _ r s setFrameOp_key

theorem execSetEnvelope_key : ∀ x0 s, Keeps s.key (execSetEnvelope x0 s) := by
  exact fun r s => hostCommand_key _ r s setEnvelopeOp_key

theorem execSetRole_key : ∀ x0 s, Keeps s.key (execSetRole x0 s) := by
  exact fun r s => hostCommand_key _ r s setRoleOp_key

theorem execPairDefine_key : ∀ x0 s, Keeps s.key (execPairDefine x0 s) := by
  exact fun r s => hostCommand_key _ r s pairDefineOp_key

theorem execStageRead_key : ∀ x0 s, Keeps s.key (execStageRead x0 s) := by
  exact fun r s => hostCommand_key _ r s stageReadOp_key

theorem execBasteBegin_key : ∀ x0 s, Keeps s.key (execBasteBegin x0 s) := by
  exact fun r s => hostCommand_key _ r s basteBeginOp_key

theorem execBasteAbort_key : ∀ x0 s, Keeps s.key (execBasteAbort x0 s) := by
  exact fun r s => hostCommand_key _ r s basteAbortOp_key

theorem execAdmit_key : ∀ x0 s, Keeps s.key (execAdmit x0 s) := by
  exact fun r s => hostCommand_key _ r s admitOp_key

theorem execPressConfig_key : ∀ x0 s, Keeps s.key (execPressConfig x0 s) := by
  exact fun r s => hostCommand_key _ r s pressConfigOp_key

theorem execAdmitReport_key : ∀ x0 s, Keeps s.key (execAdmitReport x0 s) := by
  exact fun r s => hostCommand_key _ r s admitReportOp_key

theorem State.pressLanes_key : ∀ x0 x1 s, (State.pressLanes x0 x1 s).key = s.key := by
  intros; unfold State.pressLanes; simp only [State.key_ite, State.key_foldl, ite_self, implies_true, State.updLane_key, State.dropLink_key]

theorem State.pressFlows_key : ∀ x0 x1 x2 x3 s, (State.pressFlows x0 x1 x2 x3 s).key = s.key := by
  intros; unfold State.pressFlows; simp only [↓State.key_mk, ↓State.key_fold]

theorem State.pressReceive_key : ∀ x0 x1 s, (State.pressReceive x0 x1 s).key = s.key := by
  intros; unfold State.pressReceive; simp only [↓State.key_mk, ↓State.key_fold]

theorem State.pressSends_key : ∀ x0 x1 s, (State.pressSends x0 x1 s).key = s.key := by
  intros; unfold State.pressSends; (try simp only [State.key_foldl, implies_true, State.igmpReport_key]); (repeat' ((first | (refine keeps_ite _ _ _ _ ?_ ?_) | (refine keepsC_bind _ _ _ ?_; intro _) | split | (refine (State.key_foldl _ _ _ ?_).trans ?_; intro _ _)) <;> (try simp only [State.key_ite, ite_self, State.arpRequest_key])))

theorem State.releaseMirrors_key : ∀ x0 s, (State.releaseMirrors x0 s).key = s.key := by
  intros; unfold State.releaseMirrors; (try simp only [↓State.key_mk, ↓State.key_fold, State.key_ite, State.key_foldl, keeps_next_iff, keepsC_ok, keepsC_error, keepsR_ok, keepsR_error, ite_self, implies_true, State.complete_key]); (repeat' ((first | (refine keeps_ite _ _ _ _ ?_ ?_) | (refine keepsC_bind _ _ _ ?_; intro _) | split | (refine (State.key_foldl _ _ _ ?_).trans ?_; intro _ _)) <;> (try simp only [State.key_ite, ite_self, State.complete_key])))

theorem State.pressPair_key : ∀ x0 s, (State.pressPair x0 s).key = s.key := by
  intros; unfold State.pressPair; (try simp only []); (repeat' ((first | (refine keeps_ite _ _ _ _ ?_ ?_) | (refine keepsC_bind _ _ _ ?_; intro _) | split | (refine (State.key_foldl _ _ _ ?_).trans ?_; intro _ _)) <;> (try simp only [↓State.key_mk, ↓State.key_fold, State.key_ite, ite_self, State.releaseMirrors_key])))

theorem State.pressBalls_key : ∀ x0 x1 x2 s, (State.pressBalls x0 x1 x2 s).key = s.key := by
  intros; unfold State.pressBalls; (try simp only [↓State.key_mk, ↓State.key_fold, State.key_ite, State.key_foldl, keeps_next_iff, keepsC_ok, keepsC_error, keepsR_ok, keepsR_error, ite_self, implies_true]); (repeat' ((first | (refine keeps_ite _ _ _ _ ?_ ?_) | (refine keepsC_bind _ _ _ ?_; intro _) | split | (refine (State.key_foldl _ _ _ ?_).trans ?_; intro _ _)) <;> (try simp only [↓State.key_mk, ↓State.key_fold, State.key_ite, State.key_foldl, keeps_next_iff, keepsC_ok, keepsC_error, keepsR_ok, keepsR_error, ite_self, implies_true])))

theorem State.takeForce_key : ∀ x0 x1 x2 x3 s, (State.takeForce x0 x1 x2 x3 s).key = s.key := by
  intros; unfold State.takeForce; (try simp only [↓State.key_mk, ↓State.key_fold, State.key_ite, State.key_foldl, keeps_next_iff, keepsC_ok, keepsC_error, keepsR_ok, keepsR_error, ite_self, implies_true, State.pressBalls_key, State.pressParams_key, State.pressPlaybacks_key, State.pressEffects_key, State.pressTime_key, State.pressLanes_key, State.ptpPorts_key, State.firstLock_key, State.pressFlows_key, State.pressReceive_key, State.pressSends_key, State.pressColour_key, State.pressCanvases_key, State.pressVideo_key, State.pressWitness_key, State.pressLatency_key, State.settleLeads_key, State.pressScan_key, State.pressRdm_key, State.pressDmx_key, State.pressMeters_key, State.pressPair_key]); (repeat' ((first | (refine keeps_ite _ _ _ _ ?_ ?_) | (refine keepsC_bind _ _ _ ?_; intro _) | split | (refine (State.key_foldl _ _ _ ?_).trans ?_; intro _ _)) <;> (try simp only [↓State.key_mk, ↓State.key_fold, State.key_ite, State.key_foldl, keeps_next_iff, keepsC_ok, keepsC_error, keepsR_ok, keepsR_error, ite_self, implies_true, State.pressBalls_key, State.pressParams_key, State.pressPlaybacks_key, State.pressEffects_key, State.pressTime_key, State.pressLanes_key, State.ptpPorts_key, State.firstLock_key, State.pressFlows_key, State.pressReceive_key, State.pressSends_key, State.pressColour_key, State.pressCanvases_key, State.pressVideo_key, State.pressWitness_key, State.pressLatency_key, State.settleLeads_key, State.pressScan_key, State.pressRdm_key, State.pressDmx_key, State.pressMeters_key, State.pressPair_key])))

theorem State.pressPending_key : ∀ x0 x1 s, (State.pressPending x0 x1 s).key = s.key := by
  intros; unfold State.pressPending; simp only [↓State.key_mk, ↓State.key_fold, State.key_ite, ite_self, State.takeForce_key, State.raiseFrame_key]

theorem State.configure_key : ∀ x0 x1 s, (State.configure x0 x1 s).key = s.key := by
  intros; unfold State.configure; simp only [↓State.key_mk, ↓State.key_fold, State.takeForce_key, State.raiseFrame_key]

theorem State.admitted_key : ∀ x0 x1 s, (State.admitted x0 x1 s).key = s.key := by
  intros; unfold State.admitted; (try simp only [↓State.key_mk, ↓State.key_fold, State.key_ite, ite_self, State.configure_key]); (repeat' ((first | (refine keeps_ite _ _ _ _ ?_ ?_) | (refine keepsC_bind _ _ _ ?_; intro _) | split | (refine (State.key_foldl _ _ _ ?_).trans ?_; intro _ _)) <;> (try simp only [↓State.key_mk, ↓State.key_fold, State.key_ite, ite_self, State.raiseFrame_key])))

theorem State.endAdmission_key : ∀ x0 x1 s, (State.endAdmission x0 x1 s).key = s.key := by
  intros; unfold State.endAdmission; simp only [↓State.key_mk, ↓State.key_fold, State.finish_key]

theorem State.admitEvents_key : ∀ x0 x1 s, (State.admitEvents x0 x1 s).key = s.key := by
  intros; unfold State.admitEvents; (try simp only [↓State.key_mk, ↓State.key_fold, State.key_ite, State.key_foldl, keeps_next_iff, keepsC_ok, keepsC_error, keepsR_ok, keepsR_error, ite_self, implies_true, State.raise_key]); (repeat' ((first | (refine keeps_ite _ _ _ _ ?_ ?_) | (refine keepsC_bind _ _ _ ?_; intro _) | split | (refine (State.key_foldl _ _ _ ?_).trans ?_; intro _ _)) <;> (try simp only [↓State.key_mk, ↓State.key_fold, State.key_ite, State.key_foldl, keeps_next_iff, keepsC_ok, keepsC_error, keepsR_ok, keepsR_error, ite_self, implies_true, State.raise_key])))

theorem State.completeAdmission_key : ∀ x0 s, (State.completeAdmission x0 s).key = s.key := by
  intros; unfold State.completeAdmission; (try simp only [↓State.key_mk, ↓State.key_fold, State.key_ite, State.key_foldl, keeps_next_iff, keepsC_ok, keepsC_error, keepsR_ok, keepsR_error, ite_self, implies_true, State.endAdmission_key, State.admitEvents_key, State.admitted_key, State.endSession_key]); (repeat' ((first | (refine keeps_ite _ _ _ _ ?_ ?_) | (refine keepsC_bind _ _ _ ?_; intro _) | split | (refine (State.key_foldl _ _ _ ?_).trans ?_; intro _ _)) <;> (try simp only [↓State.key_mk, ↓State.key_fold, State.key_ite, State.key_foldl, keeps_next_iff, keepsC_ok, keepsC_error, keepsR_ok, keepsR_error, ite_self, implies_true, State.endAdmission_key, State.admitEvents_key, State.admitted_key, State.endSession_key])))

theorem execAdmissionComplete_key : ∀ s, Keeps s.key (execAdmissionComplete s) := by
  intros; unfold execAdmissionComplete; (try simp only [↓State.key_mk, ↓State.key_fold, State.key_ite, State.key_foldl, keeps_next_iff, keepsC_ok, keepsC_error, keepsR_ok, keepsR_error, ite_self, implies_true, State.completeAdmission_key]); (repeat' ((first | (refine keeps_ite _ _ _ _ ?_ ?_) | (refine keepsC_bind _ _ _ ?_; intro _) | split | (refine (State.key_foldl _ _ _ ?_).trans ?_; intro _ _)) <;> (try simp only [keeps_next_iff, State.completeAdmission_key])))

theorem State.toPeer_key : ∀ x0 x1 x2 s, (State.toPeer x0 x1 x2 s).key = s.key := by
  intros; unfold State.toPeer; (try simp only [↓State.key_mk, ↓State.key_fold, State.key_ite, State.key_foldl, keeps_next_iff, keepsC_ok, keepsC_error, keepsR_ok, keepsR_error, ite_self, implies_true, State.emit_key]); (repeat' ((first | (refine keeps_ite _ _ _ _ ?_ ?_) | (refine keepsC_bind _ _ _ ?_; intro _) | split | (refine (State.key_foldl _ _ _ ?_).trans ?_; intro _ _)) <;> (try simp only [State.key_ite, ite_self, State.emit_key])))

theorem State.sendHeartbeat_key : ∀ x0 x1 s, (State.sendHeartbeat x0 x1 s).key = s.key := by
  intros; unfold State.sendHeartbeat; simp only [State.toPeer_key]

theorem State.dutyChanged_key : ∀ x0 x1 s, (State.dutyChanged x0 x1 s).key = s.key := by
  intros; unfold State.dutyChanged; simp only [↓State.key_mk, ↓State.key_fold, State.raiseFrame_key]

theorem State.gainDuty_key : ∀ x0 x1 x2 s, (State.gainDuty x0 x1 x2 s).key = s.key := by
  intros; unfold State.gainDuty; simp only [↓State.key_mk, ↓State.key_fold, State.dutyChanged_key]

theorem State.loseDuty_key : ∀ x0 x1 x2 s, (State.loseDuty x0 x1 x2 s).key = s.key := by
  intros; unfold State.loseDuty; simp only [↓State.key_mk, ↓State.key_fold, State.dutyChanged_key, State.endLatRuns_key, State.endCalRuns_key, State.releaseMirrors_key]

theorem State.enterSolo_key : ∀ s, (State.enterSolo s).key = s.key := by
  intros; unfold State.enterSolo; simp only [↓State.key_mk, ↓State.key_fold, State.releaseMirrors_key]

theorem State.stopPair_key : ∀ s, (State.stopPair s).key = s.key := by
  intros; unfold State.stopPair; simp only [↓State.key_mk, ↓State.key_fold, State.key_ite, ite_self, State.releaseMirrors_key]

theorem State.abandonHandover_key : ∀ s, (State.abandonHandover s).key = s.key := by
  intros; unfold State.abandonHandover; (try simp only []); (repeat' ((first | (refine keeps_ite _ _ _ _ ?_ ?_) | (refine keepsC_bind _ _ _ ?_; intro _) | split | (refine (State.key_foldl _ _ _ ?_).trans ?_; intro _ _)) <;> (try simp only [↓State.key_mk, ↓State.key_fold, State.raiseFrame_key])))

theorem State.fixHandover_key : ∀ x0 s, (State.fixHandover x0 s).key = s.key := by
  intros; unfold State.fixHandover; simp only [↓State.key_mk, ↓State.key_fold, State.key_ite, ite_self, State.raiseFrame_key]

theorem pairHandoverOp_key : pairHandoverOp.Keeps := by
  unfold Op.Keeps pairHandoverOp; (try trivial); (try (intro r n s; (try simp only [State.fixHandover_key]); (repeat' (first | (refine keepsR_bind _ _ _ ?_; intro _) | split) <;> (try simp only [↓State.key_mk, ↓State.key_fold, State.key_ite, State.key_foldl, keeps_next_iff, keepsC_ok, keepsC_error, keepsR_ok, keepsR_error, ite_self, implies_true, State.fixHandover_key]))))

theorem pairStatusOp_key : pairStatusOp.Keeps := by
  unfold Op.Keeps pairStatusOp; (try trivial); (try (intro r s; (try simp only [keepsR_ok]); (repeat' (first | (refine keepsR_bind _ _ _ ?_; intro _) | split) <;> (try simp only [↓State.key_mk, ↓State.key_fold, State.key_ite, State.key_foldl, keeps_next_iff, keepsC_ok, keepsC_error, keepsR_ok, keepsR_error, ite_self, implies_true]))))

theorem pairMaintenanceOp_key : pairMaintenanceOp.Keeps := by
  unfold Op.Keeps pairMaintenanceOp; (try trivial); (try (intro r s; (try simp only []); (repeat' (first | (refine keepsR_bind _ _ _ ?_; intro _) | split) <;> (try simp only [↓State.key_mk, ↓State.key_fold, keepsR_ok]))))

theorem execPairStatus_key : ∀ x0 s, Keeps s.key (execPairStatus x0 s) := by
  exact fun r s => hostCommand_key _ r s pairStatusOp_key

theorem execPairMaintenance_key : ∀ x0 s, Keeps s.key (execPairMaintenance x0 s) := by
  exact fun r s => hostCommand_key _ r s pairMaintenanceOp_key

theorem execPairHandover_key : ∀ x0 s, Keeps s.key (execPairHandover x0 s) := by
  exact fun r s => hostCommand_key _ r s pairHandoverOp_key

theorem State.startShow_key : ∀ a l s p, State.startShow a l s = .ok p → p.2.key = s.key := by
  intro a l s p h
  unfold State.startShow at h
  simp only [bind, Except.bind] at h
  repeat' split at h
  all_goals first | cases h; done | (injection h with h; subst h; simp only [↓State.key_mk, ↓State.key_fold]) | skip

theorem showStartOp_key : showStartOp.Keeps := by
  unfold Op.Keeps showStartOp
  intro r s
  simp only
  split
  · simp only [keepsR_error]
  · rename_i e
    simp only [keepsR_ok, State.mirrored_key]
    exact State.startShow_key _ _ _ _ e

theorem moveOp_key : ∀ o c, (moveOp o c).Keeps := fun _ _ _ _ _ => rfl

theorem showArmOp_key : showArmOp.Keeps := moveOp_key _ _

theorem showDisarmOp_key : showDisarmOp.Keeps := moveOp_key _ _

theorem showStopOp_key : showStopOp.Keeps := moveOp_key _ _

theorem safeHoldEnterOp_key : safeHoldEnterOp.Keeps := moveOp_key _ _

theorem showResumeOp_key : showResumeOp.Keeps := moveOp_key _ _

theorem timedOps_key : ∀ o ∈ timedOps, o.Keeps := by
  unfold timedOps
  intro o h
  simp only [List.mem_cons, List.not_mem_nil, or_false] at h
  rcases h with rfl | rfl | rfl | rfl | rfl | rfl | rfl | rfl | rfl | rfl | rfl | rfl | rfl | rfl | rfl | rfl | rfl | rfl | rfl | rfl | rfl | rfl
  all_goals first | exact showArmOp_key | exact showDisarmOp_key | exact showStopOp_key | exact safeHoldEnterOp_key | exact showResumeOp_key | exact paramWriteOp_key | exact paramReleaseOp_key | exact cueStoreOp_key | exact playbackGoOp_key | exact playbackBackOp_key | exact playbackGotoOp_key | exact playbackReleaseOp_key | exact playbackLevelOp_key | exact playbackRateOp_key | exact effectRateOp_key | exact effectSizeOp_key | exact effectStartOp_key | exact effectStopOp_key | exact effectPhaseOp_key | exact trimControlOp_key | exact flowEnableOp_key | exact pairHandoverOp_key

theorem State.takeEffect_key : ∀ n q s, (State.takeEffect n q s).key = s.key := by
  intro n q s
  unfold State.takeEffect
  have h0 : (match q.seq with | some k => { s with pair := { s.pair with mirrorDone := max s.pair.mirrorDone k } } | none => s).key = s.key := by
    split
    · simp only [↓State.key_mk, ↓State.key_fold]
    · rfl
  simp only
  split
  · exact h0
  · rename_i o e
    have ho := timedOps_key o (List.mem_of_find?_eq_some e)
    unfold Op.Keeps at ho
    split <;> rename_i hb <;> rw [hb] at ho
    · rw [ho]; exact h0
    · exact h0
    · exact h0

theorem State.enterHold_key : ∀ s, (State.enterHold s).key = s.key := by
  intros; unfold State.enterHold; simp only [↓State.key_mk, ↓State.key_fold, State.endLatRuns_key, State.endCalRuns_key]

theorem State.stopShow_key : ∀ x0 s, (State.stopShow x0 s).key = s.key := by
  intros; unfold State.stopShow; simp only [↓State.key_mk, ↓State.key_fold, State.key_ite, ite_self, State.withdraw_key, State.stopPair_key, State.endLatRuns_key, State.endCalRuns_key]

theorem State.move_key : ∀ x0 x1 s, (State.move x0 x1 s).key = s.key := by
  intros; unfold State.move; (try simp only []); (repeat' ((first | (refine keeps_ite _ _ _ _ ?_ ?_) | (refine keepsC_bind _ _ _ ?_; intro _) | split | (refine (State.key_foldl _ _ _ ?_).trans ?_; intro _ _)) <;> (try simp only [↓State.key_mk, ↓State.key_fold, State.stopShow_key, State.enterHold_key])))

theorem State.takeOne_key : ∀ x0 x1 s, (State.takeOne x0 x1 s).key = s.key := by
  intros; unfold State.takeOne; simp only [State.key_ite, ite_self, State.withdrawn_key, State.move_key, State.takeEffect_key]

theorem State.takeCommands_key : ∀ x0 s, (State.takeCommands x0 s).key = s.key := by
  intros; unfold State.takeCommands; simp only [↓State.key_mk, ↓State.key_fold, State.key_foldl, implies_true, State.takeOne_key]

theorem State.dropPassed_key : ∀ x0 s, (State.dropPassed x0 s).key = s.key := by
  intros; unfold State.dropPassed; simp only [↓State.key_mk, ↓State.key_fold, State.key_foldl, implies_true, State.finish_key]

theorem execShowStart_key : ∀ x0 s, Keeps s.key (execShowStart x0 s) := by
  exact fun r s => hostCommand_key _ r s showStartOp_key

theorem execShowArm_key : ∀ x0 s, Keeps s.key (execShowArm x0 s) := by
  exact fun r s => hostCommand_key _ r s showArmOp_key

theorem execShowDisarm_key : ∀ x0 s, Keeps s.key (execShowDisarm x0 s) := by
  exact fun r s => hostCommand_key _ r s showDisarmOp_key

theorem execShowStop_key : ∀ x0 s, Keeps s.key (execShowStop x0 s) := by
  exact fun r s => hostCommand_key _ r s showStopOp_key

theorem execSafeHoldEnter_key : ∀ x0 s, Keeps s.key (execSafeHoldEnter x0 s) := by
  exact fun r s => hostCommand_key _ r s safeHoldEnterOp_key

theorem execShowResume_key : ∀ x0 s, Keeps s.key (execShowResume x0 s) := by
  exact fun r s => hostCommand_key _ r s showResumeOp_key

theorem State.addFrame_key : ∀ x0 s, (State.addFrame x0 s).key = s.key := by
  intros; unfold State.addFrame; simp only [↓State.key_mk, ↓State.key_fold]

theorem State.openFlows_key : ∀ x0 s, (State.openFlows x0 s).key = s.key := by
  intros; unfold State.openFlows; simp only [State.key_foldl, implies_true, State.updFlow_key]

theorem State.startJobs_key : ∀ x0 s, (State.startJobs x0 s).key = s.key := by
  intros; unfold State.startJobs; simp only [State.releaseFlows_key, State.queueJobs_key, State.addFrame_key]

theorem State.freezeUniverses_key : ∀ x0 x1 x2 s, (State.freezeUniverses x0 x1 x2 s).key = s.key := by
  intros; unfold State.freezeUniverses; simp only [↓State.key_mk, ↓State.key_fold, State.cutSacn_key]

theorem State.freezeVideo_key : ∀ x0 x1 x2 s, (State.freezeVideo x0 x1 x2 s).key = s.key := by
  intros; unfold State.freezeVideo; simp only [↓State.key_mk, ↓State.key_fold, State.cutVideo_key]

theorem State.peerCanvases_key : ∀ x0 s, (State.peerCanvases x0 s).key = s.key := by
  intros; unfold State.peerCanvases; simp only [State.key_foldl, implies_true, State.updCanvas_key, State.updLayer_key, State.retire_key]

theorem State.peerColour_key : ∀ x0 s, (State.peerColour x0 s).key = s.key := by
  intros; unfold State.peerColour; (try simp only []); (repeat' ((first | (refine keeps_ite _ _ _ _ ?_ ?_) | (refine keepsC_bind _ _ _ ?_; intro _) | split | (refine (State.key_foldl _ _ _ ?_).trans ?_; intro _ _)) <;> (try simp only [↓State.key_mk, ↓State.key_fold])))

theorem State.evaluateCut_key : ∀ x0 x1 x2 s, (State.evaluateCut x0 x1 x2 s).key = s.key := by
  intros; unfold State.evaluateCut; (try simp only [State.cutScan_key, State.keepTrims_key]); (repeat' ((first | (refine keeps_ite _ _ _ _ ?_ ?_) | (refine keepsC_bind _ _ _ ?_; intro _) | split | (refine (State.key_foldl _ _ _ ?_).trans ?_; intro _ _)) <;> (try simp only [State.cutParams_key, State.cutEffects_key, State.cutPlaybacks_key, State.cutLatency_key, State.cutLatRuns_key, State.cutColour_key, State.peerColour_key])))

theorem State.freezeFrame_key : ∀ x0 x1 x2 x3 x4 s, (State.freezeFrame x0 x1 x2 x3 x4 s).key = s.key := by
  intros; unfold State.freezeFrame; (try simp only []); (repeat' ((first | (refine keeps_ite _ _ _ _ ?_ ?_) | (refine keepsC_bind _ _ _ ?_; intro _) | split | (refine (State.key_foldl _ _ _ ?_).trans ?_; intro _ _)) <;> (try simp only [↓State.key_mk, ↓State.key_fold, State.freezeUniverses_key, State.freezeVideo_key, State.peerCanvases_key, State.evaluateCut_key, State.startJobs_key])))

theorem State.thaw_key : ∀ s, (State.thaw s).key = s.key := by
  intros; unfold State.thaw; simp only [↓State.key_mk, ↓State.key_fold]

theorem State.holdFrame_key : ∀ x0 s, (State.holdFrame x0 s).key = s.key := by
  intros; unfold State.holdFrame; (try simp only [↓State.key_mk, ↓State.key_fold, State.key_ite, State.key_foldl, keeps_next_iff, keepsC_ok, keepsC_error, keepsR_ok, keepsR_error, ite_self, implies_true, State.startJobs_key, State.thaw_key, State.cutLatency_key]); (repeat' ((first | (refine keeps_ite _ _ _ _ ?_ ?_) | (refine keepsC_bind _ _ _ ?_; intro _) | split | (refine (State.key_foldl _ _ _ ?_).trans ?_; intro _ _)) <;> (try simp only [State.startJobs_key, State.cutLatency_key])))

theorem State.pressAt_key : ∀ x0 x1 x2 s, (State.pressAt x0 x1 x2 s).2.key = s.key := by
  intros; unfold State.pressAt; (try simp only []); (repeat' ((first | (refine keeps_ite _ _ _ _ ?_ ?_) | (refine keepsC_bind _ _ _ ?_; intro _) | split | (refine (State.key_foldl _ _ _ ?_).trans ?_; intro _ _)) <;> (try simp only [↓State.key_mk, ↓State.key_fold, State.pressPending_key, State.raiseFrame_key])))

theorem State.applySkipped_key : ∀ x0 s, (State.applySkipped x0 s).key = s.key := by
  intros; unfold State.applySkipped; simp only [State.key_ite, ite_self, State.takeCommands_key, State.cutEffects_key, State.stepPlaybacks_key]

theorem State.skipFrame_key : ∀ x0 s, (State.skipFrame x0 s).key = s.key := by
  intros; unfold State.skipFrame; simp only [↓State.key_mk, ↓State.key_fold, State.key_ite, ite_self]

theorem State.beginShow_key : ∀ x0 s, (State.beginShow x0 s).key = s.key := by
  intros; unfold State.beginShow; simp only [↓State.key_mk, ↓State.key_fold, State.dropPassed_key]

theorem State.nameCut_key : ∀ x0 s, (State.nameCut x0 s).key = s.key := by
  intros; unfold State.nameCut; simp only [↓State.key_mk, ↓State.key_fold]

theorem State.freezeOrHold_key : ∀ x0 x1 x2 x3 x4 s, (State.freezeOrHold x0 x1 x2 x3 x4 s).key = s.key := by
  intros; unfold State.freezeOrHold; simp only [State.key_ite, ite_self, State.cutFetches_key, State.holdFrame_key, State.freezeFrame_key, State.nameApplied_key, State.ageClaims_key, State.openFlows_key]

theorem State.beat_key : ∀ x0 x1 x2 s, (State.beat x0 x1 x2 s).key = s.key := by
  intros; unfold State.beat; simp only [↓State.key_mk, ↓State.key_fold, State.key_ite, ite_self, State.sendHeartbeat_key]

theorem State.settleHandover_key : ∀ x0 s, (State.settleHandover x0 s).key = s.key := by
  intros; unfold State.settleHandover; (try simp only []); (repeat' ((first | (refine keeps_ite _ _ _ _ ?_ ?_) | (refine keepsC_bind _ _ _ ?_; intro _) | split | (refine (State.key_foldl _ _ _ ?_).trans ?_; intro _ _)) <;> (try simp only [State.key_ite, State.loseDuty_key, State.gainDuty_key, State.abandonHandover_key])))

theorem State.makeCut_key : ∀ x0 x1 x2 x3 x4 s, (State.makeCut x0 x1 x2 x3 x4 s).key = s.key := by
  intros; unfold State.makeCut; simp only [State.key_ite, ite_self, State.openSlot_key, State.beginShow_key, State.pressAt_key, State.takeCommands_key, State.unmute_key, State.nameCut_key, State.freezeOrHold_key, State.startReady_key, State.settleHandover_key, State.beat_key]

theorem State.runCut_key : ∀ x0 x1 x2 x3 x4 s, (State.runCut x0 x1 x2 x3 x4 s).key = s.key := by
  intros; unfold State.runCut; (try simp only [↓State.key_mk, ↓State.key_fold, State.key_ite, State.key_foldl, keeps_next_iff, keepsC_ok, keepsC_error, keepsR_ok, keepsR_error, ite_self, implies_true, State.repairAll_key, State.applySkipped_key, State.takeCommands_key, State.startReady_key, State.openSlot_key, State.makeCut_key]); (repeat' ((first | (refine keeps_ite _ _ _ _ ?_ ?_) | (refine keepsC_bind _ _ _ ?_; intro _) | split | (refine (State.key_foldl _ _ _ ?_).trans ?_; intro _ _)) <;> (try simp only [↓State.key_mk, ↓State.key_fold, State.key_ite, State.key_foldl, keeps_next_iff, keepsC_ok, keepsC_error, keepsR_ok, keepsR_error, ite_self, implies_true, State.repairAll_key, State.applySkipped_key, State.takeCommands_key, State.startReady_key, State.openSlot_key, State.makeCut_key])))

theorem State.syncNumbers_key : ∀ x0 s, (State.syncNumbers x0 s).key = s.key := by
  intros; unfold State.syncNumbers; (try simp only [↓State.key_mk, ↓State.key_fold, State.key_ite, State.key_foldl, keeps_next_iff, keepsC_ok, keepsC_error, keepsR_ok, keepsR_error, ite_self, implies_true, State.updFlow_key]); (repeat' ((first | (refine keeps_ite _ _ _ _ ?_ ?_) | (refine keepsC_bind _ _ _ ?_; intro _) | split | (refine (State.key_foldl _ _ _ ?_).trans ?_; intro _ _)) <;> (try simp only [↓State.key_mk, ↓State.key_fold, State.key_ite, State.key_foldl, keeps_next_iff, keepsC_ok, keepsC_error, keepsR_ok, keepsR_error, ite_self, implies_true, State.updFlow_key])))

theorem State.followCut_key : ∀ x0 s, (State.followCut x0 s).key = s.key := by
  intros; unfold State.followCut; simp only [↓State.key_mk, ↓State.key_fold, State.sendHeartbeat_key]

theorem State.renderCarried_key : ∀ x0 s, (State.renderCarried x0 s).key = s.key := by
  intros; unfold State.renderCarried; (try simp only [↓State.key_mk, ↓State.key_fold, State.key_ite, State.key_foldl, keeps_next_iff, keepsC_ok, keepsC_error, keepsR_ok, keepsR_error, ite_self, implies_true, State.nameCut_key, State.openSlot_key, State.startJobs_key, State.startReady_key]); (repeat' ((first | (refine keeps_ite _ _ _ _ ?_ ?_) | (refine keepsC_bind _ _ _ ?_; intro _) | split | (refine (State.key_foldl _ _ _ ?_).trans ?_; intro _ _)) <;> (try simp only [↓State.key_mk, ↓State.key_fold, State.key_ite, State.key_foldl, keeps_next_iff, keepsC_ok, keepsC_error, keepsR_ok, keepsR_error, ite_self, implies_true, State.nameCut_key, State.openSlot_key, State.startJobs_key, State.startReady_key])))

theorem State.decideCut_key : ∀ x0 x1 s, (State.decideCut x0 x1 s).key = s.key := by
  intros; unfold State.decideCut; (try simp only [↓State.key_mk, ↓State.key_fold, State.key_ite, State.key_foldl, keeps_next_iff, keepsC_ok, keepsC_error, keepsR_ok, keepsR_error, ite_self, implies_true, State.cutVideo_key, State.renderCarried_key, State.runCut_key]); (repeat' ((first | (refine keeps_ite _ _ _ _ ?_ ?_) | (refine keepsC_bind _ _ _ ?_; intro _) | split | (refine (State.key_foldl _ _ _ ?_).trans ?_; intro _ _)) <;> (try simp only [↓State.key_mk, ↓State.key_fold, State.key_ite, State.key_foldl, keeps_next_iff, keepsC_ok, keepsC_error, keepsR_ok, keepsR_error, ite_self, implies_true, State.cutVideo_key, State.renderCarried_key, State.runCut_key])))

theorem State.takeOver_key : ∀ x0 s, (State.takeOver x0 s).key = s.key := by
  intros; unfold State.takeOver; simp only [↓State.key_mk, ↓State.key_fold, State.raiseFrame_key, State.gainDuty_key, State.abandonHandover_key]

theorem State.missHeartbeat_key : ∀ x0 x1 s, (State.missHeartbeat x0 x1 s).key = s.key := by
  intros; unfold State.missHeartbeat; simp only [↓State.key_mk, ↓State.key_fold, State.key_ite, ite_self, State.decideCut_key, State.takeOver_key, State.enterSolo_key, State.raise_key]

theorem execHeartbeatTimeout_key : ∀ s, Keeps s.key (execHeartbeatTimeout s) := by
  intros; unfold execHeartbeatTimeout; (try simp only [↓State.key_mk, ↓State.key_fold, State.key_ite, State.key_foldl, keeps_next_iff, keepsC_ok, keepsC_error, keepsR_ok, keepsR_error, ite_self, implies_true, State.missHeartbeat_key, State.advanceTo_key]); (repeat' ((first | (refine keeps_ite _ _ _ _ ?_ ?_) | (refine keepsC_bind _ _ _ ?_; intro _) | split | (refine (State.key_foldl _ _ _ ?_).trans ?_; intro _ _)) <;> (try simp only [keeps_next_iff, State.missHeartbeat_key, State.advanceTo_key])))

theorem State.decideLast_key : ∀ s, (State.decideLast s).key = s.key := by
  intros; unfold State.decideLast; (try simp only [↓State.key_mk, ↓State.key_fold, State.key_ite, State.key_foldl, keeps_next_iff, keepsC_ok, keepsC_error, keepsR_ok, keepsR_error, ite_self, implies_true, State.advanceTo_key, State.missHeartbeat_key]); (repeat' ((first | (refine keeps_ite _ _ _ _ ?_ ?_) | (refine keepsC_bind _ _ _ ?_; intro _) | split | (refine (State.key_foldl _ _ _ ?_).trans ?_; intro _ _)) <;> (try simp only [↓State.key_mk, ↓State.key_fold, State.key_ite, State.key_foldl, keeps_next_iff, keepsC_ok, keepsC_error, keepsR_ok, keepsR_error, ite_self, implies_true, State.advanceTo_key, State.missHeartbeat_key])))

theorem execCut_key : ∀ s, Keeps s.key (execCut s) := by
  intros; unfold execCut; (try simp only [↓State.key_mk, ↓State.key_fold, State.key_ite, State.key_foldl, keeps_next_iff, keepsC_ok, keepsC_error, keepsR_ok, keepsR_error, ite_self, implies_true, State.decideLast_key, State.advanceTo_key, State.skipFrame_key, State.openSlot_key, State.startReady_key, State.beginPause_key, State.followCut_key, State.runCut_key]); (repeat' ((first | (refine keeps_ite _ _ _ _ ?_ ?_) | (refine keepsC_bind _ _ _ ?_; intro _) | split | (refine (State.key_foldl _ _ _ ?_).trans ?_; intro _ _)) <;> (try simp only [↓State.key_mk, ↓State.key_fold, State.key_ite, State.key_foldl, keeps_next_iff, keepsC_ok, keepsC_error, keepsR_ok, keepsR_error, ite_self, implies_true, State.decideLast_key, State.advanceTo_key, State.skipFrame_key, State.openSlot_key, State.startReady_key, State.beginPause_key, State.followCut_key, State.runCut_key])))

theorem State.notePeer_key : ∀ x0 s, (State.notePeer x0 s).key = s.key := by
  intros; unfold State.notePeer; simp only [↓State.key_mk, ↓State.key_fold]

theorem State.beginSync_key : ∀ s, (State.beginSync s).key = s.key := by
  intros; unfold State.beginSync; (try simp only [↓State.key_mk, ↓State.key_fold, State.key_ite, State.key_foldl, keeps_next_iff, keepsC_ok, keepsC_error, keepsR_ok, keepsR_error, ite_self, implies_true]); (repeat' ((first | (refine keeps_ite _ _ _ _ ?_ ?_) | (refine keepsC_bind _ _ _ ?_; intro _) | split | (refine (State.key_foldl _ _ _ ?_).trans ?_; intro _ _)) <;> (try simp only [↓State.key_mk, ↓State.key_fold, State.key_ite, State.key_foldl, keeps_next_iff, keepsC_ok, keepsC_error, keepsR_ok, keepsR_error, ite_self, implies_true])))

theorem State.join_key : ∀ x0 s, (State.join x0 s).key = s.key := by
  intros; unfold State.join; (try simp only [↓State.key_mk, ↓State.key_fold, State.key_ite, State.key_foldl, keeps_next_iff, keepsC_ok, keepsC_error, keepsR_ok, keepsR_error, ite_self, implies_true, State.beginSync_key]); (repeat' ((first | (refine keeps_ite _ _ _ _ ?_ ?_) | (refine keepsC_bind _ _ _ ?_; intro _) | split | (refine (State.key_foldl _ _ _ ?_).trans ?_; intro _ _)) <;> (try simp only [↓State.key_mk, ↓State.key_fold, State.key_ite, State.key_foldl, keeps_next_iff, keepsC_ok, keepsC_error, keepsR_ok, keepsR_error, ite_self, implies_true, State.beginSync_key])))

theorem State.mirrorWaiting_key : ∀ s, (State.mirrorWaiting s).key = s.key := by
  intros; unfold State.mirrorWaiting; (try simp only [↓State.key_mk, ↓State.key_fold, State.key_ite, State.key_foldl, keeps_next_iff, keepsC_ok, keepsC_error, keepsR_ok, keepsR_error, ite_self, implies_true, State.emit_key]); (repeat' ((first | (refine keeps_ite _ _ _ _ ?_ ?_) | (refine keepsC_bind _ _ _ ?_; intro _) | split | (refine (State.key_foldl _ _ _ ?_).trans ?_; intro _ _)) <;> (try simp only [↓State.key_mk, ↓State.key_fold, State.key_ite, State.key_foldl, keeps_next_iff, keepsC_ok, keepsC_error, keepsR_ok, keepsR_error, ite_self, implies_true, State.emit_key])))

theorem State.sendCarried_key : ∀ s, (State.sendCarried s).key = s.key := by
  intros; unfold State.sendCarried; (try simp only [↓State.key_mk, ↓State.key_fold, State.key_ite, State.key_foldl, keeps_next_iff, keepsC_ok, keepsC_error, keepsR_ok, keepsR_error, ite_self, implies_true, State.emit_key, State.mirrorWaiting_key]); (repeat' ((first | (refine keeps_ite _ _ _ _ ?_ ?_) | (refine keepsC_bind _ _ _ ?_; intro _) | split | (refine (State.key_foldl _ _ _ ?_).trans ?_; intro _ _)) <;> (try simp only [↓State.key_mk, ↓State.key_fold, State.key_ite, State.key_foldl, keeps_next_iff, keepsC_ok, keepsC_error, keepsR_ok, keepsR_error, ite_self, implies_true, State.emit_key, State.mirrorWaiting_key])))

theorem State.keepPeerOut_key : ∀ x0 s, (State.keepPeerOut x0 s).key = s.key := by
  intros; unfold State.keepPeerOut; (try simp only [↓State.key_mk, ↓State.key_fold, State.key_ite, State.key_foldl, keeps_next_iff, keepsC_ok, keepsC_error, keepsR_ok, keepsR_error, ite_self, implies_true]); (repeat' ((first | (refine keeps_ite _ _ _ _ ?_ ?_) | (refine keepsC_bind _ _ _ ?_; intro _) | split | (refine (State.key_foldl _ _ _ ?_).trans ?_; intro _ _)) <;> (try simp only [↓State.key_mk, ↓State.key_fold, State.key_ite, State.key_foldl, keeps_next_iff, keepsC_ok, keepsC_error, keepsR_ok, keepsR_error, ite_self, implies_true])))

theorem State.dropCompared_key : ∀ s, (State.dropCompared s).key = s.key := by
  intros; unfold State.dropCompared; (try simp only [↓State.key_mk, ↓State.key_fold, State.key_ite, State.key_foldl, keeps_next_iff, keepsC_ok, keepsC_error, keepsR_ok, keepsR_error, ite_self, implies_true]); (repeat' ((first | (refine keeps_ite _ _ _ _ ?_ ?_) | (refine keepsC_bind _ _ _ ?_; intro _) | split | (refine (State.key_foldl _ _ _ ?_).trans ?_; intro _ _)) <;> (try simp only [↓State.key_mk, ↓State.key_fold, State.key_ite, State.key_foldl, keeps_next_iff, keepsC_ok, keepsC_error, keepsR_ok, keepsR_error, ite_self, implies_true])))

theorem State.compareDigests_key : ∀ x0 x1 s, (State.compareDigests x0 x1 s).key = s.key := by
  intros; unfold State.compareDigests; (try simp only [↓State.key_mk, ↓State.key_fold, State.key_ite, State.key_foldl, keeps_next_iff, keepsC_ok, keepsC_error, keepsR_ok, keepsR_error, ite_self, implies_true, State.raise_key, State.beginSync_key, State.abandonHandover_key]); (repeat' ((first | (refine keeps_ite _ _ _ _ ?_ ?_) | (refine keepsC_bind _ _ _ ?_; intro _) | split | (refine (State.key_foldl _ _ _ ?_).trans ?_; intro _ _)) <;> (try simp only [↓State.key_mk, ↓State.key_fold, State.key_ite, State.key_foldl, keeps_next_iff, keepsC_ok, keepsC_error, keepsR_ok, keepsR_error, ite_self, implies_true, State.raise_key, State.beginSync_key, State.abandonHandover_key])))

theorem State.followShow_key : ∀ x0 s, (State.followShow x0 s).key = s.key := by
  intros; unfold State.followShow; (try simp only []); (repeat' ((first | (refine keeps_ite _ _ _ _ ?_ ?_) | (refine keepsC_bind _ _ _ ?_; intro _) | split | (refine (State.key_foldl _ _ _ ?_).trans ?_; intro _ _)) <;> (try simp only [↓State.key_mk, ↓State.key_fold, State.key_ite, ite_self, State.enterHold_key])))

theorem State.useHeartbeat_key : ∀ x0 s, (State.useHeartbeat x0 s).key = s.key := by
  intros; unfold State.useHeartbeat; (try simp only [↓State.key_mk, ↓State.key_fold, State.key_ite, State.key_foldl, keeps_next_iff, keepsC_ok, keepsC_error, keepsR_ok, keepsR_error, ite_self, implies_true, State.advanceTo_key, State.followCut_key, State.notePeer_key, State.followShow_key, State.decideCut_key, State.record_key, State.keepPeerOut_key, State.compareDigests_key, State.dropCompared_key]); (repeat' ((first | (refine keeps_ite _ _ _ _ ?_ ?_) | (refine keepsC_bind _ _ _ ?_; intro _) | split | (refine (State.key_foldl _ _ _ ?_).trans ?_; intro _ _)) <;> (try simp only [↓State.key_mk, ↓State.key_fold, State.key_ite, State.key_foldl, keeps_next_iff, keepsC_ok, keepsC_error, keepsR_ok, keepsR_error, ite_self, implies_true, State.advanceTo_key, State.followCut_key, State.notePeer_key, State.followShow_key, State.decideCut_key, State.record_key, State.keepPeerOut_key, State.compareDigests_key, State.dropCompared_key])))

theorem State.heal_key : ∀ x0 x1 s, (State.heal x0 x1 s).key = s.key := by
  intros; unfold State.heal; simp only [State.key_ite, ite_self, State.join_key, State.loseDuty_key]

theorem State.firstDuty_key : ∀ s, (State.firstDuty s).key = s.key := by
  intros; unfold State.firstDuty; simp only [↓State.key_mk, ↓State.key_fold]

theorem State.hearAsActive_key : ∀ x0 x1 s, (State.hearAsActive x0 x1 s).key = s.key := by
  intros; unfold State.hearAsActive; (try simp only [↓State.key_mk, ↓State.key_fold, State.key_ite, State.key_foldl, keeps_next_iff, keepsC_ok, keepsC_error, keepsR_ok, keepsR_error, ite_self, implies_true, State.sendCarried_key, State.notePeer_key, State.keepPeerOut_key, State.dropCompared_key, State.enterSolo_key, State.heal_key]); (repeat' ((first | (refine keeps_ite _ _ _ _ ?_ ?_) | (refine keepsC_bind _ _ _ ?_; intro _) | split | (refine (State.key_foldl _ _ _ ?_).trans ?_; intro _ _)) <;> (try simp only [↓State.key_mk, ↓State.key_fold, State.key_ite, State.key_foldl, keeps_next_iff, keepsC_ok, keepsC_error, keepsR_ok, keepsR_error, ite_self, implies_true, State.sendCarried_key, State.notePeer_key, State.keepPeerOut_key, State.dropCompared_key, State.enterSolo_key, State.heal_key])))

theorem State.hearWaiting_key : ∀ x0 s, (State.hearWaiting x0 s).key = s.key := by
  intros; unfold State.hearWaiting; (try simp only []); (repeat' ((first | (refine keeps_ite _ _ _ _ ?_ ?_) | (refine keepsC_bind _ _ _ ?_; intro _) | split | (refine (State.key_foldl _ _ _ ?_).trans ?_; intro _ _)) <;> (try simp only [State.key_ite, ite_self, State.notePeer_key, State.firstDuty_key, State.join_key])))

theorem State.discardHeartbeat_key : ∀ x0 s, (State.discardHeartbeat x0 s).key = s.key := by
  intros; unfold State.discardHeartbeat; simp only [↓State.key_mk, ↓State.key_fold]

theorem State.hear_key : ∀ x0 x1 s, (State.hear x0 x1 s).key = s.key := by
  intros; unfold State.hear; (try simp only [↓State.key_mk, ↓State.key_fold, State.key_ite, State.key_foldl, keeps_next_iff, keepsC_ok, keepsC_error, keepsR_ok, keepsR_error, ite_self, implies_true, State.raise_key, State.advanceTo_key, State.missHeartbeat_key, State.discardHeartbeat_key, State.useHeartbeat_key, State.hearAsActive_key, State.hearWaiting_key]); (repeat' ((first | (refine keeps_ite _ _ _ _ ?_ ?_) | (refine keepsC_bind _ _ _ ?_; intro _) | split | (refine (State.key_foldl _ _ _ ?_).trans ?_; intro _ _)) <;> (try simp only [↓State.key_mk, ↓State.key_fold, State.key_ite, State.key_foldl, keeps_next_iff, keepsC_ok, keepsC_error, keepsR_ok, keepsR_error, ite_self, implies_true, State.raise_key, State.advanceTo_key, State.missHeartbeat_key, State.discardHeartbeat_key, State.useHeartbeat_key, State.hearAsActive_key, State.hearWaiting_key])))

theorem execHeartbeatRx_key : ∀ x0 s, Keeps s.key (execHeartbeatRx x0 s) := by
  intros; unfold execHeartbeatRx; (try simp only [↓State.key_mk, ↓State.key_fold, State.key_ite, State.key_foldl, keeps_next_iff, keepsC_ok, keepsC_error, keepsR_ok, keepsR_error, ite_self, implies_true, State.hear_key]); (repeat' ((first | (refine State.receivePair_key _ _ _ ?_; intro _) | (refine keeps_ite _ _ _ _ ?_ ?_) | (refine keepsC_bind _ _ _ ?_; intro _) | split | (refine (State.key_foldl _ _ _ ?_).trans ?_; intro _ _)) <;> (try simp only [↓State.key_mk, ↓State.key_fold, State.key_ite, State.key_foldl, keeps_next_iff, keepsC_ok, keepsC_error, keepsR_ok, keepsR_error, ite_self, implies_true, State.hear_key])))

theorem State.keepMirror_key : ∀ x0 s, (State.keepMirror x0 s).key = s.key := by
  intros; unfold State.keepMirror; (try simp only [↓State.key_mk, ↓State.key_fold, State.key_ite, State.key_foldl, keeps_next_iff, keepsC_ok, keepsC_error, keepsR_ok, keepsR_error, ite_self, implies_true, State.enqueue_key]); (repeat' ((first | (refine keeps_ite _ _ _ _ ?_ ?_) | (refine keepsC_bind _ _ _ ?_; intro _) | split | (refine (State.key_foldl _ _ _ ?_).trans ?_; intro _ _)) <;> (try simp only [↓State.key_mk, ↓State.key_fold, State.key_ite, State.key_foldl, keeps_next_iff, keepsC_ok, keepsC_error, keepsR_ok, keepsR_error, ite_self, implies_true, State.enqueue_key])))

theorem execMirrorRx_key : ∀ x0 s, Keeps s.key (execMirrorRx x0 s) := by
  intros; unfold execMirrorRx; (try simp only [↓State.key_mk, ↓State.key_fold, State.key_ite, State.key_foldl, keeps_next_iff, keepsC_ok, keepsC_error, keepsR_ok, keepsR_error, ite_self, implies_true, State.keepMirror_key, State.toPeer_key]); (repeat' ((first | (refine State.receivePair_key _ _ _ ?_; intro _) | (refine keeps_ite _ _ _ _ ?_ ?_) | (refine keepsC_bind _ _ _ ?_; intro _) | split | (refine (State.key_foldl _ _ _ ?_).trans ?_; intro _ _)) <;> (try simp only [↓State.key_mk, ↓State.key_fold, State.key_ite, State.key_foldl, keeps_next_iff, keepsC_ok, keepsC_error, keepsR_ok, keepsR_error, ite_self, implies_true, State.keepMirror_key, State.toPeer_key])))

theorem execMirrorAckRx_key : ∀ x0 s, Keeps s.key (execMirrorAckRx x0 s) := by
  intros; unfold execMirrorAckRx; (try simp only [↓State.key_mk, ↓State.key_fold, State.key_ite, State.key_foldl, keeps_next_iff, keepsC_ok, keepsC_error, keepsR_ok, keepsR_error, ite_self, implies_true, State.releaseMirrors_key]); (repeat' ((first | (refine State.receivePair_key _ _ _ ?_; intro _) | (refine keeps_ite _ _ _ _ ?_ ?_) | (refine keepsC_bind _ _ _ ?_; intro _) | split | (refine (State.key_foldl _ _ _ ?_).trans ?_; intro _ _)) <;> (try simp only [↓State.key_mk, ↓State.key_fold, State.key_ite, State.key_foldl, keeps_next_iff, keepsC_ok, keepsC_error, keepsR_ok, keepsR_error, ite_self, implies_true, State.releaseMirrors_key])))

theorem State.syncParams_key : ∀ x0 s, (State.syncParams x0 s).key = s.key := by
  intros; unfold State.syncParams; simp only [State.key_foldl, implies_true, State.updPar_key]

theorem State.syncObjects_key : ∀ x0 s, (State.syncObjects x0 s).key = s.key := by
  intros; unfold State.syncObjects; (try simp only [↓State.key_mk, ↓State.key_fold, State.key_ite, State.key_foldl, keeps_next_iff, keepsC_ok, keepsC_error, keepsR_ok, keepsR_error, ite_self, implies_true, State.updPb_key, State.updGen_key, State.updFlow_key, State.takeOver_key, State.syncNumbers_key, State.updCanvas_key, State.updLayer_key, State.retire_key]); (repeat' ((first | (refine keeps_ite _ _ _ _ ?_ ?_) | (refine keepsC_bind _ _ _ ?_; intro _) | split | (refine (State.key_foldl _ _ _ ?_).trans ?_; intro _ _)) <;> (try simp only [↓State.key_mk, ↓State.key_fold, State.key_ite, State.key_foldl, keeps_next_iff, keepsC_ok, keepsC_error, keepsR_ok, keepsR_error, ite_self, implies_true, State.updPb_key, State.updGen_key, State.updFlow_key, State.takeOver_key, State.syncNumbers_key, State.updCanvas_key, State.updLayer_key, State.retire_key])))

theorem State.replay_key : ∀ x0 s, (State.replay x0 s).key = s.key := by
  intros; unfold State.replay; (try simp only [↓State.key_mk, ↓State.key_fold, State.key_ite, State.key_foldl, keeps_next_iff, keepsC_ok, keepsC_error, keepsR_ok, keepsR_error, ite_self, implies_true, State.takeCommands_key, State.cutPlaybacks_key, State.cutEffects_key, State.cutParams_key]); (repeat' ((first | (refine keeps_ite _ _ _ _ ?_ ?_) | (refine keepsC_bind _ _ _ ?_; intro _) | split | (refine (State.key_foldl _ _ _ ?_).trans ?_; intro _ _)) <;> (try simp only [↓State.key_mk, ↓State.key_fold, State.key_ite, State.key_foldl, keeps_next_iff, keepsC_ok, keepsC_error, keepsR_ok, keepsR_error, ite_self, implies_true, State.takeCommands_key, State.cutPlaybacks_key, State.cutEffects_key, State.cutParams_key])))

theorem State.renderAgain_key : ∀ x0 s, (State.renderAgain x0 s).key = s.key := by
  intros; unfold State.renderAgain; (try simp only [↓State.key_mk, ↓State.key_fold, State.key_ite, State.key_foldl, keeps_next_iff, keepsC_ok, keepsC_error, keepsR_ok, keepsR_error, ite_self, implies_true, State.updFrame_key]); (repeat' ((first | (refine keeps_ite _ _ _ _ ?_ ?_) | (refine keepsC_bind _ _ _ ?_; intro _) | split | (refine (State.key_foldl _ _ _ ?_).trans ?_; intro _ _)) <;> (try simp only [↓State.key_mk, ↓State.key_fold, State.key_ite, State.key_foldl, keeps_next_iff, keepsC_ok, keepsC_error, keepsR_ok, keepsR_error, ite_self, implies_true, State.updFrame_key])))

theorem State.renderFrom_key : ∀ x0 s, (State.renderFrom x0 s).key = s.key := by
  intros; unfold State.renderFrom; (try simp only [↓State.key_mk, ↓State.key_fold, State.key_ite, State.key_foldl, keeps_next_iff, keepsC_ok, keepsC_error, keepsR_ok, keepsR_error, ite_self, implies_true, State.replay_key, State.renderAgain_key]); (repeat' ((first | (refine keeps_ite _ _ _ _ ?_ ?_) | (refine keepsC_bind _ _ _ ?_; intro _) | split | (refine (State.key_foldl _ _ _ ?_).trans ?_; intro _ _)) <;> (try simp only [↓State.key_mk, ↓State.key_fold, State.key_ite, State.key_foldl, keeps_next_iff, keepsC_ok, keepsC_error, keepsR_ok, keepsR_error, ite_self, implies_true, State.replay_key, State.renderAgain_key])))

theorem execSyncTransferRx_key : ∀ x0 s, Keeps s.key (execSyncTransferRx x0 s) := by
  intros; unfold execSyncTransferRx; (try simp only [↓State.key_mk, ↓State.key_fold, State.key_ite, State.key_foldl, keeps_next_iff, keepsC_ok, keepsC_error, keepsR_ok, keepsR_error, ite_self, implies_true, State.syncParams_key, State.syncObjects_key, State.renderFrom_key]); (repeat' ((first | (refine State.receivePair_key _ _ _ ?_; intro _) | (refine keeps_ite _ _ _ _ ?_ ?_) | (refine keepsC_bind _ _ _ ?_; intro _) | split | (refine (State.key_foldl _ _ _ ?_).trans ?_; intro _ _)) <;> (try simp only [↓State.key_mk, ↓State.key_fold, State.key_ite, State.key_foldl, keeps_next_iff, keepsC_ok, keepsC_error, keepsR_ok, keepsR_error, ite_self, implies_true, State.syncParams_key, State.syncObjects_key, State.renderFrom_key])))

theorem execJoinWaitExpire_key : ∀ s, Keeps s.key (execJoinWaitExpire s) := by
  intros; unfold execJoinWaitExpire; (try simp only [↓State.key_mk, ↓State.key_fold, State.key_ite, State.key_foldl, keeps_next_iff, keepsC_ok, keepsC_error, keepsR_ok, keepsR_error, ite_self, implies_true, State.firstDuty_key, State.advanceNow_key]); (repeat' ((first | (refine keeps_ite _ _ _ _ ?_ ?_) | (refine keepsC_bind _ _ _ ?_; intro _) | split | (refine (State.key_foldl _ _ _ ?_).trans ?_; intro _ _)) <;> (try simp only [keeps_next_iff, State.firstDuty_key, State.advanceNow_key])))

theorem execReversion_key : ∀ s, Keeps s.key (execReversion s) := by
  intros; unfold execReversion; (try simp only []); (repeat' ((first | (refine keeps_ite _ _ _ _ ?_ ?_) | (refine keepsC_bind _ _ _ ?_; intro _) | split | (refine (State.key_foldl _ _ _ ?_).trans ?_; intro _ _)) <;> (try simp only [↓State.key_mk, ↓State.key_fold, keeps_next_iff, State.advanceNow_key])))

theorem execSentinelRx_key : ∀ x0 x1 x2 s, Keeps s.key (execSentinelRx x0 x1 x2 s) := by
  intros; unfold execSentinelRx; (try simp only [keeps_next_iff]); (repeat' ((first | (refine State.receive_key _ _ _ _ ?_; intro _) | (refine keeps_ite _ _ _ _ ?_ ?_) | (refine keepsC_bind _ _ _ ?_; intro _) | split | (refine (State.key_foldl _ _ _ ?_).trans ?_; intro _ _)) <;> (try simp only [State.key_ite, ite_self, State.raise_key, State.loseDuty_key])))

theorem State.bumpEpoch_key : ∀ s, (State.bumpEpoch s).key = s.key := by
  intros; unfold State.bumpEpoch; simp only [↓State.key_mk, ↓State.key_fold, State.count_key]

theorem State.readStraps_key : ∀ x0 s, (State.readStraps x0 s).key = s.key := by
  intros; unfold State.readStraps; simp only [↓State.key_mk, ↓State.key_fold]

theorem State.loadSaved_key : ∀ s, (State.loadSaved s).key = s.key := by
  intros; unfold State.loadSaved; simp only [↓State.key_mk, ↓State.key_fold]

theorem State.bootEvents_key : ∀ x0 x1 s, (State.bootEvents x0 x1 s).key = s.key := by
  intros; unfold State.bootEvents; (try simp only [↓State.key_mk, ↓State.key_fold, State.key_ite, State.key_foldl, keeps_next_iff, keepsC_ok, keepsC_error, keepsR_ok, keepsR_error, ite_self, implies_true, State.checkVolt_key, State.raise_key, State.count_key, State.moveTampers_key]); (repeat' ((first | (refine keeps_ite _ _ _ _ ?_ ?_) | (refine keepsC_bind _ _ _ ?_; intro _) | split | (refine (State.key_foldl _ _ _ ?_).trans ?_; intro _ _)) <;> (try simp only [↓State.key_mk, ↓State.key_fold, State.key_ite, State.key_foldl, keeps_next_iff, keepsC_ok, keepsC_error, keepsR_ok, keepsR_error, ite_self, implies_true, State.checkVolt_key, State.raise_key, State.count_key, State.moveTampers_key])))

theorem State.startRings_key : ∀ s, (State.startRings s).key = s.key := by
  intros; unfold State.startRings; simp only [State.key_ite, State.key_foldl, ite_self, implies_true, State.setRing_key]

theorem State.startCores_key : ∀ x0 s, (State.startCores x0 s).key = s.key := by
  intros; unfold State.startCores; (try simp only [↓State.key_mk, ↓State.key_fold, State.key_ite, State.key_foldl, keeps_next_iff, keepsC_ok, keepsC_error, keepsR_ok, keepsR_error, ite_self, implies_true, State.startRings_key, State.drive_key, NonVolatile.putBoot_flash, State.key_fold]); (repeat' ((first | (refine keeps_ite _ _ _ _ ?_ ?_) | (refine keepsC_bind _ _ _ ?_; intro _) | split | (refine (State.key_foldl _ _ _ ?_).trans ?_; intro _ _)) <;> (try simp only [↓State.key_mk, ↓State.key_fold, State.key_ite, State.key_foldl, keeps_next_iff, keepsC_ok, keepsC_error, keepsR_ok, keepsR_error, ite_self, implies_true, State.startRings_key, State.drive_key, NonVolatile.putBoot_flash, State.key_fold])))

theorem execBoot_key : ∀ x0 s, Keeps s.key (execBoot x0 s) := by
  intros; unfold execBoot; (try simp only [↓State.key_mk, ↓State.key_fold, State.key_ite, State.key_foldl, keeps_next_iff, keepsC_ok, keepsC_error, keepsR_ok, keepsR_error, ite_self, implies_true, State.readStraps_key, State.bumpEpoch_key, State.sendVcore_key, State.startCores_key, State.loadSaved_key, State.bootEvents_key]); (repeat' ((first | (refine keeps_ite _ _ _ _ ?_ ?_) | (refine keepsC_bind _ _ _ ?_; intro _) | split | (refine (State.key_foldl _ _ _ ?_).trans ?_; intro _ _)) <;> (try simp only [↓State.key_mk, ↓State.key_fold, State.key_ite, State.key_foldl, keeps_next_iff, keepsC_ok, keepsC_error, keepsR_ok, keepsR_error, ite_self, implies_true, State.readStraps_key, State.bumpEpoch_key, State.sendVcore_key, State.startCores_key, State.loadSaved_key, State.bootEvents_key])))

theorem State.openOwn_key : ∀ x0 s, (State.openOwn x0 s).key = s.key := by
  intros; unfold State.openOwn; (try simp only [↓State.key_mk, ↓State.key_fold, State.key_ite, State.key_foldl, keeps_next_iff, keepsC_ok, keepsC_error, keepsR_ok, keepsR_error, ite_self, implies_true]); (repeat' ((first | (refine keeps_ite _ _ _ _ ?_ ?_) | (refine keepsC_bind _ _ _ ?_; intro _) | split | (refine (State.key_foldl _ _ _ ?_).trans ?_; intro _ _)) <;> (try simp only [↓State.key_mk, ↓State.key_fold, State.key_ite, State.key_foldl, keeps_next_iff, keepsC_ok, keepsC_error, keepsR_ok, keepsR_error, ite_self, implies_true])))

theorem State.loadOwn_key : ∀ a s t, State.loadOwn a s = .ok t → t.2.key = s.key := by
  intro a s t e
  unfold State.loadOwn at e
  simp only [bind, Except.bind] at e
  (repeat' split at e) <;> first | (cases e; done) | (have h := State.startAdmission_key _ _ _ _ _ _ e; exact h.trans rfl)

theorem execAutoload_key : ∀ s, Keeps s.key (execAutoload s) := by
  intro s
  unfold execAutoload
  refine keeps_ite _ _ _ _ (keeps_next _ _ rfl) ?_
  dsimp only
  split
  · exact keeps_next _ _ (by rw [State.raise_key, State.key_mk, State.key_fold])
  · split
    · exact keeps_next _ _ (by rw [State.endSession_key, State.raise_key, State.openOwn_key, State.key_mk, State.key_fold])
    · rename_i e
      refine keeps_next _ _ ?_
      exact (State.loadOwn_key _ _ _ e).trans (by rw [State.openOwn_key, State.key_mk, State.key_fold])

theorem execAutoStart_key : ∀ s, Keeps s.key (execAutoStart s) := by
  intro s
  unfold execAutoStart
  refine keeps_ite _ _ _ _ (keeps_next _ _ rfl) ?_
  have h0 : ({ s with boot := { s.boot with autoStart := true } } : State).key = s.key := by rw [State.key_mk, State.key_fold]
  simp only
  split
  · rename_i e; exact keeps_next _ _ ((State.startShow_key _ _ _ _ e).trans h0)
  · exact keeps_next _ _ ((State.raise_key _ _ _ _).trans h0)

theorem State.skipPast_key : ∀ s, (State.skipPast s).key = s.key := by
  intros; unfold State.skipPast; (try simp only []); (repeat' ((first | (refine keeps_ite _ _ _ _ ?_ ?_) | (refine keepsC_bind _ _ _ ?_; intro _) | split | (refine (State.key_foldl _ _ _ ?_).trans ?_; intro _ _)) <;> (try simp only [State.key_foldl, implies_true, State.skipFrame_key])))

theorem State.newImage_key : ∀ x0 x1 s, (State.newImage x0 x1 s).key = s.key := by
  intros; unfold State.newImage; (try simp only [↓State.key_mk, ↓State.key_fold, State.key_ite, State.key_foldl, keeps_next_iff, keepsC_ok, keepsC_error, keepsR_ok, keepsR_error, ite_self, implies_true, State.count_key, State.raise_key, State.completeAny_key, NonVolatile.putBoot_flash, State.key_fold]); (repeat' ((first | (refine keeps_ite _ _ _ _ ?_ ?_) | (refine keepsC_bind _ _ _ ?_; intro _) | split | (refine (State.key_foldl _ _ _ ?_).trans ?_; intro _ _)) <;> (try simp only [↓State.key_mk, ↓State.key_fold, State.key_ite, State.key_foldl, keeps_next_iff, keepsC_ok, keepsC_error, keepsR_ok, keepsR_error, ite_self, implies_true, State.count_key, State.raise_key, State.completeAny_key, NonVolatile.putBoot_flash, State.key_fold])))

theorem State.readmit_key : ∀ s, (State.readmit s).key = s.key := by
  intros; unfold State.readmit; (try simp only []); (repeat' ((first | (refine keeps_ite _ _ _ _ ?_ ?_) | (refine keepsC_bind _ _ _ ?_; intro _) | split | (refine (State.key_foldl _ _ _ ?_).trans ?_; intro _ _)) <;> (try simp only [↓State.key_mk, ↓State.key_fold, State.key_ite, ite_self, State.raise_key])))

theorem State.leavePause_key : ∀ s, (State.leavePause s).key = s.key := by
  intros; unfold State.leavePause; (try simp only [↓State.key_mk, ↓State.key_fold, State.key_ite, State.key_foldl, keeps_next_iff, keepsC_ok, keepsC_error, keepsR_ok, keepsR_error, ite_self, implies_true, State.beginSync_key, State.drainReturn_key]); (repeat' ((first | (refine keeps_ite _ _ _ _ ?_ ?_) | (refine keepsC_bind _ _ _ ?_; intro _) | split | (refine (State.key_foldl _ _ _ ?_).trans ?_; intro _ _)) <;> (try simp only [↓State.key_mk, ↓State.key_fold, State.key_ite, State.key_foldl, keeps_next_iff, keepsC_ok, keepsC_error, keepsR_ok, keepsR_error, ite_self, implies_true, State.beginSync_key, State.drainReturn_key])))

theorem execActivationPauseEnd_key : ∀ s, Keeps s.key (execActivationPauseEnd s) := by
  intros; unfold execActivationPauseEnd; (try simp only []); (repeat' ((first | (refine keeps_ite _ _ _ _ ?_ ?_) | (refine keepsC_bind _ _ _ ?_; intro _) | split | (refine (State.key_foldl _ _ _ ?_).trans ?_; intro _ _)) <;> (try simp only [State.key_ite, keeps_next_iff, ite_self, State.leavePause_key, State.newImage_key, State.skipPast_key, State.readmit_key])))

theorem State.enterService_key : ∀ s, KeepsC s.key (State.enterService s) := by
  intros; unfold State.enterService; (try simp only []); (repeat' ((first | (refine keeps_ite _ _ _ _ ?_ ?_) | (refine keepsC_bind _ _ _ ?_; intro _) | split | (refine (State.key_foldl _ _ _ ?_).trans ?_; intro _ _)) <;> (try simp only [↓State.key_mk, ↓State.key_fold, keepsC_ok])))

theorem State.exitService_key : ∀ s, (State.exitService s).key = s.key := by
  intros; unfold State.exitService; simp only [↓State.key_mk, ↓State.key_fold, State.key_ite, ite_self]

theorem State.deviceReset_key : ∀ s, KeepsC s.key (State.deviceReset s) := by
  intros; unfold State.deviceReset; (try simp only []); (repeat' ((first | (refine keeps_ite _ _ _ _ ?_ ?_) | (refine keepsC_bind _ _ _ ?_; intro _) | split | (refine (State.key_foldl _ _ _ ?_).trans ?_; intro _ _)) <;> (try simp only [↓State.key_mk, ↓State.key_fold, keepsC_ok])))

theorem serviceEnterOp_key : serviceEnterOp.Keeps := by
  unfold Op.Keeps serviceEnterOp
  intro r s
  simp only
  have h := State.enterService_key s
  generalize State.enterService s = x at h ⊢
  cases x with
  | error b => simp [bind, Except.bind, KeepsR]
  | ok t => simp only [bind, Except.bind, keepsR_ok]; exact h t rfl

theorem serviceExitOp_key : serviceExitOp.Keeps := by
  unfold Op.Keeps serviceExitOp; (try trivial); (try (intro r s; (try simp only [keepsR_ok, State.exitService_key]); (repeat' (first | (refine keepsR_bind _ _ _ ?_; intro _) | split) <;> (try simp only [↓State.key_mk, ↓State.key_fold, State.key_ite, State.key_foldl, keeps_next_iff, keepsC_ok, keepsC_error, keepsR_ok, keepsR_error, ite_self, implies_true, State.exitService_key]))))

theorem deviceResetOp_key : deviceResetOp.Keeps := by
  unfold Op.Keeps deviceResetOp
  intro r s
  refine keepsR_bind _ _ _ fun _ => ?_
  rw [keepsR_ok]

theorem echoOp_key : echoOp.Keeps := by
  unfold Op.Keeps echoOp; (try trivial); (try (intro r s; (try simp only [keepsR_ok]); (repeat' (first | (refine keepsR_bind _ _ _ ?_; intro _) | split) <;> (try simp only [↓State.key_mk, ↓State.key_fold, State.key_ite, State.key_foldl, keeps_next_iff, keepsC_ok, keepsC_error, keepsR_ok, keepsR_error, ite_self, implies_true]))))

theorem loopbackOp_key : loopbackOp.Keeps := by
  unfold Op.Keeps loopbackOp; (try trivial); (try (intro r s; (try simp only []); (repeat' (first | (refine keepsR_bind _ _ _ ?_; intro _) | split) <;> (try simp only [↓State.key_mk, ↓State.key_fold, keepsR_ok, State.startJob_key, State.emit_key]))))

theorem execLoopbackComplete_key : ∀ x0 x1 s, Keeps s.key (execLoopbackComplete x0 x1 s) := by
  intros; unfold execLoopbackComplete; (try simp only []); (repeat' ((first | (refine keeps_ite _ _ _ _ ?_ ?_) | (refine keepsC_bind _ _ _ ?_; intro _) | split | (refine (State.key_foldl _ _ _ ?_).trans ?_; intro _ _)) <;> (try simp only [↓State.key_mk, ↓State.key_fold, keeps_next_iff, State.advanceNow_key, State.endJob_key])))

theorem execServiceEnter_key : ∀ x0 s, Keeps s.key (execServiceEnter x0 s) := by
  exact fun r s => hostCommand_key _ r s serviceEnterOp_key

theorem execServiceExit_key : ∀ x0 s, Keeps s.key (execServiceExit x0 s) := by
  exact fun r s => hostCommand_key _ r s serviceExitOp_key

theorem execDeviceReset_key : ∀ x0 s, Keeps s.key (execDeviceReset x0 s) := by
  exact fun r s => hostCommand_key _ r s deviceResetOp_key

theorem execEcho_key : ∀ x0 s, Keeps s.key (execEcho x0 s) := by
  exact fun r s => hostCommand_key _ r s echoOp_key

theorem execLoopback_key : ∀ x0 s, Keeps s.key (execLoopback x0 s) := by
  exact fun r s => hostCommand_key _ r s loopbackOp_key

theorem State.laneWrite_key : ∀ x0 x1 x2 s, (State.laneWrite x0 x1 x2 s).key = s.key := by
  intros; unfold State.laneWrite; (try simp only [State.key_ite]); (repeat' ((first | (refine keeps_ite _ _ _ _ ?_ ?_) | (refine keepsC_bind _ _ _ ?_; intro _) | split | (refine (State.key_foldl _ _ _ ?_).trans ?_; intro _ _)) <;> (try simp only [State.key_ite, ite_self, State.updLane_key])))

theorem State.dhcpDiscover_key : ∀ s, (State.dhcpDiscover s).key = s.key := by
  intros; unfold State.dhcpDiscover; simp only [↓State.key_mk, ↓State.key_fold, State.key_ite, ite_self, State.emit_key]

theorem State.mlApply_key : ∀ s, (State.mlApply s).key = s.key := by
  intros; unfold State.mlApply; simp only [↓State.key_mk, ↓State.key_fold, State.key_ite, ite_self, State.dhcpDiscover_key]

theorem State.hostqWrite_key : ∀ x0 x1 s, (State.hostqWrite x0 x1 s).key = s.key := by
  intros; unfold State.hostqWrite; (try simp only [State.key_ite, State.writeRing_key]); (repeat' ((first | (refine keeps_ite _ _ _ _ ?_ ?_) | (refine keepsC_bind _ _ _ ?_; intro _) | split | (refine (State.key_foldl _ _ _ ?_).trans ?_; intro _ _)) <;> (try simp only [↓State.key_mk, ↓State.key_fold, State.key_ite, ite_self, State.mlApply_key])))

theorem State.latch_key : ∀ x0 s, (State.latch x0 s).key = s.key := by
  intros; unfold State.latch; simp only [↓State.key_mk, ↓State.key_fold, State.key_ite, ite_self, State.evtLatch_key, State.timeLatch_key, State.chkLatch_key, State.sweepLatch_key, State.updCanvas_key, State.updPort_key, State.updDmx_key]

theorem State.meterTake_key : ∀ a s p, State.meterTake a s = some p → p.2.key = s.key := by
  intro a s p
  have hi : ∀ (c : Prop) [Decidable c] (x y : Option (Nat × State)), (x = some p → p.2.key = s.key) →
      (y = some p → p.2.key = s.key) → (if c then x else y) = some p → p.2.key = s.key := by
    intro c _ x y hx hy; split <;> assumption
  have hs : ∀ q : Nat × State, q.2.key = s.key → some q = some p → p.2.key = s.key := by
    intro q hq e; injection e with e; rw [← e]; exact hq
  unfold State.meterTake
  exact hi _ _ _ nofun (hi _ _ _ (hs _ (State.readRtc_key s)) (hi _ _ _ (hi _ _ _ (hs _ (State.readSeq_key _ s))
    (hi _ _ _ (hs _ (State.readDelta_key _ _ _ s)) nofun)) nofun))

theorem State.readWord_key : ∀ a s, (State.readWord a s).2.key = s.key := by
  intro a s
  unfold State.readWord
  split
  · exact State.windowEnd_key _ _ s
  · split
    · rfl
    · split
      · rename_i e; exact State.meterTake_key _ _ _ e
      · exact State.latch_key a s

theorem State.readWords_key : ∀ k a s, (State.readWords k a s).2.key = s.key := by
  intro k
  induction k with
  | zero => intro a s; rfl
  | succ k ih => intro a s; rw [State.readWords]; exact (ih _ _).trans (State.readWord_key a s)

theorem State.writeWord_key : ∀ x0 x1 s, (State.writeWord x0 x1 s).key = s.key := by
  intros; unfold State.writeWord; simp only [↓State.key_mk, ↓State.key_fold, State.key_ite, ite_self, State.hostqWrite_key, State.evtWrite_key, State.timeWrite_key, State.laneWrite_key, State.chkWrite_key, State.monWrite_key, State.canvasWrite_key, State.layerWrite_key, State.witWrite_key, State.scanWrite_key, State.dmxWrite_key, State.meterWrite_key, State.ledgerWrite_key, State.palWrite_key]

theorem State.maskVector_key : ∀ x0 x1 s, (State.maskVector x0 x1 s).key = s.key := by
  intros; unfold State.maskVector; (try simp only [↓State.key_mk, ↓State.key_fold, State.key_ite, State.key_foldl, keeps_next_iff, keepsC_ok, keepsC_error, keepsR_ok, keepsR_error, ite_self, implies_true, State.flushMsix_key]); (repeat' ((first | (refine keeps_ite _ _ _ _ ?_ ?_) | (refine keepsC_bind _ _ _ ?_; intro _) | split | (refine (State.key_foldl _ _ _ ?_).trans ?_; intro _ _)) <;> (try simp only [↓State.key_mk, ↓State.key_fold, State.key_ite, State.key_foldl, keeps_next_iff, keepsC_ok, keepsC_error, keepsR_ok, keepsR_error, ite_self, implies_true, State.flushMsix_key])))

theorem State.bar2Write_key : ∀ x0 x1 s, (State.bar2Write x0 x1 s).key = s.key := by
  intros; unfold State.bar2Write; (try simp only [↓State.key_mk, ↓State.key_fold, State.key_ite, State.key_foldl, keeps_next_iff, keepsC_ok, keepsC_error, keepsR_ok, keepsR_error, ite_self, implies_true, State.maskVector_key]); (repeat' ((first | (refine keeps_ite _ _ _ _ ?_ ?_) | (refine keepsC_bind _ _ _ ?_; intro _) | split | (refine (State.key_foldl _ _ _ ?_).trans ?_; intro _ _)) <;> (try simp only [↓State.key_mk, ↓State.key_fold, State.key_ite, State.key_foldl, keeps_next_iff, keepsC_ok, keepsC_error, keepsR_ok, keepsR_error, ite_self, implies_true, State.maskVector_key])))

theorem State.hostWord_key : ∀ x0 s, (State.hostWord x0 s).2.key = s.key := by
  intros; unfold State.hostWord; (try simp only [↓State.key_mk, ↓State.key_fold, State.key_ite, State.key_foldl, keeps_next_iff, keepsC_ok, keepsC_error, keepsR_ok, keepsR_error, ite_self, implies_true, State.readWord_key]); (repeat' ((first | (refine keeps_ite _ _ _ _ ?_ ?_) | (refine keepsC_bind _ _ _ ?_; intro _) | split | (refine (State.key_foldl _ _ _ ?_).trans ?_; intro _ _)) <;> (try simp only [↓State.key_mk, ↓State.key_fold, State.key_ite, State.key_foldl, keeps_next_iff, keepsC_ok, keepsC_error, keepsR_ok, keepsR_error, ite_self, implies_true, State.readWord_key])))

theorem State.hostWriteWord_key : ∀ x0 x1 s, (State.hostWriteWord x0 x1 s).key = s.key := by
  intros; unfold State.hostWriteWord; (try simp only [↓State.key_mk, ↓State.key_fold, State.key_ite, State.key_foldl, keeps_next_iff, keepsC_ok, keepsC_error, keepsR_ok, keepsR_error, ite_self, implies_true, State.bar2Write_key, State.writeWord_key, State.busMaster_key]); (repeat' ((first | (refine keeps_ite _ _ _ _ ?_ ?_) | (refine keepsC_bind _ _ _ ?_; intro _) | split | (refine (State.key_foldl _ _ _ ?_).trans ?_; intro _ _)) <;> (try simp only [↓State.key_mk, ↓State.key_fold, State.key_ite, State.key_foldl, keeps_next_iff, keepsC_ok, keepsC_error, keepsR_ok, keepsR_error, ite_self, implies_true, State.bar2Write_key, State.writeWord_key, State.busMaster_key])))

theorem State.hostWrite_key : ∀ x0 x1 s, (State.hostWrite x0 x1 s).key = s.key := by
  intros; unfold State.hostWrite; (try simp only [↓State.key_mk, ↓State.key_fold, State.key_ite, State.key_foldl, keeps_next_iff, keepsC_ok, keepsC_error, keepsR_ok, keepsR_error, ite_self, implies_true, State.hostWriteWord_key]); (repeat' ((first | (refine keeps_ite _ _ _ _ ?_ ?_) | (refine keepsC_bind _ _ _ ?_; intro _) | split | (refine (State.key_foldl _ _ _ ?_).trans ?_; intro _ _)) <;> (try simp only [↓State.key_mk, ↓State.key_fold, State.key_ite, State.key_foldl, keeps_next_iff, keepsC_ok, keepsC_error, keepsR_ok, keepsR_error, ite_self, implies_true, State.hostWriteWord_key])))

theorem State.hostWords_key : ∀ x0 x1 s, (State.hostWords x0 x1 s).2.key = s.key := by
  intros; unfold State.hostWords; (try simp only [↓State.key_mk, ↓State.key_fold, State.key_ite, State.key_foldl, keeps_next_iff, keepsC_ok, keepsC_error, keepsR_ok, keepsR_error, ite_self, implies_true, State.hostWord_key]); (repeat' ((first | (refine keeps_ite _ _ _ _ ?_ ?_) | (refine keepsC_bind _ _ _ ?_; intro _) | split | (refine (State.key_foldl _ _ _ ?_).trans ?_; intro _ _)) <;> (try simp only [↓State.key_mk, ↓State.key_fold, State.key_ite, State.key_foldl, keeps_next_iff, keepsC_ok, keepsC_error, keepsR_ok, keepsR_error, ite_self, implies_true, State.hostWord_key])))

theorem State.hostRead_key : ∀ x0 x1 s, (State.hostRead x0 x1 s).key = s.key := by
  intros; unfold State.hostRead; (try simp only [↓State.key_mk, ↓State.key_fold, State.key_ite, State.key_foldl, keeps_next_iff, keepsC_ok, keepsC_error, keepsR_ok, keepsR_error, ite_self, implies_true, State.readEnd_key, State.windowEnd_key, State.hostWords_key]); (repeat' ((first | (refine keeps_ite _ _ _ _ ?_ ?_) | (refine keepsC_bind _ _ _ ?_; intro _) | split | (refine (State.key_foldl _ _ _ ?_).trans ?_; intro _ _)) <;> (try simp only [↓State.key_mk, ↓State.key_fold, State.key_ite, State.key_foldl, keeps_next_iff, keepsC_ok, keepsC_error, keepsR_ok, keepsR_error, ite_self, implies_true, State.readEnd_key, State.windowEnd_key, State.hostWords_key])))

theorem execFifoWindowRead_key : ∀ x0 x1 s, Keeps s.key (execFifoWindowRead x0 x1 s) := by
  intros; unfold execFifoWindowRead; (try simp only [↓State.key_mk, ↓State.key_fold, State.key_ite, State.key_foldl, keeps_next_iff, keepsC_ok, keepsC_error, keepsR_ok, keepsR_error, ite_self, implies_true, State.hostRead_key]); (repeat' ((first | (refine keeps_ite _ _ _ _ ?_ ?_) | (refine keepsC_bind _ _ _ ?_; intro _) | split | (refine (State.key_foldl _ _ _ ?_).trans ?_; intro _ _)) <;> (try simp only [↓State.key_mk, ↓State.key_fold, State.key_ite, State.key_foldl, keeps_next_iff, keepsC_ok, keepsC_error, keepsR_ok, keepsR_error, ite_self, implies_true, State.hostRead_key])))

theorem execFifoReadWaitExpire_key : ∀ x0 x1 s, Keeps s.key (execFifoReadWaitExpire x0 x1 s) := by
  intros; unfold execFifoReadWaitExpire; (try simp only [↓State.key_mk, ↓State.key_fold, State.key_ite, State.key_foldl, keeps_next_iff, keepsC_ok, keepsC_error, keepsR_ok, keepsR_error, ite_self, implies_true, State.endWait_key]); (repeat' ((first | (refine keeps_ite _ _ _ _ ?_ ?_) | (refine keepsC_bind _ _ _ ?_; intro _) | split | (refine (State.key_foldl _ _ _ ?_).trans ?_; intro _ _)) <;> (try simp only [↓State.key_mk, ↓State.key_fold, State.key_ite, State.key_foldl, keeps_next_iff, keepsC_ok, keepsC_error, keepsR_ok, keepsR_error, ite_self, implies_true, State.endWait_key])))

theorem execRcRead_key : ∀ x0 s, Keeps s.key (execRcRead x0 s) := by
  intros; unfold execRcRead; (try simp only [↓State.key_mk, ↓State.key_fold, State.key_ite, State.key_foldl, keeps_next_iff, keepsC_ok, keepsC_error, keepsR_ok, keepsR_error, ite_self, implies_true, State.hostRead_key]); (repeat' ((first | (refine keeps_ite _ _ _ _ ?_ ?_) | (refine keepsC_bind _ _ _ ?_; intro _) | split | (refine (State.key_foldl _ _ _ ?_).trans ?_; intro _ _)) <;> (try simp only [↓State.key_mk, ↓State.key_fold, State.key_ite, State.key_foldl, keeps_next_iff, keepsC_ok, keepsC_error, keepsR_ok, keepsR_error, ite_self, implies_true, State.hostRead_key])))

theorem execLatchingRead_key : ∀ x0 s, Keeps s.key (execLatchingRead x0 s) := by
  intros; unfold execLatchingRead; (try simp only [↓State.key_mk, ↓State.key_fold, State.key_ite, State.key_foldl, keeps_next_iff, keepsC_ok, keepsC_error, keepsR_ok, keepsR_error, ite_self, implies_true, State.hostRead_key]); (repeat' ((first | (refine keeps_ite _ _ _ _ ?_ ?_) | (refine keepsC_bind _ _ _ ?_; intro _) | split | (refine (State.key_foldl _ _ _ ?_).trans ?_; intro _ _)) <;> (try simp only [↓State.key_mk, ↓State.key_fold, State.key_ite, State.key_foldl, keeps_next_iff, keepsC_ok, keepsC_error, keepsR_ok, keepsR_error, ite_self, implies_true, State.hostRead_key])))

theorem execNowNsRead_key : ∀ s, Keeps s.key (execNowNsRead s) := by
  intros; unfold execNowNsRead; simp only [keeps_next_iff, State.emit_key, State.latch_key]

theorem execRegisterWrite_key : ∀ x0 x1 s, Keeps s.key (execRegisterWrite x0 x1 s) := by
  intros; unfold execRegisterWrite; (try simp only [↓State.key_mk, ↓State.key_fold, State.key_ite, State.key_foldl, keeps_next_iff, keepsC_ok, keepsC_error, keepsR_ok, keepsR_error, ite_self, implies_true, State.hostWrite_key]); (repeat' ((first | (refine keeps_ite _ _ _ _ ?_ ?_) | (refine keepsC_bind _ _ _ ?_; intro _) | split | (refine (State.key_foldl _ _ _ ?_).trans ?_; intro _ _)) <;> (try simp only [↓State.key_mk, ↓State.key_fold, State.key_ite, State.key_foldl, keeps_next_iff, keepsC_ok, keepsC_error, keepsR_ok, keepsR_error, ite_self, implies_true, State.hostWrite_key])))

theorem execShadowWrite_key : ∀ x0 x1 s, Keeps s.key (execShadowWrite x0 x1 s) := by
  intros; unfold execShadowWrite; (try simp only [↓State.key_mk, ↓State.key_fold, State.key_ite, State.key_foldl, keeps_next_iff, keepsC_ok, keepsC_error, keepsR_ok, keepsR_error, ite_self, implies_true, State.hostWrite_key]); (repeat' ((first | (refine keeps_ite _ _ _ _ ?_ ?_) | (refine keepsC_bind _ _ _ ?_; intro _) | split | (refine (State.key_foldl _ _ _ ?_).trans ?_; intro _ _)) <;> (try simp only [↓State.key_mk, ↓State.key_fold, State.key_ite, State.key_foldl, keeps_next_iff, keepsC_ok, keepsC_error, keepsR_ok, keepsR_error, ite_self, implies_true, State.hostWrite_key])))

theorem State.discardPoint_key : ∀ x0 s, (State.discardPoint x0 s).key = s.key := by
  intros; unfold State.discardPoint; (try simp only []); (repeat' ((first | (refine keeps_ite _ _ _ _ ?_ ?_) | (refine keepsC_bind _ _ _ ?_; intro _) | split | (refine (State.key_foldl _ _ _ ?_).trans ?_; intro _ _)) <;> (try simp only [State.key_ite, ite_self, State.rinseRing_key, State.ttiRinse_key, State.advanceTo_key, State.updLane_key, State.updDmx_key, State.rinseFlow_key])))

theorem execRinseDiscardPoint_key : ∀ x0 s, Keeps s.key (execRinseDiscardPoint x0 s) := by
  intros; unfold execRinseDiscardPoint; (try simp only [↓State.key_mk, ↓State.key_fold, State.key_ite, State.key_foldl, keeps_next_iff, keepsC_ok, keepsC_error, keepsR_ok, keepsR_error, ite_self, implies_true, State.discardPoint_key]); (repeat' ((first | (refine keeps_ite _ _ _ _ ?_ ?_) | (refine keepsC_bind _ _ _ ?_; intro _) | split | (refine (State.key_foldl _ _ _ ?_).trans ?_; intro _ _)) <;> (try simp only [keeps_next_iff, State.discardPoint_key])))

theorem regReadOp_key : regReadOp.Keeps := by
  unfold Op.Keeps regReadOp; (try trivial); (try (intro r s; (try simp only []); (repeat' (first | (refine keepsR_bind _ _ _ ?_; intro _) | split) <;> (try simp only [keepsR_ok, State.readWords_key]))))

theorem State.writeWords_key : ∀ o l s, (State.writeWords o l s).key = s.key := by
  intro o l
  induction l generalizing o with
  | nil => intro s; rfl
  | cons v l ih => intro s; rw [State.writeWords]; exact (ih _ _).trans (State.writeWord_key o v s)

theorem regWriteOp_key : regWriteOp.Keeps := by
  unfold Op.Keeps regWriteOp; (try trivial); (try (intro r s; (try simp only []); (repeat' (first | (refine keepsR_bind _ _ _ ?_; intro _) | split) <;> (try simp only [keepsR_ok, State.writeWords_key]))))

theorem execRegRead_key : ∀ x0 s, Keeps s.key (execRegRead x0 s) := by
  exact fun r s => hostCommand_key _ r s regReadOp_key

theorem execRegWrite_key : ∀ x0 s, Keeps s.key (execRegWrite x0 s) := by
  exact fun r s => hostCommand_key _ r s regWriteOp_key

theorem State.losePcie_key : ∀ s, (State.losePcie s).key = s.key := by
  intros; unfold State.losePcie; simp only [↓State.key_mk, ↓State.key_fold, State.key_ite, State.key_foldl, ite_self, implies_true, State.flush_key, State.disablePair_key, State.failFetches_key, State.loseSessions_key]

theorem State.resetFunction_key : ∀ s, (State.resetFunction s).key = s.key := by
  intros; unfold State.resetFunction; simp only [↓State.key_mk, ↓State.key_fold]

theorem execPcieLinkLoss_key : ∀ s, Keeps s.key (execPcieLinkLoss s) := by
  intros; unfold execPcieLinkLoss; simp only [↓State.key_mk, ↓State.key_fold, keeps_next_iff, State.losePcie_key]

theorem State.onConfig_key : ∀ s f, (∀ t, (f t).key = t.key) → Keeps s.key (State.onConfig s f) := by
  intro s f h
  unfold State.onConfig
  exact keeps_next _ _ (key_ite_of _ _ _ _ rfl (h s))

theorem execPcieFlr_key : ∀ s, Keeps s.key (execPcieFlr s) := by
  intros; unfold execPcieFlr; (try simp only [↓State.key_mk, ↓State.key_fold, State.key_ite, State.key_foldl, keeps_next_iff, keepsC_ok, keepsC_error, keepsR_ok, keepsR_error, ite_self, implies_true, State.losePcie_key, State.resetFunction_key]); (repeat' ((first | (refine State.onConfig_key _ _ ?_; intro _) | (refine keeps_ite _ _ _ _ ?_ ?_) | (refine keepsC_bind _ _ _ ?_; intro _) | split | (refine (State.key_foldl _ _ _ ?_).trans ?_; intro _ _)) <;> (try simp only [↓State.key_mk, ↓State.key_fold, State.key_ite, State.key_foldl, keeps_next_iff, keepsC_ok, keepsC_error, keepsR_ok, keepsR_error, ite_self, implies_true, State.losePcie_key, State.resetFunction_key])))

theorem execBusMasterClear_key : ∀ s, Keeps s.key (execBusMasterClear s) := by
  intros; unfold execBusMasterClear; (try simp only [↓State.key_mk, ↓State.key_fold, State.key_ite, State.key_foldl, keeps_next_iff, keepsC_ok, keepsC_error, keepsR_ok, keepsR_error, ite_self, implies_true, State.losePcie_key]); (repeat' ((first | (refine State.onConfig_key _ _ ?_; intro _) | (refine keeps_ite _ _ _ _ ?_ ?_) | (refine keepsC_bind _ _ _ ?_; intro _) | split | (refine (State.key_foldl _ _ _ ?_).trans ?_; intro _ _)) <;> (try simp only [↓State.key_mk, ↓State.key_fold, State.key_ite, State.key_foldl, keeps_next_iff, keepsC_ok, keepsC_error, keepsR_ok, keepsR_error, ite_self, implies_true, State.losePcie_key])))

theorem execD3hotEnter_key : ∀ s, Keeps s.key (execD3hotEnter s) := by
  intros; unfold execD3hotEnter; (try simp only [↓State.key_mk, ↓State.key_fold, State.key_ite, State.key_foldl, keeps_next_iff, keepsC_ok, keepsC_error, keepsR_ok, keepsR_error, ite_self, implies_true, State.losePcie_key]); (repeat' ((first | (refine State.onConfig_key _ _ ?_; intro _) | (refine keeps_ite _ _ _ _ ?_ ?_) | (refine keepsC_bind _ _ _ ?_; intro _) | split | (refine (State.key_foldl _ _ _ ?_).trans ?_; intro _ _)) <;> (try simp only [↓State.key_mk, ↓State.key_fold, State.key_ite, State.key_foldl, keeps_next_iff, keepsC_ok, keepsC_error, keepsR_ok, keepsR_error, ite_self, implies_true, State.losePcie_key])))

theorem execPerstNAssert_key : ∀ s, Keeps s.key (execPerstNAssert s) := by
  intros; unfold execPerstNAssert; simp only [↓State.key_mk, ↓State.key_fold, keeps_next_iff, State.losePcie_key, State.resetFunction_key]

theorem execPcieLinkUp_key : ∀ s, Keeps s.key (execPcieLinkUp s) := by
  intros; unfold execPcieLinkUp; (try simp only [↓State.key_mk, ↓State.key_fold, State.key_ite, State.key_foldl, keeps_next_iff, keepsC_ok, keepsC_error, keepsR_ok, keepsR_error, ite_self, implies_true, State.hold_key, State.flushMsix_key]); (repeat' ((first | (refine keeps_ite _ _ _ _ ?_ ?_) | (refine keepsC_bind _ _ _ ?_; intro _) | split | (refine (State.key_foldl _ _ _ ?_).trans ?_; intro _ _)) <;> (try simp only [↓State.key_mk, ↓State.key_fold, State.key_ite, State.key_foldl, keeps_next_iff, keepsC_ok, keepsC_error, keepsR_ok, keepsR_error, ite_self, implies_true, State.hold_key, State.flushMsix_key])))

theorem State.maskFunction_key : ∀ x0 s, Keeps s.key (State.maskFunction x0 s) := by
  intros; unfold State.maskFunction; (try simp only [↓State.key_mk, ↓State.key_fold, State.key_ite, State.key_foldl, keeps_next_iff, keepsC_ok, keepsC_error, keepsR_ok, keepsR_error, ite_self, implies_true, State.flushMsix_key]); (repeat' ((first | (refine State.onConfig_key _ _ ?_; intro _) | (refine keeps_ite _ _ _ _ ?_ ?_) | (refine keepsC_bind _ _ _ ?_; intro _) | split | (refine (State.key_foldl _ _ _ ?_).trans ?_; intro _ _)) <;> (try simp only [↓State.key_mk, ↓State.key_fold, State.key_ite, State.key_foldl, keeps_next_iff, keepsC_ok, keepsC_error, keepsR_ok, keepsR_error, ite_self, implies_true, State.flushMsix_key])))

theorem execMsixUnmask_key : ∀ x0 s, Keeps s.key (execMsixUnmask x0 s) := by
  intros; unfold execMsixUnmask; (try simp only [↓State.key_mk, ↓State.key_fold, State.key_ite, State.key_foldl, keeps_next_iff, keepsC_ok, keepsC_error, keepsR_ok, keepsR_error, ite_self, implies_true, State.maskVector_key, State.maskFunction_key]); (repeat' ((first | (refine keeps_ite _ _ _ _ ?_ ?_) | (refine keepsC_bind _ _ _ ?_; intro _) | split | (refine (State.key_foldl _ _ _ ?_).trans ?_; intro _ _)) <;> (try simp only [↓State.key_mk, ↓State.key_fold, State.key_ite, State.key_foldl, keeps_next_iff, keepsC_ok, keepsC_error, keepsR_ok, keepsR_error, ite_self, implies_true, State.maskVector_key, State.maskFunction_key])))

theorem execMlApply_key : ∀ s, Keeps s.key (execMlApply s) := by
  intros; unfold execMlApply; simp only [keeps_next_iff, State.mlApply_key]

theorem State.loseLease_key : ∀ s, (State.loseLease s).key = s.key := by
  intros; unfold State.loseLease; simp only [↓State.key_mk, ↓State.key_fold, State.dhcpDiscover_key]

theorem execDhcpMessageRx_key : ∀ x0 s, Keeps s.key (execDhcpMessageRx x0 s) := by
  intros; unfold execDhcpMessageRx; (try simp only []); (repeat' ((first | (refine keeps_ite _ _ _ _ ?_ ?_) | (refine keepsC_bind _ _ _ ?_; intro _) | split | (refine (State.key_foldl _ _ _ ?_).trans ?_; intro _ _)) <;> (try simp only [↓State.key_mk, ↓State.key_fold, keeps_next_iff, State.emit_key, State.loseLease_key, State.dhcpDiscover_key])))

theorem execDhcpLeaseTimer_key : ∀ x0 s, Keeps s.key (execDhcpLeaseTimer x0 s) := by
  intros; unfold execDhcpLeaseTimer; (try simp only [↓State.key_mk, ↓State.key_fold, State.key_ite, State.key_foldl, keeps_next_iff, keepsC_ok, keepsC_error, keepsR_ok, keepsR_error, ite_self, implies_true, State.dhcpDiscover_key, State.emit_key, State.loseLease_key]); (repeat' ((first | (refine keeps_ite _ _ _ _ ?_ ?_) | (refine keepsC_bind _ _ _ ?_; intro _) | split | (refine (State.key_foldl _ _ _ ?_).trans ?_; intro _ _)) <;> (try simp only [↓State.key_mk, ↓State.key_fold, State.key_ite, State.key_foldl, keeps_next_iff, keepsC_ok, keepsC_error, keepsR_ok, keepsR_error, ite_self, implies_true, State.dhcpDiscover_key, State.emit_key, State.loseLease_key])))

theorem execLinkLocalTimeout_key : ∀ x0 s, Keeps s.key (execLinkLocalTimeout x0 s) := by
  intros; unfold execLinkLocalTimeout; (try simp only [↓State.key_mk, ↓State.key_fold, State.key_ite, State.key_foldl, keeps_next_iff, keepsC_ok, keepsC_error, keepsR_ok, keepsR_error, ite_self, implies_true, State.advanceNow_key, State.dhcpDiscover_key]); (repeat' ((first | (refine keeps_ite _ _ _ _ ?_ ?_) | (refine keepsC_bind _ _ _ ?_; intro _) | split | (refine (State.key_foldl _ _ _ ?_).trans ?_; intro _ _)) <;> (try simp only [↓State.key_mk, ↓State.key_fold, State.key_ite, State.key_foldl, keeps_next_iff, keepsC_ok, keepsC_error, keepsR_ok, keepsR_error, ite_self, implies_true, State.advanceNow_key, State.dhcpDiscover_key])))

theorem execMlLinkChange_key : ∀ x0 x1 s, Keeps s.key (execMlLinkChange x0 x1 s) := by
  intros; unfold execMlLinkChange; simp only [↓State.key_mk, ↓State.key_fold, State.key_ite, keeps_next_iff, ite_self, State.ptpPorts_key, State.dhcpDiscover_key]

theorem State.niwinEnd_key : ∀ x s, KeepsC s.key x → (State.niwinEnd x s).key = s.key := by
  intro x s h
  unfold State.niwinEnd
  split
  · rw [State.drive_key]; exact h _ rfl
  · rw [State.drive_key]

theorem State.niwinEnd_error_key (b s) : (State.niwinEnd (.error b) s).key = s.key := State.niwinEnd_key _ _ (by rw [keepsC_error]; trivial)

theorem State.endFollow_key : ∀ s, (State.endFollow s).key = s.key := by
  intros; unfold State.endFollow; simp only [↓State.key_mk, ↓State.key_fold, State.key_ite, ite_self, State.drive_key]

theorem State.badLine_key : ∀ s, (State.badLine s).key = s.key := by
  intros; unfold State.badLine; (try simp only [↓State.key_mk, ↓State.key_fold, State.key_ite, State.key_foldl, keeps_next_iff, keepsC_ok, keepsC_error, keepsR_ok, keepsR_error, ite_self, implies_true, State.draw_key, State.drive_key]); (repeat' ((first | (refine keeps_ite _ _ _ _ ?_ ?_) | (refine keepsC_bind _ _ _ ?_; intro _) | split | (refine (State.key_foldl _ _ _ ?_).trans ?_; intro _ _)) <;> (try simp only [↓State.key_mk, ↓State.key_fold, State.key_ite, State.key_foldl, keeps_next_iff, keepsC_ok, keepsC_error, keepsR_ok, keepsR_error, ite_self, implies_true, State.draw_key, State.drive_key])))

theorem State.niwinInput_key : ∀ i f s, (∀ t, (f t).key = t.key) → (State.niwinInput i f s).key = s.key := by
  intro i f s h
  unfold State.niwinInput
  dsimp only
  refine key_ite_of _ _ _ _ rfl ?_
  repeat' split
  all_goals simp only [↓State.key_mk, ↓State.key_fold, h, State.badLine_key, State.endFollow_key, State.drive_key]

theorem State.niwinDo_key : ∀ l f s, (∀ t, KeepsC t.key (f t)) → (State.niwinDo l f s).key = s.key := by
  intro l f s h
  unfold State.niwinDo
  split
  · exact State.niwinEnd_key _ _ (h s)
  · exact State.niwinEnd_key _ _ (by simp only [keepsC_error])

theorem State.niwinRun_key : ∀ l i f s, (∀ t, KeepsC t.key (f t)) → (State.niwinRun l i f s).key = s.key := by
  intro l i f s h
  unfold State.niwinRun
  exact State.niwinInput_key _ _ _ fun t => State.niwinDo_key _ _ _ h

theorem niwin_key : ∀ l i s f, (∀ t, KeepsC t.key (f t)) → Keeps s.key (niwin l i s f) := by
  intro l i s f h
  unfold niwin
  exact keeps_next _ _ (State.niwinRun_key _ _ _ _ h)

theorem State.say_key : ∀ x0 x1 s, (State.say x0 x1 s).key = s.key := by
  intros; unfold State.say; simp only [State.drive_key]

theorem niwinHelpBody_key : ∀ s, KeepsC s.key (niwinHelpBody s) := by
  intros; unfold niwinHelpBody; simp only [State.key_foldl, keepsC_ok, implies_true, State.say_key]

theorem niwinIdBody_key : ∀ s, KeepsC s.key (niwinIdBody s) := by
  intros; unfold niwinIdBody; simp only [keepsC_ok, State.say_key]

theorem niwinStateBody_key : ∀ s, KeepsC s.key (niwinStateBody s) := by
  intros; unfold niwinStateBody; simp only [keepsC_ok, State.say_key]

theorem niwinTimeBody_key : ∀ s, KeepsC s.key (niwinTimeBody s) := by
  intros; unfold niwinTimeBody; simp only [keepsC_ok, State.say_key, State.timeStatusBytes_key]

theorem niwinHealthBody_key : ∀ s, KeepsC s.key (niwinHealthBody s) := by
  intros; unfold niwinHealthBody; simp only [keepsC_ok, State.say_key]

theorem niwinLogBody_key : ∀ x0 s, KeepsC s.key (niwinLogBody x0 s) := by
  intros; unfold niwinLogBody; (try simp only [↓State.key_mk, ↓State.key_fold, State.key_ite, State.key_foldl, keeps_next_iff, keepsC_ok, keepsC_error, keepsR_ok, keepsR_error, ite_self, implies_true, State.say_key]); (repeat' ((first | (refine keeps_ite _ _ _ _ ?_ ?_) | (refine keepsC_bind _ _ _ ?_; intro _) | split | (refine (State.key_foldl _ _ _ ?_).trans ?_; intro _ _)) <;> (try simp only [State.key_foldl, keepsC_ok, implies_true, State.say_key])))

theorem niwinFollowBody_key : ∀ s, (niwinFollowBody s).key = s.key := by
  intros; unfold niwinFollowBody; simp only [↓State.key_mk, ↓State.key_fold]

theorem niwinCountersBody_key : ∀ s, KeepsC s.key (niwinCountersBody s) := by
  intros; unfold niwinCountersBody; simp only [keepsC_ok, State.say_key]

theorem niwinMlBody_key : ∀ s, KeepsC s.key (niwinMlBody s) := by
  intros; unfold niwinMlBody; simp only [keepsC_ok, State.say_key]

theorem execNiwinHelp_key : ∀ s, Keeps s.key (execNiwinHelp s) := by
  intros; unfold execNiwinHelp; simp only [implies_true, niwin_key, niwinHelpBody_key]

theorem execNiwinId_key : ∀ s, Keeps s.key (execNiwinId s) := by
  intros; unfold execNiwinId; simp only [implies_true, niwin_key, niwinIdBody_key]

theorem execNiwinState_key : ∀ s, Keeps s.key (execNiwinState s) := by
  intros; unfold execNiwinState; simp only [implies_true, niwin_key, niwinStateBody_key]

theorem execNiwinTime_key : ∀ s, Keeps s.key (execNiwinTime s) := by
  intros; unfold execNiwinTime; simp only [implies_true, niwin_key, niwinTimeBody_key]

theorem execNiwinHealth_key : ∀ s, Keeps s.key (execNiwinHealth s) := by
  intros; unfold execNiwinHealth; simp only [implies_true, niwin_key, niwinHealthBody_key]

theorem execNiwinLog_key : ∀ x0 s, Keeps s.key (execNiwinLog x0 s) := by
  intros; unfold execNiwinLog; simp only [implies_true, niwin_key, niwinLogBody_key]

theorem execNiwinCounters_key : ∀ s, Keeps s.key (execNiwinCounters s) := by
  intros; unfold execNiwinCounters; simp only [implies_true, niwin_key, niwinCountersBody_key]

theorem execNiwinMl_key : ∀ s, Keeps s.key (execNiwinMl s) := by
  intros; unfold execNiwinMl; simp only [implies_true, niwin_key, niwinMlBody_key]

theorem execNiwinServiceOn_key : ∀ s, Keeps s.key (execNiwinServiceOn s) := by
  intros; unfold execNiwinServiceOn; simp only [implies_true, niwin_key, State.enterService_key]

theorem niwinOffBody_key : ∀ s, KeepsC s.key (niwinOffBody s) := by
  intros; unfold niwinOffBody; (try simp only [↓State.key_mk, ↓State.key_fold, State.key_ite, State.key_foldl, keeps_next_iff, keepsC_ok, keepsC_error, keepsR_ok, keepsR_error, ite_self, implies_true, State.exitService_key]); (repeat' ((first | (refine keeps_ite _ _ _ _ ?_ ?_) | (refine keepsC_bind _ _ _ ?_; intro _) | split | (refine (State.key_foldl _ _ _ ?_).trans ?_; intro _ _)) <;> (try simp only [↓State.key_mk, ↓State.key_fold, State.key_ite, State.key_foldl, keeps_next_iff, keepsC_ok, keepsC_error, keepsR_ok, keepsR_error, ite_self, implies_true, State.exitService_key])))

theorem execNiwinServiceOff_key : ∀ s, Keeps s.key (execNiwinServiceOff s) := by
  intros; unfold execNiwinServiceOff; (try simp only [↓State.key_mk, ↓State.key_fold, State.key_ite, State.key_foldl, keeps_next_iff, keepsC_ok, keepsC_error, keepsR_ok, keepsR_error, ite_self, implies_true, niwin_key, niwinOffBody_key]); (repeat' ((first | (refine keeps_ite _ _ _ _ ?_ ?_) | (refine keepsC_bind _ _ _ ?_; intro _) | split | (refine (State.key_foldl _ _ _ ?_).trans ?_; intro _ _)) <;> (try simp only [↓State.key_mk, ↓State.key_fold, State.key_ite, State.key_foldl, keeps_next_iff, keepsC_ok, keepsC_error, keepsR_ok, keepsR_error, ite_self, implies_true, niwin_key, niwinOffBody_key])))

theorem execNiwinLogFollow_key : ∀ s, Keeps s.key (execNiwinLogFollow s) := by
  intros; unfold execNiwinLogFollow; simp only [keeps_next_iff, implies_true, State.niwinInput_key, niwinFollowBody_key]

theorem execNiwinKeyPress_key : ∀ s, Keeps s.key (execNiwinKeyPress s) := by
  intro s
  exact keeps_next _ _ (State.niwinInput_key _ _ _ fun _ => rfl)

theorem niwinDhcpBody_key : ∀ s, KeepsC s.key (niwinDhcpBody s) := by
  intros; unfold niwinDhcpBody; simp only [↓State.key_mk, ↓State.key_fold, keepsC_ok, State.mlApply_key]

theorem niwinStaticBody_key : ∀ x0 x1 x2 s, KeepsC s.key (niwinStaticBody x0 x1 x2 s) := by
  intros; unfold niwinStaticBody; simp only [↓State.key_mk, ↓State.key_fold, keepsC_ok, State.mlApply_key]

theorem niwinRegRdBody_key : ∀ x0 x1 s, KeepsC s.key (niwinRegRdBody x0 x1 s) := by
  intros; unfold niwinRegRdBody; (try simp only []); (repeat' ((first | (refine keeps_ite _ _ _ _ ?_ ?_) | (refine keepsC_bind _ _ _ ?_; intro _) | split | (refine (State.key_foldl _ _ _ ?_).trans ?_; intro _ _)) <;> (try simp only [keepsC_ok, State.readWords_key, State.say_key])))

theorem niwinRegWrBody_key : ∀ x0 x1 s, KeepsC s.key (niwinRegWrBody x0 x1 s) := by
  intros; unfold niwinRegWrBody; (try simp only [↓State.key_mk, ↓State.key_fold, State.key_ite, State.key_foldl, keeps_next_iff, keepsC_ok, keepsC_error, keepsR_ok, keepsR_error, ite_self, implies_true, State.writeWord_key]); (repeat' ((first | (refine keeps_ite _ _ _ _ ?_ ?_) | (refine keepsC_bind _ _ _ ?_; intro _) | split | (refine (State.key_foldl _ _ _ ?_).trans ?_; intro _ _)) <;> (try simp only [keepsC_ok, State.writeWord_key])))

theorem niwinResetBody_key : ∀ s, KeepsC s.key (niwinResetBody s) := by
  intros; unfold niwinResetBody; simp only [State.deviceReset_key]

theorem niwinOtpBody_key : ∀ s, KeepsC s.key (niwinOtpBody s) := by
  intros; unfold niwinOtpBody; simp only [State.key_foldl, keepsC_ok, implies_true, State.say_key]

theorem State.prepareOtp_key : ∀ x0 x1 s, (State.prepareOtp x0 x1 s).key = s.key := by
  intros; unfold State.prepareOtp; simp only [↓State.key_mk, ↓State.key_fold, State.say_key]

theorem niwinKeyBody_key : ∀ x0 x1 s, KeepsC s.key (niwinKeyBody x0 x1 s) := by
  intros; unfold niwinKeyBody; (try simp only [↓State.key_mk, ↓State.key_fold, State.key_ite, State.key_foldl, keeps_next_iff, keepsC_ok, keepsC_error, keepsR_ok, keepsR_error, ite_self, implies_true, State.prepareOtp_key]); (repeat' ((first | (refine keeps_ite _ _ _ _ ?_ ?_) | (refine keepsC_bind _ _ _ ?_; intro _) | split | (refine (State.key_foldl _ _ _ ?_).trans ?_; intro _ _)) <;> (try simp only [keepsC_ok, State.prepareOtp_key])))

theorem niwinRevokeBody_key : ∀ x0 s, KeepsC s.key (niwinRevokeBody x0 s) := by
  intros; unfold niwinRevokeBody; (try simp only [↓State.key_mk, ↓State.key_fold, State.key_ite, State.key_foldl, keeps_next_iff, keepsC_ok, keepsC_error, keepsR_ok, keepsR_error, ite_self, implies_true, State.prepareOtp_key]); (repeat' ((first | (refine keeps_ite _ _ _ _ ?_ ?_) | (refine keepsC_bind _ _ _ ?_; intro _) | split | (refine (State.key_foldl _ _ _ ?_).trans ?_; intro _ _)) <;> (try simp only [keepsC_ok, State.prepareOtp_key])))

theorem State.writeOtp_key : ∀ x0 s, (State.writeOtp x0 s).key = s.key := by
  intros; unfold State.writeOtp; simp only [↓State.key_mk, ↓State.key_fold]

theorem State.commitOtp_key : ∀ c s, (State.commitOtp c s).key = s.key := by
  intro c s
  have h0 : ∀ n : Niwin, ({ s with nw := n } : State).key = s.key := fun n => by rw [State.key_mk, State.key_fold]
  unfold State.commitOtp
  simp only
  split
  · exact State.niwinEnd_error_key _ _
  · refine key_ite_of _ _ _ _ ((State.niwinEnd_error_key _ _).trans (h0 _)) ?_
    refine key_ite_of _ _ _ _ ((State.niwinEnd_error_key _ _).trans (h0 _)) ?_
    refine (State.niwinEnd_key _ _ (by rw [keepsC_ok, State.say_key])).trans ?_
    rw [State.writeOtp_key]
    exact h0 _

theorem State.niwinCommit_key : ∀ c s, (State.niwinCommit c s).key = s.key := by
  intro c s
  unfold State.niwinCommit
  exact key_ite_of _ _ _ _ (State.commitOtp_key _ _) (State.niwinEnd_error_key _ _)

theorem execNiwinMlDhcp_key : ∀ s, Keeps s.key (execNiwinMlDhcp s) := by
  intros; unfold execNiwinMlDhcp; simp only [implies_true, niwin_key, niwinDhcpBody_key]

theorem execNiwinMlStatic_key : ∀ x0 x1 x2 s, Keeps s.key (execNiwinMlStatic x0 x1 x2 s) := by
  intros; unfold execNiwinMlStatic; simp only [implies_true, niwin_key, niwinStaticBody_key]

theorem execNiwinRegRd_key : ∀ x0 x1 s, Keeps s.key (execNiwinRegRd x0 x1 s) := by
  intros; unfold execNiwinRegRd; simp only [implies_true, niwin_key, niwinRegRdBody_key]

theorem execNiwinRegWr_key : ∀ x0 x1 s, Keeps s.key (execNiwinRegWr x0 x1 s) := by
  intros; unfold execNiwinRegWr; simp only [implies_true, niwin_key, niwinRegWrBody_key]

theorem execNiwinOtp_key : ∀ s, Keeps s.key (execNiwinOtp s) := by
  intros; unfold execNiwinOtp; simp only [implies_true, niwin_key, niwinOtpBody_key]

theorem execNiwinOtpKey_key : ∀ x0 x1 s, Keeps s.key (execNiwinOtpKey x0 x1 s) := by
  intros; unfold execNiwinOtpKey; simp only [implies_true, niwin_key, niwinKeyBody_key]

theorem execNiwinOtpRevoke_key : ∀ x0 s, Keeps s.key (execNiwinOtpRevoke x0 s) := by
  intros; unfold execNiwinOtpRevoke; simp only [implies_true, niwin_key, niwinRevokeBody_key]

theorem execNiwinReset_key : ∀ s, Keeps s.key (execNiwinReset s) := by
  intros; unfold execNiwinReset; simp only [implies_true, niwin_key, niwinResetBody_key]

theorem execNiwinOtpCommit_key : ∀ x0 s, Keeps s.key (execNiwinOtpCommit x0 s) := by
  intros; unfold execNiwinOtpCommit; (try simp only [↓State.key_mk, ↓State.key_fold, State.key_ite, State.key_foldl, keeps_next_iff, keepsC_ok, keepsC_error, keepsR_ok, keepsR_error, ite_self, implies_true, State.niwinInput_key, State.niwinCommit_key]); (repeat' ((first | (refine keeps_ite _ _ _ _ ?_ ?_) | (refine keepsC_bind _ _ _ ?_; intro _) | split | (refine (State.key_foldl _ _ _ ?_).trans ?_; intro _ _)) <;> (try simp only [↓State.key_mk, ↓State.key_fold, State.key_ite, State.key_foldl, keeps_next_iff, keepsC_ok, keepsC_error, keepsR_ok, keepsR_error, ite_self, implies_true, State.niwinInput_key, State.niwinCommit_key])))

theorem execOtpCommitExpire_key : ∀ s, Keeps s.key (execOtpCommitExpire s) := by
  intros; unfold execOtpCommitExpire; (try simp only []); (repeat' ((first | (refine keeps_ite _ _ _ _ ?_ ?_) | (refine keepsC_bind _ _ _ ?_; intro _) | split | (refine (State.key_foldl _ _ _ ?_).trans ?_; intro _ _)) <;> (try simp only [↓State.key_mk, ↓State.key_fold, keeps_next_iff, State.advanceNow_key])))

theorem keptLine_key : ∀ i s, (keptLine i s).key = s.key := by
  intro i s
  cases i
  case follow => exact niwinFollowBody_key s
  case otpCommit w => exact State.niwinCommit_key w s
  case key => rfl
  all_goals
    unfold keptLine
    refine State.niwinDo_key _ _ _ fun t => ?_
    simp only [niwinHelpBody_key, niwinIdBody_key, niwinStateBody_key, niwinTimeBody_key, niwinHealthBody_key, niwinLogBody_key,
      niwinCountersBody_key, niwinMlBody_key, State.enterService_key, niwinOffBody_key, niwinDhcpBody_key, niwinStaticBody_key,
      niwinRegRdBody_key, niwinRegWrBody_key, niwinOtpBody_key, niwinKeyBody_key, niwinRevokeBody_key, niwinResetBody_key]

theorem State.releaseLines_key : ∀ s, (State.releaseLines s).key = s.key := by
  intro s
  unfold State.releaseLines
  refine key_ite_of _ _ _ _ rfl ?_
  refine (State.key_foldl _ _ _ ?_).trans (by rw [State.key_mk, State.key_fold])
  intro t i
  split
  · rw [keptLine_key, State.endFollow_key]
  · rw [State.badLine_key, State.endFollow_key]

theorem State.broadcastRx_key : ∀ x0 x1 s, (State.broadcastRx x0 x1 s).key = s.key := by
  intros; unfold State.broadcastRx; (try simp only [↓State.key_mk, ↓State.key_fold, State.key_ite, State.key_foldl, keeps_next_iff, keepsC_ok, keepsC_error, keepsR_ok, keepsR_error, ite_self, implies_true, identifyOp_key, State.sendDatagram_key]); (repeat' ((first | (refine keeps_ite _ _ _ _ ?_ ?_) | (refine keepsC_bind _ _ _ ?_; intro _) | split | (refine (State.key_foldl _ _ _ ?_).trans ?_; intro _ _)) <;> (try simp only [↓State.key_mk, ↓State.key_fold, State.key_ite, State.key_foldl, keeps_next_iff, keepsC_ok, keepsC_error, keepsR_ok, keepsR_error, ite_self, implies_true, identifyOp_key, State.sendDatagram_key])))

theorem State.datagramRx_key : ∀ x0 x1 s, (State.datagramRx x0 x1 s).key = s.key := by
  intros; unfold State.datagramRx; (try simp only []); (repeat' ((first | (refine keeps_ite _ _ _ _ ?_ ?_) | (refine keepsC_bind _ _ _ ?_; intro _) | split | (refine (State.key_foldl _ _ _ ?_).trans ?_; intro _ _)) <;> (try simp only [↓State.key_mk, ↓State.key_fold, State.key_ite, ite_self, State.setRing_key])))

theorem State.mlRx_key : ∀ x0 x1 x2 s, (State.mlRx x0 x1 x2 s).key = s.key := by
  intros; unfold State.mlRx; simp only [State.key_ite, ite_self, State.broadcastRx_key, State.datagramRx_key]

theorem execMlDatagramRx_key : ∀ x0 x1 x2 s, Keeps s.key (execMlDatagramRx x0 x1 x2 s) := by
  intros; unfold execMlDatagramRx; simp only [keeps_next_iff, State.mlRx_key]

theorem execMlBindingExpire_key : ∀ x0 s, Keeps s.key (execMlBindingExpire x0 s) := by
  intros; unfold execMlBindingExpire; simp only [State.key_ite, ite_self, implies_true, onPair_key, State.advanceNow_key, State.setRing_key]

theorem State.pollBindings_key : ∀ s, (State.pollBindings s).key = s.key := by
  intros; unfold State.pollBindings; simp only [State.key_ite, State.key_foldl, ite_self, implies_true, State.setRing_key]

theorem State.dropReasm_key : ∀ x0 x1 s, (State.dropReasm x0 x1 s).key = s.key := by
  intros; unfold State.dropReasm; (try simp only [↓State.key_mk, ↓State.key_fold, State.key_ite, State.key_foldl, keeps_next_iff, keepsC_ok, keepsC_error, keepsR_ok, keepsR_error, ite_self, implies_true]); (repeat' ((first | (refine keeps_ite _ _ _ _ ?_ ?_) | (refine keepsC_bind _ _ _ ?_; intro _) | split | (refine (State.key_foldl _ _ _ ?_).trans ?_; intro _ _)) <;> (try simp only [↓State.key_mk, ↓State.key_fold, State.key_ite, State.key_foldl, keeps_next_iff, keepsC_ok, keepsC_error, keepsR_ok, keepsR_error, ite_self, implies_true])))

theorem State.fragmentRx_key : ∀ x0 x1 x2 x3 x4 s, (State.fragmentRx x0 x1 x2 x3 x4 s).key = s.key := by
  intros; unfold State.fragmentRx; (try simp only [↓State.key_mk, ↓State.key_fold, State.key_ite, State.key_foldl, keeps_next_iff, keepsC_ok, keepsC_error, keepsR_ok, keepsR_error, ite_self, implies_true, State.dropReasm_key, State.mlRx_key]); (repeat' ((first | (refine keeps_ite _ _ _ _ ?_ ?_) | (refine keepsC_bind _ _ _ ?_; intro _) | split | (refine (State.key_foldl _ _ _ ?_).trans ?_; intro _ _)) <;> (try simp only [↓State.key_mk, ↓State.key_fold, State.key_ite, State.key_foldl, keeps_next_iff, keepsC_ok, keepsC_error, keepsR_ok, keepsR_error, ite_self, implies_true, State.dropReasm_key, State.mlRx_key])))

theorem execMlFragmentRx_key : ∀ x0 x1 x2 x3 x4 s, Keeps s.key (execMlFragmentRx x0 x1 x2 x3 x4 s) := by
  intros; unfold execMlFragmentRx; simp only [keeps_next_iff, State.fragmentRx_key]

theorem execMlReassemblyTimeout_key : ∀ x0 x1 s, Keeps s.key (execMlReassemblyTimeout x0 x1 s) := by
  intros; unfold execMlReassemblyTimeout; (try simp only [↓State.key_mk, ↓State.key_fold, State.key_ite, State.key_foldl, keeps_next_iff, keepsC_ok, keepsC_error, keepsR_ok, keepsR_error, ite_self, implies_true, State.advanceNow_key, State.dropReasm_key]); (repeat' ((first | (refine keeps_ite _ _ _ _ ?_ ?_) | (refine keepsC_bind _ _ _ ?_; intro _) | split | (refine (State.key_foldl _ _ _ ?_).trans ?_; intro _ _)) <;> (try simp only [↓State.key_mk, ↓State.key_fold, State.key_ite, State.key_foldl, keeps_next_iff, keepsC_ok, keepsC_error, keepsR_ok, keepsR_error, ite_self, implies_true, State.advanceNow_key, State.dropReasm_key])))

end Sys2Proof.Machine
end

