-- ==== Sys2Proof/Laws/Tab.lean ====
section
/-! SUPPORT. Tables by number: an entry that was put is found, and the others are as they were. -/

namespace Sys2Proof

@[simp] theorem Tab.find_nil {α : Type} (k : Nat) : Tab.find ([] : Tab α) k = none := rfl

theorem Tab.find_cons {α : Type} (e : Nat × α) (t : Tab α) (k : Nat) :
    Tab.find (e :: t) k = if e.1 = k then some e.2 else Tab.find t k := by
  obtain ⟨a, b⟩ := e
  simp only [Tab.find]

theorem Tab.find_put {α : Type} (t : Tab α) (k j : Nat) (a : α) :
    Tab.find (Tab.put t k a) j = if k = j then some a else Tab.find t j := by
  induction t with
  | nil => simp [Tab.put, Tab.find]
  | cons e t ih =>
    obtain ⟨x, b⟩ := e
    unfold Tab.put
    split
    · simp [Tab.find_cons]
    · split
      · simp only [Tab.find_cons]; split <;> simp_all
      · simp only [Tab.find_cons, ih]; split <;> split <;> simp_all

@[simp] theorem Tab.find_put_self {α : Type} (t : Tab α) (k : Nat) (a : α) : Tab.find (Tab.put t k a) k = some a := by
  simp [Tab.find_put]

theorem Tab.find_put_ne {α : Type} (t : Tab α) {k j : Nat} (a : α) (h : k ≠ j) : Tab.find (Tab.put t k a) j = Tab.find t j := by
  simp [Tab.find_put, h]

@[simp] theorem Tab.getD_put_self {α : Type} (t : Tab α) (k : Nat) (a d : α) : Tab.getD (Tab.put t k a) k d = a := by
  simp [Tab.getD]

theorem Tab.getD_put_ne {α : Type} (t : Tab α) {k j : Nat} (a d : α) (h : k ≠ j) :
    Tab.getD (Tab.put t k a) j d = Tab.getD t j d := by
  simp [Tab.getD, Tab.find_put_ne t a h]

theorem Tab.getD_upd_self {α : Type} (t : Tab α) (k : Nat) (d : α) (f : α → α) :
    Tab.getD (Tab.upd t k d f) k d = f (Tab.getD t k d) := by
  simp [Tab.upd]

theorem Tab.getD_upd_ne {α : Type} (t : Tab α) {k j : Nat} (d : α) (f : α → α) (h : k ≠ j) :
    Tab.getD (Tab.upd t k d f) j d = Tab.getD t j d := Tab.getD_put_ne t _ d h

end Sys2Proof
end

