-- ==== Sys2Proof/Laws/Host.lean ====
section
/-! SUPPORT. The course of a host command said once (R83-R90, R104): acceptance and reply change the host interface alone,
and a command that is ready answers what its body gives. -/

namespace Sys2Proof.Machine

/-! ## What the host interface leaves alone -/

@[simp] theorem State.emit_core (o : Output) (s : State) : (s.emit o).core = s.core := rfl
@[simp] theorem State.setRing_core (n : Nat) (p : RingPair) (s : State) : (s.setRing n p).core = s.core := rfl
@[simp] theorem State.accept_core (op : Nat) (r : Req) (s : State) : (s.accept op r).core = s.core := rfl
@[simp] theorem State.waitFor_core (n : Nat) (w : Wait) (s : State) : (s.waitFor n w).core = s.core := rfl

/-- A command that waits changes nothing but the host interface, unless it takes its job id (R558). -/
theorem State.hold_core (op : Op) (r : Req) (s : State) (h : op.takesJob = false) : (s.hold op r).core = s.core := by
  unfold State.hold; rw [h]; exact State.waitFor_core _ _ s

@[simp] theorem State.touch_core (op : Nat) (r : Req) (s : State) : (s.touch op r).core = s.core := by
  unfold State.touch
  split
  · rfl
  · simp only []; split <;> rfl

@[simp] theorem State.entered_core (op : Op) (r : Req) (s : State) : (s.entered op r).core = s.core := by
  simp [State.entered]

@[simp] theorem State.msixSend_core (v : Nat) (s : State) : (s.msixSend v).core = s.core := by
  unfold State.msixSend; repeat' split
  all_goals rfl

@[simp] theorem State.signal_core (v : Nat) (s : State) : (s.signal v).core = s.core := by
  unfold State.signal
  split
  · rfl
  · simp only []; split
    · exact State.msixSend_core v s
    · exact State.msixSend_core v s

@[simp] theorem State.finish_core (n : Nat) (f : Finished) (s : State) : (s.finish n f).core = s.core := by
  unfold State.finish; split <;> rfl

@[simp] theorem State.record_core (x : Slot) (a : Ans) (s : State) : (s.record x a).core = s.core := by
  unfold State.record; split
  · rfl
  · simp

@[simp] theorem State.armReset_core (x : Slot) (a : Ans) (s : State) : (s.armReset x a).core = s.core := by
  unfold State.armReset; split <;> rfl

@[simp] theorem State.sendDatagram_core (a : Nat) (e : Endpoint) (r : Reply) (s : State) : (s.sendDatagram a e r).core = s.core := rfl

@[simp] theorem State.sendReply_core (n : Nat) (x : Slot) (a : Ans) (l : List Slot) (s : State) :
    (s.sendReply n x a l).core = s.core := by
  unfold State.sendReply; simp only []
  repeat' split
  all_goals simp

@[simp] theorem State.flushFuel_core (k n : Nat) (s : State) : (s.flushFuel k n).core = s.core := by
  induction k generalizing s with
  | zero => rfl
  | succ k ih =>
    unfold State.flushFuel
    repeat' split
    all_goals simp [ih]

@[simp] theorem State.flush_core (n : Nat) (s : State) : (s.flush n).core = s.core := State.flushFuel_core _ n s

@[simp] theorem State.answer_core (n : Nat) (a : Ans) (s : State) : (s.answer n a).core = s.core := by
  unfold State.answer; simp only []; split <;> simp

/-! ## What acceptance leaves for the body -/

theorem State.entered_eq (op : Op) (r : Req) (s : State) :
    ∃ h l n, s.entered op r = { s with hq := h, ses := l, upd := { s.upd with last := n } } := by
  unfold State.entered State.touch
  split
  · exact ⟨_, s.ses, s.upd.last, rfl⟩
  · simp only []
    split
    · exact ⟨_, _, _, rfl⟩
    · exact ⟨_, _, s.upd.last, rfl⟩

theorem State.accept_ring (op : Nat) (r : Req) (s : State) :
    (s.accept op r).ring r.pair = { s.ring r.pair with slots := (s.ring r.pair).slots ++ [{
      op, session := r.session, tag := r.tag, rplSize := r.rplSize, wait := .executing
      deadline := if r.timeoutMs = 0 then none else some (s.now + msT r.timeoutMs)
      af := r.atFrame.isSome
      own := (s.session r.session).any fun e => decide ((s.ring r.pair).source = some e.2.source)
      jobs := s.jobs.active.map Job.id ++ s.jobs.waiting
      sentTo := r.sentTo.getD s.ml.addr, order := s.hq.accepted }] } := by
  simp [State.accept, State.setRing, State.ring]

theorem headerCheck_accept (op : Op) (r : Req) (s : State) : headerCheck op r (s.accept op.code r) = headerCheck op r s := by
  have h1 : (s.accept op.code r).session r.session = s.session r.session := rfl
  have h2 : ((s.accept op.code r).ring r.pair).source = (s.ring r.pair).source := by rw [State.accept_ring]; rfl
  simp only [headerCheck, State.sessionOk, h1, h2]
  rfl

theorem stateCheck_entered (op : Op) (r : Req) (s : State) : stateCheck op r (s.entered op r) = stateCheck op r s := by
  obtain ⟨h, l, n, e⟩ := s.entered_eq op r
  rw [e]; rfl

theorem State.touch_ring (op : Nat) (r : Req) (s : State) (n : Nat) : (s.touch op r).ring n = s.ring n := by
  unfold State.touch
  split
  · rfl
  · simp only []; split <;> rfl

theorem State.touch_jobs (op : Nat) (r : Req) (s : State) : (s.touch op r).jobs = s.jobs := by
  unfold State.touch
  split
  · rfl
  · simp only []; split <;> rfl

theorem State.entered_ring (op : Op) (r : Req) (s : State) : (s.entered op r).ring r.pair = (s.accept op.code r).ring r.pair :=
  State.touch_ring _ _ _ _

theorem State.accept_turn (op : Nat) (r : Req) (s : State) (l : List Slot) :
    ((s.accept op r).ring r.pair).turn l = (s.ring r.pair).turn l := by
  rw [State.accept_ring]; rfl

/-- A ready command executes at once (R103, R104). -/
theorem State.startsNow_entered (op : Op) (r : Req) (s : State) (h : s.ready op r = true) : (s.entered op r).startsNow op r = true := by
  simp only [State.ready, Bool.and_eq_true, Bool.or_eq_true, Bool.not_eq_true', List.isEmpty_iff] at h
  obtain ⟨⟨-, hf⟩, ht⟩ := h
  have hl : ((s.accept op.code r).ring r.pair).slots.getLast? = some {
      op := op.code, session := r.session, tag := r.tag, rplSize := r.rplSize, wait := .executing
      deadline := if r.timeoutMs = 0 then none else some (s.now + msT r.timeoutMs)
      af := r.atFrame.isSome
      own := (s.session r.session).any fun e => decide ((s.ring r.pair).source = some e.2.source)
      jobs := s.jobs.active.map Job.id ++ s.jobs.waiting
      sentTo := r.sentTo.getD s.ml.addr, order := s.hq.accepted } := by
    rw [State.accept_ring]; exact List.getLast?_concat
  have hd : ((s.accept op.code r).ring r.pair).slots.dropLast = (s.ring r.pair).slots := by
    rw [State.accept_ring]; exact List.dropLast_concat
  simp only [State.startsNow, State.entered_ring, hl, hd, Op.entry]
  by_cases hb : r.opFlag 2 = true
  · have hf' := hf.resolve_left (by simp [hb])
    rw [hf'.1.1] at ht
    simpa [hb, State.mayStart, State.entered_ring, State.accept_turn, hf'] using ht
  · by_cases hc : op.cls.inTurn = true
    · simpa [hb, hc, State.mayStart, State.entered_ring, State.accept_turn] using ht
    · simp [hb, hc]

/-! ## The course of a ready command -/

theorem Chk?.eq_ok {x : Chk? Unit} (h : Chk?.passes x = true) : x = .ok () := by
  cases x with
  | ok _ => rfl
  | error _ => exact absurd h (by simp [Chk?.passes])

/-- A check that passes hands its value on. Rewriting with these lemmas leaves the check folded: the kernel need not evaluate
a condition such as `Update.missing`. -/
theorem Chk?.ok_bind {α β : Type} {x : Chk? α} {a : α} (k : α → Chk? β) (h : x = .ok a) : (x >>= k) = k a := by rw [h]; rfl

theorem need_bind {α : Type} {b : Bool} {st d : Nat} (k : Unit → Chk? α) (h : b = true) : (need b st d >>= k) = k () := by rw [h]; rfl

theorem inRange_bind {α : Type} {b : Bool} {off : Nat} (k : Unit → Chk? α) (h : b = true) : (inRange b off >>= k) = k () := need_bind k h

/-- What the body of a ready command gives. -/
def Op.result (op : Op) (r : Req) (s : State) : Chk? (State × Res) :=
  match op.body with
  | .run f => f r s
  | .staged f => runStaged f r s
  | .timed check _ =>
    match timedState op.code s with
    | .error b => .error b
    | .ok _ =>
      match check r s with
      | .error b => .error b
      | .ok _ => queueTimed op.code r s

theorem Op.execute_entered (op : Op) (r : Req) (s : State) (h : s.checks op r = true) :
    op.execute r (s.entered op r) = op.result r (s.entered op r) := by
  simp only [State.checks, Bool.and_eq_true, Option.isNone_iff_eq_none] at h
  obtain ⟨⟨-, h4⟩, h5⟩ := h
  unfold Op.execute Op.result
  rw [stateCheck_entered, Chk?.eq_ok h4, h5]
  all_goals rfl

theorem hostCommand_ready (op : Op) (r : Req) (s : State) (h : s.ready op r = true) :
    hostCommand op r s = .next ((s.entered op r).conclude r.pair (op.result r (s.entered op r))) := by
  have hn := State.startsNow_entered op r s h
  simp only [State.ready, Bool.and_eq_true] at h
  obtain ⟨⟨⟨hc, hpo⟩, -⟩, -⟩ := h
  have hx := Op.execute_entered op r s hc
  simp only [State.checks, Bool.and_eq_true, decide_eq_true_eq, Bool.not_eq_true'] at hc
  obtain ⟨⟨⟨⟨h1, h2, h2'⟩, h3⟩, -⟩, -⟩ := hc
  have hp : ¬ r.pair ≥ 64 := by omega
  simp only [hostCommand, if_neg hp, h2, h2', Bool.not_true, Bool.false_or, Bool.false_eq_true, if_false]
  unfold State.start
  rw [headerCheck_accept, Chk?.eq_ok h3]
  simp only []
  rw [show (s.accept op.code r).touch op.code r = s.entered op r from rfl, hn, ← hx]
  unfold State.concludeRead
  rw [Option.isNone_iff_eq_none.1 hpo]
  rfl

/-- A ready command whose body answers. -/
theorem hostCommand_done (op : Op) (r : Req) (s t : State) (a : Ans) (h : s.ready op r = true)
    (hb : op.result r (s.entered op r) = .ok (t, .done a)) : hostCommand op r s = .next (t.answer r.pair a) := by
  rw [hostCommand_ready op r s h, hb]; rfl

/-- A ready command whose body waits. -/
theorem hostCommand_waits (op : Op) (r : Req) (s t : State) (w : Wait) (h : s.ready op r = true)
    (hb : op.result r (s.entered op r) = .ok (t, .wait w)) : hostCommand op r s = .next (t.waitFor r.pair w) := by
  rw [hostCommand_ready op r s h, hb]; rfl

/-- A ready command that its body refuses. -/
theorem hostCommand_refused (op : Op) (r : Req) (s : State) (b : Bad) (h : s.ready op r = true)
    (hb : op.result r (s.entered op r) = .error b) : hostCommand op r s = .next ((s.entered op r).answer r.pair b.ans) := by
  rw [hostCommand_ready op r s h, hb]; rfl

/-- A ready staged command that makes `c` of the staging area. -/
theorem hostCommand_staged (op : Op) (r : Req) (s : State) (c : Cfg) (h : s.ready op r = true)
    (hc : op.stages r (s.entered op r) = some c) :
    hostCommand op r s = .next (((s.entered op r).withArea c).answer r.pair {}) := by
  refine hostCommand_done op r s _ _ h ?_
  unfold Op.stages at hc
  split at hc
  · cases hc
  · rename_i hh
    split at hc
    · rename_i f hf
      split at hc
      · rename_i d hd
        cases hc
        simp only [Op.result, hf, runStaged, if_neg hh, hd]
        rfl
      · cases hc
    · cases hc
    · cases hc

theorem State.enqueue_mirrors (q : Queued) (s : State) : (s.enqueue q).mirrors = s.mirrors := rfl

/-- A ready class T command that goes to its queue, on a unit that mirrors nothing. -/
theorem hostCommand_queued (op : Op) (r : Req) (s : State) (slot known : Option Nat) (h : s.ready op r = true)
    (hq : op.queues r (s.entered op r) = some (slot, known)) (hm : s.mirrors = false) :
    hostCommand op r s = .next (((s.entered op r).queued op.code r slot known).answer r.pair { frame := known }) := by
  have hm' : (s.entered op r).mirrors = false := by
    obtain ⟨a, b, c, e⟩ := s.entered_eq op r
    rw [e]; exact hm
  refine hostCommand_done op r s _ _ h ?_
  unfold Op.queues at hq
  split at hq
  · rename_i check apply hb
    split at hq
    · cases hq
    · rename_i hp
      simp only [Bool.or_eq_true, Bool.not_eq_true', not_or, Bool.not_eq_false] at hp
      split at hq
      · rename_i x hx
        cases hq
        simp only [Op.result, hb, Chk?.eq_ok hp.1, Chk?.eq_ok hp.2, queueTimed, hx, hm', Bool.false_eq_true, if_false]
        unfold State.mirrored
        rw [State.enqueue_mirrors, hm']
        rfl
      · cases hq
  · cases hq
  · cases hq

/-- A ready class T command that goes to its queue on a unit that mirrors it: an active member waits for the peer. -/
theorem hostCommand_mirrored (op : Op) (r : Req) (s : State) (slot known : Option Nat) (h : s.ready op r = true)
    (hq : op.queues r (s.entered op r) = some (slot, known)) (hm : s.mirrors = true) :
    hostCommand op r s = .next ((s.entered op r).conclude r.pair
      (.ok ((s.entered op r).queuedMirrored op.code r slot known, if s.pair.st = .active then .wait (.mirror (s.pair.mirrorSeq + 1) { frame := known })
        else .done { frame := known }))) := by
  have hp : (s.entered op r).pair = s.pair := by
    obtain ⟨a, b, c, e⟩ := s.entered_eq op r
    rw [e]
  have hm' : (s.entered op r).mirrors = true := by unfold State.mirrors; rw [hp]; exact hm
  rw [hostCommand_ready op r s h]
  unfold Op.queues at hq
  split at hq
  · rename_i check apply hb
    split at hq
    · cases hq
    · rename_i hp'
      simp only [Bool.or_eq_true, Bool.not_eq_true', not_or, Bool.not_eq_false] at hp'
      split at hq
      · rename_i x hx
        cases hq
        simp only [Op.result, hb, Chk?.eq_ok hp'.1, Chk?.eq_ok hp'.2, queueTimed, hx, hm', if_true]
        unfold State.mirrored
        rw [State.enqueue_mirrors, hm']
        simp only [Bool.not_true, Bool.false_eq_true, if_false]
        rw [← hp]
        rfl
      · cases hq
  · cases hq
  · cases hq

/-- A frame that the stack of a lane takes is used (R314, R315). -/
theorem State.receive_of_takesFrame (l : Nat) (rx : RxFrame) (f : State → State) (s : State) (h : s.takesFrame l rx = true) :
    s.receive l rx f = f s := by
  unfold State.takesFrame at h; unfold State.receive
  by_cases hl : l = 16
  · simp_all
  · rw [if_neg hl] at h ⊢
    unfold State.frameFits State.macReceive
    cases h2 : s.cfg.get .lane l with
    | none => simp_all
    | some d => simp_all

/-- A frame that the stack of a defined lane does not take is counted, and has no other effect (R314, R315, R338). -/
theorem State.receive_of_not_takesFrame (l : Nat) (rx : RxFrame) (f : State → State) (s : State) (d : Bytes) (hl : l ≠ 16)
    (hd : s.cfg.get .lane l = some d) (h : s.takesFrame l rx = false) :
    s.receive l rx f = if rx.goodFcs then s.updLane l fun x => { x with rxDrop := satInc x.rxDrop }
      else s.updLane l fun x => { x with rxFcs := satInc x.rxFcs } := by
  unfold State.takesFrame at h; unfold State.receive State.frameFits State.macReceive
  rw [if_neg hl] at h ⊢
  simp only [hd] at h ⊢
  cases hg : rx.goodFcs <;> simp_all <;> (intro a b; have h3 := h a b; omega)

end Sys2Proof.Machine
end

