-- ==== Sys2Proof/Laws/Kept.lean ====
section
/-! SUPPORT. No command changes the fuses or the queue, and every command keeps the flash in its canonical form. -/

namespace Sys2Proof.Machine

/-- From one state to another the fuses and the queue stay, and the flash keeps its canonical form. -/
def Kept (s t : State) : Prop :=
  t.fuses = s.fuses ∧ t.pending = s.pending ∧ (Memory.wf s.nv.flash = true → Memory.wf t.nv.flash = true)

theorem Kept.of_key {s t : State} (h : t.key = s.key) : Kept s t := by
  unfold State.key at h
  injection h with h1 h; injection h with h2 h3
  exact ⟨h1, h2, fun w => h3 ▸ w⟩

theorem Kept.trans {s t u : State} (h : Kept s t) (h' : Kept t u) : Kept s u :=
  ⟨h'.1.trans h.1, h'.2.1.trans h.2.1, fun w => h'.2.2 (h.2.2 w)⟩

theorem Kept.refl (s : State) : Kept s s := ⟨rfl, rfl, id⟩

/-- Only the flash and plain data beside it change. -/
theorem Kept.flash {s t : State} (m : Memory) (hk : t.key = (s.fuses, s.pending, m)) (hw : Memory.wf s.nv.flash = true → Memory.wf m = true) :
    Kept s t := by
  unfold State.key at hk
  injection hk with h1 h; injection h with h2 h3
  exact ⟨h1, h2, fun w => h3 ▸ hw w⟩

def OKept (s : State) (o : Outcome) : Prop := ∀ t, o = .next t → Kept s t

theorem OKept.of_keeps {s : State} {o : Outcome} (h : Keeps s.key o) : OKept s o := fun t e => .of_key (h t e)

theorem OKept.next {s t : State} (h : Kept s t) : OKept s (.next t) := by intro u e; cases e; exact h

/-- A flash operation keeps the canonical form, whether or not it completes. -/
theorem State.flashOp_kept (a len : Nat) (f : Memory → Memory) (g : Memory → Ans) (s : State)
    (hf : ∀ m, Memory.wf m = true → Memory.wf (f m) = true) : Kept s (s.flashOp a len f g).1 := by
  unfold State.flashOp
  refine .flash (if Config.flashDone s.fresh then f s.nv.flash
    else s.nv.flash.put a ((List.range len).map fun i => Config.flashByte s.fresh (a + i))) (by simp only [↓State.key_mk]) ?_
  intro w
  split
  · exact hf _ w
  · exact Memory.put_wf _ _ _ w

def Op.Kept (op : Op) : Prop := match op.body with
  | .run f => ∀ r s t x, f r s = .ok (t, x) → Sys2Proof.Machine.Kept s t
  | .staged _ => True
  | .timed _ _ => True

theorem Op.Kept.of_keeps {op : Op} (h : op.Keeps) : op.Kept := by
  unfold Op.Keeps at h
  unfold Op.Kept
  split <;> rename_i hb <;> rw [hb] at h
  · exact fun r s t x e => .of_key (h r s t x e)
  · trivial
  · trivial

theorem flashWriteOp_kept : flashWriteOp.Kept := by
  intro r s t x e
  simp only [bind, Except.bind] at e
  split at e
  · cases e
  · injection e with e
    have e := congrArg Prod.fst e
    simp only at e
    rw [← e]
    exact State.flashOp_kept _ _ _ _ s fun m w => Memory.program_wf _ m _ w

theorem flashEraseOp_kept : flashEraseOp.Kept := by
  intro r s t x e
  simp only [bind, Except.bind] at e
  split at e
  · cases e
  · split at e
    · cases e
    · split at e
      · cases e
      · injection e with e
        have e := congrArg Prod.fst e
        simp only at e
        rw [← e]
        exact State.flashOp_kept _ _ _ _ s fun m w => Memory.erase_wf m _ _ w

theorem Op.execute_kept (op : Op) (r : Req) (s t : State) (x : Res) (h : op.Kept) (e : op.execute r s = .ok (t, x)) : Sys2Proof.Machine.Kept s t := by
  unfold Op.execute at e
  split at e
  · cases e
  · split at e
    · cases e
    · unfold Op.Kept at h
      split at e <;> rename_i hb <;> rw [hb] at h
      · exact h r s t x e
      · exact .of_key (runStaged_key _ r s t x e)
      · split at e
        · cases e
        · split at e
          · cases e
          · exact .of_key (queueTimed_key _ r s t x e)

theorem State.conclude_kept (n : Nat) (x : Chk? (State × Res)) (s : State) (h : ∀ t r, x = .ok (t, r) → Kept s t) : Kept s (s.conclude n x) := by
  unfold State.conclude
  split
  · exact .of_key (State.answer_key _ _ _)
  · exact (h _ _ rfl).trans (.of_key (State.answer_key _ _ _))
  · exact (h _ _ rfl).trans (.of_key (State.waitFor_key _ _ _))

theorem State.concludeRead_kept (r : Req) (x : Chk? (State × Res)) (s : State) (h : ∀ t y, x = .ok (t, y) → Kept s t) :
    Kept s (s.concludeRead r x) := by
  unfold State.concludeRead
  split
  · exact .of_key (by rw [State.answer_key, State.foundPoison_key])
  · exact State.conclude_kept _ _ _ h

theorem State.start_kept (op : Op) (r : Req) (s : State) (h : op.Kept) : Sys2Proof.Machine.Kept s (s.start op r) := by
  unfold State.start
  split
  · exact .of_key (State.answer_key _ _ _)
  · simp only
    split
    · exact (Kept.of_key (State.touch_key _ _ _)).trans (State.concludeRead_kept _ _ _ fun t x e => Op.execute_kept op r _ t x h e)
    · exact .of_key (by rw [State.hold_key, State.touch_key])

theorem hostCommand_kept (op : Op) (r : Req) (s : State) (h : op.Kept) : OKept s (hostCommand op r s) := by
  unfold hostCommand
  split
  · exact .next (.refl s)
  · split
    · exact .next (.refl s)
    · exact .next ((Kept.of_key (State.accept_key _ _ _)).trans (State.start_kept op r _ h))

theorem State.spoilSlot_kept (b : Bool) (s : State) : Kept s (s.spoilSlot b) := by
  unfold State.spoilSlot
  simp only
  generalize hl : ((List.range 0x0100_0000).map fun i => Config.flashByte s.fresh (slotBase s.targetSlot + i)) = l
  refine .flash (if b = true then (s.nv.flash.put (slotBase s.targetSlot) l).erase (slotBase s.targetSlot) 256 else s.nv.flash.put (slotBase s.targetSlot) l) (by simp only [↓State.key_mk]) ?_
  intro w
  split
  · exact Memory.erase_wf _ _ _ (Memory.put_wf _ _ _ w)
  · exact Memory.put_wf _ _ _ w

theorem execUpdateCloseComplete_kept (o : WriteOutcome) (s : State) : OKept s (execUpdateCloseComplete o s) := by
  unfold execUpdateCloseComplete
  split
  · exact .next (.refl s)
  · split
    · exact .next (.of_key (State.endClose_key _ _ _ _))
    · split
      · refine .next ((Kept.flash (s := s) _ (by simp only [↓State.key_mk]; rfl) ?_).trans (.of_key (State.endClose_key _ _ _ _)))
        exact fun w => Memory.program_wf _ _ _ (Memory.erase_wf _ _ _ w)
      · exact .next ((State.spoilSlot_kept _ s).trans (.of_key (State.endClose_key _ _ _ _)))
      · exact .next ((State.spoilSlot_kept _ s).trans (.of_key (State.endClose_key _ _ _ _)))

theorem State.stopClose_kept (s : State) : Kept s s.stopClose := by
  unfold State.stopClose
  split
  · exact .refl s
  · split
    · exact (State.spoilSlot_kept _ s).trans (.of_key (State.endClose_key _ _ _ _))
    · exact .refl s

theorem State.enterHoldup_kept (s : State) : Kept s s.enterHoldup := by
  unfold State.enterHoldup
  split
  · exact .refl s
  · refine Kept.trans ?_ (State.stopClose_kept _)
    exact .of_key (by simp only [↓State.key_mk, ↓State.key_fold, State.key_foldl, State.key_ite, ite_self, implies_true,
      State.openFeeder_key, State.openOutputs_key, State.energyWrite_key])

theorem execHoldupEnter_kept (s : State) : OKept s (execHoldupEnter s) := by
  unfold execHoldupEnter
  refine .next ?_
  split
  · exact .of_key s.loseSupply_key
  · split
    · exact .refl s
    · exact s.enterHoldup_kept

theorem State.cutClose_kept (s : State) : Kept s s.cutClose := by
  unfold State.cutClose
  split
  · exact s.spoilSlot_kept _
  · exact .refl s

theorem State.selfReset_kept (b : Bool) (s : State) : Kept s (s.selfReset b) := by
  unfold State.selfReset
  dsimp only
  generalize hu : (List.range 64).foldl (fun (s : State) n => s.endSession n .reset) s = u
  have h : u.key = s.key := hu ▸ State.key_foldl _ _ _ fun _ _ => State.endSession_key _ _ _
  generalize hv : (u.cfg.all .feeder).foldl (fun (s : State) e => s.openOutputs s.cfg e.1) u = v
  have h' : v.key = u.key := hv ▸ State.key_foldl _ _ _ fun _ _ => State.openOutputs_key _ _ _
  exact (Kept.of_key (h'.trans h)).trans ((State.cutClose_kept v).trans (.of_key (by rw [State.restart_key, State.emit_key])))

theorem execPorstNAssert_kept (s : State) : OKept s (execPorstNAssert s) := by
  unfold execPorstNAssert
  refine .next ?_
  split
  · exact (s.selfReset_kept _).trans (.of_key (State.loseSupply_key _))
  · exact s.selfReset_kept _

theorem execResetDetectorTrip_kept (s : State) : OKept s (execResetDetectorTrip s) :=
  .next ((s.selfReset_kept _).trans (.of_key (State.loseSupply_key _)))

theorem execDeviceResetTimer_kept (s : State) : OKept s (execDeviceResetTimer s) := by
  unfold execDeviceResetTimer
  split
  · exact .next (.refl s)
  · exact .next ((Kept.of_key (State.advanceNow_key _ _)).trans (State.selfReset_kept _ _))

theorem State.checkTrip_kept (l : List Int) (s : State) : Kept s (s.checkTrip l) := by
  unfold State.checkTrip
  dsimp only
  split
  · exact (Kept.of_key (by rw [State.raise_key, State.count_key])).trans (State.selfReset_kept _ _)
  · exact .of_key (by rw [State.key_mk, State.key_fold])

theorem execMonitorSweep_kept (r : SweepReadings) (s : State) : OKept s (execMonitorSweep r s) := by
  unfold execMonitorSweep
  split
  · exact .next (.refl s)
  · refine .next ?_
    have hu : ∀ (u : State) (x : Readings), Kept s u → Kept s (((u.checkEnvelope x).checkAvs r.pmbus r.vout |>.stepAvs x).checkTrip x.temps) := by
      intro u x h
      exact (h.trans (.of_key (by rw [State.stepAvs_key, State.checkAvs_key, State.checkEnvelope_key]))).trans (State.checkTrip_kept _ _)
    refine hu _ _ ?_
    have h1 : ∀ t : State, Kept s t → ∀ c : Prop, [Decidable c] → Kept s (if c then t.enterHoldup else t) := by
      intro t h c _
      split
      · exact h.trans t.enterHoldup_kept
      · exact h
    refine h1 _ ?_ _
    refine .of_key ?_
    rw [State.checkBanks_key, eachIndexed_key _ _ State.checkVolt_key, eachIndexed_key _ _ State.checkTemp_key, State.key_mk, State.key_fold, State.advanceNow_key]

/-! ## Packets -/

theorem State.acceptPacket_kept (n k : Nat) (a : Option Nat) (b : Bytes) (s : State) (h : ∀ op ∈ catalogue, op.Kept) :
    Kept s (s.acceptPacket n k a b) := by
  unfold State.acceptPacket
  simp only
  have ha := Kept.of_key (State.accept_key (pkOp b) { packetReq n k b with sentTo := a } s)
  split
  · exact ha.trans (.of_key (State.answer_key _ _ _))
  · rename_i op e
    refine ha.trans (State.start_kept op _ _ (h op ?_))
    unfold checkPacket at e
    split at e
    · cases e
    · split at e
      · cases e
      · rename_i op' e'
        injection e with e
        exact e ▸ List.mem_of_find?_eq_some e'

theorem State.takeDatagram_kept (n : Nat) (s : State) (h : ∀ op ∈ catalogue, op.Kept) : Kept s (s.takeDatagram n) := by
  unfold State.takeDatagram
  simp only
  split
  · exact .refl s
  · have h0 : ∀ p, Kept s (s.setRing n p) := fun p => .of_key (State.setRing_key _ _ _)
    have h1 : ∀ (t : State) q, Kept s t → Kept s { t with hq := q } := fun t q k => k.trans (.of_key (by simp only [↓State.key_mk, ↓State.key_fold]))
    split
    · split
      · exact h1 _ _ (h0 _)
      · exact (h1 _ _ (h0 _)).trans (.of_key (State.emit_key _ _))
    · split
      · exact h1 _ _ (h0 _)
      · split
        · exact (h0 _).trans (State.acceptPacket_kept _ _ _ _ _ h)
        · exact .refl s

theorem execCommandAccept_kept (n : Nat) (b : Bytes) (k : Nat) (s : State) (h : ∀ op ∈ catalogue, op.Kept) : OKept s (execCommandAccept n b k s) := by
  unfold execCommandAccept onPair
  split
  · exact .next (.refl s)
  · refine .next ?_
    simp only
    split
    · exact .refl s
    · split
      · exact State.takeDatagram_kept n s h
      · split
        · unfold State.takeEntry
          simp only
          split
          · exact .refl s
          · exact (Kept.of_key (State.setRing_key _ _ _)).trans (State.acceptPacket_kept _ _ _ _ _ h)
        · exact .refl s

theorem State.begin__kept (n i : Nat) (x : Slot) (r : Req) (s : State) (h : ∀ op ∈ catalogue, op.Kept) : Kept s (s.begin_ n i x r) := by
  unfold State.begin_
  split
  · exact .refl s
  · rename_i op e
    have hj : ∀ (t u : State) (j : Jobs), Kept t u → Kept t { u with jobs := j } := fun t u j k =>
      k.trans (.of_key (by simp only [↓State.key_mk, ↓State.key_fold]))
    have hs : ∀ u : State, Kept s u → Kept s (u.concludeRead { r with pair := n } (op.execute r u)) := fun u k =>
      k.trans (State.concludeRead_kept _ _ _ fun t y e' => Op.execute_kept _ _ _ t y (h _ (List.mem_of_find?_eq_some e)) e')
    exact hj _ _ _ (hs _ (hj _ _ _ (.of_key (State.setRing_key _ _ _))))

theorem State.openFence_kept (n : Nat) (s : State) (h : ∀ op ∈ catalogue, op.Kept) : Kept s (s.openFence n) := by
  unfold State.openFence
  split
  · exact .refl s
  · split
    · exact State.begin__kept _ _ _ _ s h
    · exact State.begin__kept _ _ _ _ s h
    · exact .refl s

theorem State.tick_kept (s : State) (h : ∀ op ∈ catalogue, op.Kept) : Kept s s.tick := by
  have hf : ∀ (l : List Nat) (t : State), Kept t (l.foldl (fun (t : State) n => t.openFence n) t) := by
    intro l
    induction l with
    | nil => exact fun t => .refl t
    | cons n l ih => exact fun t => (State.openFence_kept n t h).trans (ih _)
  unfold State.tick
  refine Kept.trans (t := (s.elapse (nsT 40)).pollFences) ?_ (.of_key ?_)
  · exact (Kept.of_key (State.elapse_key _ _)).trans (hf _ _)
  · rw [State.pollBindings_key, State.releaseLines_key]

theorem opsGeneral_kept : ∀ op ∈ opsGeneral, op.Kept := by
  simp only [opsGeneral, List.forall_mem_cons, List.not_mem_nil, false_imp_iff, implies_true, and_true]
  exact ⟨.of_keeps identifyOp_key, .of_keeps sessionOpenOp_key, .of_keeps sessionCloseOp_key, .of_keeps sessionKeepaliveOp_key, .of_keeps tagStatusOp_key, .of_keeps timedCancelOp_key, .of_keeps sessionListOp_key⟩

theorem opsShow_kept : ∀ op ∈ opsShow, op.Kept := by
  simp only [opsShow, List.forall_mem_cons, List.not_mem_nil, false_imp_iff, implies_true, and_true]
  exact ⟨.of_keeps admitOp_key, .of_keeps basteBeginOp_key, .of_keeps basteAbortOp_key, .of_keeps pressConfigOp_key, .of_keeps admitReportOp_key, .of_keeps showStartOp_key, .of_keeps showArmOp_key, .of_keeps showDisarmOp_key, .of_keeps showStopOp_key, .of_keeps safeHoldEnterOp_key, .of_keeps showResumeOp_key, .of_keeps setEnvelopeOp_key, .of_keeps setFrameOp_key, .of_keeps setRoleOp_key, .of_keeps stageReadOp_key, .of_keeps configSaveOp_key, .of_keeps configLoadOp_key⟩

theorem opsPatch_kept : ∀ op ∈ opsPatch, op.Kept := by
  simp only [opsPatch, List.forall_mem_cons, List.not_mem_nil, false_imp_iff, implies_true, and_true]
  exact ⟨.of_keeps typeDefineOp_key, .of_keeps typeDeleteOp_key, .of_keeps patchAddOp_key, .of_keeps patchRemoveOp_key, .of_keeps patchReadOp_key, .of_keeps paramWriteOp_key, .of_keeps paramReleaseOp_key, .of_keeps paramReadOp_key, .of_keeps sacnRxMapOp_key⟩

theorem opsPlayback_kept : ∀ op ∈ opsPlayback, op.Kept := by
  simp only [opsPlayback, List.forall_mem_cons, List.not_mem_nil, false_imp_iff, implies_true, and_true]
  exact ⟨.of_keeps playbackDefineOp_key, .of_keeps cueStoreOp_key, .of_keeps playbackGoOp_key, .of_keeps playbackBackOp_key, .of_keeps playbackGotoOp_key, .of_keeps playbackReleaseOp_key, .of_keeps playbackLevelOp_key, .of_keeps playbackRateOp_key, .of_keeps curveTableOp_key, .of_keeps playbackStatusOp_key⟩

theorem opsEffect_kept : ∀ op ∈ opsEffect, op.Kept := by
  simp only [opsEffect, List.forall_mem_cons, List.not_mem_nil, false_imp_iff, implies_true, and_true]
  exact ⟨.of_keeps effectDefineOp_key, .of_keeps effectAssignOp_key, .of_keeps effectRateOp_key, .of_keeps effectSizeOp_key, .of_keeps effectStartOp_key, .of_keeps effectStopOp_key, .of_keeps effectPhaseOp_key, .of_keeps effectStatusOp_key⟩

theorem opsColour_kept : ∀ op ∈ opsColour, op.Kept := by
  simp only [opsColour, List.forall_mem_cons, List.not_mem_nil, false_imp_iff, implies_true, and_true]
  exact ⟨.of_keeps colourSpaceOp_key, .of_keeps mixStrategyOp_key, .of_keeps dimCurveOp_key, .of_keeps calsetLoadOp_key, .of_keeps sensorScriptOp_key, .of_keeps calRunOp_key, .of_keeps calResultOp_key, .of_keeps trimControlOp_key, .of_keeps trimStatusOp_key, .of_keeps calsetSaveOp_key⟩

theorem opsCanvas_kept : ∀ op ∈ opsCanvas, op.Kept := by
  simp only [opsCanvas, List.forall_mem_cons, List.not_mem_nil, false_imp_iff, implies_true, and_true]
  exact ⟨.of_keeps canvasDefineOp_key, .of_keeps layerDefineOp_key, .of_keeps pixmapLoadOp_key, .of_keeps videoRxDefineOp_key, .of_keeps witnessDefineOp_key, .of_keeps bufferRegisterOp_key, .of_keeps bufferReleaseOp_key, .of_keeps videoRxStatusOp_key⟩

theorem opsNetwork_kept : ∀ op ∈ opsNetwork, op.Kept := by
  simp only [opsNetwork, List.forall_mem_cons, List.not_mem_nil, false_imp_iff, implies_true, and_true]
  exact ⟨.of_keeps laneDefineOp_key, .of_keeps flowDefineOp_key, .of_keeps flowDeleteOp_key, .of_keeps sacnOutDefineOp_key, .of_keeps sacnRxDefineOp_key, .of_keeps ixnikDefineOp_key, .of_keeps scanDefineOp_key, .of_keeps dmxDefineOp_key, .of_keeps flowEnableOp_key, .of_keeps flowRinseOp_key, .of_keeps flowStatsOp_key, .of_keeps rdmRequestOp_key, .of_keeps rdmDiscoverOp_key⟩

theorem opsTime_kept : ∀ op ∈ opsTime, op.Kept := by
  simp only [opsTime, List.forall_mem_cons, List.not_mem_nil, false_imp_iff, implies_true, and_true]
  exact ⟨.of_keeps timeConfigOp_key, .of_keeps timeStatusOp_key, .of_keeps domainSelectOp_key, .of_keeps triggerDefineOp_key, .of_keeps latencyMeasureOp_key, .of_keeps latencyTableOp_key⟩

theorem opsPair_kept : ∀ op ∈ opsPair, op.Kept := by
  simp only [opsPair, List.forall_mem_cons, List.not_mem_nil, false_imp_iff, implies_true, and_true]
  exact ⟨.of_keeps pairDefineOp_key, .of_keeps pairStatusOp_key, .of_keeps pairMaintenanceOp_key, .of_keeps pairHandoverOp_key⟩

theorem opsMeter_kept : ∀ op ∈ opsMeter, op.Kept := by
  simp only [opsMeter, List.forall_mem_cons, List.not_mem_nil, false_imp_iff, implies_true, and_true]
  exact ⟨.of_keeps meterDefineOp_key, .of_keeps feederDefineOp_key, .of_keeps meterReadOp_key, .of_keeps feederResetOp_key, .of_keeps nightMeterReadOp_key⟩

theorem opsStorage_kept : ∀ op ∈ opsStorage, op.Kept := by
  simp only [opsStorage, List.forall_mem_cons, List.not_mem_nil, false_imp_iff, implies_true, and_true]
  exact ⟨.of_keeps updateOpenOp_key, .of_keeps updateBlockOp_key, .of_keeps updateCloseOp_key, .of_keeps updateAbortOp_key, .of_keeps updateActivateOp_key, .of_keeps healthConfirmOp_key, .of_keeps flashReadOp_key, flashWriteOp_kept, flashEraseOp_kept, .of_keeps ownerLockOp_key, .of_keeps personalityReadOp_key⟩

theorem opsHealth_kept : ∀ op ∈ opsHealth, op.Kept := by
  simp only [opsHealth, List.forall_mem_cons, List.not_mem_nil, false_imp_iff, implies_true, and_true]
  exact ⟨.of_keeps healthReadOp_key, .of_keeps eventRouteOp_key, .of_keeps eventMaskOp_key, .of_keeps logReadOp_key, .of_keeps countersReadOp_key, .of_keeps avsStatusOp_key⟩

theorem opsCheck_kept : ∀ op ∈ opsCheck, op.Kept := by
  simp only [opsCheck, List.forall_mem_cons, List.not_mem_nil, false_imp_iff, implies_true, and_true]
  exact ⟨.of_keeps chkStartOp_key, .of_keeps chkResultOp_key, .of_keeps chkExpectOp_key, .of_keeps chkModeOp_key⟩

theorem opsDiagnostic_kept : ∀ op ∈ opsDiagnostic, op.Kept := by
  simp only [opsDiagnostic, List.forall_mem_cons, List.not_mem_nil, false_imp_iff, implies_true, and_true]
  exact ⟨.of_keeps regReadOp_key, .of_keeps regWriteOp_key, .of_keeps echoOp_key, .of_keeps loopbackOp_key, .of_keeps serviceEnterOp_key, .of_keeps serviceExitOp_key, .of_keeps deviceResetOp_key⟩

theorem catalogue_kept : ∀ op ∈ catalogue, op.Kept := by
  intro op h
  simp only [catalogue, List.mem_append] at h
  rcases h with (((((((((((((h | h) | h) | h) | h) | h) | h) | h) | h) | h) | h) | h) | h) | h) | h
  · exact opsGeneral_kept op h
  · exact opsShow_kept op h
  · exact opsPatch_kept op h
  · exact opsPlayback_kept op h
  · exact opsEffect_kept op h
  · exact opsColour_kept op h
  · exact opsCanvas_kept op h
  · exact opsNetwork_kept op h
  · exact opsTime_kept op h
  · exact opsPair_kept op h
  · exact opsMeter_kept op h
  · exact opsStorage_kept op h
  · exact opsHealth_kept op h
  · exact opsCheck_kept op h
  · exact opsDiagnostic_kept op h

end Sys2Proof.Machine
end

