-- ==== Sys2Proof/Laws/State.lean ====
section
/-! SUPPORT. The fields of the state after each update: an update changes the field that it is for and no other, and the unit
that it names reads as updated while the others read as before. -/

namespace Sys2Proof.Machine

/-! ## emit -/

@[simp] theorem State.emit_fuses (o : Output) (s : State) : (s.emit o).fuses = s.fuses := rfl
@[simp] theorem State.emit_gl (o : Output) (s : State) : (s.emit o).gl = s.gl := rfl
@[simp] theorem State.emit_hq (o : Output) (s : State) : (s.emit o).hq = s.hq := rfl
@[simp] theorem State.emit_ses (o : Output) (s : State) : (s.emit o).ses = s.ses := rfl
@[simp] theorem State.emit_jobs (o : Output) (s : State) : (s.emit o).jobs = s.jobs := rfl
@[simp] theorem State.emit_rt (o : Output) (s : State) : (s.emit o).rt = s.rt := rfl
@[simp] theorem State.emit_stage (o : Output) (s : State) : (s.emit o).stage = s.stage := rfl
@[simp] theorem State.emit_force (o : Output) (s : State) : (s.emit o).force = s.force := rfl
@[simp] theorem State.emit_par (o : Output) (s : State) : (s.emit o).par = s.par := rfl
@[simp] theorem State.emit_pb (o : Output) (s : State) : (s.emit o).pb = s.pb := rfl
@[simp] theorem State.emit_gen (o : Output) (s : State) : (s.emit o).gen = s.gen := rfl
@[simp] theorem State.emit_sch (o : Output) (s : State) : (s.emit o).sch = s.sch := rfl
@[simp] theorem State.emit_tk (o : Output) (s : State) : (s.emit o).tk = s.tk := rfl
@[simp] theorem State.emit_pair (o : Output) (s : State) : (s.emit o).pair = s.pair := rfl
@[simp] theorem State.emit_lane (o : Output) (s : State) : (s.emit o).lane = s.lane := rfl
@[simp] theorem State.emit_flow (o : Output) (s : State) : (s.emit o).flow = s.flow := rfl
@[simp] theorem State.emit_rx (o : Output) (s : State) : (s.emit o).rx = s.rx := rfl
@[simp] theorem State.emit_ixrx (o : Output) (s : State) : (s.emit o).ixrx = s.ixrx := rfl
@[simp] theorem State.emit_col (o : Output) (s : State) : (s.emit o).col = s.col := rfl
@[simp] theorem State.emit_canvas (o : Output) (s : State) : (s.emit o).canvas = s.canvas := rfl
@[simp] theorem State.emit_layer (o : Output) (s : State) : (s.emit o).layer = s.layer := rfl
@[simp] theorem State.emit_buf (o : Output) (s : State) : (s.emit o).buf = s.buf := rfl
@[simp] theorem State.emit_video (o : Output) (s : State) : (s.emit o).video = s.video := rfl
@[simp] theorem State.emit_wit (o : Output) (s : State) : (s.emit o).wit = s.wit := rfl
@[simp] theorem State.emit_lat (o : Output) (s : State) : (s.emit o).lat = s.lat := rfl
@[simp] theorem State.emit_scan (o : Output) (s : State) : (s.emit o).scan = s.scan := rfl
@[simp] theorem State.emit_dmx (o : Output) (s : State) : (s.emit o).dmx = s.dmx := rfl
@[simp] theorem State.emit_met (o : Output) (s : State) : (s.emit o).met = s.met := rfl
@[simp] theorem State.emit_bak (o : Output) (s : State) : (s.emit o).bak = s.bak := rfl
@[simp] theorem State.emit_nv (o : Output) (s : State) : (s.emit o).nv = s.nv := rfl
@[simp] theorem State.emit_boot (o : Output) (s : State) : (s.emit o).boot = s.boot := rfl
@[simp] theorem State.emit_upd (o : Output) (s : State) : (s.emit o).upd = s.upd := rfl
@[simp] theorem State.emit_lock (o : Output) (s : State) : (s.emit o).lock = s.lock := rfl
@[simp] theorem State.emit_chkg (o : Output) (s : State) : (s.emit o).chkg = s.chkg := rfl
@[simp] theorem State.emit_chk (o : Output) (s : State) : (s.emit o).chk = s.chk := rfl
@[simp] theorem State.emit_img (o : Output) (s : State) : (s.emit o).img = s.img := rfl
@[simp] theorem State.emit_ledgerPage (o : Output) (s : State) : (s.emit o).ledgerPage = s.ledgerPage := rfl
@[simp] theorem State.emit_mon (o : Output) (s : State) : (s.emit o).mon = s.mon := rfl
@[simp] theorem State.emit_evt (o : Output) (s : State) : (s.emit o).evt = s.evt := rfl
@[simp] theorem State.emit_pcie (o : Output) (s : State) : (s.emit o).pcie = s.pcie := rfl
@[simp] theorem State.emit_ml (o : Output) (s : State) : (s.emit o).ml = s.ml := rfl
@[simp] theorem State.emit_nw (o : Output) (s : State) : (s.emit o).nw = s.nw := rfl
@[simp] theorem State.emit_pending (o : Output) (s : State) : (s.emit o).pending = s.pending := rfl
@[simp] theorem State.emit_now (o : Output) (s : State) : (s.emit o).now = s.now := rfl
@[simp] theorem State.emit_fresh (o : Output) (s : State) : (s.emit o).fresh = s.fresh := rfl

/-! ## drive -/

theorem State.drive_cases (b : Nat) (o : Output) (s : State) : s.drive b o = s ∨ s.drive b o = s.emit o := by
  unfold State.drive; split <;> simp

@[simp] theorem State.drive_fuses (b : Nat) (o : Output) (s : State) : (s.drive b o).fuses = s.fuses := by
  unfold State.drive; split <;> rfl
@[simp] theorem State.drive_gl (b : Nat) (o : Output) (s : State) : (s.drive b o).gl = s.gl := by
  unfold State.drive; split <;> rfl
@[simp] theorem State.drive_hq (b : Nat) (o : Output) (s : State) : (s.drive b o).hq = s.hq := by
  unfold State.drive; split <;> rfl
@[simp] theorem State.drive_ses (b : Nat) (o : Output) (s : State) : (s.drive b o).ses = s.ses := by
  unfold State.drive; split <;> rfl
@[simp] theorem State.drive_jobs (b : Nat) (o : Output) (s : State) : (s.drive b o).jobs = s.jobs := by
  unfold State.drive; split <;> rfl
@[simp] theorem State.drive_rt (b : Nat) (o : Output) (s : State) : (s.drive b o).rt = s.rt := by
  unfold State.drive; split <;> rfl
@[simp] theorem State.drive_stage (b : Nat) (o : Output) (s : State) : (s.drive b o).stage = s.stage := by
  unfold State.drive; split <;> rfl
@[simp] theorem State.drive_force (b : Nat) (o : Output) (s : State) : (s.drive b o).force = s.force := by
  unfold State.drive; split <;> rfl
@[simp] theorem State.drive_par (b : Nat) (o : Output) (s : State) : (s.drive b o).par = s.par := by
  unfold State.drive; split <;> rfl
@[simp] theorem State.drive_pb (b : Nat) (o : Output) (s : State) : (s.drive b o).pb = s.pb := by
  unfold State.drive; split <;> rfl
@[simp] theorem State.drive_gen (b : Nat) (o : Output) (s : State) : (s.drive b o).gen = s.gen := by
  unfold State.drive; split <;> rfl
@[simp] theorem State.drive_sch (b : Nat) (o : Output) (s : State) : (s.drive b o).sch = s.sch := by
  unfold State.drive; split <;> rfl
@[simp] theorem State.drive_tk (b : Nat) (o : Output) (s : State) : (s.drive b o).tk = s.tk := by
  unfold State.drive; split <;> rfl
@[simp] theorem State.drive_pair (b : Nat) (o : Output) (s : State) : (s.drive b o).pair = s.pair := by
  unfold State.drive; split <;> rfl
@[simp] theorem State.drive_lane (b : Nat) (o : Output) (s : State) : (s.drive b o).lane = s.lane := by
  unfold State.drive; split <;> rfl
@[simp] theorem State.drive_flow (b : Nat) (o : Output) (s : State) : (s.drive b o).flow = s.flow := by
  unfold State.drive; split <;> rfl
@[simp] theorem State.drive_rx (b : Nat) (o : Output) (s : State) : (s.drive b o).rx = s.rx := by
  unfold State.drive; split <;> rfl
@[simp] theorem State.drive_ixrx (b : Nat) (o : Output) (s : State) : (s.drive b o).ixrx = s.ixrx := by
  unfold State.drive; split <;> rfl
@[simp] theorem State.drive_col (b : Nat) (o : Output) (s : State) : (s.drive b o).col = s.col := by
  unfold State.drive; split <;> rfl
@[simp] theorem State.drive_canvas (b : Nat) (o : Output) (s : State) : (s.drive b o).canvas = s.canvas := by
  unfold State.drive; split <;> rfl
@[simp] theorem State.drive_layer (b : Nat) (o : Output) (s : State) : (s.drive b o).layer = s.layer := by
  unfold State.drive; split <;> rfl
@[simp] theorem State.drive_buf (b : Nat) (o : Output) (s : State) : (s.drive b o).buf = s.buf := by
  unfold State.drive; split <;> rfl
@[simp] theorem State.drive_video (b : Nat) (o : Output) (s : State) : (s.drive b o).video = s.video := by
  unfold State.drive; split <;> rfl
@[simp] theorem State.drive_wit (b : Nat) (o : Output) (s : State) : (s.drive b o).wit = s.wit := by
  unfold State.drive; split <;> rfl
@[simp] theorem State.drive_lat (b : Nat) (o : Output) (s : State) : (s.drive b o).lat = s.lat := by
  unfold State.drive; split <;> rfl
@[simp] theorem State.drive_scan (b : Nat) (o : Output) (s : State) : (s.drive b o).scan = s.scan := by
  unfold State.drive; split <;> rfl
@[simp] theorem State.drive_dmx (b : Nat) (o : Output) (s : State) : (s.drive b o).dmx = s.dmx := by
  unfold State.drive; split <;> rfl
@[simp] theorem State.drive_met (b : Nat) (o : Output) (s : State) : (s.drive b o).met = s.met := by
  unfold State.drive; split <;> rfl
@[simp] theorem State.drive_bak (b : Nat) (o : Output) (s : State) : (s.drive b o).bak = s.bak := by
  unfold State.drive; split <;> rfl
@[simp] theorem State.drive_nv (b : Nat) (o : Output) (s : State) : (s.drive b o).nv = s.nv := by
  unfold State.drive; split <;> rfl
@[simp] theorem State.drive_boot (b : Nat) (o : Output) (s : State) : (s.drive b o).boot = s.boot := by
  unfold State.drive; split <;> rfl
@[simp] theorem State.drive_upd (b : Nat) (o : Output) (s : State) : (s.drive b o).upd = s.upd := by
  unfold State.drive; split <;> rfl
@[simp] theorem State.drive_lock (b : Nat) (o : Output) (s : State) : (s.drive b o).lock = s.lock := by
  unfold State.drive; split <;> rfl
@[simp] theorem State.drive_chkg (b : Nat) (o : Output) (s : State) : (s.drive b o).chkg = s.chkg := by
  unfold State.drive; split <;> rfl
@[simp] theorem State.drive_chk (b : Nat) (o : Output) (s : State) : (s.drive b o).chk = s.chk := by
  unfold State.drive; split <;> rfl
@[simp] theorem State.drive_img (b : Nat) (o : Output) (s : State) : (s.drive b o).img = s.img := by
  unfold State.drive; split <;> rfl
@[simp] theorem State.drive_ledgerPage (b : Nat) (o : Output) (s : State) : (s.drive b o).ledgerPage = s.ledgerPage := by
  unfold State.drive; split <;> rfl
@[simp] theorem State.drive_mon (b : Nat) (o : Output) (s : State) : (s.drive b o).mon = s.mon := by
  unfold State.drive; split <;> rfl
@[simp] theorem State.drive_evt (b : Nat) (o : Output) (s : State) : (s.drive b o).evt = s.evt := by
  unfold State.drive; split <;> rfl
@[simp] theorem State.drive_pcie (b : Nat) (o : Output) (s : State) : (s.drive b o).pcie = s.pcie := by
  unfold State.drive; split <;> rfl
@[simp] theorem State.drive_ml (b : Nat) (o : Output) (s : State) : (s.drive b o).ml = s.ml := by
  unfold State.drive; split <;> rfl
@[simp] theorem State.drive_nw (b : Nat) (o : Output) (s : State) : (s.drive b o).nw = s.nw := by
  unfold State.drive; split <;> rfl
@[simp] theorem State.drive_pending (b : Nat) (o : Output) (s : State) : (s.drive b o).pending = s.pending := by
  unfold State.drive; split <;> rfl
@[simp] theorem State.drive_now (b : Nat) (o : Output) (s : State) : (s.drive b o).now = s.now := by
  unfold State.drive; split <;> rfl
@[simp] theorem State.drive_fresh (b : Nat) (o : Output) (s : State) : (s.drive b o).fresh = s.fresh := by
  unfold State.drive; split <;> rfl

/-! ## setRing -/

@[simp] theorem State.setRing_fuses (n : Nat) (p : RingPair) (s : State) : (s.setRing n p).fuses = s.fuses := rfl
@[simp] theorem State.setRing_gl (n : Nat) (p : RingPair) (s : State) : (s.setRing n p).gl = s.gl := rfl
@[simp] theorem State.setRing_ses (n : Nat) (p : RingPair) (s : State) : (s.setRing n p).ses = s.ses := rfl
@[simp] theorem State.setRing_jobs (n : Nat) (p : RingPair) (s : State) : (s.setRing n p).jobs = s.jobs := rfl
@[simp] theorem State.setRing_rt (n : Nat) (p : RingPair) (s : State) : (s.setRing n p).rt = s.rt := rfl
@[simp] theorem State.setRing_stage (n : Nat) (p : RingPair) (s : State) : (s.setRing n p).stage = s.stage := rfl
@[simp] theorem State.setRing_force (n : Nat) (p : RingPair) (s : State) : (s.setRing n p).force = s.force := rfl
@[simp] theorem State.setRing_par (n : Nat) (p : RingPair) (s : State) : (s.setRing n p).par = s.par := rfl
@[simp] theorem State.setRing_pb (n : Nat) (p : RingPair) (s : State) : (s.setRing n p).pb = s.pb := rfl
@[simp] theorem State.setRing_gen (n : Nat) (p : RingPair) (s : State) : (s.setRing n p).gen = s.gen := rfl
@[simp] theorem State.setRing_sch (n : Nat) (p : RingPair) (s : State) : (s.setRing n p).sch = s.sch := rfl
@[simp] theorem State.setRing_tk (n : Nat) (p : RingPair) (s : State) : (s.setRing n p).tk = s.tk := rfl
@[simp] theorem State.setRing_pair (n : Nat) (p : RingPair) (s : State) : (s.setRing n p).pair = s.pair := rfl
@[simp] theorem State.setRing_lane (n : Nat) (p : RingPair) (s : State) : (s.setRing n p).lane = s.lane := rfl
@[simp] theorem State.setRing_flow (n : Nat) (p : RingPair) (s : State) : (s.setRing n p).flow = s.flow := rfl
@[simp] theorem State.setRing_rx (n : Nat) (p : RingPair) (s : State) : (s.setRing n p).rx = s.rx := rfl
@[simp] theorem State.setRing_ixrx (n : Nat) (p : RingPair) (s : State) : (s.setRing n p).ixrx = s.ixrx := rfl
@[simp] theorem State.setRing_col (n : Nat) (p : RingPair) (s : State) : (s.setRing n p).col = s.col := rfl
@[simp] theorem State.setRing_canvas (n : Nat) (p : RingPair) (s : State) : (s.setRing n p).canvas = s.canvas := rfl
@[simp] theorem State.setRing_layer (n : Nat) (p : RingPair) (s : State) : (s.setRing n p).layer = s.layer := rfl
@[simp] theorem State.setRing_buf (n : Nat) (p : RingPair) (s : State) : (s.setRing n p).buf = s.buf := rfl
@[simp] theorem State.setRing_video (n : Nat) (p : RingPair) (s : State) : (s.setRing n p).video = s.video := rfl
@[simp] theorem State.setRing_wit (n : Nat) (p : RingPair) (s : State) : (s.setRing n p).wit = s.wit := rfl
@[simp] theorem State.setRing_lat (n : Nat) (p : RingPair) (s : State) : (s.setRing n p).lat = s.lat := rfl
@[simp] theorem State.setRing_scan (n : Nat) (p : RingPair) (s : State) : (s.setRing n p).scan = s.scan := rfl
@[simp] theorem State.setRing_dmx (n : Nat) (p : RingPair) (s : State) : (s.setRing n p).dmx = s.dmx := rfl
@[simp] theorem State.setRing_met (n : Nat) (p : RingPair) (s : State) : (s.setRing n p).met = s.met := rfl
@[simp] theorem State.setRing_bak (n : Nat) (p : RingPair) (s : State) : (s.setRing n p).bak = s.bak := rfl
@[simp] theorem State.setRing_nv (n : Nat) (p : RingPair) (s : State) : (s.setRing n p).nv = s.nv := rfl
@[simp] theorem State.setRing_boot (n : Nat) (p : RingPair) (s : State) : (s.setRing n p).boot = s.boot := rfl
@[simp] theorem State.setRing_upd (n : Nat) (p : RingPair) (s : State) : (s.setRing n p).upd = s.upd := rfl
@[simp] theorem State.setRing_lock (n : Nat) (p : RingPair) (s : State) : (s.setRing n p).lock = s.lock := rfl
@[simp] theorem State.setRing_chkg (n : Nat) (p : RingPair) (s : State) : (s.setRing n p).chkg = s.chkg := rfl
@[simp] theorem State.setRing_chk (n : Nat) (p : RingPair) (s : State) : (s.setRing n p).chk = s.chk := rfl
@[simp] theorem State.setRing_img (n : Nat) (p : RingPair) (s : State) : (s.setRing n p).img = s.img := rfl
@[simp] theorem State.setRing_ledgerPage (n : Nat) (p : RingPair) (s : State) : (s.setRing n p).ledgerPage = s.ledgerPage := rfl
@[simp] theorem State.setRing_mon (n : Nat) (p : RingPair) (s : State) : (s.setRing n p).mon = s.mon := rfl
@[simp] theorem State.setRing_evt (n : Nat) (p : RingPair) (s : State) : (s.setRing n p).evt = s.evt := rfl
@[simp] theorem State.setRing_pcie (n : Nat) (p : RingPair) (s : State) : (s.setRing n p).pcie = s.pcie := rfl
@[simp] theorem State.setRing_ml (n : Nat) (p : RingPair) (s : State) : (s.setRing n p).ml = s.ml := rfl
@[simp] theorem State.setRing_nw (n : Nat) (p : RingPair) (s : State) : (s.setRing n p).nw = s.nw := rfl
@[simp] theorem State.setRing_pending (n : Nat) (p : RingPair) (s : State) : (s.setRing n p).pending = s.pending := rfl
@[simp] theorem State.setRing_out (n : Nat) (p : RingPair) (s : State) : (s.setRing n p).out = s.out := rfl
@[simp] theorem State.setRing_now (n : Nat) (p : RingPair) (s : State) : (s.setRing n p).now = s.now := rfl
@[simp] theorem State.setRing_fresh (n : Nat) (p : RingPair) (s : State) : (s.setRing n p).fresh = s.fresh := rfl

/-! ## updLane -/

@[simp] theorem State.updLane_fuses (n : Nat) (f : Lane → Lane) (s : State) : (s.updLane n f).fuses = s.fuses := rfl
@[simp] theorem State.updLane_gl (n : Nat) (f : Lane → Lane) (s : State) : (s.updLane n f).gl = s.gl := rfl
@[simp] theorem State.updLane_hq (n : Nat) (f : Lane → Lane) (s : State) : (s.updLane n f).hq = s.hq := rfl
@[simp] theorem State.updLane_ses (n : Nat) (f : Lane → Lane) (s : State) : (s.updLane n f).ses = s.ses := rfl
@[simp] theorem State.updLane_jobs (n : Nat) (f : Lane → Lane) (s : State) : (s.updLane n f).jobs = s.jobs := rfl
@[simp] theorem State.updLane_rt (n : Nat) (f : Lane → Lane) (s : State) : (s.updLane n f).rt = s.rt := rfl
@[simp] theorem State.updLane_stage (n : Nat) (f : Lane → Lane) (s : State) : (s.updLane n f).stage = s.stage := rfl
@[simp] theorem State.updLane_force (n : Nat) (f : Lane → Lane) (s : State) : (s.updLane n f).force = s.force := rfl
@[simp] theorem State.updLane_par (n : Nat) (f : Lane → Lane) (s : State) : (s.updLane n f).par = s.par := rfl
@[simp] theorem State.updLane_pb (n : Nat) (f : Lane → Lane) (s : State) : (s.updLane n f).pb = s.pb := rfl
@[simp] theorem State.updLane_gen (n : Nat) (f : Lane → Lane) (s : State) : (s.updLane n f).gen = s.gen := rfl
@[simp] theorem State.updLane_sch (n : Nat) (f : Lane → Lane) (s : State) : (s.updLane n f).sch = s.sch := rfl
@[simp] theorem State.updLane_tk (n : Nat) (f : Lane → Lane) (s : State) : (s.updLane n f).tk = s.tk := rfl
@[simp] theorem State.updLane_pair (n : Nat) (f : Lane → Lane) (s : State) : (s.updLane n f).pair = s.pair := rfl
@[simp] theorem State.updLane_flow (n : Nat) (f : Lane → Lane) (s : State) : (s.updLane n f).flow = s.flow := rfl
@[simp] theorem State.updLane_rx (n : Nat) (f : Lane → Lane) (s : State) : (s.updLane n f).rx = s.rx := rfl
@[simp] theorem State.updLane_ixrx (n : Nat) (f : Lane → Lane) (s : State) : (s.updLane n f).ixrx = s.ixrx := rfl
@[simp] theorem State.updLane_col (n : Nat) (f : Lane → Lane) (s : State) : (s.updLane n f).col = s.col := rfl
@[simp] theorem State.updLane_canvas (n : Nat) (f : Lane → Lane) (s : State) : (s.updLane n f).canvas = s.canvas := rfl
@[simp] theorem State.updLane_layer (n : Nat) (f : Lane → Lane) (s : State) : (s.updLane n f).layer = s.layer := rfl
@[simp] theorem State.updLane_buf (n : Nat) (f : Lane → Lane) (s : State) : (s.updLane n f).buf = s.buf := rfl
@[simp] theorem State.updLane_video (n : Nat) (f : Lane → Lane) (s : State) : (s.updLane n f).video = s.video := rfl
@[simp] theorem State.updLane_wit (n : Nat) (f : Lane → Lane) (s : State) : (s.updLane n f).wit = s.wit := rfl
@[simp] theorem State.updLane_lat (n : Nat) (f : Lane → Lane) (s : State) : (s.updLane n f).lat = s.lat := rfl
@[simp] theorem State.updLane_scan (n : Nat) (f : Lane → Lane) (s : State) : (s.updLane n f).scan = s.scan := rfl
@[simp] theorem State.updLane_dmx (n : Nat) (f : Lane → Lane) (s : State) : (s.updLane n f).dmx = s.dmx := rfl
@[simp] theorem State.updLane_met (n : Nat) (f : Lane → Lane) (s : State) : (s.updLane n f).met = s.met := rfl
@[simp] theorem State.updLane_bak (n : Nat) (f : Lane → Lane) (s : State) : (s.updLane n f).bak = s.bak := rfl
@[simp] theorem State.updLane_nv (n : Nat) (f : Lane → Lane) (s : State) : (s.updLane n f).nv = s.nv := rfl
@[simp] theorem State.updLane_boot (n : Nat) (f : Lane → Lane) (s : State) : (s.updLane n f).boot = s.boot := rfl
@[simp] theorem State.updLane_upd (n : Nat) (f : Lane → Lane) (s : State) : (s.updLane n f).upd = s.upd := rfl
@[simp] theorem State.updLane_lock (n : Nat) (f : Lane → Lane) (s : State) : (s.updLane n f).lock = s.lock := rfl
@[simp] theorem State.updLane_chkg (n : Nat) (f : Lane → Lane) (s : State) : (s.updLane n f).chkg = s.chkg := rfl
@[simp] theorem State.updLane_chk (n : Nat) (f : Lane → Lane) (s : State) : (s.updLane n f).chk = s.chk := rfl
@[simp] theorem State.updLane_img (n : Nat) (f : Lane → Lane) (s : State) : (s.updLane n f).img = s.img := rfl
@[simp] theorem State.updLane_ledgerPage (n : Nat) (f : Lane → Lane) (s : State) : (s.updLane n f).ledgerPage = s.ledgerPage := rfl
@[simp] theorem State.updLane_mon (n : Nat) (f : Lane → Lane) (s : State) : (s.updLane n f).mon = s.mon := rfl
@[simp] theorem State.updLane_evt (n : Nat) (f : Lane → Lane) (s : State) : (s.updLane n f).evt = s.evt := rfl
@[simp] theorem State.updLane_pcie (n : Nat) (f : Lane → Lane) (s : State) : (s.updLane n f).pcie = s.pcie := rfl
@[simp] theorem State.updLane_ml (n : Nat) (f : Lane → Lane) (s : State) : (s.updLane n f).ml = s.ml := rfl
@[simp] theorem State.updLane_nw (n : Nat) (f : Lane → Lane) (s : State) : (s.updLane n f).nw = s.nw := rfl
@[simp] theorem State.updLane_pending (n : Nat) (f : Lane → Lane) (s : State) : (s.updLane n f).pending = s.pending := rfl
@[simp] theorem State.updLane_out (n : Nat) (f : Lane → Lane) (s : State) : (s.updLane n f).out = s.out := rfl
@[simp] theorem State.updLane_now (n : Nat) (f : Lane → Lane) (s : State) : (s.updLane n f).now = s.now := rfl
@[simp] theorem State.updLane_fresh (n : Nat) (f : Lane → Lane) (s : State) : (s.updLane n f).fresh = s.fresh := rfl

/-! ## updFlow -/

@[simp] theorem State.updFlow_fuses (n : Nat) (f : Flow → Flow) (s : State) : (s.updFlow n f).fuses = s.fuses := rfl
@[simp] theorem State.updFlow_gl (n : Nat) (f : Flow → Flow) (s : State) : (s.updFlow n f).gl = s.gl := rfl
@[simp] theorem State.updFlow_hq (n : Nat) (f : Flow → Flow) (s : State) : (s.updFlow n f).hq = s.hq := rfl
@[simp] theorem State.updFlow_ses (n : Nat) (f : Flow → Flow) (s : State) : (s.updFlow n f).ses = s.ses := rfl
@[simp] theorem State.updFlow_jobs (n : Nat) (f : Flow → Flow) (s : State) : (s.updFlow n f).jobs = s.jobs := rfl
@[simp] theorem State.updFlow_rt (n : Nat) (f : Flow → Flow) (s : State) : (s.updFlow n f).rt = s.rt := rfl
@[simp] theorem State.updFlow_stage (n : Nat) (f : Flow → Flow) (s : State) : (s.updFlow n f).stage = s.stage := rfl
@[simp] theorem State.updFlow_force (n : Nat) (f : Flow → Flow) (s : State) : (s.updFlow n f).force = s.force := rfl
@[simp] theorem State.updFlow_par (n : Nat) (f : Flow → Flow) (s : State) : (s.updFlow n f).par = s.par := rfl
@[simp] theorem State.updFlow_pb (n : Nat) (f : Flow → Flow) (s : State) : (s.updFlow n f).pb = s.pb := rfl
@[simp] theorem State.updFlow_gen (n : Nat) (f : Flow → Flow) (s : State) : (s.updFlow n f).gen = s.gen := rfl
@[simp] theorem State.updFlow_sch (n : Nat) (f : Flow → Flow) (s : State) : (s.updFlow n f).sch = s.sch := rfl
@[simp] theorem State.updFlow_tk (n : Nat) (f : Flow → Flow) (s : State) : (s.updFlow n f).tk = s.tk := rfl
@[simp] theorem State.updFlow_pair (n : Nat) (f : Flow → Flow) (s : State) : (s.updFlow n f).pair = s.pair := rfl
@[simp] theorem State.updFlow_lane (n : Nat) (f : Flow → Flow) (s : State) : (s.updFlow n f).lane = s.lane := rfl
@[simp] theorem State.updFlow_rx (n : Nat) (f : Flow → Flow) (s : State) : (s.updFlow n f).rx = s.rx := rfl
@[simp] theorem State.updFlow_ixrx (n : Nat) (f : Flow → Flow) (s : State) : (s.updFlow n f).ixrx = s.ixrx := rfl
@[simp] theorem State.updFlow_col (n : Nat) (f : Flow → Flow) (s : State) : (s.updFlow n f).col = s.col := rfl
@[simp] theorem State.updFlow_canvas (n : Nat) (f : Flow → Flow) (s : State) : (s.updFlow n f).canvas = s.canvas := rfl
@[simp] theorem State.updFlow_layer (n : Nat) (f : Flow → Flow) (s : State) : (s.updFlow n f).layer = s.layer := rfl
@[simp] theorem State.updFlow_buf (n : Nat) (f : Flow → Flow) (s : State) : (s.updFlow n f).buf = s.buf := rfl
@[simp] theorem State.updFlow_video (n : Nat) (f : Flow → Flow) (s : State) : (s.updFlow n f).video = s.video := rfl
@[simp] theorem State.updFlow_wit (n : Nat) (f : Flow → Flow) (s : State) : (s.updFlow n f).wit = s.wit := rfl
@[simp] theorem State.updFlow_lat (n : Nat) (f : Flow → Flow) (s : State) : (s.updFlow n f).lat = s.lat := rfl
@[simp] theorem State.updFlow_scan (n : Nat) (f : Flow → Flow) (s : State) : (s.updFlow n f).scan = s.scan := rfl
@[simp] theorem State.updFlow_dmx (n : Nat) (f : Flow → Flow) (s : State) : (s.updFlow n f).dmx = s.dmx := rfl
@[simp] theorem State.updFlow_met (n : Nat) (f : Flow → Flow) (s : State) : (s.updFlow n f).met = s.met := rfl
@[simp] theorem State.updFlow_bak (n : Nat) (f : Flow → Flow) (s : State) : (s.updFlow n f).bak = s.bak := rfl
@[simp] theorem State.updFlow_nv (n : Nat) (f : Flow → Flow) (s : State) : (s.updFlow n f).nv = s.nv := rfl
@[simp] theorem State.updFlow_boot (n : Nat) (f : Flow → Flow) (s : State) : (s.updFlow n f).boot = s.boot := rfl
@[simp] theorem State.updFlow_upd (n : Nat) (f : Flow → Flow) (s : State) : (s.updFlow n f).upd = s.upd := rfl
@[simp] theorem State.updFlow_lock (n : Nat) (f : Flow → Flow) (s : State) : (s.updFlow n f).lock = s.lock := rfl
@[simp] theorem State.updFlow_chkg (n : Nat) (f : Flow → Flow) (s : State) : (s.updFlow n f).chkg = s.chkg := rfl
@[simp] theorem State.updFlow_chk (n : Nat) (f : Flow → Flow) (s : State) : (s.updFlow n f).chk = s.chk := rfl
@[simp] theorem State.updFlow_img (n : Nat) (f : Flow → Flow) (s : State) : (s.updFlow n f).img = s.img := rfl
@[simp] theorem State.updFlow_ledgerPage (n : Nat) (f : Flow → Flow) (s : State) : (s.updFlow n f).ledgerPage = s.ledgerPage := rfl
@[simp] theorem State.updFlow_mon (n : Nat) (f : Flow → Flow) (s : State) : (s.updFlow n f).mon = s.mon := rfl
@[simp] theorem State.updFlow_evt (n : Nat) (f : Flow → Flow) (s : State) : (s.updFlow n f).evt = s.evt := rfl
@[simp] theorem State.updFlow_pcie (n : Nat) (f : Flow → Flow) (s : State) : (s.updFlow n f).pcie = s.pcie := rfl
@[simp] theorem State.updFlow_ml (n : Nat) (f : Flow → Flow) (s : State) : (s.updFlow n f).ml = s.ml := rfl
@[simp] theorem State.updFlow_nw (n : Nat) (f : Flow → Flow) (s : State) : (s.updFlow n f).nw = s.nw := rfl
@[simp] theorem State.updFlow_pending (n : Nat) (f : Flow → Flow) (s : State) : (s.updFlow n f).pending = s.pending := rfl
@[simp] theorem State.updFlow_out (n : Nat) (f : Flow → Flow) (s : State) : (s.updFlow n f).out = s.out := rfl
@[simp] theorem State.updFlow_now (n : Nat) (f : Flow → Flow) (s : State) : (s.updFlow n f).now = s.now := rfl
@[simp] theorem State.updFlow_fresh (n : Nat) (f : Flow → Flow) (s : State) : (s.updFlow n f).fresh = s.fresh := rfl

/-! ## updLayer -/

@[simp] theorem State.updLayer_fuses (n : Nat) (f : Layer → Layer) (s : State) : (s.updLayer n f).fuses = s.fuses := rfl
@[simp] theorem State.updLayer_gl (n : Nat) (f : Layer → Layer) (s : State) : (s.updLayer n f).gl = s.gl := rfl
@[simp] theorem State.updLayer_hq (n : Nat) (f : Layer → Layer) (s : State) : (s.updLayer n f).hq = s.hq := rfl
@[simp] theorem State.updLayer_ses (n : Nat) (f : Layer → Layer) (s : State) : (s.updLayer n f).ses = s.ses := rfl
@[simp] theorem State.updLayer_jobs (n : Nat) (f : Layer → Layer) (s : State) : (s.updLayer n f).jobs = s.jobs := rfl
@[simp] theorem State.updLayer_rt (n : Nat) (f : Layer → Layer) (s : State) : (s.updLayer n f).rt = s.rt := rfl
@[simp] theorem State.updLayer_stage (n : Nat) (f : Layer → Layer) (s : State) : (s.updLayer n f).stage = s.stage := rfl
@[simp] theorem State.updLayer_force (n : Nat) (f : Layer → Layer) (s : State) : (s.updLayer n f).force = s.force := rfl
@[simp] theorem State.updLayer_par (n : Nat) (f : Layer → Layer) (s : State) : (s.updLayer n f).par = s.par := rfl
@[simp] theorem State.updLayer_pb (n : Nat) (f : Layer → Layer) (s : State) : (s.updLayer n f).pb = s.pb := rfl
@[simp] theorem State.updLayer_gen (n : Nat) (f : Layer → Layer) (s : State) : (s.updLayer n f).gen = s.gen := rfl
@[simp] theorem State.updLayer_sch (n : Nat) (f : Layer → Layer) (s : State) : (s.updLayer n f).sch = s.sch := rfl
@[simp] theorem State.updLayer_tk (n : Nat) (f : Layer → Layer) (s : State) : (s.updLayer n f).tk = s.tk := rfl
@[simp] theorem State.updLayer_pair (n : Nat) (f : Layer → Layer) (s : State) : (s.updLayer n f).pair = s.pair := rfl
@[simp] theorem State.updLayer_lane (n : Nat) (f : Layer → Layer) (s : State) : (s.updLayer n f).lane = s.lane := rfl
@[simp] theorem State.updLayer_flow (n : Nat) (f : Layer → Layer) (s : State) : (s.updLayer n f).flow = s.flow := rfl
@[simp] theorem State.updLayer_rx (n : Nat) (f : Layer → Layer) (s : State) : (s.updLayer n f).rx = s.rx := rfl
@[simp] theorem State.updLayer_ixrx (n : Nat) (f : Layer → Layer) (s : State) : (s.updLayer n f).ixrx = s.ixrx := rfl
@[simp] theorem State.updLayer_col (n : Nat) (f : Layer → Layer) (s : State) : (s.updLayer n f).col = s.col := rfl
@[simp] theorem State.updLayer_canvas (n : Nat) (f : Layer → Layer) (s : State) : (s.updLayer n f).canvas = s.canvas := rfl
@[simp] theorem State.updLayer_buf (n : Nat) (f : Layer → Layer) (s : State) : (s.updLayer n f).buf = s.buf := rfl
@[simp] theorem State.updLayer_video (n : Nat) (f : Layer → Layer) (s : State) : (s.updLayer n f).video = s.video := rfl
@[simp] theorem State.updLayer_wit (n : Nat) (f : Layer → Layer) (s : State) : (s.updLayer n f).wit = s.wit := rfl
@[simp] theorem State.updLayer_lat (n : Nat) (f : Layer → Layer) (s : State) : (s.updLayer n f).lat = s.lat := rfl
@[simp] theorem State.updLayer_scan (n : Nat) (f : Layer → Layer) (s : State) : (s.updLayer n f).scan = s.scan := rfl
@[simp] theorem State.updLayer_dmx (n : Nat) (f : Layer → Layer) (s : State) : (s.updLayer n f).dmx = s.dmx := rfl
@[simp] theorem State.updLayer_met (n : Nat) (f : Layer → Layer) (s : State) : (s.updLayer n f).met = s.met := rfl
@[simp] theorem State.updLayer_bak (n : Nat) (f : Layer → Layer) (s : State) : (s.updLayer n f).bak = s.bak := rfl
@[simp] theorem State.updLayer_nv (n : Nat) (f : Layer → Layer) (s : State) : (s.updLayer n f).nv = s.nv := rfl
@[simp] theorem State.updLayer_boot (n : Nat) (f : Layer → Layer) (s : State) : (s.updLayer n f).boot = s.boot := rfl
@[simp] theorem State.updLayer_upd (n : Nat) (f : Layer → Layer) (s : State) : (s.updLayer n f).upd = s.upd := rfl
@[simp] theorem State.updLayer_lock (n : Nat) (f : Layer → Layer) (s : State) : (s.updLayer n f).lock = s.lock := rfl
@[simp] theorem State.updLayer_chkg (n : Nat) (f : Layer → Layer) (s : State) : (s.updLayer n f).chkg = s.chkg := rfl
@[simp] theorem State.updLayer_chk (n : Nat) (f : Layer → Layer) (s : State) : (s.updLayer n f).chk = s.chk := rfl
@[simp] theorem State.updLayer_img (n : Nat) (f : Layer → Layer) (s : State) : (s.updLayer n f).img = s.img := rfl
@[simp] theorem State.updLayer_ledgerPage (n : Nat) (f : Layer → Layer) (s : State) : (s.updLayer n f).ledgerPage = s.ledgerPage := rfl
@[simp] theorem State.updLayer_mon (n : Nat) (f : Layer → Layer) (s : State) : (s.updLayer n f).mon = s.mon := rfl
@[simp] theorem State.updLayer_evt (n : Nat) (f : Layer → Layer) (s : State) : (s.updLayer n f).evt = s.evt := rfl
@[simp] theorem State.updLayer_pcie (n : Nat) (f : Layer → Layer) (s : State) : (s.updLayer n f).pcie = s.pcie := rfl
@[simp] theorem State.updLayer_ml (n : Nat) (f : Layer → Layer) (s : State) : (s.updLayer n f).ml = s.ml := rfl
@[simp] theorem State.updLayer_nw (n : Nat) (f : Layer → Layer) (s : State) : (s.updLayer n f).nw = s.nw := rfl
@[simp] theorem State.updLayer_pending (n : Nat) (f : Layer → Layer) (s : State) : (s.updLayer n f).pending = s.pending := rfl
@[simp] theorem State.updLayer_out (n : Nat) (f : Layer → Layer) (s : State) : (s.updLayer n f).out = s.out := rfl
@[simp] theorem State.updLayer_now (n : Nat) (f : Layer → Layer) (s : State) : (s.updLayer n f).now = s.now := rfl
@[simp] theorem State.updLayer_fresh (n : Nat) (f : Layer → Layer) (s : State) : (s.updLayer n f).fresh = s.fresh := rfl

/-! ## updCanvas -/

@[simp] theorem State.updCanvas_fuses (n : Nat) (f : Canvas → Canvas) (s : State) : (s.updCanvas n f).fuses = s.fuses := rfl
@[simp] theorem State.updCanvas_gl (n : Nat) (f : Canvas → Canvas) (s : State) : (s.updCanvas n f).gl = s.gl := rfl
@[simp] theorem State.updCanvas_hq (n : Nat) (f : Canvas → Canvas) (s : State) : (s.updCanvas n f).hq = s.hq := rfl
@[simp] theorem State.updCanvas_ses (n : Nat) (f : Canvas → Canvas) (s : State) : (s.updCanvas n f).ses = s.ses := rfl
@[simp] theorem State.updCanvas_jobs (n : Nat) (f : Canvas → Canvas) (s : State) : (s.updCanvas n f).jobs = s.jobs := rfl
@[simp] theorem State.updCanvas_rt (n : Nat) (f : Canvas → Canvas) (s : State) : (s.updCanvas n f).rt = s.rt := rfl
@[simp] theorem State.updCanvas_stage (n : Nat) (f : Canvas → Canvas) (s : State) : (s.updCanvas n f).stage = s.stage := rfl
@[simp] theorem State.updCanvas_force (n : Nat) (f : Canvas → Canvas) (s : State) : (s.updCanvas n f).force = s.force := rfl
@[simp] theorem State.updCanvas_par (n : Nat) (f : Canvas → Canvas) (s : State) : (s.updCanvas n f).par = s.par := rfl
@[simp] theorem State.updCanvas_pb (n : Nat) (f : Canvas → Canvas) (s : State) : (s.updCanvas n f).pb = s.pb := rfl
@[simp] theorem State.updCanvas_gen (n : Nat) (f : Canvas → Canvas) (s : State) : (s.updCanvas n f).gen = s.gen := rfl
@[simp] theorem State.updCanvas_sch (n : Nat) (f : Canvas → Canvas) (s : State) : (s.updCanvas n f).sch = s.sch := rfl
@[simp] theorem State.updCanvas_tk (n : Nat) (f : Canvas → Canvas) (s : State) : (s.updCanvas n f).tk = s.tk := rfl
@[simp] theorem State.updCanvas_pair (n : Nat) (f : Canvas → Canvas) (s : State) : (s.updCanvas n f).pair = s.pair := rfl
@[simp] theorem State.updCanvas_lane (n : Nat) (f : Canvas → Canvas) (s : State) : (s.updCanvas n f).lane = s.lane := rfl
@[simp] theorem State.updCanvas_flow (n : Nat) (f : Canvas → Canvas) (s : State) : (s.updCanvas n f).flow = s.flow := rfl
@[simp] theorem State.updCanvas_rx (n : Nat) (f : Canvas → Canvas) (s : State) : (s.updCanvas n f).rx = s.rx := rfl
@[simp] theorem State.updCanvas_ixrx (n : Nat) (f : Canvas → Canvas) (s : State) : (s.updCanvas n f).ixrx = s.ixrx := rfl
@[simp] theorem State.updCanvas_col (n : Nat) (f : Canvas → Canvas) (s : State) : (s.updCanvas n f).col = s.col := rfl
@[simp] theorem State.updCanvas_layer (n : Nat) (f : Canvas → Canvas) (s : State) : (s.updCanvas n f).layer = s.layer := rfl
@[simp] theorem State.updCanvas_buf (n : Nat) (f : Canvas → Canvas) (s : State) : (s.updCanvas n f).buf = s.buf := rfl
@[simp] theorem State.updCanvas_video (n : Nat) (f : Canvas → Canvas) (s : State) : (s.updCanvas n f).video = s.video := rfl
@[simp] theorem State.updCanvas_wit (n : Nat) (f : Canvas → Canvas) (s : State) : (s.updCanvas n f).wit = s.wit := rfl
@[simp] theorem State.updCanvas_lat (n : Nat) (f : Canvas → Canvas) (s : State) : (s.updCanvas n f).lat = s.lat := rfl
@[simp] theorem State.updCanvas_scan (n : Nat) (f : Canvas → Canvas) (s : State) : (s.updCanvas n f).scan = s.scan := rfl
@[simp] theorem State.updCanvas_dmx (n : Nat) (f : Canvas → Canvas) (s : State) : (s.updCanvas n f).dmx = s.dmx := rfl
@[simp] theorem State.updCanvas_met (n : Nat) (f : Canvas → Canvas) (s : State) : (s.updCanvas n f).met = s.met := rfl
@[simp] theorem State.updCanvas_bak (n : Nat) (f : Canvas → Canvas) (s : State) : (s.updCanvas n f).bak = s.bak := rfl
@[simp] theorem State.updCanvas_nv (n : Nat) (f : Canvas → Canvas) (s : State) : (s.updCanvas n f).nv = s.nv := rfl
@[simp] theorem State.updCanvas_boot (n : Nat) (f : Canvas → Canvas) (s : State) : (s.updCanvas n f).boot = s.boot := rfl
@[simp] theorem State.updCanvas_upd (n : Nat) (f : Canvas → Canvas) (s : State) : (s.updCanvas n f).upd = s.upd := rfl
@[simp] theorem State.updCanvas_lock (n : Nat) (f : Canvas → Canvas) (s : State) : (s.updCanvas n f).lock = s.lock := rfl
@[simp] theorem State.updCanvas_chkg (n : Nat) (f : Canvas → Canvas) (s : State) : (s.updCanvas n f).chkg = s.chkg := rfl
@[simp] theorem State.updCanvas_chk (n : Nat) (f : Canvas → Canvas) (s : State) : (s.updCanvas n f).chk = s.chk := rfl
@[simp] theorem State.updCanvas_img (n : Nat) (f : Canvas → Canvas) (s : State) : (s.updCanvas n f).img = s.img := rfl
@[simp] theorem State.updCanvas_ledgerPage (n : Nat) (f : Canvas → Canvas) (s : State) : (s.updCanvas n f).ledgerPage = s.ledgerPage := rfl
@[simp] theorem State.updCanvas_mon (n : Nat) (f : Canvas → Canvas) (s : State) : (s.updCanvas n f).mon = s.mon := rfl
@[simp] theorem State.updCanvas_evt (n : Nat) (f : Canvas → Canvas) (s : State) : (s.updCanvas n f).evt = s.evt := rfl
@[simp] theorem State.updCanvas_pcie (n : Nat) (f : Canvas → Canvas) (s : State) : (s.updCanvas n f).pcie = s.pcie := rfl
@[simp] theorem State.updCanvas_ml (n : Nat) (f : Canvas → Canvas) (s : State) : (s.updCanvas n f).ml = s.ml := rfl
@[simp] theorem State.updCanvas_nw (n : Nat) (f : Canvas → Canvas) (s : State) : (s.updCanvas n f).nw = s.nw := rfl
@[simp] theorem State.updCanvas_pending (n : Nat) (f : Canvas → Canvas) (s : State) : (s.updCanvas n f).pending = s.pending := rfl
@[simp] theorem State.updCanvas_out (n : Nat) (f : Canvas → Canvas) (s : State) : (s.updCanvas n f).out = s.out := rfl
@[simp] theorem State.updCanvas_now (n : Nat) (f : Canvas → Canvas) (s : State) : (s.updCanvas n f).now = s.now := rfl
@[simp] theorem State.updCanvas_fresh (n : Nat) (f : Canvas → Canvas) (s : State) : (s.updCanvas n f).fresh = s.fresh := rfl

/-! ## updWindow -/

@[simp] theorem State.updWindow_fuses (n : Nat) (f : Wit → Wit) (s : State) : (s.updWindow n f).fuses = s.fuses := rfl
@[simp] theorem State.updWindow_gl (n : Nat) (f : Wit → Wit) (s : State) : (s.updWindow n f).gl = s.gl := rfl
@[simp] theorem State.updWindow_hq (n : Nat) (f : Wit → Wit) (s : State) : (s.updWindow n f).hq = s.hq := rfl
@[simp] theorem State.updWindow_ses (n : Nat) (f : Wit → Wit) (s : State) : (s.updWindow n f).ses = s.ses := rfl
@[simp] theorem State.updWindow_jobs (n : Nat) (f : Wit → Wit) (s : State) : (s.updWindow n f).jobs = s.jobs := rfl
@[simp] theorem State.updWindow_rt (n : Nat) (f : Wit → Wit) (s : State) : (s.updWindow n f).rt = s.rt := rfl
@[simp] theorem State.updWindow_stage (n : Nat) (f : Wit → Wit) (s : State) : (s.updWindow n f).stage = s.stage := rfl
@[simp] theorem State.updWindow_force (n : Nat) (f : Wit → Wit) (s : State) : (s.updWindow n f).force = s.force := rfl
@[simp] theorem State.updWindow_par (n : Nat) (f : Wit → Wit) (s : State) : (s.updWindow n f).par = s.par := rfl
@[simp] theorem State.updWindow_pb (n : Nat) (f : Wit → Wit) (s : State) : (s.updWindow n f).pb = s.pb := rfl
@[simp] theorem State.updWindow_gen (n : Nat) (f : Wit → Wit) (s : State) : (s.updWindow n f).gen = s.gen := rfl
@[simp] theorem State.updWindow_sch (n : Nat) (f : Wit → Wit) (s : State) : (s.updWindow n f).sch = s.sch := rfl
@[simp] theorem State.updWindow_tk (n : Nat) (f : Wit → Wit) (s : State) : (s.updWindow n f).tk = s.tk := rfl
@[simp] theorem State.updWindow_pair (n : Nat) (f : Wit → Wit) (s : State) : (s.updWindow n f).pair = s.pair := rfl
@[simp] theorem State.updWindow_lane (n : Nat) (f : Wit → Wit) (s : State) : (s.updWindow n f).lane = s.lane := rfl
@[simp] theorem State.updWindow_flow (n : Nat) (f : Wit → Wit) (s : State) : (s.updWindow n f).flow = s.flow := rfl
@[simp] theorem State.updWindow_rx (n : Nat) (f : Wit → Wit) (s : State) : (s.updWindow n f).rx = s.rx := rfl
@[simp] theorem State.updWindow_ixrx (n : Nat) (f : Wit → Wit) (s : State) : (s.updWindow n f).ixrx = s.ixrx := rfl
@[simp] theorem State.updWindow_col (n : Nat) (f : Wit → Wit) (s : State) : (s.updWindow n f).col = s.col := rfl
@[simp] theorem State.updWindow_canvas (n : Nat) (f : Wit → Wit) (s : State) : (s.updWindow n f).canvas = s.canvas := rfl
@[simp] theorem State.updWindow_layer (n : Nat) (f : Wit → Wit) (s : State) : (s.updWindow n f).layer = s.layer := rfl
@[simp] theorem State.updWindow_buf (n : Nat) (f : Wit → Wit) (s : State) : (s.updWindow n f).buf = s.buf := rfl
@[simp] theorem State.updWindow_video (n : Nat) (f : Wit → Wit) (s : State) : (s.updWindow n f).video = s.video := rfl
@[simp] theorem State.updWindow_lat (n : Nat) (f : Wit → Wit) (s : State) : (s.updWindow n f).lat = s.lat := rfl
@[simp] theorem State.updWindow_scan (n : Nat) (f : Wit → Wit) (s : State) : (s.updWindow n f).scan = s.scan := rfl
@[simp] theorem State.updWindow_dmx (n : Nat) (f : Wit → Wit) (s : State) : (s.updWindow n f).dmx = s.dmx := rfl
@[simp] theorem State.updWindow_met (n : Nat) (f : Wit → Wit) (s : State) : (s.updWindow n f).met = s.met := rfl
@[simp] theorem State.updWindow_bak (n : Nat) (f : Wit → Wit) (s : State) : (s.updWindow n f).bak = s.bak := rfl
@[simp] theorem State.updWindow_nv (n : Nat) (f : Wit → Wit) (s : State) : (s.updWindow n f).nv = s.nv := rfl
@[simp] theorem State.updWindow_boot (n : Nat) (f : Wit → Wit) (s : State) : (s.updWindow n f).boot = s.boot := rfl
@[simp] theorem State.updWindow_upd (n : Nat) (f : Wit → Wit) (s : State) : (s.updWindow n f).upd = s.upd := rfl
@[simp] theorem State.updWindow_lock (n : Nat) (f : Wit → Wit) (s : State) : (s.updWindow n f).lock = s.lock := rfl
@[simp] theorem State.updWindow_chkg (n : Nat) (f : Wit → Wit) (s : State) : (s.updWindow n f).chkg = s.chkg := rfl
@[simp] theorem State.updWindow_chk (n : Nat) (f : Wit → Wit) (s : State) : (s.updWindow n f).chk = s.chk := rfl
@[simp] theorem State.updWindow_img (n : Nat) (f : Wit → Wit) (s : State) : (s.updWindow n f).img = s.img := rfl
@[simp] theorem State.updWindow_ledgerPage (n : Nat) (f : Wit → Wit) (s : State) : (s.updWindow n f).ledgerPage = s.ledgerPage := rfl
@[simp] theorem State.updWindow_mon (n : Nat) (f : Wit → Wit) (s : State) : (s.updWindow n f).mon = s.mon := rfl
@[simp] theorem State.updWindow_evt (n : Nat) (f : Wit → Wit) (s : State) : (s.updWindow n f).evt = s.evt := rfl
@[simp] theorem State.updWindow_pcie (n : Nat) (f : Wit → Wit) (s : State) : (s.updWindow n f).pcie = s.pcie := rfl
@[simp] theorem State.updWindow_ml (n : Nat) (f : Wit → Wit) (s : State) : (s.updWindow n f).ml = s.ml := rfl
@[simp] theorem State.updWindow_nw (n : Nat) (f : Wit → Wit) (s : State) : (s.updWindow n f).nw = s.nw := rfl
@[simp] theorem State.updWindow_pending (n : Nat) (f : Wit → Wit) (s : State) : (s.updWindow n f).pending = s.pending := rfl
@[simp] theorem State.updWindow_out (n : Nat) (f : Wit → Wit) (s : State) : (s.updWindow n f).out = s.out := rfl
@[simp] theorem State.updWindow_now (n : Nat) (f : Wit → Wit) (s : State) : (s.updWindow n f).now = s.now := rfl
@[simp] theorem State.updWindow_fresh (n : Nat) (f : Wit → Wit) (s : State) : (s.updWindow n f).fresh = s.fresh := rfl

/-! ## updChan -/

@[simp] theorem State.updChan_fuses (n : Nat) (f : Chk → Chk) (s : State) : (s.updChan n f).fuses = s.fuses := rfl
@[simp] theorem State.updChan_gl (n : Nat) (f : Chk → Chk) (s : State) : (s.updChan n f).gl = s.gl := rfl
@[simp] theorem State.updChan_hq (n : Nat) (f : Chk → Chk) (s : State) : (s.updChan n f).hq = s.hq := rfl
@[simp] theorem State.updChan_ses (n : Nat) (f : Chk → Chk) (s : State) : (s.updChan n f).ses = s.ses := rfl
@[simp] theorem State.updChan_jobs (n : Nat) (f : Chk → Chk) (s : State) : (s.updChan n f).jobs = s.jobs := rfl
@[simp] theorem State.updChan_rt (n : Nat) (f : Chk → Chk) (s : State) : (s.updChan n f).rt = s.rt := rfl
@[simp] theorem State.updChan_stage (n : Nat) (f : Chk → Chk) (s : State) : (s.updChan n f).stage = s.stage := rfl
@[simp] theorem State.updChan_force (n : Nat) (f : Chk → Chk) (s : State) : (s.updChan n f).force = s.force := rfl
@[simp] theorem State.updChan_par (n : Nat) (f : Chk → Chk) (s : State) : (s.updChan n f).par = s.par := rfl
@[simp] theorem State.updChan_pb (n : Nat) (f : Chk → Chk) (s : State) : (s.updChan n f).pb = s.pb := rfl
@[simp] theorem State.updChan_gen (n : Nat) (f : Chk → Chk) (s : State) : (s.updChan n f).gen = s.gen := rfl
@[simp] theorem State.updChan_sch (n : Nat) (f : Chk → Chk) (s : State) : (s.updChan n f).sch = s.sch := rfl
@[simp] theorem State.updChan_tk (n : Nat) (f : Chk → Chk) (s : State) : (s.updChan n f).tk = s.tk := rfl
@[simp] theorem State.updChan_pair (n : Nat) (f : Chk → Chk) (s : State) : (s.updChan n f).pair = s.pair := rfl
@[simp] theorem State.updChan_lane (n : Nat) (f : Chk → Chk) (s : State) : (s.updChan n f).lane = s.lane := rfl
@[simp] theorem State.updChan_flow (n : Nat) (f : Chk → Chk) (s : State) : (s.updChan n f).flow = s.flow := rfl
@[simp] theorem State.updChan_rx (n : Nat) (f : Chk → Chk) (s : State) : (s.updChan n f).rx = s.rx := rfl
@[simp] theorem State.updChan_ixrx (n : Nat) (f : Chk → Chk) (s : State) : (s.updChan n f).ixrx = s.ixrx := rfl
@[simp] theorem State.updChan_col (n : Nat) (f : Chk → Chk) (s : State) : (s.updChan n f).col = s.col := rfl
@[simp] theorem State.updChan_canvas (n : Nat) (f : Chk → Chk) (s : State) : (s.updChan n f).canvas = s.canvas := rfl
@[simp] theorem State.updChan_layer (n : Nat) (f : Chk → Chk) (s : State) : (s.updChan n f).layer = s.layer := rfl
@[simp] theorem State.updChan_buf (n : Nat) (f : Chk → Chk) (s : State) : (s.updChan n f).buf = s.buf := rfl
@[simp] theorem State.updChan_video (n : Nat) (f : Chk → Chk) (s : State) : (s.updChan n f).video = s.video := rfl
@[simp] theorem State.updChan_wit (n : Nat) (f : Chk → Chk) (s : State) : (s.updChan n f).wit = s.wit := rfl
@[simp] theorem State.updChan_lat (n : Nat) (f : Chk → Chk) (s : State) : (s.updChan n f).lat = s.lat := rfl
@[simp] theorem State.updChan_scan (n : Nat) (f : Chk → Chk) (s : State) : (s.updChan n f).scan = s.scan := rfl
@[simp] theorem State.updChan_dmx (n : Nat) (f : Chk → Chk) (s : State) : (s.updChan n f).dmx = s.dmx := rfl
@[simp] theorem State.updChan_met (n : Nat) (f : Chk → Chk) (s : State) : (s.updChan n f).met = s.met := rfl
@[simp] theorem State.updChan_bak (n : Nat) (f : Chk → Chk) (s : State) : (s.updChan n f).bak = s.bak := rfl
@[simp] theorem State.updChan_nv (n : Nat) (f : Chk → Chk) (s : State) : (s.updChan n f).nv = s.nv := rfl
@[simp] theorem State.updChan_boot (n : Nat) (f : Chk → Chk) (s : State) : (s.updChan n f).boot = s.boot := rfl
@[simp] theorem State.updChan_upd (n : Nat) (f : Chk → Chk) (s : State) : (s.updChan n f).upd = s.upd := rfl
@[simp] theorem State.updChan_lock (n : Nat) (f : Chk → Chk) (s : State) : (s.updChan n f).lock = s.lock := rfl
@[simp] theorem State.updChan_chkg (n : Nat) (f : Chk → Chk) (s : State) : (s.updChan n f).chkg = s.chkg := rfl
@[simp] theorem State.updChan_img (n : Nat) (f : Chk → Chk) (s : State) : (s.updChan n f).img = s.img := rfl
@[simp] theorem State.updChan_ledgerPage (n : Nat) (f : Chk → Chk) (s : State) : (s.updChan n f).ledgerPage = s.ledgerPage := rfl
@[simp] theorem State.updChan_mon (n : Nat) (f : Chk → Chk) (s : State) : (s.updChan n f).mon = s.mon := rfl
@[simp] theorem State.updChan_evt (n : Nat) (f : Chk → Chk) (s : State) : (s.updChan n f).evt = s.evt := rfl
@[simp] theorem State.updChan_pcie (n : Nat) (f : Chk → Chk) (s : State) : (s.updChan n f).pcie = s.pcie := rfl
@[simp] theorem State.updChan_ml (n : Nat) (f : Chk → Chk) (s : State) : (s.updChan n f).ml = s.ml := rfl
@[simp] theorem State.updChan_nw (n : Nat) (f : Chk → Chk) (s : State) : (s.updChan n f).nw = s.nw := rfl
@[simp] theorem State.updChan_pending (n : Nat) (f : Chk → Chk) (s : State) : (s.updChan n f).pending = s.pending := rfl
@[simp] theorem State.updChan_out (n : Nat) (f : Chk → Chk) (s : State) : (s.updChan n f).out = s.out := rfl
@[simp] theorem State.updChan_now (n : Nat) (f : Chk → Chk) (s : State) : (s.updChan n f).now = s.now := rfl
@[simp] theorem State.updChan_fresh (n : Nat) (f : Chk → Chk) (s : State) : (s.updChan n f).fresh = s.fresh := rfl

/-! ## updRun -/

@[simp] theorem State.updRun_fuses (n : Nat) (f : CalRun → CalRun) (s : State) : (s.updRun n f).fuses = s.fuses := rfl
@[simp] theorem State.updRun_gl (n : Nat) (f : CalRun → CalRun) (s : State) : (s.updRun n f).gl = s.gl := rfl
@[simp] theorem State.updRun_hq (n : Nat) (f : CalRun → CalRun) (s : State) : (s.updRun n f).hq = s.hq := rfl
@[simp] theorem State.updRun_ses (n : Nat) (f : CalRun → CalRun) (s : State) : (s.updRun n f).ses = s.ses := rfl
@[simp] theorem State.updRun_jobs (n : Nat) (f : CalRun → CalRun) (s : State) : (s.updRun n f).jobs = s.jobs := rfl
@[simp] theorem State.updRun_rt (n : Nat) (f : CalRun → CalRun) (s : State) : (s.updRun n f).rt = s.rt := rfl
@[simp] theorem State.updRun_stage (n : Nat) (f : CalRun → CalRun) (s : State) : (s.updRun n f).stage = s.stage := rfl
@[simp] theorem State.updRun_force (n : Nat) (f : CalRun → CalRun) (s : State) : (s.updRun n f).force = s.force := rfl
@[simp] theorem State.updRun_par (n : Nat) (f : CalRun → CalRun) (s : State) : (s.updRun n f).par = s.par := rfl
@[simp] theorem State.updRun_pb (n : Nat) (f : CalRun → CalRun) (s : State) : (s.updRun n f).pb = s.pb := rfl
@[simp] theorem State.updRun_gen (n : Nat) (f : CalRun → CalRun) (s : State) : (s.updRun n f).gen = s.gen := rfl
@[simp] theorem State.updRun_sch (n : Nat) (f : CalRun → CalRun) (s : State) : (s.updRun n f).sch = s.sch := rfl
@[simp] theorem State.updRun_tk (n : Nat) (f : CalRun → CalRun) (s : State) : (s.updRun n f).tk = s.tk := rfl
@[simp] theorem State.updRun_pair (n : Nat) (f : CalRun → CalRun) (s : State) : (s.updRun n f).pair = s.pair := rfl
@[simp] theorem State.updRun_lane (n : Nat) (f : CalRun → CalRun) (s : State) : (s.updRun n f).lane = s.lane := rfl
@[simp] theorem State.updRun_flow (n : Nat) (f : CalRun → CalRun) (s : State) : (s.updRun n f).flow = s.flow := rfl
@[simp] theorem State.updRun_rx (n : Nat) (f : CalRun → CalRun) (s : State) : (s.updRun n f).rx = s.rx := rfl
@[simp] theorem State.updRun_ixrx (n : Nat) (f : CalRun → CalRun) (s : State) : (s.updRun n f).ixrx = s.ixrx := rfl
@[simp] theorem State.updRun_canvas (n : Nat) (f : CalRun → CalRun) (s : State) : (s.updRun n f).canvas = s.canvas := rfl
@[simp] theorem State.updRun_layer (n : Nat) (f : CalRun → CalRun) (s : State) : (s.updRun n f).layer = s.layer := rfl
@[simp] theorem State.updRun_buf (n : Nat) (f : CalRun → CalRun) (s : State) : (s.updRun n f).buf = s.buf := rfl
@[simp] theorem State.updRun_video (n : Nat) (f : CalRun → CalRun) (s : State) : (s.updRun n f).video = s.video := rfl
@[simp] theorem State.updRun_wit (n : Nat) (f : CalRun → CalRun) (s : State) : (s.updRun n f).wit = s.wit := rfl
@[simp] theorem State.updRun_lat (n : Nat) (f : CalRun → CalRun) (s : State) : (s.updRun n f).lat = s.lat := rfl
@[simp] theorem State.updRun_scan (n : Nat) (f : CalRun → CalRun) (s : State) : (s.updRun n f).scan = s.scan := rfl
@[simp] theorem State.updRun_dmx (n : Nat) (f : CalRun → CalRun) (s : State) : (s.updRun n f).dmx = s.dmx := rfl
@[simp] theorem State.updRun_met (n : Nat) (f : CalRun → CalRun) (s : State) : (s.updRun n f).met = s.met := rfl
@[simp] theorem State.updRun_bak (n : Nat) (f : CalRun → CalRun) (s : State) : (s.updRun n f).bak = s.bak := rfl
@[simp] theorem State.updRun_nv (n : Nat) (f : CalRun → CalRun) (s : State) : (s.updRun n f).nv = s.nv := rfl
@[simp] theorem State.updRun_boot (n : Nat) (f : CalRun → CalRun) (s : State) : (s.updRun n f).boot = s.boot := rfl
@[simp] theorem State.updRun_upd (n : Nat) (f : CalRun → CalRun) (s : State) : (s.updRun n f).upd = s.upd := rfl
@[simp] theorem State.updRun_lock (n : Nat) (f : CalRun → CalRun) (s : State) : (s.updRun n f).lock = s.lock := rfl
@[simp] theorem State.updRun_chkg (n : Nat) (f : CalRun → CalRun) (s : State) : (s.updRun n f).chkg = s.chkg := rfl
@[simp] theorem State.updRun_chk (n : Nat) (f : CalRun → CalRun) (s : State) : (s.updRun n f).chk = s.chk := rfl
@[simp] theorem State.updRun_img (n : Nat) (f : CalRun → CalRun) (s : State) : (s.updRun n f).img = s.img := rfl
@[simp] theorem State.updRun_ledgerPage (n : Nat) (f : CalRun → CalRun) (s : State) : (s.updRun n f).ledgerPage = s.ledgerPage := rfl
@[simp] theorem State.updRun_mon (n : Nat) (f : CalRun → CalRun) (s : State) : (s.updRun n f).mon = s.mon := rfl
@[simp] theorem State.updRun_evt (n : Nat) (f : CalRun → CalRun) (s : State) : (s.updRun n f).evt = s.evt := rfl
@[simp] theorem State.updRun_pcie (n : Nat) (f : CalRun → CalRun) (s : State) : (s.updRun n f).pcie = s.pcie := rfl
@[simp] theorem State.updRun_ml (n : Nat) (f : CalRun → CalRun) (s : State) : (s.updRun n f).ml = s.ml := rfl
@[simp] theorem State.updRun_nw (n : Nat) (f : CalRun → CalRun) (s : State) : (s.updRun n f).nw = s.nw := rfl
@[simp] theorem State.updRun_pending (n : Nat) (f : CalRun → CalRun) (s : State) : (s.updRun n f).pending = s.pending := rfl
@[simp] theorem State.updRun_out (n : Nat) (f : CalRun → CalRun) (s : State) : (s.updRun n f).out = s.out := rfl
@[simp] theorem State.updRun_now (n : Nat) (f : CalRun → CalRun) (s : State) : (s.updRun n f).now = s.now := rfl
@[simp] theorem State.updRun_fresh (n : Nat) (f : CalRun → CalRun) (s : State) : (s.updRun n f).fresh = s.fresh := rfl

/-! ## updBus -/

@[simp] theorem State.updBus_fuses (n : Nat) (f : I2c → I2c) (s : State) : (s.updBus n f).fuses = s.fuses := rfl
@[simp] theorem State.updBus_gl (n : Nat) (f : I2c → I2c) (s : State) : (s.updBus n f).gl = s.gl := rfl
@[simp] theorem State.updBus_hq (n : Nat) (f : I2c → I2c) (s : State) : (s.updBus n f).hq = s.hq := rfl
@[simp] theorem State.updBus_ses (n : Nat) (f : I2c → I2c) (s : State) : (s.updBus n f).ses = s.ses := rfl
@[simp] theorem State.updBus_jobs (n : Nat) (f : I2c → I2c) (s : State) : (s.updBus n f).jobs = s.jobs := rfl
@[simp] theorem State.updBus_rt (n : Nat) (f : I2c → I2c) (s : State) : (s.updBus n f).rt = s.rt := rfl
@[simp] theorem State.updBus_stage (n : Nat) (f : I2c → I2c) (s : State) : (s.updBus n f).stage = s.stage := rfl
@[simp] theorem State.updBus_force (n : Nat) (f : I2c → I2c) (s : State) : (s.updBus n f).force = s.force := rfl
@[simp] theorem State.updBus_par (n : Nat) (f : I2c → I2c) (s : State) : (s.updBus n f).par = s.par := rfl
@[simp] theorem State.updBus_pb (n : Nat) (f : I2c → I2c) (s : State) : (s.updBus n f).pb = s.pb := rfl
@[simp] theorem State.updBus_gen (n : Nat) (f : I2c → I2c) (s : State) : (s.updBus n f).gen = s.gen := rfl
@[simp] theorem State.updBus_sch (n : Nat) (f : I2c → I2c) (s : State) : (s.updBus n f).sch = s.sch := rfl
@[simp] theorem State.updBus_tk (n : Nat) (f : I2c → I2c) (s : State) : (s.updBus n f).tk = s.tk := rfl
@[simp] theorem State.updBus_pair (n : Nat) (f : I2c → I2c) (s : State) : (s.updBus n f).pair = s.pair := rfl
@[simp] theorem State.updBus_lane (n : Nat) (f : I2c → I2c) (s : State) : (s.updBus n f).lane = s.lane := rfl
@[simp] theorem State.updBus_flow (n : Nat) (f : I2c → I2c) (s : State) : (s.updBus n f).flow = s.flow := rfl
@[simp] theorem State.updBus_rx (n : Nat) (f : I2c → I2c) (s : State) : (s.updBus n f).rx = s.rx := rfl
@[simp] theorem State.updBus_ixrx (n : Nat) (f : I2c → I2c) (s : State) : (s.updBus n f).ixrx = s.ixrx := rfl
@[simp] theorem State.updBus_canvas (n : Nat) (f : I2c → I2c) (s : State) : (s.updBus n f).canvas = s.canvas := rfl
@[simp] theorem State.updBus_layer (n : Nat) (f : I2c → I2c) (s : State) : (s.updBus n f).layer = s.layer := rfl
@[simp] theorem State.updBus_buf (n : Nat) (f : I2c → I2c) (s : State) : (s.updBus n f).buf = s.buf := rfl
@[simp] theorem State.updBus_video (n : Nat) (f : I2c → I2c) (s : State) : (s.updBus n f).video = s.video := rfl
@[simp] theorem State.updBus_wit (n : Nat) (f : I2c → I2c) (s : State) : (s.updBus n f).wit = s.wit := rfl
@[simp] theorem State.updBus_lat (n : Nat) (f : I2c → I2c) (s : State) : (s.updBus n f).lat = s.lat := rfl
@[simp] theorem State.updBus_scan (n : Nat) (f : I2c → I2c) (s : State) : (s.updBus n f).scan = s.scan := rfl
@[simp] theorem State.updBus_dmx (n : Nat) (f : I2c → I2c) (s : State) : (s.updBus n f).dmx = s.dmx := rfl
@[simp] theorem State.updBus_met (n : Nat) (f : I2c → I2c) (s : State) : (s.updBus n f).met = s.met := rfl
@[simp] theorem State.updBus_bak (n : Nat) (f : I2c → I2c) (s : State) : (s.updBus n f).bak = s.bak := rfl
@[simp] theorem State.updBus_nv (n : Nat) (f : I2c → I2c) (s : State) : (s.updBus n f).nv = s.nv := rfl
@[simp] theorem State.updBus_boot (n : Nat) (f : I2c → I2c) (s : State) : (s.updBus n f).boot = s.boot := rfl
@[simp] theorem State.updBus_upd (n : Nat) (f : I2c → I2c) (s : State) : (s.updBus n f).upd = s.upd := rfl
@[simp] theorem State.updBus_lock (n : Nat) (f : I2c → I2c) (s : State) : (s.updBus n f).lock = s.lock := rfl
@[simp] theorem State.updBus_chkg (n : Nat) (f : I2c → I2c) (s : State) : (s.updBus n f).chkg = s.chkg := rfl
@[simp] theorem State.updBus_chk (n : Nat) (f : I2c → I2c) (s : State) : (s.updBus n f).chk = s.chk := rfl
@[simp] theorem State.updBus_img (n : Nat) (f : I2c → I2c) (s : State) : (s.updBus n f).img = s.img := rfl
@[simp] theorem State.updBus_ledgerPage (n : Nat) (f : I2c → I2c) (s : State) : (s.updBus n f).ledgerPage = s.ledgerPage := rfl
@[simp] theorem State.updBus_mon (n : Nat) (f : I2c → I2c) (s : State) : (s.updBus n f).mon = s.mon := rfl
@[simp] theorem State.updBus_evt (n : Nat) (f : I2c → I2c) (s : State) : (s.updBus n f).evt = s.evt := rfl
@[simp] theorem State.updBus_pcie (n : Nat) (f : I2c → I2c) (s : State) : (s.updBus n f).pcie = s.pcie := rfl
@[simp] theorem State.updBus_ml (n : Nat) (f : I2c → I2c) (s : State) : (s.updBus n f).ml = s.ml := rfl
@[simp] theorem State.updBus_nw (n : Nat) (f : I2c → I2c) (s : State) : (s.updBus n f).nw = s.nw := rfl
@[simp] theorem State.updBus_pending (n : Nat) (f : I2c → I2c) (s : State) : (s.updBus n f).pending = s.pending := rfl
@[simp] theorem State.updBus_out (n : Nat) (f : I2c → I2c) (s : State) : (s.updBus n f).out = s.out := rfl
@[simp] theorem State.updBus_now (n : Nat) (f : I2c → I2c) (s : State) : (s.updBus n f).now = s.now := rfl
@[simp] theorem State.updBus_fresh (n : Nat) (f : I2c → I2c) (s : State) : (s.updBus n f).fresh = s.fresh := rfl

/-! ## updDmx -/

@[simp] theorem State.updDmx_fuses (n : Nat) (f : DmxPort → DmxPort) (s : State) : (s.updDmx n f).fuses = s.fuses := rfl
@[simp] theorem State.updDmx_gl (n : Nat) (f : DmxPort → DmxPort) (s : State) : (s.updDmx n f).gl = s.gl := rfl
@[simp] theorem State.updDmx_hq (n : Nat) (f : DmxPort → DmxPort) (s : State) : (s.updDmx n f).hq = s.hq := rfl
@[simp] theorem State.updDmx_ses (n : Nat) (f : DmxPort → DmxPort) (s : State) : (s.updDmx n f).ses = s.ses := rfl
@[simp] theorem State.updDmx_jobs (n : Nat) (f : DmxPort → DmxPort) (s : State) : (s.updDmx n f).jobs = s.jobs := rfl
@[simp] theorem State.updDmx_rt (n : Nat) (f : DmxPort → DmxPort) (s : State) : (s.updDmx n f).rt = s.rt := rfl
@[simp] theorem State.updDmx_stage (n : Nat) (f : DmxPort → DmxPort) (s : State) : (s.updDmx n f).stage = s.stage := rfl
@[simp] theorem State.updDmx_force (n : Nat) (f : DmxPort → DmxPort) (s : State) : (s.updDmx n f).force = s.force := rfl
@[simp] theorem State.updDmx_par (n : Nat) (f : DmxPort → DmxPort) (s : State) : (s.updDmx n f).par = s.par := rfl
@[simp] theorem State.updDmx_pb (n : Nat) (f : DmxPort → DmxPort) (s : State) : (s.updDmx n f).pb = s.pb := rfl
@[simp] theorem State.updDmx_gen (n : Nat) (f : DmxPort → DmxPort) (s : State) : (s.updDmx n f).gen = s.gen := rfl
@[simp] theorem State.updDmx_sch (n : Nat) (f : DmxPort → DmxPort) (s : State) : (s.updDmx n f).sch = s.sch := rfl
@[simp] theorem State.updDmx_tk (n : Nat) (f : DmxPort → DmxPort) (s : State) : (s.updDmx n f).tk = s.tk := rfl
@[simp] theorem State.updDmx_pair (n : Nat) (f : DmxPort → DmxPort) (s : State) : (s.updDmx n f).pair = s.pair := rfl
@[simp] theorem State.updDmx_lane (n : Nat) (f : DmxPort → DmxPort) (s : State) : (s.updDmx n f).lane = s.lane := rfl
@[simp] theorem State.updDmx_flow (n : Nat) (f : DmxPort → DmxPort) (s : State) : (s.updDmx n f).flow = s.flow := rfl
@[simp] theorem State.updDmx_rx (n : Nat) (f : DmxPort → DmxPort) (s : State) : (s.updDmx n f).rx = s.rx := rfl
@[simp] theorem State.updDmx_ixrx (n : Nat) (f : DmxPort → DmxPort) (s : State) : (s.updDmx n f).ixrx = s.ixrx := rfl
@[simp] theorem State.updDmx_col (n : Nat) (f : DmxPort → DmxPort) (s : State) : (s.updDmx n f).col = s.col := rfl
@[simp] theorem State.updDmx_canvas (n : Nat) (f : DmxPort → DmxPort) (s : State) : (s.updDmx n f).canvas = s.canvas := rfl
@[simp] theorem State.updDmx_layer (n : Nat) (f : DmxPort → DmxPort) (s : State) : (s.updDmx n f).layer = s.layer := rfl
@[simp] theorem State.updDmx_buf (n : Nat) (f : DmxPort → DmxPort) (s : State) : (s.updDmx n f).buf = s.buf := rfl
@[simp] theorem State.updDmx_video (n : Nat) (f : DmxPort → DmxPort) (s : State) : (s.updDmx n f).video = s.video := rfl
@[simp] theorem State.updDmx_wit (n : Nat) (f : DmxPort → DmxPort) (s : State) : (s.updDmx n f).wit = s.wit := rfl
@[simp] theorem State.updDmx_lat (n : Nat) (f : DmxPort → DmxPort) (s : State) : (s.updDmx n f).lat = s.lat := rfl
@[simp] theorem State.updDmx_scan (n : Nat) (f : DmxPort → DmxPort) (s : State) : (s.updDmx n f).scan = s.scan := rfl
@[simp] theorem State.updDmx_met (n : Nat) (f : DmxPort → DmxPort) (s : State) : (s.updDmx n f).met = s.met := rfl
@[simp] theorem State.updDmx_bak (n : Nat) (f : DmxPort → DmxPort) (s : State) : (s.updDmx n f).bak = s.bak := rfl
@[simp] theorem State.updDmx_nv (n : Nat) (f : DmxPort → DmxPort) (s : State) : (s.updDmx n f).nv = s.nv := rfl
@[simp] theorem State.updDmx_boot (n : Nat) (f : DmxPort → DmxPort) (s : State) : (s.updDmx n f).boot = s.boot := rfl
@[simp] theorem State.updDmx_upd (n : Nat) (f : DmxPort → DmxPort) (s : State) : (s.updDmx n f).upd = s.upd := rfl
@[simp] theorem State.updDmx_lock (n : Nat) (f : DmxPort → DmxPort) (s : State) : (s.updDmx n f).lock = s.lock := rfl
@[simp] theorem State.updDmx_chkg (n : Nat) (f : DmxPort → DmxPort) (s : State) : (s.updDmx n f).chkg = s.chkg := rfl
@[simp] theorem State.updDmx_chk (n : Nat) (f : DmxPort → DmxPort) (s : State) : (s.updDmx n f).chk = s.chk := rfl
@[simp] theorem State.updDmx_img (n : Nat) (f : DmxPort → DmxPort) (s : State) : (s.updDmx n f).img = s.img := rfl
@[simp] theorem State.updDmx_ledgerPage (n : Nat) (f : DmxPort → DmxPort) (s : State) : (s.updDmx n f).ledgerPage = s.ledgerPage := rfl
@[simp] theorem State.updDmx_mon (n : Nat) (f : DmxPort → DmxPort) (s : State) : (s.updDmx n f).mon = s.mon := rfl
@[simp] theorem State.updDmx_evt (n : Nat) (f : DmxPort → DmxPort) (s : State) : (s.updDmx n f).evt = s.evt := rfl
@[simp] theorem State.updDmx_pcie (n : Nat) (f : DmxPort → DmxPort) (s : State) : (s.updDmx n f).pcie = s.pcie := rfl
@[simp] theorem State.updDmx_ml (n : Nat) (f : DmxPort → DmxPort) (s : State) : (s.updDmx n f).ml = s.ml := rfl
@[simp] theorem State.updDmx_nw (n : Nat) (f : DmxPort → DmxPort) (s : State) : (s.updDmx n f).nw = s.nw := rfl
@[simp] theorem State.updDmx_pending (n : Nat) (f : DmxPort → DmxPort) (s : State) : (s.updDmx n f).pending = s.pending := rfl
@[simp] theorem State.updDmx_out (n : Nat) (f : DmxPort → DmxPort) (s : State) : (s.updDmx n f).out = s.out := rfl
@[simp] theorem State.updDmx_now (n : Nat) (f : DmxPort → DmxPort) (s : State) : (s.updDmx n f).now = s.now := rfl
@[simp] theorem State.updDmx_fresh (n : Nat) (f : DmxPort → DmxPort) (s : State) : (s.updDmx n f).fresh = s.fresh := rfl

/-! ## updLatRun -/

@[simp] theorem State.updLatRun_fuses (a b : LatRun) (s : State) : (s.updLatRun a b).fuses = s.fuses := rfl
@[simp] theorem State.updLatRun_gl (a b : LatRun) (s : State) : (s.updLatRun a b).gl = s.gl := rfl
@[simp] theorem State.updLatRun_hq (a b : LatRun) (s : State) : (s.updLatRun a b).hq = s.hq := rfl
@[simp] theorem State.updLatRun_ses (a b : LatRun) (s : State) : (s.updLatRun a b).ses = s.ses := rfl
@[simp] theorem State.updLatRun_jobs (a b : LatRun) (s : State) : (s.updLatRun a b).jobs = s.jobs := rfl
@[simp] theorem State.updLatRun_rt (a b : LatRun) (s : State) : (s.updLatRun a b).rt = s.rt := rfl
@[simp] theorem State.updLatRun_stage (a b : LatRun) (s : State) : (s.updLatRun a b).stage = s.stage := rfl
@[simp] theorem State.updLatRun_force (a b : LatRun) (s : State) : (s.updLatRun a b).force = s.force := rfl
@[simp] theorem State.updLatRun_par (a b : LatRun) (s : State) : (s.updLatRun a b).par = s.par := rfl
@[simp] theorem State.updLatRun_pb (a b : LatRun) (s : State) : (s.updLatRun a b).pb = s.pb := rfl
@[simp] theorem State.updLatRun_gen (a b : LatRun) (s : State) : (s.updLatRun a b).gen = s.gen := rfl
@[simp] theorem State.updLatRun_sch (a b : LatRun) (s : State) : (s.updLatRun a b).sch = s.sch := rfl
@[simp] theorem State.updLatRun_tk (a b : LatRun) (s : State) : (s.updLatRun a b).tk = s.tk := rfl
@[simp] theorem State.updLatRun_pair (a b : LatRun) (s : State) : (s.updLatRun a b).pair = s.pair := rfl
@[simp] theorem State.updLatRun_lane (a b : LatRun) (s : State) : (s.updLatRun a b).lane = s.lane := rfl
@[simp] theorem State.updLatRun_flow (a b : LatRun) (s : State) : (s.updLatRun a b).flow = s.flow := rfl
@[simp] theorem State.updLatRun_rx (a b : LatRun) (s : State) : (s.updLatRun a b).rx = s.rx := rfl
@[simp] theorem State.updLatRun_ixrx (a b : LatRun) (s : State) : (s.updLatRun a b).ixrx = s.ixrx := rfl
@[simp] theorem State.updLatRun_col (a b : LatRun) (s : State) : (s.updLatRun a b).col = s.col := rfl
@[simp] theorem State.updLatRun_canvas (a b : LatRun) (s : State) : (s.updLatRun a b).canvas = s.canvas := rfl
@[simp] theorem State.updLatRun_layer (a b : LatRun) (s : State) : (s.updLatRun a b).layer = s.layer := rfl
@[simp] theorem State.updLatRun_buf (a b : LatRun) (s : State) : (s.updLatRun a b).buf = s.buf := rfl
@[simp] theorem State.updLatRun_video (a b : LatRun) (s : State) : (s.updLatRun a b).video = s.video := rfl
@[simp] theorem State.updLatRun_wit (a b : LatRun) (s : State) : (s.updLatRun a b).wit = s.wit := rfl
@[simp] theorem State.updLatRun_scan (a b : LatRun) (s : State) : (s.updLatRun a b).scan = s.scan := rfl
@[simp] theorem State.updLatRun_dmx (a b : LatRun) (s : State) : (s.updLatRun a b).dmx = s.dmx := rfl
@[simp] theorem State.updLatRun_met (a b : LatRun) (s : State) : (s.updLatRun a b).met = s.met := rfl
@[simp] theorem State.updLatRun_bak (a b : LatRun) (s : State) : (s.updLatRun a b).bak = s.bak := rfl
@[simp] theorem State.updLatRun_nv (a b : LatRun) (s : State) : (s.updLatRun a b).nv = s.nv := rfl
@[simp] theorem State.updLatRun_boot (a b : LatRun) (s : State) : (s.updLatRun a b).boot = s.boot := rfl
@[simp] theorem State.updLatRun_upd (a b : LatRun) (s : State) : (s.updLatRun a b).upd = s.upd := rfl
@[simp] theorem State.updLatRun_lock (a b : LatRun) (s : State) : (s.updLatRun a b).lock = s.lock := rfl
@[simp] theorem State.updLatRun_chkg (a b : LatRun) (s : State) : (s.updLatRun a b).chkg = s.chkg := rfl
@[simp] theorem State.updLatRun_chk (a b : LatRun) (s : State) : (s.updLatRun a b).chk = s.chk := rfl
@[simp] theorem State.updLatRun_img (a b : LatRun) (s : State) : (s.updLatRun a b).img = s.img := rfl
@[simp] theorem State.updLatRun_ledgerPage (a b : LatRun) (s : State) : (s.updLatRun a b).ledgerPage = s.ledgerPage := rfl
@[simp] theorem State.updLatRun_mon (a b : LatRun) (s : State) : (s.updLatRun a b).mon = s.mon := rfl
@[simp] theorem State.updLatRun_evt (a b : LatRun) (s : State) : (s.updLatRun a b).evt = s.evt := rfl
@[simp] theorem State.updLatRun_pcie (a b : LatRun) (s : State) : (s.updLatRun a b).pcie = s.pcie := rfl
@[simp] theorem State.updLatRun_ml (a b : LatRun) (s : State) : (s.updLatRun a b).ml = s.ml := rfl
@[simp] theorem State.updLatRun_nw (a b : LatRun) (s : State) : (s.updLatRun a b).nw = s.nw := rfl
@[simp] theorem State.updLatRun_pending (a b : LatRun) (s : State) : (s.updLatRun a b).pending = s.pending := rfl
@[simp] theorem State.updLatRun_out (a b : LatRun) (s : State) : (s.updLatRun a b).out = s.out := rfl
@[simp] theorem State.updLatRun_now (a b : LatRun) (s : State) : (s.updLatRun a b).now = s.now := rfl
@[simp] theorem State.updLatRun_fresh (a b : LatRun) (s : State) : (s.updLatRun a b).fresh = s.fresh := rfl

/-! ## updFeeder -/

@[simp] theorem State.updFeeder_fuses (n : Nat) (f : Feeder → Feeder) (s : State) : (s.updFeeder n f).fuses = s.fuses := rfl
@[simp] theorem State.updFeeder_gl (n : Nat) (f : Feeder → Feeder) (s : State) : (s.updFeeder n f).gl = s.gl := rfl
@[simp] theorem State.updFeeder_hq (n : Nat) (f : Feeder → Feeder) (s : State) : (s.updFeeder n f).hq = s.hq := rfl
@[simp] theorem State.updFeeder_ses (n : Nat) (f : Feeder → Feeder) (s : State) : (s.updFeeder n f).ses = s.ses := rfl
@[simp] theorem State.updFeeder_jobs (n : Nat) (f : Feeder → Feeder) (s : State) : (s.updFeeder n f).jobs = s.jobs := rfl
@[simp] theorem State.updFeeder_rt (n : Nat) (f : Feeder → Feeder) (s : State) : (s.updFeeder n f).rt = s.rt := rfl
@[simp] theorem State.updFeeder_stage (n : Nat) (f : Feeder → Feeder) (s : State) : (s.updFeeder n f).stage = s.stage := rfl
@[simp] theorem State.updFeeder_force (n : Nat) (f : Feeder → Feeder) (s : State) : (s.updFeeder n f).force = s.force := rfl
@[simp] theorem State.updFeeder_par (n : Nat) (f : Feeder → Feeder) (s : State) : (s.updFeeder n f).par = s.par := rfl
@[simp] theorem State.updFeeder_pb (n : Nat) (f : Feeder → Feeder) (s : State) : (s.updFeeder n f).pb = s.pb := rfl
@[simp] theorem State.updFeeder_gen (n : Nat) (f : Feeder → Feeder) (s : State) : (s.updFeeder n f).gen = s.gen := rfl
@[simp] theorem State.updFeeder_sch (n : Nat) (f : Feeder → Feeder) (s : State) : (s.updFeeder n f).sch = s.sch := rfl
@[simp] theorem State.updFeeder_tk (n : Nat) (f : Feeder → Feeder) (s : State) : (s.updFeeder n f).tk = s.tk := rfl
@[simp] theorem State.updFeeder_pair (n : Nat) (f : Feeder → Feeder) (s : State) : (s.updFeeder n f).pair = s.pair := rfl
@[simp] theorem State.updFeeder_lane (n : Nat) (f : Feeder → Feeder) (s : State) : (s.updFeeder n f).lane = s.lane := rfl
@[simp] theorem State.updFeeder_flow (n : Nat) (f : Feeder → Feeder) (s : State) : (s.updFeeder n f).flow = s.flow := rfl
@[simp] theorem State.updFeeder_rx (n : Nat) (f : Feeder → Feeder) (s : State) : (s.updFeeder n f).rx = s.rx := rfl
@[simp] theorem State.updFeeder_ixrx (n : Nat) (f : Feeder → Feeder) (s : State) : (s.updFeeder n f).ixrx = s.ixrx := rfl
@[simp] theorem State.updFeeder_col (n : Nat) (f : Feeder → Feeder) (s : State) : (s.updFeeder n f).col = s.col := rfl
@[simp] theorem State.updFeeder_canvas (n : Nat) (f : Feeder → Feeder) (s : State) : (s.updFeeder n f).canvas = s.canvas := rfl
@[simp] theorem State.updFeeder_layer (n : Nat) (f : Feeder → Feeder) (s : State) : (s.updFeeder n f).layer = s.layer := rfl
@[simp] theorem State.updFeeder_buf (n : Nat) (f : Feeder → Feeder) (s : State) : (s.updFeeder n f).buf = s.buf := rfl
@[simp] theorem State.updFeeder_video (n : Nat) (f : Feeder → Feeder) (s : State) : (s.updFeeder n f).video = s.video := rfl
@[simp] theorem State.updFeeder_wit (n : Nat) (f : Feeder → Feeder) (s : State) : (s.updFeeder n f).wit = s.wit := rfl
@[simp] theorem State.updFeeder_lat (n : Nat) (f : Feeder → Feeder) (s : State) : (s.updFeeder n f).lat = s.lat := rfl
@[simp] theorem State.updFeeder_scan (n : Nat) (f : Feeder → Feeder) (s : State) : (s.updFeeder n f).scan = s.scan := rfl
@[simp] theorem State.updFeeder_dmx (n : Nat) (f : Feeder → Feeder) (s : State) : (s.updFeeder n f).dmx = s.dmx := rfl
@[simp] theorem State.updFeeder_bak (n : Nat) (f : Feeder → Feeder) (s : State) : (s.updFeeder n f).bak = s.bak := rfl
@[simp] theorem State.updFeeder_nv (n : Nat) (f : Feeder → Feeder) (s : State) : (s.updFeeder n f).nv = s.nv := rfl
@[simp] theorem State.updFeeder_boot (n : Nat) (f : Feeder → Feeder) (s : State) : (s.updFeeder n f).boot = s.boot := rfl
@[simp] theorem State.updFeeder_upd (n : Nat) (f : Feeder → Feeder) (s : State) : (s.updFeeder n f).upd = s.upd := rfl
@[simp] theorem State.updFeeder_lock (n : Nat) (f : Feeder → Feeder) (s : State) : (s.updFeeder n f).lock = s.lock := rfl
@[simp] theorem State.updFeeder_chkg (n : Nat) (f : Feeder → Feeder) (s : State) : (s.updFeeder n f).chkg = s.chkg := rfl
@[simp] theorem State.updFeeder_chk (n : Nat) (f : Feeder → Feeder) (s : State) : (s.updFeeder n f).chk = s.chk := rfl
@[simp] theorem State.updFeeder_img (n : Nat) (f : Feeder → Feeder) (s : State) : (s.updFeeder n f).img = s.img := rfl
@[simp] theorem State.updFeeder_ledgerPage (n : Nat) (f : Feeder → Feeder) (s : State) : (s.updFeeder n f).ledgerPage = s.ledgerPage := rfl
@[simp] theorem State.updFeeder_mon (n : Nat) (f : Feeder → Feeder) (s : State) : (s.updFeeder n f).mon = s.mon := rfl
@[simp] theorem State.updFeeder_evt (n : Nat) (f : Feeder → Feeder) (s : State) : (s.updFeeder n f).evt = s.evt := rfl
@[simp] theorem State.updFeeder_pcie (n : Nat) (f : Feeder → Feeder) (s : State) : (s.updFeeder n f).pcie = s.pcie := rfl
@[simp] theorem State.updFeeder_ml (n : Nat) (f : Feeder → Feeder) (s : State) : (s.updFeeder n f).ml = s.ml := rfl
@[simp] theorem State.updFeeder_nw (n : Nat) (f : Feeder → Feeder) (s : State) : (s.updFeeder n f).nw = s.nw := rfl
@[simp] theorem State.updFeeder_pending (n : Nat) (f : Feeder → Feeder) (s : State) : (s.updFeeder n f).pending = s.pending := rfl
@[simp] theorem State.updFeeder_out (n : Nat) (f : Feeder → Feeder) (s : State) : (s.updFeeder n f).out = s.out := rfl
@[simp] theorem State.updFeeder_now (n : Nat) (f : Feeder → Feeder) (s : State) : (s.updFeeder n f).now = s.now := rfl
@[simp] theorem State.updFeeder_fresh (n : Nat) (f : Feeder → Feeder) (s : State) : (s.updFeeder n f).fresh = s.fresh := rfl

/-! ## updPort -/

@[simp] theorem State.updPort_fuses (n : Nat) (f : ScanPort → ScanPort) (s : State) : (s.updPort n f).fuses = s.fuses := rfl
@[simp] theorem State.updPort_gl (n : Nat) (f : ScanPort → ScanPort) (s : State) : (s.updPort n f).gl = s.gl := rfl
@[simp] theorem State.updPort_hq (n : Nat) (f : ScanPort → ScanPort) (s : State) : (s.updPort n f).hq = s.hq := rfl
@[simp] theorem State.updPort_ses (n : Nat) (f : ScanPort → ScanPort) (s : State) : (s.updPort n f).ses = s.ses := rfl
@[simp] theorem State.updPort_jobs (n : Nat) (f : ScanPort → ScanPort) (s : State) : (s.updPort n f).jobs = s.jobs := rfl
@[simp] theorem State.updPort_rt (n : Nat) (f : ScanPort → ScanPort) (s : State) : (s.updPort n f).rt = s.rt := rfl
@[simp] theorem State.updPort_stage (n : Nat) (f : ScanPort → ScanPort) (s : State) : (s.updPort n f).stage = s.stage := rfl
@[simp] theorem State.updPort_force (n : Nat) (f : ScanPort → ScanPort) (s : State) : (s.updPort n f).force = s.force := rfl
@[simp] theorem State.updPort_par (n : Nat) (f : ScanPort → ScanPort) (s : State) : (s.updPort n f).par = s.par := rfl
@[simp] theorem State.updPort_pb (n : Nat) (f : ScanPort → ScanPort) (s : State) : (s.updPort n f).pb = s.pb := rfl
@[simp] theorem State.updPort_gen (n : Nat) (f : ScanPort → ScanPort) (s : State) : (s.updPort n f).gen = s.gen := rfl
@[simp] theorem State.updPort_sch (n : Nat) (f : ScanPort → ScanPort) (s : State) : (s.updPort n f).sch = s.sch := rfl
@[simp] theorem State.updPort_tk (n : Nat) (f : ScanPort → ScanPort) (s : State) : (s.updPort n f).tk = s.tk := rfl
@[simp] theorem State.updPort_pair (n : Nat) (f : ScanPort → ScanPort) (s : State) : (s.updPort n f).pair = s.pair := rfl
@[simp] theorem State.updPort_lane (n : Nat) (f : ScanPort → ScanPort) (s : State) : (s.updPort n f).lane = s.lane := rfl
@[simp] theorem State.updPort_flow (n : Nat) (f : ScanPort → ScanPort) (s : State) : (s.updPort n f).flow = s.flow := rfl
@[simp] theorem State.updPort_rx (n : Nat) (f : ScanPort → ScanPort) (s : State) : (s.updPort n f).rx = s.rx := rfl
@[simp] theorem State.updPort_ixrx (n : Nat) (f : ScanPort → ScanPort) (s : State) : (s.updPort n f).ixrx = s.ixrx := rfl
@[simp] theorem State.updPort_col (n : Nat) (f : ScanPort → ScanPort) (s : State) : (s.updPort n f).col = s.col := rfl
@[simp] theorem State.updPort_canvas (n : Nat) (f : ScanPort → ScanPort) (s : State) : (s.updPort n f).canvas = s.canvas := rfl
@[simp] theorem State.updPort_layer (n : Nat) (f : ScanPort → ScanPort) (s : State) : (s.updPort n f).layer = s.layer := rfl
@[simp] theorem State.updPort_buf (n : Nat) (f : ScanPort → ScanPort) (s : State) : (s.updPort n f).buf = s.buf := rfl
@[simp] theorem State.updPort_video (n : Nat) (f : ScanPort → ScanPort) (s : State) : (s.updPort n f).video = s.video := rfl
@[simp] theorem State.updPort_wit (n : Nat) (f : ScanPort → ScanPort) (s : State) : (s.updPort n f).wit = s.wit := rfl
@[simp] theorem State.updPort_lat (n : Nat) (f : ScanPort → ScanPort) (s : State) : (s.updPort n f).lat = s.lat := rfl
@[simp] theorem State.updPort_dmx (n : Nat) (f : ScanPort → ScanPort) (s : State) : (s.updPort n f).dmx = s.dmx := rfl
@[simp] theorem State.updPort_met (n : Nat) (f : ScanPort → ScanPort) (s : State) : (s.updPort n f).met = s.met := rfl
@[simp] theorem State.updPort_bak (n : Nat) (f : ScanPort → ScanPort) (s : State) : (s.updPort n f).bak = s.bak := rfl
@[simp] theorem State.updPort_nv (n : Nat) (f : ScanPort → ScanPort) (s : State) : (s.updPort n f).nv = s.nv := rfl
@[simp] theorem State.updPort_boot (n : Nat) (f : ScanPort → ScanPort) (s : State) : (s.updPort n f).boot = s.boot := rfl
@[simp] theorem State.updPort_upd (n : Nat) (f : ScanPort → ScanPort) (s : State) : (s.updPort n f).upd = s.upd := rfl
@[simp] theorem State.updPort_lock (n : Nat) (f : ScanPort → ScanPort) (s : State) : (s.updPort n f).lock = s.lock := rfl
@[simp] theorem State.updPort_chkg (n : Nat) (f : ScanPort → ScanPort) (s : State) : (s.updPort n f).chkg = s.chkg := rfl
@[simp] theorem State.updPort_chk (n : Nat) (f : ScanPort → ScanPort) (s : State) : (s.updPort n f).chk = s.chk := rfl
@[simp] theorem State.updPort_img (n : Nat) (f : ScanPort → ScanPort) (s : State) : (s.updPort n f).img = s.img := rfl
@[simp] theorem State.updPort_ledgerPage (n : Nat) (f : ScanPort → ScanPort) (s : State) : (s.updPort n f).ledgerPage = s.ledgerPage := rfl
@[simp] theorem State.updPort_mon (n : Nat) (f : ScanPort → ScanPort) (s : State) : (s.updPort n f).mon = s.mon := rfl
@[simp] theorem State.updPort_evt (n : Nat) (f : ScanPort → ScanPort) (s : State) : (s.updPort n f).evt = s.evt := rfl
@[simp] theorem State.updPort_pcie (n : Nat) (f : ScanPort → ScanPort) (s : State) : (s.updPort n f).pcie = s.pcie := rfl
@[simp] theorem State.updPort_ml (n : Nat) (f : ScanPort → ScanPort) (s : State) : (s.updPort n f).ml = s.ml := rfl
@[simp] theorem State.updPort_nw (n : Nat) (f : ScanPort → ScanPort) (s : State) : (s.updPort n f).nw = s.nw := rfl
@[simp] theorem State.updPort_pending (n : Nat) (f : ScanPort → ScanPort) (s : State) : (s.updPort n f).pending = s.pending := rfl
@[simp] theorem State.updPort_out (n : Nat) (f : ScanPort → ScanPort) (s : State) : (s.updPort n f).out = s.out := rfl
@[simp] theorem State.updPort_now (n : Nat) (f : ScanPort → ScanPort) (s : State) : (s.updPort n f).now = s.now := rfl
@[simp] theorem State.updPort_fresh (n : Nat) (f : ScanPort → ScanPort) (s : State) : (s.updPort n f).fresh = s.fresh := rfl

/-! ## updFrame -/

@[simp] theorem State.updFrame_fuses (n : Nat) (f : FrameRec → FrameRec) (s : State) : (s.updFrame n f).fuses = s.fuses := rfl
@[simp] theorem State.updFrame_gl (n : Nat) (f : FrameRec → FrameRec) (s : State) : (s.updFrame n f).gl = s.gl := rfl
@[simp] theorem State.updFrame_hq (n : Nat) (f : FrameRec → FrameRec) (s : State) : (s.updFrame n f).hq = s.hq := rfl
@[simp] theorem State.updFrame_ses (n : Nat) (f : FrameRec → FrameRec) (s : State) : (s.updFrame n f).ses = s.ses := rfl
@[simp] theorem State.updFrame_jobs (n : Nat) (f : FrameRec → FrameRec) (s : State) : (s.updFrame n f).jobs = s.jobs := rfl
@[simp] theorem State.updFrame_rt (n : Nat) (f : FrameRec → FrameRec) (s : State) : (s.updFrame n f).rt = s.rt := rfl
@[simp] theorem State.updFrame_stage (n : Nat) (f : FrameRec → FrameRec) (s : State) : (s.updFrame n f).stage = s.stage := rfl
@[simp] theorem State.updFrame_force (n : Nat) (f : FrameRec → FrameRec) (s : State) : (s.updFrame n f).force = s.force := rfl
@[simp] theorem State.updFrame_par (n : Nat) (f : FrameRec → FrameRec) (s : State) : (s.updFrame n f).par = s.par := rfl
@[simp] theorem State.updFrame_pb (n : Nat) (f : FrameRec → FrameRec) (s : State) : (s.updFrame n f).pb = s.pb := rfl
@[simp] theorem State.updFrame_gen (n : Nat) (f : FrameRec → FrameRec) (s : State) : (s.updFrame n f).gen = s.gen := rfl
@[simp] theorem State.updFrame_tk (n : Nat) (f : FrameRec → FrameRec) (s : State) : (s.updFrame n f).tk = s.tk := rfl
@[simp] theorem State.updFrame_pair (n : Nat) (f : FrameRec → FrameRec) (s : State) : (s.updFrame n f).pair = s.pair := rfl
@[simp] theorem State.updFrame_lane (n : Nat) (f : FrameRec → FrameRec) (s : State) : (s.updFrame n f).lane = s.lane := rfl
@[simp] theorem State.updFrame_flow (n : Nat) (f : FrameRec → FrameRec) (s : State) : (s.updFrame n f).flow = s.flow := rfl
@[simp] theorem State.updFrame_rx (n : Nat) (f : FrameRec → FrameRec) (s : State) : (s.updFrame n f).rx = s.rx := rfl
@[simp] theorem State.updFrame_ixrx (n : Nat) (f : FrameRec → FrameRec) (s : State) : (s.updFrame n f).ixrx = s.ixrx := rfl
@[simp] theorem State.updFrame_col (n : Nat) (f : FrameRec → FrameRec) (s : State) : (s.updFrame n f).col = s.col := rfl
@[simp] theorem State.updFrame_canvas (n : Nat) (f : FrameRec → FrameRec) (s : State) : (s.updFrame n f).canvas = s.canvas := rfl
@[simp] theorem State.updFrame_layer (n : Nat) (f : FrameRec → FrameRec) (s : State) : (s.updFrame n f).layer = s.layer := rfl
@[simp] theorem State.updFrame_buf (n : Nat) (f : FrameRec → FrameRec) (s : State) : (s.updFrame n f).buf = s.buf := rfl
@[simp] theorem State.updFrame_video (n : Nat) (f : FrameRec → FrameRec) (s : State) : (s.updFrame n f).video = s.video := rfl
@[simp] theorem State.updFrame_wit (n : Nat) (f : FrameRec → FrameRec) (s : State) : (s.updFrame n f).wit = s.wit := rfl
@[simp] theorem State.updFrame_lat (n : Nat) (f : FrameRec → FrameRec) (s : State) : (s.updFrame n f).lat = s.lat := rfl
@[simp] theorem State.updFrame_scan (n : Nat) (f : FrameRec → FrameRec) (s : State) : (s.updFrame n f).scan = s.scan := rfl
@[simp] theorem State.updFrame_dmx (n : Nat) (f : FrameRec → FrameRec) (s : State) : (s.updFrame n f).dmx = s.dmx := rfl
@[simp] theorem State.updFrame_met (n : Nat) (f : FrameRec → FrameRec) (s : State) : (s.updFrame n f).met = s.met := rfl
@[simp] theorem State.updFrame_bak (n : Nat) (f : FrameRec → FrameRec) (s : State) : (s.updFrame n f).bak = s.bak := rfl
@[simp] theorem State.updFrame_nv (n : Nat) (f : FrameRec → FrameRec) (s : State) : (s.updFrame n f).nv = s.nv := rfl
@[simp] theorem State.updFrame_boot (n : Nat) (f : FrameRec → FrameRec) (s : State) : (s.updFrame n f).boot = s.boot := rfl
@[simp] theorem State.updFrame_upd (n : Nat) (f : FrameRec → FrameRec) (s : State) : (s.updFrame n f).upd = s.upd := rfl
@[simp] theorem State.updFrame_lock (n : Nat) (f : FrameRec → FrameRec) (s : State) : (s.updFrame n f).lock = s.lock := rfl
@[simp] theorem State.updFrame_chkg (n : Nat) (f : FrameRec → FrameRec) (s : State) : (s.updFrame n f).chkg = s.chkg := rfl
@[simp] theorem State.updFrame_chk (n : Nat) (f : FrameRec → FrameRec) (s : State) : (s.updFrame n f).chk = s.chk := rfl
@[simp] theorem State.updFrame_img (n : Nat) (f : FrameRec → FrameRec) (s : State) : (s.updFrame n f).img = s.img := rfl
@[simp] theorem State.updFrame_ledgerPage (n : Nat) (f : FrameRec → FrameRec) (s : State) : (s.updFrame n f).ledgerPage = s.ledgerPage := rfl
@[simp] theorem State.updFrame_mon (n : Nat) (f : FrameRec → FrameRec) (s : State) : (s.updFrame n f).mon = s.mon := rfl
@[simp] theorem State.updFrame_evt (n : Nat) (f : FrameRec → FrameRec) (s : State) : (s.updFrame n f).evt = s.evt := rfl
@[simp] theorem State.updFrame_pcie (n : Nat) (f : FrameRec → FrameRec) (s : State) : (s.updFrame n f).pcie = s.pcie := rfl
@[simp] theorem State.updFrame_ml (n : Nat) (f : FrameRec → FrameRec) (s : State) : (s.updFrame n f).ml = s.ml := rfl
@[simp] theorem State.updFrame_nw (n : Nat) (f : FrameRec → FrameRec) (s : State) : (s.updFrame n f).nw = s.nw := rfl
@[simp] theorem State.updFrame_pending (n : Nat) (f : FrameRec → FrameRec) (s : State) : (s.updFrame n f).pending = s.pending := rfl
@[simp] theorem State.updFrame_out (n : Nat) (f : FrameRec → FrameRec) (s : State) : (s.updFrame n f).out = s.out := rfl
@[simp] theorem State.updFrame_now (n : Nat) (f : FrameRec → FrameRec) (s : State) : (s.updFrame n f).now = s.now := rfl
@[simp] theorem State.updFrame_fresh (n : Nat) (f : FrameRec → FrameRec) (s : State) : (s.updFrame n f).fresh = s.fresh := rfl

/-! ## updUnit -/

@[simp] theorem State.updUnit_fuses (n : Nat) (f : Ttu → Ttu) (s : State) : (s.updUnit n f).fuses = s.fuses := rfl
@[simp] theorem State.updUnit_gl (n : Nat) (f : Ttu → Ttu) (s : State) : (s.updUnit n f).gl = s.gl := rfl
@[simp] theorem State.updUnit_hq (n : Nat) (f : Ttu → Ttu) (s : State) : (s.updUnit n f).hq = s.hq := rfl
@[simp] theorem State.updUnit_ses (n : Nat) (f : Ttu → Ttu) (s : State) : (s.updUnit n f).ses = s.ses := rfl
@[simp] theorem State.updUnit_jobs (n : Nat) (f : Ttu → Ttu) (s : State) : (s.updUnit n f).jobs = s.jobs := rfl
@[simp] theorem State.updUnit_rt (n : Nat) (f : Ttu → Ttu) (s : State) : (s.updUnit n f).rt = s.rt := rfl
@[simp] theorem State.updUnit_stage (n : Nat) (f : Ttu → Ttu) (s : State) : (s.updUnit n f).stage = s.stage := rfl
@[simp] theorem State.updUnit_force (n : Nat) (f : Ttu → Ttu) (s : State) : (s.updUnit n f).force = s.force := rfl
@[simp] theorem State.updUnit_par (n : Nat) (f : Ttu → Ttu) (s : State) : (s.updUnit n f).par = s.par := rfl
@[simp] theorem State.updUnit_pb (n : Nat) (f : Ttu → Ttu) (s : State) : (s.updUnit n f).pb = s.pb := rfl
@[simp] theorem State.updUnit_gen (n : Nat) (f : Ttu → Ttu) (s : State) : (s.updUnit n f).gen = s.gen := rfl
@[simp] theorem State.updUnit_sch (n : Nat) (f : Ttu → Ttu) (s : State) : (s.updUnit n f).sch = s.sch := rfl
@[simp] theorem State.updUnit_pair (n : Nat) (f : Ttu → Ttu) (s : State) : (s.updUnit n f).pair = s.pair := rfl
@[simp] theorem State.updUnit_lane (n : Nat) (f : Ttu → Ttu) (s : State) : (s.updUnit n f).lane = s.lane := rfl
@[simp] theorem State.updUnit_flow (n : Nat) (f : Ttu → Ttu) (s : State) : (s.updUnit n f).flow = s.flow := rfl
@[simp] theorem State.updUnit_rx (n : Nat) (f : Ttu → Ttu) (s : State) : (s.updUnit n f).rx = s.rx := rfl
@[simp] theorem State.updUnit_ixrx (n : Nat) (f : Ttu → Ttu) (s : State) : (s.updUnit n f).ixrx = s.ixrx := rfl
@[simp] theorem State.updUnit_col (n : Nat) (f : Ttu → Ttu) (s : State) : (s.updUnit n f).col = s.col := rfl
@[simp] theorem State.updUnit_canvas (n : Nat) (f : Ttu → Ttu) (s : State) : (s.updUnit n f).canvas = s.canvas := rfl
@[simp] theorem State.updUnit_layer (n : Nat) (f : Ttu → Ttu) (s : State) : (s.updUnit n f).layer = s.layer := rfl
@[simp] theorem State.updUnit_buf (n : Nat) (f : Ttu → Ttu) (s : State) : (s.updUnit n f).buf = s.buf := rfl
@[simp] theorem State.updUnit_video (n : Nat) (f : Ttu → Ttu) (s : State) : (s.updUnit n f).video = s.video := rfl
@[simp] theorem State.updUnit_wit (n : Nat) (f : Ttu → Ttu) (s : State) : (s.updUnit n f).wit = s.wit := rfl
@[simp] theorem State.updUnit_lat (n : Nat) (f : Ttu → Ttu) (s : State) : (s.updUnit n f).lat = s.lat := rfl
@[simp] theorem State.updUnit_scan (n : Nat) (f : Ttu → Ttu) (s : State) : (s.updUnit n f).scan = s.scan := rfl
@[simp] theorem State.updUnit_dmx (n : Nat) (f : Ttu → Ttu) (s : State) : (s.updUnit n f).dmx = s.dmx := rfl
@[simp] theorem State.updUnit_met (n : Nat) (f : Ttu → Ttu) (s : State) : (s.updUnit n f).met = s.met := rfl
@[simp] theorem State.updUnit_bak (n : Nat) (f : Ttu → Ttu) (s : State) : (s.updUnit n f).bak = s.bak := rfl
@[simp] theorem State.updUnit_nv (n : Nat) (f : Ttu → Ttu) (s : State) : (s.updUnit n f).nv = s.nv := rfl
@[simp] theorem State.updUnit_boot (n : Nat) (f : Ttu → Ttu) (s : State) : (s.updUnit n f).boot = s.boot := rfl
@[simp] theorem State.updUnit_upd (n : Nat) (f : Ttu → Ttu) (s : State) : (s.updUnit n f).upd = s.upd := rfl
@[simp] theorem State.updUnit_lock (n : Nat) (f : Ttu → Ttu) (s : State) : (s.updUnit n f).lock = s.lock := rfl
@[simp] theorem State.updUnit_chkg (n : Nat) (f : Ttu → Ttu) (s : State) : (s.updUnit n f).chkg = s.chkg := rfl
@[simp] theorem State.updUnit_chk (n : Nat) (f : Ttu → Ttu) (s : State) : (s.updUnit n f).chk = s.chk := rfl
@[simp] theorem State.updUnit_img (n : Nat) (f : Ttu → Ttu) (s : State) : (s.updUnit n f).img = s.img := rfl
@[simp] theorem State.updUnit_ledgerPage (n : Nat) (f : Ttu → Ttu) (s : State) : (s.updUnit n f).ledgerPage = s.ledgerPage := rfl
@[simp] theorem State.updUnit_mon (n : Nat) (f : Ttu → Ttu) (s : State) : (s.updUnit n f).mon = s.mon := rfl
@[simp] theorem State.updUnit_evt (n : Nat) (f : Ttu → Ttu) (s : State) : (s.updUnit n f).evt = s.evt := rfl
@[simp] theorem State.updUnit_pcie (n : Nat) (f : Ttu → Ttu) (s : State) : (s.updUnit n f).pcie = s.pcie := rfl
@[simp] theorem State.updUnit_ml (n : Nat) (f : Ttu → Ttu) (s : State) : (s.updUnit n f).ml = s.ml := rfl
@[simp] theorem State.updUnit_nw (n : Nat) (f : Ttu → Ttu) (s : State) : (s.updUnit n f).nw = s.nw := rfl
@[simp] theorem State.updUnit_pending (n : Nat) (f : Ttu → Ttu) (s : State) : (s.updUnit n f).pending = s.pending := rfl
@[simp] theorem State.updUnit_out (n : Nat) (f : Ttu → Ttu) (s : State) : (s.updUnit n f).out = s.out := rfl
@[simp] theorem State.updUnit_now (n : Nat) (f : Ttu → Ttu) (s : State) : (s.updUnit n f).now = s.now := rfl
@[simp] theorem State.updUnit_fresh (n : Nat) (f : Ttu → Ttu) (s : State) : (s.updUnit n f).fresh = s.fresh := rfl

/-! ## updInput -/

@[simp] theorem State.updInput_fuses (n : Nat) (f : Tti → Tti) (s : State) : (s.updInput n f).fuses = s.fuses := rfl
@[simp] theorem State.updInput_gl (n : Nat) (f : Tti → Tti) (s : State) : (s.updInput n f).gl = s.gl := rfl
@[simp] theorem State.updInput_hq (n : Nat) (f : Tti → Tti) (s : State) : (s.updInput n f).hq = s.hq := rfl
@[simp] theorem State.updInput_ses (n : Nat) (f : Tti → Tti) (s : State) : (s.updInput n f).ses = s.ses := rfl
@[simp] theorem State.updInput_jobs (n : Nat) (f : Tti → Tti) (s : State) : (s.updInput n f).jobs = s.jobs := rfl
@[simp] theorem State.updInput_rt (n : Nat) (f : Tti → Tti) (s : State) : (s.updInput n f).rt = s.rt := rfl
@[simp] theorem State.updInput_stage (n : Nat) (f : Tti → Tti) (s : State) : (s.updInput n f).stage = s.stage := rfl
@[simp] theorem State.updInput_force (n : Nat) (f : Tti → Tti) (s : State) : (s.updInput n f).force = s.force := rfl
@[simp] theorem State.updInput_par (n : Nat) (f : Tti → Tti) (s : State) : (s.updInput n f).par = s.par := rfl
@[simp] theorem State.updInput_pb (n : Nat) (f : Tti → Tti) (s : State) : (s.updInput n f).pb = s.pb := rfl
@[simp] theorem State.updInput_gen (n : Nat) (f : Tti → Tti) (s : State) : (s.updInput n f).gen = s.gen := rfl
@[simp] theorem State.updInput_sch (n : Nat) (f : Tti → Tti) (s : State) : (s.updInput n f).sch = s.sch := rfl
@[simp] theorem State.updInput_pair (n : Nat) (f : Tti → Tti) (s : State) : (s.updInput n f).pair = s.pair := rfl
@[simp] theorem State.updInput_lane (n : Nat) (f : Tti → Tti) (s : State) : (s.updInput n f).lane = s.lane := rfl
@[simp] theorem State.updInput_flow (n : Nat) (f : Tti → Tti) (s : State) : (s.updInput n f).flow = s.flow := rfl
@[simp] theorem State.updInput_rx (n : Nat) (f : Tti → Tti) (s : State) : (s.updInput n f).rx = s.rx := rfl
@[simp] theorem State.updInput_ixrx (n : Nat) (f : Tti → Tti) (s : State) : (s.updInput n f).ixrx = s.ixrx := rfl
@[simp] theorem State.updInput_col (n : Nat) (f : Tti → Tti) (s : State) : (s.updInput n f).col = s.col := rfl
@[simp] theorem State.updInput_canvas (n : Nat) (f : Tti → Tti) (s : State) : (s.updInput n f).canvas = s.canvas := rfl
@[simp] theorem State.updInput_layer (n : Nat) (f : Tti → Tti) (s : State) : (s.updInput n f).layer = s.layer := rfl
@[simp] theorem State.updInput_buf (n : Nat) (f : Tti → Tti) (s : State) : (s.updInput n f).buf = s.buf := rfl
@[simp] theorem State.updInput_video (n : Nat) (f : Tti → Tti) (s : State) : (s.updInput n f).video = s.video := rfl
@[simp] theorem State.updInput_wit (n : Nat) (f : Tti → Tti) (s : State) : (s.updInput n f).wit = s.wit := rfl
@[simp] theorem State.updInput_lat (n : Nat) (f : Tti → Tti) (s : State) : (s.updInput n f).lat = s.lat := rfl
@[simp] theorem State.updInput_scan (n : Nat) (f : Tti → Tti) (s : State) : (s.updInput n f).scan = s.scan := rfl
@[simp] theorem State.updInput_dmx (n : Nat) (f : Tti → Tti) (s : State) : (s.updInput n f).dmx = s.dmx := rfl
@[simp] theorem State.updInput_met (n : Nat) (f : Tti → Tti) (s : State) : (s.updInput n f).met = s.met := rfl
@[simp] theorem State.updInput_bak (n : Nat) (f : Tti → Tti) (s : State) : (s.updInput n f).bak = s.bak := rfl
@[simp] theorem State.updInput_nv (n : Nat) (f : Tti → Tti) (s : State) : (s.updInput n f).nv = s.nv := rfl
@[simp] theorem State.updInput_boot (n : Nat) (f : Tti → Tti) (s : State) : (s.updInput n f).boot = s.boot := rfl
@[simp] theorem State.updInput_upd (n : Nat) (f : Tti → Tti) (s : State) : (s.updInput n f).upd = s.upd := rfl
@[simp] theorem State.updInput_lock (n : Nat) (f : Tti → Tti) (s : State) : (s.updInput n f).lock = s.lock := rfl
@[simp] theorem State.updInput_chkg (n : Nat) (f : Tti → Tti) (s : State) : (s.updInput n f).chkg = s.chkg := rfl
@[simp] theorem State.updInput_chk (n : Nat) (f : Tti → Tti) (s : State) : (s.updInput n f).chk = s.chk := rfl
@[simp] theorem State.updInput_img (n : Nat) (f : Tti → Tti) (s : State) : (s.updInput n f).img = s.img := rfl
@[simp] theorem State.updInput_ledgerPage (n : Nat) (f : Tti → Tti) (s : State) : (s.updInput n f).ledgerPage = s.ledgerPage := rfl
@[simp] theorem State.updInput_mon (n : Nat) (f : Tti → Tti) (s : State) : (s.updInput n f).mon = s.mon := rfl
@[simp] theorem State.updInput_evt (n : Nat) (f : Tti → Tti) (s : State) : (s.updInput n f).evt = s.evt := rfl
@[simp] theorem State.updInput_pcie (n : Nat) (f : Tti → Tti) (s : State) : (s.updInput n f).pcie = s.pcie := rfl
@[simp] theorem State.updInput_ml (n : Nat) (f : Tti → Tti) (s : State) : (s.updInput n f).ml = s.ml := rfl
@[simp] theorem State.updInput_nw (n : Nat) (f : Tti → Tti) (s : State) : (s.updInput n f).nw = s.nw := rfl
@[simp] theorem State.updInput_pending (n : Nat) (f : Tti → Tti) (s : State) : (s.updInput n f).pending = s.pending := rfl
@[simp] theorem State.updInput_out (n : Nat) (f : Tti → Tti) (s : State) : (s.updInput n f).out = s.out := rfl
@[simp] theorem State.updInput_now (n : Nat) (f : Tti → Tti) (s : State) : (s.updInput n f).now = s.now := rfl
@[simp] theorem State.updInput_fresh (n : Nat) (f : Tti → Tti) (s : State) : (s.updInput n f).fresh = s.fresh := rfl

/-! ## count -/

@[simp] theorem State.count_fuses (n : Nat) (s : State) : (s.count n).fuses = s.fuses := rfl
@[simp] theorem State.count_gl (n : Nat) (s : State) : (s.count n).gl = s.gl := rfl
@[simp] theorem State.count_hq (n : Nat) (s : State) : (s.count n).hq = s.hq := rfl
@[simp] theorem State.count_ses (n : Nat) (s : State) : (s.count n).ses = s.ses := rfl
@[simp] theorem State.count_jobs (n : Nat) (s : State) : (s.count n).jobs = s.jobs := rfl
@[simp] theorem State.count_rt (n : Nat) (s : State) : (s.count n).rt = s.rt := rfl
@[simp] theorem State.count_stage (n : Nat) (s : State) : (s.count n).stage = s.stage := rfl
@[simp] theorem State.count_force (n : Nat) (s : State) : (s.count n).force = s.force := rfl
@[simp] theorem State.count_par (n : Nat) (s : State) : (s.count n).par = s.par := rfl
@[simp] theorem State.count_pb (n : Nat) (s : State) : (s.count n).pb = s.pb := rfl
@[simp] theorem State.count_gen (n : Nat) (s : State) : (s.count n).gen = s.gen := rfl
@[simp] theorem State.count_sch (n : Nat) (s : State) : (s.count n).sch = s.sch := rfl
@[simp] theorem State.count_tk (n : Nat) (s : State) : (s.count n).tk = s.tk := rfl
@[simp] theorem State.count_pair (n : Nat) (s : State) : (s.count n).pair = s.pair := rfl
@[simp] theorem State.count_lane (n : Nat) (s : State) : (s.count n).lane = s.lane := rfl
@[simp] theorem State.count_flow (n : Nat) (s : State) : (s.count n).flow = s.flow := rfl
@[simp] theorem State.count_rx (n : Nat) (s : State) : (s.count n).rx = s.rx := rfl
@[simp] theorem State.count_ixrx (n : Nat) (s : State) : (s.count n).ixrx = s.ixrx := rfl
@[simp] theorem State.count_col (n : Nat) (s : State) : (s.count n).col = s.col := rfl
@[simp] theorem State.count_canvas (n : Nat) (s : State) : (s.count n).canvas = s.canvas := rfl
@[simp] theorem State.count_layer (n : Nat) (s : State) : (s.count n).layer = s.layer := rfl
@[simp] theorem State.count_buf (n : Nat) (s : State) : (s.count n).buf = s.buf := rfl
@[simp] theorem State.count_video (n : Nat) (s : State) : (s.count n).video = s.video := rfl
@[simp] theorem State.count_wit (n : Nat) (s : State) : (s.count n).wit = s.wit := rfl
@[simp] theorem State.count_lat (n : Nat) (s : State) : (s.count n).lat = s.lat := rfl
@[simp] theorem State.count_scan (n : Nat) (s : State) : (s.count n).scan = s.scan := rfl
@[simp] theorem State.count_dmx (n : Nat) (s : State) : (s.count n).dmx = s.dmx := rfl
@[simp] theorem State.count_met (n : Nat) (s : State) : (s.count n).met = s.met := rfl
@[simp] theorem State.count_bak (n : Nat) (s : State) : (s.count n).bak = s.bak := rfl
@[simp] theorem State.count_boot (n : Nat) (s : State) : (s.count n).boot = s.boot := rfl
@[simp] theorem State.count_upd (n : Nat) (s : State) : (s.count n).upd = s.upd := rfl
@[simp] theorem State.count_lock (n : Nat) (s : State) : (s.count n).lock = s.lock := rfl
@[simp] theorem State.count_chkg (n : Nat) (s : State) : (s.count n).chkg = s.chkg := rfl
@[simp] theorem State.count_chk (n : Nat) (s : State) : (s.count n).chk = s.chk := rfl
@[simp] theorem State.count_img (n : Nat) (s : State) : (s.count n).img = s.img := rfl
@[simp] theorem State.count_ledgerPage (n : Nat) (s : State) : (s.count n).ledgerPage = s.ledgerPage := rfl
@[simp] theorem State.count_mon (n : Nat) (s : State) : (s.count n).mon = s.mon := rfl
@[simp] theorem State.count_evt (n : Nat) (s : State) : (s.count n).evt = s.evt := rfl
@[simp] theorem State.count_pcie (n : Nat) (s : State) : (s.count n).pcie = s.pcie := rfl
@[simp] theorem State.count_ml (n : Nat) (s : State) : (s.count n).ml = s.ml := rfl
@[simp] theorem State.count_nw (n : Nat) (s : State) : (s.count n).nw = s.nw := rfl
@[simp] theorem State.count_pending (n : Nat) (s : State) : (s.count n).pending = s.pending := rfl
@[simp] theorem State.count_out (n : Nat) (s : State) : (s.count n).out = s.out := rfl
@[simp] theorem State.count_now (n : Nat) (s : State) : (s.count n).now = s.now := rfl
@[simp] theorem State.count_fresh (n : Nat) (s : State) : (s.count n).fresh = s.fresh := rfl

/-! ## withArea -/

@[simp] theorem State.withArea_fuses (c : Cfg) (s : State) : (s.withArea c).fuses = s.fuses := rfl
@[simp] theorem State.withArea_gl (c : Cfg) (s : State) : (s.withArea c).gl = s.gl := rfl
@[simp] theorem State.withArea_hq (c : Cfg) (s : State) : (s.withArea c).hq = s.hq := rfl
@[simp] theorem State.withArea_ses (c : Cfg) (s : State) : (s.withArea c).ses = s.ses := rfl
@[simp] theorem State.withArea_jobs (c : Cfg) (s : State) : (s.withArea c).jobs = s.jobs := rfl
@[simp] theorem State.withArea_rt (c : Cfg) (s : State) : (s.withArea c).rt = s.rt := rfl
@[simp] theorem State.withArea_force (c : Cfg) (s : State) : (s.withArea c).force = s.force := rfl
@[simp] theorem State.withArea_par (c : Cfg) (s : State) : (s.withArea c).par = s.par := rfl
@[simp] theorem State.withArea_pb (c : Cfg) (s : State) : (s.withArea c).pb = s.pb := rfl
@[simp] theorem State.withArea_gen (c : Cfg) (s : State) : (s.withArea c).gen = s.gen := rfl
@[simp] theorem State.withArea_sch (c : Cfg) (s : State) : (s.withArea c).sch = s.sch := rfl
@[simp] theorem State.withArea_tk (c : Cfg) (s : State) : (s.withArea c).tk = s.tk := rfl
@[simp] theorem State.withArea_pair (c : Cfg) (s : State) : (s.withArea c).pair = s.pair := rfl
@[simp] theorem State.withArea_lane (c : Cfg) (s : State) : (s.withArea c).lane = s.lane := rfl
@[simp] theorem State.withArea_flow (c : Cfg) (s : State) : (s.withArea c).flow = s.flow := rfl
@[simp] theorem State.withArea_rx (c : Cfg) (s : State) : (s.withArea c).rx = s.rx := rfl
@[simp] theorem State.withArea_ixrx (c : Cfg) (s : State) : (s.withArea c).ixrx = s.ixrx := rfl
@[simp] theorem State.withArea_col (c : Cfg) (s : State) : (s.withArea c).col = s.col := rfl
@[simp] theorem State.withArea_canvas (c : Cfg) (s : State) : (s.withArea c).canvas = s.canvas := rfl
@[simp] theorem State.withArea_layer (c : Cfg) (s : State) : (s.withArea c).layer = s.layer := rfl
@[simp] theorem State.withArea_buf (c : Cfg) (s : State) : (s.withArea c).buf = s.buf := rfl
@[simp] theorem State.withArea_video (c : Cfg) (s : State) : (s.withArea c).video = s.video := rfl
@[simp] theorem State.withArea_wit (c : Cfg) (s : State) : (s.withArea c).wit = s.wit := rfl
@[simp] theorem State.withArea_lat (c : Cfg) (s : State) : (s.withArea c).lat = s.lat := rfl
@[simp] theorem State.withArea_scan (c : Cfg) (s : State) : (s.withArea c).scan = s.scan := rfl
@[simp] theorem State.withArea_dmx (c : Cfg) (s : State) : (s.withArea c).dmx = s.dmx := rfl
@[simp] theorem State.withArea_met (c : Cfg) (s : State) : (s.withArea c).met = s.met := rfl
@[simp] theorem State.withArea_bak (c : Cfg) (s : State) : (s.withArea c).bak = s.bak := rfl
@[simp] theorem State.withArea_nv (c : Cfg) (s : State) : (s.withArea c).nv = s.nv := rfl
@[simp] theorem State.withArea_boot (c : Cfg) (s : State) : (s.withArea c).boot = s.boot := rfl
@[simp] theorem State.withArea_upd (c : Cfg) (s : State) : (s.withArea c).upd = s.upd := rfl
@[simp] theorem State.withArea_lock (c : Cfg) (s : State) : (s.withArea c).lock = s.lock := rfl
@[simp] theorem State.withArea_chkg (c : Cfg) (s : State) : (s.withArea c).chkg = s.chkg := rfl
@[simp] theorem State.withArea_chk (c : Cfg) (s : State) : (s.withArea c).chk = s.chk := rfl
@[simp] theorem State.withArea_img (c : Cfg) (s : State) : (s.withArea c).img = s.img := rfl
@[simp] theorem State.withArea_ledgerPage (c : Cfg) (s : State) : (s.withArea c).ledgerPage = s.ledgerPage := rfl
@[simp] theorem State.withArea_mon (c : Cfg) (s : State) : (s.withArea c).mon = s.mon := rfl
@[simp] theorem State.withArea_evt (c : Cfg) (s : State) : (s.withArea c).evt = s.evt := rfl
@[simp] theorem State.withArea_pcie (c : Cfg) (s : State) : (s.withArea c).pcie = s.pcie := rfl
@[simp] theorem State.withArea_ml (c : Cfg) (s : State) : (s.withArea c).ml = s.ml := rfl
@[simp] theorem State.withArea_nw (c : Cfg) (s : State) : (s.withArea c).nw = s.nw := rfl
@[simp] theorem State.withArea_pending (c : Cfg) (s : State) : (s.withArea c).pending = s.pending := rfl
@[simp] theorem State.withArea_out (c : Cfg) (s : State) : (s.withArea c).out = s.out := rfl
@[simp] theorem State.withArea_now (c : Cfg) (s : State) : (s.withArea c).now = s.now := rfl
@[simp] theorem State.withArea_fresh (c : Cfg) (s : State) : (s.withArea c).fresh = s.fresh := rfl

@[simp] theorem State.emit_out (o : Output) (s : State) : (s.emit o).out = s.out ++ [o] := rfl
@[simp] theorem State.withArea_area (c : Cfg) (s : State) : (s.withArea c).stage.area = c := rfl

/-! ## Time -/

@[simp] theorem State.elapse_fuses (d : Nat) (s : State) : (s.elapse d).fuses = s.fuses := rfl
@[simp] theorem State.elapse_gl (d : Nat) (s : State) : (s.elapse d).gl = s.gl := rfl
@[simp] theorem State.elapse_hq (d : Nat) (s : State) : (s.elapse d).hq = s.hq := rfl
@[simp] theorem State.elapse_ses (d : Nat) (s : State) : (s.elapse d).ses = s.ses := rfl
@[simp] theorem State.elapse_jobs (d : Nat) (s : State) : (s.elapse d).jobs = s.jobs := rfl
@[simp] theorem State.elapse_rt (d : Nat) (s : State) : (s.elapse d).rt = s.rt := rfl
@[simp] theorem State.elapse_stage (d : Nat) (s : State) : (s.elapse d).stage = s.stage := rfl
@[simp] theorem State.elapse_force (d : Nat) (s : State) : (s.elapse d).force = s.force := rfl
@[simp] theorem State.elapse_par (d : Nat) (s : State) : (s.elapse d).par = s.par := rfl
@[simp] theorem State.elapse_pb (d : Nat) (s : State) : (s.elapse d).pb = s.pb := rfl
@[simp] theorem State.elapse_gen (d : Nat) (s : State) : (s.elapse d).gen = s.gen := rfl
@[simp] theorem State.elapse_sch (d : Nat) (s : State) : (s.elapse d).sch = s.sch := rfl
@[simp] theorem State.elapse_pair (d : Nat) (s : State) : (s.elapse d).pair = s.pair := rfl
@[simp] theorem State.elapse_lane (d : Nat) (s : State) : (s.elapse d).lane = s.lane := rfl
@[simp] theorem State.elapse_flow (d : Nat) (s : State) : (s.elapse d).flow = s.flow := rfl
@[simp] theorem State.elapse_rx (d : Nat) (s : State) : (s.elapse d).rx = s.rx := rfl
@[simp] theorem State.elapse_ixrx (d : Nat) (s : State) : (s.elapse d).ixrx = s.ixrx := rfl
@[simp] theorem State.elapse_col (d : Nat) (s : State) : (s.elapse d).col = s.col := rfl
@[simp] theorem State.elapse_canvas (d : Nat) (s : State) : (s.elapse d).canvas = s.canvas := rfl
@[simp] theorem State.elapse_layer (d : Nat) (s : State) : (s.elapse d).layer = s.layer := rfl
@[simp] theorem State.elapse_buf (d : Nat) (s : State) : (s.elapse d).buf = s.buf := rfl
@[simp] theorem State.elapse_video (d : Nat) (s : State) : (s.elapse d).video = s.video := rfl
@[simp] theorem State.elapse_wit (d : Nat) (s : State) : (s.elapse d).wit = s.wit := rfl
@[simp] theorem State.elapse_lat (d : Nat) (s : State) : (s.elapse d).lat = s.lat := rfl
@[simp] theorem State.elapse_scan (d : Nat) (s : State) : (s.elapse d).scan = s.scan := rfl
@[simp] theorem State.elapse_dmx (d : Nat) (s : State) : (s.elapse d).dmx = s.dmx := rfl
@[simp] theorem State.elapse_met (d : Nat) (s : State) : (s.elapse d).met = s.met := rfl
@[simp] theorem State.elapse_bak (d : Nat) (s : State) : (s.elapse d).bak = s.bak := rfl
@[simp] theorem State.elapse_nv (d : Nat) (s : State) : (s.elapse d).nv = s.nv := rfl
@[simp] theorem State.elapse_boot (d : Nat) (s : State) : (s.elapse d).boot = s.boot := rfl
@[simp] theorem State.elapse_upd (d : Nat) (s : State) : (s.elapse d).upd = s.upd := rfl
@[simp] theorem State.elapse_lock (d : Nat) (s : State) : (s.elapse d).lock = s.lock := rfl
@[simp] theorem State.elapse_chkg (d : Nat) (s : State) : (s.elapse d).chkg = s.chkg := rfl
@[simp] theorem State.elapse_chk (d : Nat) (s : State) : (s.elapse d).chk = s.chk := rfl
@[simp] theorem State.elapse_img (d : Nat) (s : State) : (s.elapse d).img = s.img := rfl
@[simp] theorem State.elapse_ledgerPage (d : Nat) (s : State) : (s.elapse d).ledgerPage = s.ledgerPage := rfl
@[simp] theorem State.elapse_mon (d : Nat) (s : State) : (s.elapse d).mon = s.mon := rfl
@[simp] theorem State.elapse_evt (d : Nat) (s : State) : (s.elapse d).evt = s.evt := rfl
@[simp] theorem State.elapse_pcie (d : Nat) (s : State) : (s.elapse d).pcie = s.pcie := rfl
@[simp] theorem State.elapse_ml (d : Nat) (s : State) : (s.elapse d).ml = s.ml := rfl
@[simp] theorem State.elapse_nw (d : Nat) (s : State) : (s.elapse d).nw = s.nw := rfl
@[simp] theorem State.elapse_pending (d : Nat) (s : State) : (s.elapse d).pending = s.pending := rfl
@[simp] theorem State.elapse_out (d : Nat) (s : State) : (s.elapse d).out = s.out := rfl
@[simp] theorem State.elapse_fresh (d : Nat) (s : State) : (s.elapse d).fresh = s.fresh := rfl
@[simp] theorem State.advanceNow_fuses (t : Nat) (s : State) : (s.advanceNow t).fuses = s.fuses := rfl
@[simp] theorem State.advanceNow_gl (t : Nat) (s : State) : (s.advanceNow t).gl = s.gl := rfl
@[simp] theorem State.advanceNow_hq (t : Nat) (s : State) : (s.advanceNow t).hq = s.hq := rfl
@[simp] theorem State.advanceNow_ses (t : Nat) (s : State) : (s.advanceNow t).ses = s.ses := rfl
@[simp] theorem State.advanceNow_jobs (t : Nat) (s : State) : (s.advanceNow t).jobs = s.jobs := rfl
@[simp] theorem State.advanceNow_rt (t : Nat) (s : State) : (s.advanceNow t).rt = s.rt := rfl
@[simp] theorem State.advanceNow_stage (t : Nat) (s : State) : (s.advanceNow t).stage = s.stage := rfl
@[simp] theorem State.advanceNow_force (t : Nat) (s : State) : (s.advanceNow t).force = s.force := rfl
@[simp] theorem State.advanceNow_par (t : Nat) (s : State) : (s.advanceNow t).par = s.par := rfl
@[simp] theorem State.advanceNow_pb (t : Nat) (s : State) : (s.advanceNow t).pb = s.pb := rfl
@[simp] theorem State.advanceNow_gen (t : Nat) (s : State) : (s.advanceNow t).gen = s.gen := rfl
@[simp] theorem State.advanceNow_sch (t : Nat) (s : State) : (s.advanceNow t).sch = s.sch := rfl
@[simp] theorem State.advanceNow_pair (t : Nat) (s : State) : (s.advanceNow t).pair = s.pair := rfl
@[simp] theorem State.advanceNow_lane (t : Nat) (s : State) : (s.advanceNow t).lane = s.lane := rfl
@[simp] theorem State.advanceNow_flow (t : Nat) (s : State) : (s.advanceNow t).flow = s.flow := rfl
@[simp] theorem State.advanceNow_rx (t : Nat) (s : State) : (s.advanceNow t).rx = s.rx := rfl
@[simp] theorem State.advanceNow_ixrx (t : Nat) (s : State) : (s.advanceNow t).ixrx = s.ixrx := rfl
@[simp] theorem State.advanceNow_col (t : Nat) (s : State) : (s.advanceNow t).col = s.col := rfl
@[simp] theorem State.advanceNow_canvas (t : Nat) (s : State) : (s.advanceNow t).canvas = s.canvas := rfl
@[simp] theorem State.advanceNow_layer (t : Nat) (s : State) : (s.advanceNow t).layer = s.layer := rfl
@[simp] theorem State.advanceNow_buf (t : Nat) (s : State) : (s.advanceNow t).buf = s.buf := rfl
@[simp] theorem State.advanceNow_video (t : Nat) (s : State) : (s.advanceNow t).video = s.video := rfl
@[simp] theorem State.advanceNow_wit (t : Nat) (s : State) : (s.advanceNow t).wit = s.wit := rfl
@[simp] theorem State.advanceNow_lat (t : Nat) (s : State) : (s.advanceNow t).lat = s.lat := rfl
@[simp] theorem State.advanceNow_scan (t : Nat) (s : State) : (s.advanceNow t).scan = s.scan := rfl
@[simp] theorem State.advanceNow_dmx (t : Nat) (s : State) : (s.advanceNow t).dmx = s.dmx := rfl
@[simp] theorem State.advanceNow_met (t : Nat) (s : State) : (s.advanceNow t).met = s.met := rfl
@[simp] theorem State.advanceNow_bak (t : Nat) (s : State) : (s.advanceNow t).bak = s.bak := rfl
@[simp] theorem State.advanceNow_nv (t : Nat) (s : State) : (s.advanceNow t).nv = s.nv := rfl
@[simp] theorem State.advanceNow_boot (t : Nat) (s : State) : (s.advanceNow t).boot = s.boot := rfl
@[simp] theorem State.advanceNow_upd (t : Nat) (s : State) : (s.advanceNow t).upd = s.upd := rfl
@[simp] theorem State.advanceNow_lock (t : Nat) (s : State) : (s.advanceNow t).lock = s.lock := rfl
@[simp] theorem State.advanceNow_chkg (t : Nat) (s : State) : (s.advanceNow t).chkg = s.chkg := rfl
@[simp] theorem State.advanceNow_chk (t : Nat) (s : State) : (s.advanceNow t).chk = s.chk := rfl
@[simp] theorem State.advanceNow_img (t : Nat) (s : State) : (s.advanceNow t).img = s.img := rfl
@[simp] theorem State.advanceNow_ledgerPage (t : Nat) (s : State) : (s.advanceNow t).ledgerPage = s.ledgerPage := rfl
@[simp] theorem State.advanceNow_mon (t : Nat) (s : State) : (s.advanceNow t).mon = s.mon := rfl
@[simp] theorem State.advanceNow_evt (t : Nat) (s : State) : (s.advanceNow t).evt = s.evt := rfl
@[simp] theorem State.advanceNow_pcie (t : Nat) (s : State) : (s.advanceNow t).pcie = s.pcie := rfl
@[simp] theorem State.advanceNow_ml (t : Nat) (s : State) : (s.advanceNow t).ml = s.ml := rfl
@[simp] theorem State.advanceNow_nw (t : Nat) (s : State) : (s.advanceNow t).nw = s.nw := rfl
@[simp] theorem State.advanceNow_pending (t : Nat) (s : State) : (s.advanceNow t).pending = s.pending := rfl
@[simp] theorem State.advanceNow_out (t : Nat) (s : State) : (s.advanceNow t).out = s.out := rfl
@[simp] theorem State.advanceNow_fresh (t : Nat) (s : State) : (s.advanceNow t).fresh = s.fresh := rfl
@[simp] theorem State.advanceTo_fuses (t : Nat) (s : State) : (s.advanceTo t).fuses = s.fuses := by
  unfold State.advanceTo; split <;> rfl
@[simp] theorem State.advanceTo_gl (t : Nat) (s : State) : (s.advanceTo t).gl = s.gl := by
  unfold State.advanceTo; split <;> rfl
@[simp] theorem State.advanceTo_hq (t : Nat) (s : State) : (s.advanceTo t).hq = s.hq := by
  unfold State.advanceTo; split <;> rfl
@[simp] theorem State.advanceTo_ses (t : Nat) (s : State) : (s.advanceTo t).ses = s.ses := by
  unfold State.advanceTo; split <;> rfl
@[simp] theorem State.advanceTo_jobs (t : Nat) (s : State) : (s.advanceTo t).jobs = s.jobs := by
  unfold State.advanceTo; split <;> rfl
@[simp] theorem State.advanceTo_rt (t : Nat) (s : State) : (s.advanceTo t).rt = s.rt := by
  unfold State.advanceTo; split <;> rfl
@[simp] theorem State.advanceTo_stage (t : Nat) (s : State) : (s.advanceTo t).stage = s.stage := by
  unfold State.advanceTo; split <;> rfl
@[simp] theorem State.advanceTo_force (t : Nat) (s : State) : (s.advanceTo t).force = s.force := by
  unfold State.advanceTo; split <;> rfl
@[simp] theorem State.advanceTo_par (t : Nat) (s : State) : (s.advanceTo t).par = s.par := by
  unfold State.advanceTo; split <;> rfl
@[simp] theorem State.advanceTo_pb (t : Nat) (s : State) : (s.advanceTo t).pb = s.pb := by
  unfold State.advanceTo; split <;> rfl
@[simp] theorem State.advanceTo_gen (t : Nat) (s : State) : (s.advanceTo t).gen = s.gen := by
  unfold State.advanceTo; split <;> rfl
@[simp] theorem State.advanceTo_sch (t : Nat) (s : State) : (s.advanceTo t).sch = s.sch := by
  unfold State.advanceTo; split <;> rfl
@[simp] theorem State.advanceTo_pair (t : Nat) (s : State) : (s.advanceTo t).pair = s.pair := by
  unfold State.advanceTo; split <;> rfl
@[simp] theorem State.advanceTo_lane (t : Nat) (s : State) : (s.advanceTo t).lane = s.lane := by
  unfold State.advanceTo; split <;> rfl
@[simp] theorem State.advanceTo_flow (t : Nat) (s : State) : (s.advanceTo t).flow = s.flow := by
  unfold State.advanceTo; split <;> rfl
@[simp] theorem State.advanceTo_rx (t : Nat) (s : State) : (s.advanceTo t).rx = s.rx := by
  unfold State.advanceTo; split <;> rfl
@[simp] theorem State.advanceTo_ixrx (t : Nat) (s : State) : (s.advanceTo t).ixrx = s.ixrx := by
  unfold State.advanceTo; split <;> rfl
@[simp] theorem State.advanceTo_col (t : Nat) (s : State) : (s.advanceTo t).col = s.col := by
  unfold State.advanceTo; split <;> rfl
@[simp] theorem State.advanceTo_canvas (t : Nat) (s : State) : (s.advanceTo t).canvas = s.canvas := by
  unfold State.advanceTo; split <;> rfl
@[simp] theorem State.advanceTo_layer (t : Nat) (s : State) : (s.advanceTo t).layer = s.layer := by
  unfold State.advanceTo; split <;> rfl
@[simp] theorem State.advanceTo_buf (t : Nat) (s : State) : (s.advanceTo t).buf = s.buf := by
  unfold State.advanceTo; split <;> rfl
@[simp] theorem State.advanceTo_video (t : Nat) (s : State) : (s.advanceTo t).video = s.video := by
  unfold State.advanceTo; split <;> rfl
@[simp] theorem State.advanceTo_wit (t : Nat) (s : State) : (s.advanceTo t).wit = s.wit := by
  unfold State.advanceTo; split <;> rfl
@[simp] theorem State.advanceTo_lat (t : Nat) (s : State) : (s.advanceTo t).lat = s.lat := by
  unfold State.advanceTo; split <;> rfl
@[simp] theorem State.advanceTo_scan (t : Nat) (s : State) : (s.advanceTo t).scan = s.scan := by
  unfold State.advanceTo; split <;> rfl
@[simp] theorem State.advanceTo_dmx (t : Nat) (s : State) : (s.advanceTo t).dmx = s.dmx := by
  unfold State.advanceTo; split <;> rfl
@[simp] theorem State.advanceTo_met (t : Nat) (s : State) : (s.advanceTo t).met = s.met := by
  unfold State.advanceTo; split <;> rfl
@[simp] theorem State.advanceTo_bak (t : Nat) (s : State) : (s.advanceTo t).bak = s.bak := by
  unfold State.advanceTo; split <;> rfl
@[simp] theorem State.advanceTo_nv (t : Nat) (s : State) : (s.advanceTo t).nv = s.nv := by
  unfold State.advanceTo; split <;> rfl
@[simp] theorem State.advanceTo_boot (t : Nat) (s : State) : (s.advanceTo t).boot = s.boot := by
  unfold State.advanceTo; split <;> rfl
@[simp] theorem State.advanceTo_upd (t : Nat) (s : State) : (s.advanceTo t).upd = s.upd := by
  unfold State.advanceTo; split <;> rfl
@[simp] theorem State.advanceTo_lock (t : Nat) (s : State) : (s.advanceTo t).lock = s.lock := by
  unfold State.advanceTo; split <;> rfl
@[simp] theorem State.advanceTo_chkg (t : Nat) (s : State) : (s.advanceTo t).chkg = s.chkg := by
  unfold State.advanceTo; split <;> rfl
@[simp] theorem State.advanceTo_chk (t : Nat) (s : State) : (s.advanceTo t).chk = s.chk := by
  unfold State.advanceTo; split <;> rfl
@[simp] theorem State.advanceTo_img (t : Nat) (s : State) : (s.advanceTo t).img = s.img := by
  unfold State.advanceTo; split <;> rfl
@[simp] theorem State.advanceTo_ledgerPage (t : Nat) (s : State) : (s.advanceTo t).ledgerPage = s.ledgerPage := by
  unfold State.advanceTo; split <;> rfl
@[simp] theorem State.advanceTo_mon (t : Nat) (s : State) : (s.advanceTo t).mon = s.mon := by
  unfold State.advanceTo; split <;> rfl
@[simp] theorem State.advanceTo_evt (t : Nat) (s : State) : (s.advanceTo t).evt = s.evt := by
  unfold State.advanceTo; split <;> rfl
@[simp] theorem State.advanceTo_pcie (t : Nat) (s : State) : (s.advanceTo t).pcie = s.pcie := by
  unfold State.advanceTo; split <;> rfl
@[simp] theorem State.advanceTo_ml (t : Nat) (s : State) : (s.advanceTo t).ml = s.ml := by
  unfold State.advanceTo; split <;> rfl
@[simp] theorem State.advanceTo_nw (t : Nat) (s : State) : (s.advanceTo t).nw = s.nw := by
  unfold State.advanceTo; split <;> rfl
@[simp] theorem State.advanceTo_pending (t : Nat) (s : State) : (s.advanceTo t).pending = s.pending := by
  unfold State.advanceTo; split <;> rfl
@[simp] theorem State.advanceTo_out (t : Nat) (s : State) : (s.advanceTo t).out = s.out := by
  unfold State.advanceTo; split <;> rfl
@[simp] theorem State.advanceTo_fresh (t : Nat) (s : State) : (s.advanceTo t).fresh = s.fresh := by
  unfold State.advanceTo; split <;> rfl
@[simp] theorem State.updDom_fuses (n : Nat) (f : PtpDomain → PtpDomain) (s : State) : (s.updDom n f).fuses = s.fuses := by
  unfold State.updDom; split <;> rfl
@[simp] theorem State.updDom_gl (n : Nat) (f : PtpDomain → PtpDomain) (s : State) : (s.updDom n f).gl = s.gl := by
  unfold State.updDom; split <;> rfl
@[simp] theorem State.updDom_hq (n : Nat) (f : PtpDomain → PtpDomain) (s : State) : (s.updDom n f).hq = s.hq := by
  unfold State.updDom; split <;> rfl
@[simp] theorem State.updDom_ses (n : Nat) (f : PtpDomain → PtpDomain) (s : State) : (s.updDom n f).ses = s.ses := by
  unfold State.updDom; split <;> rfl
@[simp] theorem State.updDom_jobs (n : Nat) (f : PtpDomain → PtpDomain) (s : State) : (s.updDom n f).jobs = s.jobs := by
  unfold State.updDom; split <;> rfl
@[simp] theorem State.updDom_rt (n : Nat) (f : PtpDomain → PtpDomain) (s : State) : (s.updDom n f).rt = s.rt := by
  unfold State.updDom; split <;> rfl
@[simp] theorem State.updDom_stage (n : Nat) (f : PtpDomain → PtpDomain) (s : State) : (s.updDom n f).stage = s.stage := by
  unfold State.updDom; split <;> rfl
@[simp] theorem State.updDom_force (n : Nat) (f : PtpDomain → PtpDomain) (s : State) : (s.updDom n f).force = s.force := by
  unfold State.updDom; split <;> rfl
@[simp] theorem State.updDom_par (n : Nat) (f : PtpDomain → PtpDomain) (s : State) : (s.updDom n f).par = s.par := by
  unfold State.updDom; split <;> rfl
@[simp] theorem State.updDom_pb (n : Nat) (f : PtpDomain → PtpDomain) (s : State) : (s.updDom n f).pb = s.pb := by
  unfold State.updDom; split <;> rfl
@[simp] theorem State.updDom_gen (n : Nat) (f : PtpDomain → PtpDomain) (s : State) : (s.updDom n f).gen = s.gen := by
  unfold State.updDom; split <;> rfl
@[simp] theorem State.updDom_sch (n : Nat) (f : PtpDomain → PtpDomain) (s : State) : (s.updDom n f).sch = s.sch := by
  unfold State.updDom; split <;> rfl
@[simp] theorem State.updDom_pair (n : Nat) (f : PtpDomain → PtpDomain) (s : State) : (s.updDom n f).pair = s.pair := by
  unfold State.updDom; split <;> rfl
@[simp] theorem State.updDom_lane (n : Nat) (f : PtpDomain → PtpDomain) (s : State) : (s.updDom n f).lane = s.lane := by
  unfold State.updDom; split <;> rfl
@[simp] theorem State.updDom_flow (n : Nat) (f : PtpDomain → PtpDomain) (s : State) : (s.updDom n f).flow = s.flow := by
  unfold State.updDom; split <;> rfl
@[simp] theorem State.updDom_rx (n : Nat) (f : PtpDomain → PtpDomain) (s : State) : (s.updDom n f).rx = s.rx := by
  unfold State.updDom; split <;> rfl
@[simp] theorem State.updDom_ixrx (n : Nat) (f : PtpDomain → PtpDomain) (s : State) : (s.updDom n f).ixrx = s.ixrx := by
  unfold State.updDom; split <;> rfl
@[simp] theorem State.updDom_col (n : Nat) (f : PtpDomain → PtpDomain) (s : State) : (s.updDom n f).col = s.col := by
  unfold State.updDom; split <;> rfl
@[simp] theorem State.updDom_canvas (n : Nat) (f : PtpDomain → PtpDomain) (s : State) : (s.updDom n f).canvas = s.canvas := by
  unfold State.updDom; split <;> rfl
@[simp] theorem State.updDom_layer (n : Nat) (f : PtpDomain → PtpDomain) (s : State) : (s.updDom n f).layer = s.layer := by
  unfold State.updDom; split <;> rfl
@[simp] theorem State.updDom_buf (n : Nat) (f : PtpDomain → PtpDomain) (s : State) : (s.updDom n f).buf = s.buf := by
  unfold State.updDom; split <;> rfl
@[simp] theorem State.updDom_video (n : Nat) (f : PtpDomain → PtpDomain) (s : State) : (s.updDom n f).video = s.video := by
  unfold State.updDom; split <;> rfl
@[simp] theorem State.updDom_wit (n : Nat) (f : PtpDomain → PtpDomain) (s : State) : (s.updDom n f).wit = s.wit := by
  unfold State.updDom; split <;> rfl
@[simp] theorem State.updDom_lat (n : Nat) (f : PtpDomain → PtpDomain) (s : State) : (s.updDom n f).lat = s.lat := by
  unfold State.updDom; split <;> rfl
@[simp] theorem State.updDom_scan (n : Nat) (f : PtpDomain → PtpDomain) (s : State) : (s.updDom n f).scan = s.scan := by
  unfold State.updDom; split <;> rfl
@[simp] theorem State.updDom_dmx (n : Nat) (f : PtpDomain → PtpDomain) (s : State) : (s.updDom n f).dmx = s.dmx := by
  unfold State.updDom; split <;> rfl
@[simp] theorem State.updDom_met (n : Nat) (f : PtpDomain → PtpDomain) (s : State) : (s.updDom n f).met = s.met := by
  unfold State.updDom; split <;> rfl
@[simp] theorem State.updDom_bak (n : Nat) (f : PtpDomain → PtpDomain) (s : State) : (s.updDom n f).bak = s.bak := by
  unfold State.updDom; split <;> rfl
@[simp] theorem State.updDom_nv (n : Nat) (f : PtpDomain → PtpDomain) (s : State) : (s.updDom n f).nv = s.nv := by
  unfold State.updDom; split <;> rfl
@[simp] theorem State.updDom_boot (n : Nat) (f : PtpDomain → PtpDomain) (s : State) : (s.updDom n f).boot = s.boot := by
  unfold State.updDom; split <;> rfl
@[simp] theorem State.updDom_upd (n : Nat) (f : PtpDomain → PtpDomain) (s : State) : (s.updDom n f).upd = s.upd := by
  unfold State.updDom; split <;> rfl
@[simp] theorem State.updDom_lock (n : Nat) (f : PtpDomain → PtpDomain) (s : State) : (s.updDom n f).lock = s.lock := by
  unfold State.updDom; split <;> rfl
@[simp] theorem State.updDom_chkg (n : Nat) (f : PtpDomain → PtpDomain) (s : State) : (s.updDom n f).chkg = s.chkg := by
  unfold State.updDom; split <;> rfl
@[simp] theorem State.updDom_chk (n : Nat) (f : PtpDomain → PtpDomain) (s : State) : (s.updDom n f).chk = s.chk := by
  unfold State.updDom; split <;> rfl
@[simp] theorem State.updDom_img (n : Nat) (f : PtpDomain → PtpDomain) (s : State) : (s.updDom n f).img = s.img := by
  unfold State.updDom; split <;> rfl
@[simp] theorem State.updDom_ledgerPage (n : Nat) (f : PtpDomain → PtpDomain) (s : State) : (s.updDom n f).ledgerPage = s.ledgerPage := by
  unfold State.updDom; split <;> rfl
@[simp] theorem State.updDom_mon (n : Nat) (f : PtpDomain → PtpDomain) (s : State) : (s.updDom n f).mon = s.mon := by
  unfold State.updDom; split <;> rfl
@[simp] theorem State.updDom_evt (n : Nat) (f : PtpDomain → PtpDomain) (s : State) : (s.updDom n f).evt = s.evt := by
  unfold State.updDom; split <;> rfl
@[simp] theorem State.updDom_pcie (n : Nat) (f : PtpDomain → PtpDomain) (s : State) : (s.updDom n f).pcie = s.pcie := by
  unfold State.updDom; split <;> rfl
@[simp] theorem State.updDom_ml (n : Nat) (f : PtpDomain → PtpDomain) (s : State) : (s.updDom n f).ml = s.ml := by
  unfold State.updDom; split <;> rfl
@[simp] theorem State.updDom_nw (n : Nat) (f : PtpDomain → PtpDomain) (s : State) : (s.updDom n f).nw = s.nw := by
  unfold State.updDom; split <;> rfl
@[simp] theorem State.updDom_pending (n : Nat) (f : PtpDomain → PtpDomain) (s : State) : (s.updDom n f).pending = s.pending := by
  unfold State.updDom; split <;> rfl
@[simp] theorem State.updDom_out (n : Nat) (f : PtpDomain → PtpDomain) (s : State) : (s.updDom n f).out = s.out := by
  unfold State.updDom; split <;> rfl
@[simp] theorem State.updDom_now (n : Nat) (f : PtpDomain → PtpDomain) (s : State) : (s.updDom n f).now = s.now := by
  unfold State.updDom; split <;> rfl
@[simp] theorem State.updDom_fresh (n : Nat) (f : PtpDomain → PtpDomain) (s : State) : (s.updDom n f).fresh = s.fresh := by
  unfold State.updDom; split <;> rfl
@[simp] theorem State.elapse_now (d : Nat) (s : State) : (s.elapse d).now = s.now + d := rfl
@[simp] theorem State.updDom_dom (n : Nat) (f : PtpDomain → PtpDomain) (s : State) : (s.updDom n f).tk.dom n = f (s.tk.dom n) := by
  unfold State.updDom TimeKeeper.dom; split <;> rfl

/-! ## The unit that an update names -/

@[simp] theorem State.setRing_ring (n : Nat) (p : RingPair) (s : State) : (s.setRing n p).ring n = p := by
  simp [State.setRing, State.ring]
theorem State.setRing_ring_ne {n k : Nat} (p : RingPair) (s : State) (h : n ≠ k) : (s.setRing n p).ring k = s.ring k := by
  simp [State.setRing, State.ring, Tab.getD_put_ne _ _ _ h]
@[simp] theorem State.updLane_laneOf (n : Nat) (f : Lane → Lane) (s : State) : (s.updLane n f).laneOf n = f (s.laneOf n) := by
  simp [State.updLane, State.laneOf, Tab.getD_upd_self]
theorem State.updLane_laneOf_ne {n k : Nat} (f : Lane → Lane) (s : State) (h : n ≠ k) : (s.updLane n f).laneOf k = s.laneOf k := by
  simp [State.updLane, State.laneOf, Tab.getD_upd_ne _ _ _ h]
@[simp] theorem State.updFlow_flowOf (n : Nat) (f : Flow → Flow) (s : State) : (s.updFlow n f).flowOf n = f (s.flowOf n) := by
  simp [State.updFlow, State.flowOf, Tab.getD_upd_self]
theorem State.updFlow_flowOf_ne {n k : Nat} (f : Flow → Flow) (s : State) (h : n ≠ k) : (s.updFlow n f).flowOf k = s.flowOf k := by
  simp [State.updFlow, State.flowOf, Tab.getD_upd_ne _ _ _ h]
@[simp] theorem State.updWindow_window (n : Nat) (f : Wit → Wit) (s : State) : (s.updWindow n f).window n = f (s.window n) := by
  simp [State.updWindow, State.window, Tab.getD_upd_self]
theorem State.updWindow_window_ne {n k : Nat} (f : Wit → Wit) (s : State) (h : n ≠ k) : (s.updWindow n f).window k = s.window k := by
  simp [State.updWindow, State.window, Tab.getD_upd_ne _ _ _ h]
@[simp] theorem State.updChan_chan (n : Nat) (f : Chk → Chk) (s : State) : (s.updChan n f).chan n = f (s.chan n) := by
  simp [State.updChan, State.chan, Tab.getD_upd_self]
theorem State.updChan_chan_ne {n k : Nat} (f : Chk → Chk) (s : State) (h : n ≠ k) : (s.updChan n f).chan k = s.chan k := by
  simp [State.updChan, State.chan, Tab.getD_upd_ne _ _ _ h]
@[simp] theorem State.updBus_bus (n : Nat) (f : I2c → I2c) (s : State) : (s.updBus n f).bus n = f (s.bus n) := by
  simp [State.updBus, State.bus, Tab.getD_upd_self]
theorem State.updBus_bus_ne {n k : Nat} (f : I2c → I2c) (s : State) (h : n ≠ k) : (s.updBus n f).bus k = s.bus k := by
  simp [State.updBus, State.bus, Tab.getD_upd_ne _ _ _ h]
@[simp] theorem State.updDmx_dmxOf (n : Nat) (f : DmxPort → DmxPort) (s : State) : (s.updDmx n f).dmxOf n = f (s.dmxOf n) := by
  simp [State.updDmx, State.dmxOf, Tab.getD_upd_self]
theorem State.updDmx_dmxOf_ne {n k : Nat} (f : DmxPort → DmxPort) (s : State) (h : n ≠ k) : (s.updDmx n f).dmxOf k = s.dmxOf k := by
  simp [State.updDmx, State.dmxOf, Tab.getD_upd_ne _ _ _ h]
@[simp] theorem State.updFeeder_feeder (n : Nat) (f : Feeder → Feeder) (s : State) : (s.updFeeder n f).feeder n = f (s.feeder n) := by
  simp [State.updFeeder, State.feeder, Tab.getD_upd_self]
theorem State.updFeeder_feeder_ne {n k : Nat} (f : Feeder → Feeder) (s : State) (h : n ≠ k) : (s.updFeeder n f).feeder k = s.feeder k := by
  simp [State.updFeeder, State.feeder, Tab.getD_upd_ne _ _ _ h]
@[simp] theorem State.updPort_port (n : Nat) (f : ScanPort → ScanPort) (s : State) : (s.updPort n f).port n = f (s.port n) := by
  simp [State.updPort, State.port, Tab.getD_upd_self]
theorem State.updPort_port_ne {n k : Nat} (f : ScanPort → ScanPort) (s : State) (h : n ≠ k) : (s.updPort n f).port k = s.port k := by
  simp [State.updPort, State.port, Tab.getD_upd_ne _ _ _ h]
@[simp] theorem State.updUnit_unit (n : Nat) (f : Ttu → Ttu) (s : State) : (s.updUnit n f).unit n = f (s.unit n) := by
  simp [State.updUnit, State.unit, Tab.getD_upd_self]
theorem State.updUnit_unit_ne {n k : Nat} (f : Ttu → Ttu) (s : State) (h : n ≠ k) : (s.updUnit n f).unit k = s.unit k := by
  simp [State.updUnit, State.unit, Tab.getD_upd_ne _ _ _ h]
@[simp] theorem State.updInput_input (n : Nat) (f : Tti → Tti) (s : State) : (s.updInput n f).input n = f (s.input n) := by
  simp [State.updInput, State.input, Tab.getD_upd_self]
theorem State.updInput_input_ne {n k : Nat} (f : Tti → Tti) (s : State) (h : n ≠ k) : (s.updInput n f).input k = s.input k := by
  simp [State.updInput, State.input, Tab.getD_upd_ne _ _ _ h]

end Sys2Proof.Machine
end

