-- ==== Sys2Proof/Laws/Raise.lean ====
section
/-! SUPPORT. Raising an event (R488-R497) changes nothing but the event block, the ledger log, the PCIe function's pending
messages and what leaves the block. -/

namespace Sys2Proof.Machine

/-- What is not volatile, apart from the log and the SEQUENCE of its last record. -/
def NonVolatile.unlogged (n : NonVolatile) : NonVolatile := { n with seq := none, log := [], logNext := 0 }

/-- A state apart from what an event may change: a followed log may also count it as dropped (R523). -/
def State.silent (s : State) : State := { s with evt := {}, nv := s.nv.unlogged, pcie := {}, nw := { s.nw with drops := 0 }, out := [] }

theorem State.silent_ite (p : Prop) [Decidable p] (a b : State) :
    (if p then a else b).silent = if p then a.silent else b.silent := by split <;> rfl

@[simp] theorem State.emit_silent (o : Output) (s : State) : (s.emit o).silent = s.silent := rfl

@[simp] theorem State.drive_silent (b : Nat) (o : Output) (s : State) : (s.drive b o).silent = s.silent := by
  unfold State.drive; split <;> rfl

@[simp] theorem State.logWrite_silent (r : EventRec) (s : State) : (s.logWrite r).silent = s.silent := by
  unfold State.logWrite; dsimp only; split
  · rfl
  · split
    · rw [State.drive_silent]; rfl
    · rfl

@[simp] theorem State.msixSend_silent (v : Nat) (s : State) : (s.msixSend v).silent = s.silent := by
  unfold State.msixSend; split
  · rfl
  · split <;> rfl

@[simp] theorem State.signal_silent (v : Nat) (s : State) : (s.signal v).silent = s.silent := by
  unfold State.signal; split
  · rfl
  · dsimp only; split
    · simp
    · exact State.msixSend_silent v s

@[simp] theorem State.ringWrite_silent (r : EventRec) (s : State) : (s.ringWrite r).silent = s.silent := by
  unfold State.ringWrite; split
  · rfl
  · split <;> rfl

@[simp] theorem State.sendEvents_silent (slot : Nat) (s : State) : (s.sendEvents slot).silent = s.silent := by
  unfold State.sendEvents; split
  · split <;> rfl
  · rfl

@[simp] theorem State.subWrite_silent (r : EventRec) (slot : Nat) (s : State) : (s.subWrite r slot).silent = s.silent := by
  unfold State.subWrite; split
  · rfl
  · split
    · rfl
    · dsimp only
      split
      · rw [State.sendEvents_silent]; split <;> rfl
      · split <;> rfl

theorem State.subWrites_silent (r : EventRec) (l : List Nat) :
    ∀ s : State, (l.foldl (fun (s : State) slot => s.subWrite r slot) s).silent = s.silent := by
  induction l with
  | nil => intro s; rfl
  | cons x l ih => intro s; rw [List.foldl_cons, ih, State.subWrite_silent]

/-- Everything that raising an event may change. -/
theorem State.raiseRec_silent (r : EventRec) (s : State) : (s.raiseRec r).silent = s.silent := by
  unfold State.raiseRec
  simp only [State.silent_ite, State.signal_silent, State.subWrites_silent, State.ringWrite_silent, State.logWrite_silent, ite_self]
  rfl

theorem State.raise_silent (a b c : Nat) (s : State) : (s.raise a b c).silent = s.silent := State.raiseRec_silent _ s
theorem State.raiseFrame_silent (a b c d : Nat) (s : State) : (s.raiseFrame a b c d).silent = s.silent := State.raiseRec_silent _ s

theorem State.raise_unlogged (a b c : Nat) (s : State) : (s.raise a b c).nv.unlogged = s.nv.unlogged :=
  show (s.raise a b c).silent.nv = s.silent.nv by rw [State.raise_silent]
theorem State.drive_unlogged (b : Nat) (o : Output) (s : State) : (s.drive b o).nv.unlogged = s.nv.unlogged :=
  show (s.drive b o).silent.nv = s.silent.nv by rw [State.drive_silent]

@[simp] theorem State.raise_fuses (a b c : Nat) (s : State) : (s.raise a b c).fuses = s.fuses :=
  show (s.raise a b c).silent.fuses = s.silent.fuses by rw [State.raise_silent]
@[simp] theorem State.raise_gl (a b c : Nat) (s : State) : (s.raise a b c).gl = s.gl :=
  show (s.raise a b c).silent.gl = s.silent.gl by rw [State.raise_silent]
@[simp] theorem State.raise_hq (a b c : Nat) (s : State) : (s.raise a b c).hq = s.hq :=
  show (s.raise a b c).silent.hq = s.silent.hq by rw [State.raise_silent]
@[simp] theorem State.raise_ses (a b c : Nat) (s : State) : (s.raise a b c).ses = s.ses :=
  show (s.raise a b c).silent.ses = s.silent.ses by rw [State.raise_silent]
@[simp] theorem State.raise_jobs (a b c : Nat) (s : State) : (s.raise a b c).jobs = s.jobs :=
  show (s.raise a b c).silent.jobs = s.silent.jobs by rw [State.raise_silent]
@[simp] theorem State.raise_rt (a b c : Nat) (s : State) : (s.raise a b c).rt = s.rt :=
  show (s.raise a b c).silent.rt = s.silent.rt by rw [State.raise_silent]
@[simp] theorem State.raise_stage (a b c : Nat) (s : State) : (s.raise a b c).stage = s.stage :=
  show (s.raise a b c).silent.stage = s.silent.stage by rw [State.raise_silent]
@[simp] theorem State.raise_force (a b c : Nat) (s : State) : (s.raise a b c).force = s.force :=
  show (s.raise a b c).silent.force = s.silent.force by rw [State.raise_silent]
@[simp] theorem State.raise_par (a b c : Nat) (s : State) : (s.raise a b c).par = s.par :=
  show (s.raise a b c).silent.par = s.silent.par by rw [State.raise_silent]
@[simp] theorem State.raise_pb (a b c : Nat) (s : State) : (s.raise a b c).pb = s.pb :=
  show (s.raise a b c).silent.pb = s.silent.pb by rw [State.raise_silent]
@[simp] theorem State.raise_gen (a b c : Nat) (s : State) : (s.raise a b c).gen = s.gen :=
  show (s.raise a b c).silent.gen = s.silent.gen by rw [State.raise_silent]
@[simp] theorem State.raise_sch (a b c : Nat) (s : State) : (s.raise a b c).sch = s.sch :=
  show (s.raise a b c).silent.sch = s.silent.sch by rw [State.raise_silent]
@[simp] theorem State.raise_tk (a b c : Nat) (s : State) : (s.raise a b c).tk = s.tk :=
  show (s.raise a b c).silent.tk = s.silent.tk by rw [State.raise_silent]
@[simp] theorem State.raise_pair (a b c : Nat) (s : State) : (s.raise a b c).pair = s.pair :=
  show (s.raise a b c).silent.pair = s.silent.pair by rw [State.raise_silent]
@[simp] theorem State.raise_lane (a b c : Nat) (s : State) : (s.raise a b c).lane = s.lane :=
  show (s.raise a b c).silent.lane = s.silent.lane by rw [State.raise_silent]
@[simp] theorem State.raise_flow (a b c : Nat) (s : State) : (s.raise a b c).flow = s.flow :=
  show (s.raise a b c).silent.flow = s.silent.flow by rw [State.raise_silent]
@[simp] theorem State.raise_rx (a b c : Nat) (s : State) : (s.raise a b c).rx = s.rx :=
  show (s.raise a b c).silent.rx = s.silent.rx by rw [State.raise_silent]
@[simp] theorem State.raise_ixrx (a b c : Nat) (s : State) : (s.raise a b c).ixrx = s.ixrx :=
  show (s.raise a b c).silent.ixrx = s.silent.ixrx by rw [State.raise_silent]
@[simp] theorem State.raise_col (a b c : Nat) (s : State) : (s.raise a b c).col = s.col :=
  show (s.raise a b c).silent.col = s.silent.col by rw [State.raise_silent]
@[simp] theorem State.raise_canvas (a b c : Nat) (s : State) : (s.raise a b c).canvas = s.canvas :=
  show (s.raise a b c).silent.canvas = s.silent.canvas by rw [State.raise_silent]
@[simp] theorem State.raise_layer (a b c : Nat) (s : State) : (s.raise a b c).layer = s.layer :=
  show (s.raise a b c).silent.layer = s.silent.layer by rw [State.raise_silent]
@[simp] theorem State.raise_buf (a b c : Nat) (s : State) : (s.raise a b c).buf = s.buf :=
  show (s.raise a b c).silent.buf = s.silent.buf by rw [State.raise_silent]
@[simp] theorem State.raise_video (a b c : Nat) (s : State) : (s.raise a b c).video = s.video :=
  show (s.raise a b c).silent.video = s.silent.video by rw [State.raise_silent]
@[simp] theorem State.raise_wit (a b c : Nat) (s : State) : (s.raise a b c).wit = s.wit :=
  show (s.raise a b c).silent.wit = s.silent.wit by rw [State.raise_silent]
@[simp] theorem State.raise_lat (a b c : Nat) (s : State) : (s.raise a b c).lat = s.lat :=
  show (s.raise a b c).silent.lat = s.silent.lat by rw [State.raise_silent]
@[simp] theorem State.raise_scan (a b c : Nat) (s : State) : (s.raise a b c).scan = s.scan :=
  show (s.raise a b c).silent.scan = s.silent.scan by rw [State.raise_silent]
@[simp] theorem State.raise_dmx (a b c : Nat) (s : State) : (s.raise a b c).dmx = s.dmx :=
  show (s.raise a b c).silent.dmx = s.silent.dmx by rw [State.raise_silent]
@[simp] theorem State.raise_met (a b c : Nat) (s : State) : (s.raise a b c).met = s.met :=
  show (s.raise a b c).silent.met = s.silent.met by rw [State.raise_silent]
@[simp] theorem State.raise_bak (a b c : Nat) (s : State) : (s.raise a b c).bak = s.bak :=
  show (s.raise a b c).silent.bak = s.silent.bak by rw [State.raise_silent]
@[simp] theorem State.raise_boot (a b c : Nat) (s : State) : (s.raise a b c).boot = s.boot :=
  show (s.raise a b c).silent.boot = s.silent.boot by rw [State.raise_silent]
@[simp] theorem State.raise_upd (a b c : Nat) (s : State) : (s.raise a b c).upd = s.upd :=
  show (s.raise a b c).silent.upd = s.silent.upd by rw [State.raise_silent]
@[simp] theorem State.raise_lock (a b c : Nat) (s : State) : (s.raise a b c).lock = s.lock :=
  show (s.raise a b c).silent.lock = s.silent.lock by rw [State.raise_silent]
@[simp] theorem State.raise_chkg (a b c : Nat) (s : State) : (s.raise a b c).chkg = s.chkg :=
  show (s.raise a b c).silent.chkg = s.silent.chkg by rw [State.raise_silent]
@[simp] theorem State.raise_chk (a b c : Nat) (s : State) : (s.raise a b c).chk = s.chk :=
  show (s.raise a b c).silent.chk = s.silent.chk by rw [State.raise_silent]
@[simp] theorem State.raise_img (a b c : Nat) (s : State) : (s.raise a b c).img = s.img :=
  show (s.raise a b c).silent.img = s.silent.img by rw [State.raise_silent]
@[simp] theorem State.raise_ledgerPage (a b c : Nat) (s : State) : (s.raise a b c).ledgerPage = s.ledgerPage :=
  show (s.raise a b c).silent.ledgerPage = s.silent.ledgerPage by rw [State.raise_silent]
@[simp] theorem State.raise_mon (a b c : Nat) (s : State) : (s.raise a b c).mon = s.mon :=
  show (s.raise a b c).silent.mon = s.silent.mon by rw [State.raise_silent]
@[simp] theorem State.raise_ml (a b c : Nat) (s : State) : (s.raise a b c).ml = s.ml :=
  show (s.raise a b c).silent.ml = s.silent.ml by rw [State.raise_silent]
@[simp] theorem State.raise_pending (a b c : Nat) (s : State) : (s.raise a b c).pending = s.pending :=
  show (s.raise a b c).silent.pending = s.silent.pending by rw [State.raise_silent]
@[simp] theorem State.raise_now (a b c : Nat) (s : State) : (s.raise a b c).now = s.now :=
  show (s.raise a b c).silent.now = s.silent.now by rw [State.raise_silent]
@[simp] theorem State.raise_fresh (a b c : Nat) (s : State) : (s.raise a b c).fresh = s.fresh :=
  show (s.raise a b c).silent.fresh = s.silent.fresh by rw [State.raise_silent]
@[simp] theorem State.raiseFrame_fuses (a b c d : Nat) (s : State) : (s.raiseFrame a b c d).fuses = s.fuses :=
  show (s.raiseFrame a b c d).silent.fuses = s.silent.fuses by rw [State.raiseFrame_silent]
@[simp] theorem State.raiseFrame_gl (a b c d : Nat) (s : State) : (s.raiseFrame a b c d).gl = s.gl :=
  show (s.raiseFrame a b c d).silent.gl = s.silent.gl by rw [State.raiseFrame_silent]
@[simp] theorem State.raiseFrame_hq (a b c d : Nat) (s : State) : (s.raiseFrame a b c d).hq = s.hq :=
  show (s.raiseFrame a b c d).silent.hq = s.silent.hq by rw [State.raiseFrame_silent]
@[simp] theorem State.raiseFrame_ses (a b c d : Nat) (s : State) : (s.raiseFrame a b c d).ses = s.ses :=
  show (s.raiseFrame a b c d).silent.ses = s.silent.ses by rw [State.raiseFrame_silent]
@[simp] theorem State.raiseFrame_jobs (a b c d : Nat) (s : State) : (s.raiseFrame a b c d).jobs = s.jobs :=
  show (s.raiseFrame a b c d).silent.jobs = s.silent.jobs by rw [State.raiseFrame_silent]
@[simp] theorem State.raiseFrame_rt (a b c d : Nat) (s : State) : (s.raiseFrame a b c d).rt = s.rt :=
  show (s.raiseFrame a b c d).silent.rt = s.silent.rt by rw [State.raiseFrame_silent]
@[simp] theorem State.raiseFrame_stage (a b c d : Nat) (s : State) : (s.raiseFrame a b c d).stage = s.stage :=
  show (s.raiseFrame a b c d).silent.stage = s.silent.stage by rw [State.raiseFrame_silent]
@[simp] theorem State.raiseFrame_force (a b c d : Nat) (s : State) : (s.raiseFrame a b c d).force = s.force :=
  show (s.raiseFrame a b c d).silent.force = s.silent.force by rw [State.raiseFrame_silent]
@[simp] theorem State.raiseFrame_par (a b c d : Nat) (s : State) : (s.raiseFrame a b c d).par = s.par :=
  show (s.raiseFrame a b c d).silent.par = s.silent.par by rw [State.raiseFrame_silent]
@[simp] theorem State.raiseFrame_pb (a b c d : Nat) (s : State) : (s.raiseFrame a b c d).pb = s.pb :=
  show (s.raiseFrame a b c d).silent.pb = s.silent.pb by rw [State.raiseFrame_silent]
@[simp] theorem State.raiseFrame_gen (a b c d : Nat) (s : State) : (s.raiseFrame a b c d).gen = s.gen :=
  show (s.raiseFrame a b c d).silent.gen = s.silent.gen by rw [State.raiseFrame_silent]
@[simp] theorem State.raiseFrame_sch (a b c d : Nat) (s : State) : (s.raiseFrame a b c d).sch = s.sch :=
  show (s.raiseFrame a b c d).silent.sch = s.silent.sch by rw [State.raiseFrame_silent]
@[simp] theorem State.raiseFrame_tk (a b c d : Nat) (s : State) : (s.raiseFrame a b c d).tk = s.tk :=
  show (s.raiseFrame a b c d).silent.tk = s.silent.tk by rw [State.raiseFrame_silent]
@[simp] theorem State.raiseFrame_pair (a b c d : Nat) (s : State) : (s.raiseFrame a b c d).pair = s.pair :=
  show (s.raiseFrame a b c d).silent.pair = s.silent.pair by rw [State.raiseFrame_silent]
@[simp] theorem State.raiseFrame_lane (a b c d : Nat) (s : State) : (s.raiseFrame a b c d).lane = s.lane :=
  show (s.raiseFrame a b c d).silent.lane = s.silent.lane by rw [State.raiseFrame_silent]
@[simp] theorem State.raiseFrame_flow (a b c d : Nat) (s : State) : (s.raiseFrame a b c d).flow = s.flow :=
  show (s.raiseFrame a b c d).silent.flow = s.silent.flow by rw [State.raiseFrame_silent]
@[simp] theorem State.raiseFrame_rx (a b c d : Nat) (s : State) : (s.raiseFrame a b c d).rx = s.rx :=
  show (s.raiseFrame a b c d).silent.rx = s.silent.rx by rw [State.raiseFrame_silent]
@[simp] theorem State.raiseFrame_ixrx (a b c d : Nat) (s : State) : (s.raiseFrame a b c d).ixrx = s.ixrx :=
  show (s.raiseFrame a b c d).silent.ixrx = s.silent.ixrx by rw [State.raiseFrame_silent]
@[simp] theorem State.raiseFrame_col (a b c d : Nat) (s : State) : (s.raiseFrame a b c d).col = s.col :=
  show (s.raiseFrame a b c d).silent.col = s.silent.col by rw [State.raiseFrame_silent]
@[simp] theorem State.raiseFrame_canvas (a b c d : Nat) (s : State) : (s.raiseFrame a b c d).canvas = s.canvas :=
  show (s.raiseFrame a b c d).silent.canvas = s.silent.canvas by rw [State.raiseFrame_silent]
@[simp] theorem State.raiseFrame_layer (a b c d : Nat) (s : State) : (s.raiseFrame a b c d).layer = s.layer :=
  show (s.raiseFrame a b c d).silent.layer = s.silent.layer by rw [State.raiseFrame_silent]
@[simp] theorem State.raiseFrame_buf (a b c d : Nat) (s : State) : (s.raiseFrame a b c d).buf = s.buf :=
  show (s.raiseFrame a b c d).silent.buf = s.silent.buf by rw [State.raiseFrame_silent]
@[simp] theorem State.raiseFrame_video (a b c d : Nat) (s : State) : (s.raiseFrame a b c d).video = s.video :=
  show (s.raiseFrame a b c d).silent.video = s.silent.video by rw [State.raiseFrame_silent]
@[simp] theorem State.raiseFrame_wit (a b c d : Nat) (s : State) : (s.raiseFrame a b c d).wit = s.wit :=
  show (s.raiseFrame a b c d).silent.wit = s.silent.wit by rw [State.raiseFrame_silent]
@[simp] theorem State.raiseFrame_lat (a b c d : Nat) (s : State) : (s.raiseFrame a b c d).lat = s.lat :=
  show (s.raiseFrame a b c d).silent.lat = s.silent.lat by rw [State.raiseFrame_silent]
@[simp] theorem State.raiseFrame_scan (a b c d : Nat) (s : State) : (s.raiseFrame a b c d).scan = s.scan :=
  show (s.raiseFrame a b c d).silent.scan = s.silent.scan by rw [State.raiseFrame_silent]
@[simp] theorem State.raiseFrame_dmx (a b c d : Nat) (s : State) : (s.raiseFrame a b c d).dmx = s.dmx :=
  show (s.raiseFrame a b c d).silent.dmx = s.silent.dmx by rw [State.raiseFrame_silent]
@[simp] theorem State.raiseFrame_met (a b c d : Nat) (s : State) : (s.raiseFrame a b c d).met = s.met :=
  show (s.raiseFrame a b c d).silent.met = s.silent.met by rw [State.raiseFrame_silent]
@[simp] theorem State.raiseFrame_bak (a b c d : Nat) (s : State) : (s.raiseFrame a b c d).bak = s.bak :=
  show (s.raiseFrame a b c d).silent.bak = s.silent.bak by rw [State.raiseFrame_silent]
@[simp] theorem State.raiseFrame_boot (a b c d : Nat) (s : State) : (s.raiseFrame a b c d).boot = s.boot :=
  show (s.raiseFrame a b c d).silent.boot = s.silent.boot by rw [State.raiseFrame_silent]
@[simp] theorem State.raiseFrame_upd (a b c d : Nat) (s : State) : (s.raiseFrame a b c d).upd = s.upd :=
  show (s.raiseFrame a b c d).silent.upd = s.silent.upd by rw [State.raiseFrame_silent]
@[simp] theorem State.raiseFrame_lock (a b c d : Nat) (s : State) : (s.raiseFrame a b c d).lock = s.lock :=
  show (s.raiseFrame a b c d).silent.lock = s.silent.lock by rw [State.raiseFrame_silent]
@[simp] theorem State.raiseFrame_chkg (a b c d : Nat) (s : State) : (s.raiseFrame a b c d).chkg = s.chkg :=
  show (s.raiseFrame a b c d).silent.chkg = s.silent.chkg by rw [State.raiseFrame_silent]
@[simp] theorem State.raiseFrame_chk (a b c d : Nat) (s : State) : (s.raiseFrame a b c d).chk = s.chk :=
  show (s.raiseFrame a b c d).silent.chk = s.silent.chk by rw [State.raiseFrame_silent]
@[simp] theorem State.raiseFrame_img (a b c d : Nat) (s : State) : (s.raiseFrame a b c d).img = s.img :=
  show (s.raiseFrame a b c d).silent.img = s.silent.img by rw [State.raiseFrame_silent]
@[simp] theorem State.raiseFrame_ledgerPage (a b c d : Nat) (s : State) : (s.raiseFrame a b c d).ledgerPage = s.ledgerPage :=
  show (s.raiseFrame a b c d).silent.ledgerPage = s.silent.ledgerPage by rw [State.raiseFrame_silent]
@[simp] theorem State.raiseFrame_mon (a b c d : Nat) (s : State) : (s.raiseFrame a b c d).mon = s.mon :=
  show (s.raiseFrame a b c d).silent.mon = s.silent.mon by rw [State.raiseFrame_silent]
@[simp] theorem State.raiseFrame_ml (a b c d : Nat) (s : State) : (s.raiseFrame a b c d).ml = s.ml :=
  show (s.raiseFrame a b c d).silent.ml = s.silent.ml by rw [State.raiseFrame_silent]
@[simp] theorem State.raiseFrame_pending (a b c d : Nat) (s : State) : (s.raiseFrame a b c d).pending = s.pending :=
  show (s.raiseFrame a b c d).silent.pending = s.silent.pending by rw [State.raiseFrame_silent]
@[simp] theorem State.raiseFrame_now (a b c d : Nat) (s : State) : (s.raiseFrame a b c d).now = s.now :=
  show (s.raiseFrame a b c d).silent.now = s.silent.now by rw [State.raiseFrame_silent]
@[simp] theorem State.raiseFrame_fresh (a b c d : Nat) (s : State) : (s.raiseFrame a b c d).fresh = s.fresh :=
  show (s.raiseFrame a b c d).silent.fresh = s.silent.fresh by rw [State.raiseFrame_silent]

end Sys2Proof.Machine
end

