-- ==== Sys2Proof/Laws/Reset.lean ====
section
/-! SUPPORT. What a reset of the device leaves (R102, R427, R461, R548): the fuses, the backup island, and what is not volatile
but for the log. -/

namespace Sys2Proof.Machine

/-- What the end of the sessions and the opening of the feeders before a reset leave alone. -/
def State.remains (s : State) : Fuses × Backup × NonVolatile × Option (Job × Bytes) × Boot × Nat :=
  (s.fuses, s.bak, s.nv.unlogged, s.upd.closing, s.boot, s.fresh)

@[simp] theorem State.raise_remains (a b c : Nat) (s : State) : (s.raise a b c).remains = s.remains := by
  simp only [State.remains, State.raise_fuses, State.raise_bak, State.raise_unlogged, State.raise_upd, State.raise_boot, State.raise_fresh]

@[simp] theorem State.drive_remains (b : Nat) (o : Output) (s : State) : (s.drive b o).remains = s.remains := by
  simp only [State.remains, State.drive_fuses, State.drive_bak, State.drive_unlogged, State.drive_upd, State.drive_boot, State.drive_fresh]

theorem State.foldl_remains {α : Type} (f : State → α → State) (h : ∀ s a, (f s a).remains = s.remains) (l : List α) :
    ∀ s, (l.foldl f s).remains = s.remains := by
  induction l with
  | nil => intro s; rfl
  | cons x l ih => intro s; rw [List.foldl_cons, ih, h]

@[simp] theorem State.finish_remains (id : Nat) (d : Finished) (s : State) : (s.finish id d).remains = s.remains := by
  unfold State.finish; split <;> rfl

@[simp] theorem State.releaseBuffer_remains (id : Nat) (s : State) : (s.releaseBuffer id).remains = s.remains := by
  unfold State.releaseBuffer; split
  · rfl
  · unfold State.freeBuffer; rw [State.raise_remains]; exact State.foldl_remains _ (fun s a => by simp) _ _

@[simp] theorem State.endSession_remains (slot : Nat) (cause : EndCause) (s : State) : (s.endSession slot cause).remains = s.remains := by
  unfold State.endSession; split
  · rfl
  · split
    · rfl
    · dsimp only
      rw [State.raise_remains, State.foldl_remains _ (fun s a => State.releaseBuffer_remains a s)]
      split <;> split <;> first | rfl | exact State.raise_remains _ _ _ _

@[simp] theorem State.openOutputs_remains (c : Cfg) (f : Nat) (s : State) : (s.openOutputs c f).remains = s.remains := by
  simp only [State.openOutputs, State.feederOut, State.drive_remains]

/-- A reset ends the sessions and opens the feeders, cuts short the writing of an image, and restarts (R102, R427, R468). -/
theorem State.selfReset_cases (thermal : Bool) (s : State) :
    ∃ v : State, v.remains = s.remains ∧ s.selfReset thermal = (v.cutClose.emit (.ballsReset none v.now)).restart thermal := by
  unfold State.selfReset
  dsimp only
  generalize hu : (List.range 64).foldl (fun (s : State) n => s.endSession n .reset) s = u
  have h : u.remains = s.remains := hu ▸ State.foldl_remains _ (fun s a => by simp) _ _
  generalize hv : (u.cfg.all .feeder).foldl (fun (s : State) (e : Nat × Bytes) => s.openOutputs s.cfg e.1) u = v
  have h' : v.remains = u.remains := hv ▸ State.foldl_remains _ (fun s a => by simp) _ _
  exact ⟨v, h'.trans h, rfl⟩

/-- With no UPDATE_CLOSE under way nothing is cut short. -/
theorem State.cutClose_idle (s : State) (h : s.upd.closing = none) : s.cutClose = s := by
  unfold State.cutClose; rw [h]; rfl

end Sys2Proof.Machine
end

