-- ==== Sys2Proof/Tests/Slice0.lean ====
section
/-! SUPPORT. Tests: each check of `Instr.wf` refuses an ill-formed command; worked examples of the manual and values computed
from its formulas by hand; and for each statement of the obligations that has hypotheses, states and operands that meet
them, clause by clause. -/

namespace Sys2Proof.Tests

set_option Elab.async false

open Sys2Proof Sys2Proof.Machine

/-! ## Small states and records -/

/-- Bytes from fields, each a width and a value, least significant byte first (R10). -/
def f (l : List (Nat × Nat)) : Bytes := l.flatMap fun e => leBytes e.1 e.2

/-- Bytes from numbers. -/
def b (l : List Nat) : Bytes := l.map fun n => BitVec.ofNat 8 n

/-- A payload of equal records (R557). -/
def counted (l : List Bytes) : Bytes := f [(4, l.length), (4, 0)] ++ l.flatten

/-- A command of session 64 on pair 0. -/
def req (payload : Bytes) : Req :=
  { pair := 0, flags := 0, session := 64, tag := 1, timeoutMs := 0, atFrame := none, payload, rplSize := 4096 }

/-- A type with one 8-bit parameter, a patched instance of it in universe 1, a playback and a generator. -/
def ftype0 : Bytes := f [(2, 0), (1, 1), (1, 0), (2, 1), (2, 0), (4, 0), (4, 0), (16, 0), (32, 0)] ++
  f [(1, 8), (1, 1), (2, 0), (4, 0), (4, 0), (4, 0xFFFFF)]
def patch0 : Bytes := f [(4, 0), (2, 0), (1, 1), (1, 0), (4, 1), (2, 1), (2, 0)]
def playback0 : Bytes := f [(2, 0), (1, 100), (1, 0), (2, 10), (2, 0), (4, 100), (4, 100), (4, 0), (4, 0), (4, 0), (4, 0)]
def effect0 : Bytes := f [(2, 0), (1, 0), (1, 0), (1, 0), (1, 0), (2, 0), (4, 0), (4, 0xFFFFF), (4, 0), (2, 1), (2, 0), (4, 0), (4, 0)]
def lane0 : Bytes := f [(1, 0), (1, 0), (1, 0), (1, 0), (2, 1500), (2, 0), (6, 0), (1, 24), (1, 0), (4, 0x0A000001), (4, 0), (8, 0)]
def flow0 : Bytes := f [(2, 0), (1, 0), (1, 0), (1, 0), (1, 0), (1, 0), (1, 0), (4, 0), (6, 0), (2, 0), (4, 0), (4, 0), (4, 0)]
def sacnFlow0 : Bytes := f [(1, 1), (1, 0), (2, 0), (2, 1), (1, 1), (1, 100), (2, 0), (2, 0), (4, 0)] ++ zeros 80
def sacnRx1 : Bytes := f [(2, 1), (1, 0), (5, 0)]
def canvas0 : Bytes := f [(1, 0), (1, 0), (2, 8), (2, 4), (2, 0), (2, 10), (2, 8), (4, 0), (4, 0), (4, 0), (4, 0), (4, 0)]
def layer0 : Bytes := f [(1, 0), (1, 0), (1, 0), (1, 0), (2, 8), (2, 4), (4, 64), (1, 0), (1, 0), (1, 0), (1, 0), (4, 0), (4, 0), (4, 0), (4, 0)]
def video0 : Bytes := f [(1, 0), (1, 0), (1, 0), (1, 0), (4, 0), (4, 0), (2, 5000), (1, 96), (1, 0), (2, 16), (2, 16), (2, 30), (2, 1),
  (4, 1000000), (4, 0)]
def witness0 : Bytes := f [(1, 0), (1, 0), (1, 0), (1, 0), (4, 0), (4, 0), (4, 0), (4, 8), (4, 4), (4, 0), (4, 0)]
def script0 : Bytes := f [(1, 0), (1, 0), (1, 0x39), (1, 0), (1, 0), (1, 1), (1, 0), (1, 0), (2, 100), (3, 0x040200), (3, 0), (36, 0)] ++
  f [(1, 2), (1, 6), (6, 0)]
def binding0 : Bytes := f [(4, 0), (2, 0), (1, 0), (1, 1), (1, 0), (1, 0xFF), (6, 0)]
def scan0 : Bytes := f [(1, 0), (1, 0), (1, 0), (1, 0), (1, 4), (1, 2), (2, 16), (2, 40), (2, 8), (2, 16), (2, 4), (2, 64), (1, 8), (1, 4),
  (2, 2), (2, 0), (2, 1), (2, 0), (1, 0xFF), (1, 0), (1, 0), (1, 0), (4, 0), (4, 0), (4, 0), (1, 2), (1, 2), (2, 10), (2, 0), (2, 0),
  (2, 0), (2, 0), (2, 0), (1, 1), (5, 0)]
def dmx0 : Bytes := f [(1, 0), (1, 1), (2, 24), (2, 0), (2, 0), (2, 0), (1, 0), (1, 0), (2, 0), (2, 0)]
def dmxFlow : Bytes := f [(2, 1), (1, 4), (1, 0), (1, 0), (1, 0), (1, 0), (1, 0), (4, 0), (6, 0), (2, 0), (4, 0), (4, 0), (4, 0)]
def scanFlow : Bytes := f [(2, 2), (1, 3), (1, 0), (1, 0), (1, 0), (1, 0), (1, 0), (4, 0), (6, 0), (2, 0), (4, 0), (4, 0), (4, 0)]
def meter0 : Bytes := f [(1, 0), (1, 0), (1, 0), (1, 0), (2, 10), (2, 0), (4, 500000), (4, 500000), (1, 0), (1, 0xFF), (1, 0xFF), (1, 3),
  (1, 0xFF), (1, 0xFF), (1, 0xFF), (1, 0)] ++ f ((List.replicate 7 (4, 0x40000000)) ++ [(6, 0), (6, 0)])
def feeder0 : Bytes := f [(1, 0), (1, 0), (1, 0), (1, 32), (2, 0), (2, 0), (8, 0)]
def trigger0 : Bytes := f [(1, 0), (1, 0), (1, 0), (1, 0), (2, 0), (10, 0)]
def capture0 : Bytes := f [(1, 1), (1, 0), (1, 0), (1, 0), (4, 0), (8, 0)]
def pair0 : Bytes := f [(1, 1), (1, 4), (1, 1), (1, 2), (1, 0), (1, 0), (2, 10), (2, 0), (2, 0), (2, 0), (1, 0), (17, 0)]
def curve0 : Bytes := f [(1, 1), (3, 0)] ++ zeros 1028

/-- Those records as a configuration. -/
def cfg0 : Cfg := { recs := [⟨.ftype, 0, ftype0⟩, ⟨.patch, 0, patch0⟩, ⟨.playback, 0, playback0⟩, ⟨.effect, 0, effect0⟩,
  ⟨.binding, 0, binding0⟩, ⟨.script, 0, script0⟩, ⟨.canvas, 0, canvas0⟩, ⟨.layer, 0, layer0⟩, ⟨.video, 0, video0⟩, ⟨.witness, 0, witness0⟩,
  ⟨.lane, 0, lane0⟩, ⟨.flow, 0, flow0⟩, ⟨.flow, 1, dmxFlow⟩, ⟨.flow, 2, scanFlow⟩, ⟨.sacnFlow, 0, sacnFlow0⟩, ⟨.sacnRx, 1, sacnRx1⟩,
  ⟨.scan, 0, scan0⟩, ⟨.dmx, 0, dmx0⟩, ⟨.trigger, 0, trigger0⟩, ⟨.capture, 0, capture0⟩, ⟨.meter, 0, meter0⟩, ⟨.feeder, 0, feeder0⟩] }

/-- The unit in OPERATIONAL with the PCIe link up, pair 0 of host memory running, session 64 open, and that configuration in
force with no show. -/
def base : State :=
  { State.reset with
    gl := { State.reset.gl with device := .operational, show_ := .configured }
    pcie := { State.reset.pcie with link := true, master := true }
    hq := { State.reset.hq with pairs := [(0, { (RingPair.atReset 0) with enable := true, running := true })] }
    ses := [(0, { isOpen := true, gen := 1, source := .pcie })]
    force := some { cfg := cfg0, sched := {} }
    now := 65536000000, tk := { State.reset.tk with counter := 65536000000 } }

/-- The same with session 64 holding a staging area that holds that configuration. -/
def basting : State := { base with stage := { base.stage with holder := some 64, area := cfg0 } }

/-- The same with the show running: frame 1000 is the frame of the most recent cut. -/
def showing : State := { base with gl := { base.gl with show_ := .running, frame := some 1000, lastCut := 1000 } }

/-- A command is ready and its body starts in a state with `p`: the hypotheses of `Runs` and `Asks`. -/
def meets (op : Op) (r : Req) (s : State) (p : State → Bool) : Bool := s.ready op r && p (s.entered op r)

/-- A staged command is ready and makes something of the staging area: the hypotheses of `Stages`. -/
def stages (op : Op) (p : Bytes) : Bool := meets op (req p) basting fun u => (op.stages (req p) u).isSome

/-- A class T command is ready and finds its queue: the hypotheses of `Queues`. -/
def queues (op : Op) (p : Bytes) (s : State) : Bool := meets op (req p) s fun u => (op.queues (req p) u).isSome && !u.mirrors

/-- The unit with more records in its configuration. -/
def with_ (l : List Rec) (s : State) : State := { s with force := some { cfg := { cfg0 with recs := cfg0.recs ++ l }, sched := {} } }

/-- A memory-type panel of two lines on port 1, and its flow. -/
def scan1 : Bytes := f [(1, 0), (1, 1), (1, 1), (1, 0), (1, 2), (1, 1), (2, 16), (2, 40), (2, 8), (2, 16), (2, 4), (2, 0), (1, 0), (1, 0),
  (2, 0), (2, 0), (2, 1), (2, 0), (1, 0xFF), (1, 1), (1, 1), (1, 0), (4, 1000), (4, 10000), (4, 0), (1, 2), (1, 2), (2, 10), (2, 0), (2, 0),
  (2, 0), (2, 0), (2, 0), (1, 1), (5, 0)]
def scanFlow1 : Bytes := f [(2, 3), (1, 3), (1, 0), (1, 0), (1, 0), (1, 0), (1, 0), (4, 0), (6, 0), (2, 0), (4, 0), (4, 0), (4, 1)]

/-! ## Host commands -/

theorem test_step_front : ({ base with pending := [.identify (req [])] } : State).pending = [.identify (req [])] := rfl

theorem test_staged_show_commands :
    stages setEnvelopeOp (f [(2, 750), (1, 85), (1, 0)]) = true ∧ stages setRoleOp (f [(1, 1), (3, 0)]) = true ∧
    stages setFrameOp (counted [f [(1, 0), (1, 3), (14, 0)], f [(1, 2), (1, 1), (2, 4096), (12, 0)]]) = true ∧
    stages typeDefineOp ftype0 = true ∧ stages typeDeleteOp (f [(2, 0), (2, 0)]) = false ∧
    meets typeDeleteOp { req (f [(2, 0), (2, 0)]) with flags := 256 } basting
      (fun u => (typeDeleteOp.stages { req (f [(2, 0), (2, 0)]) with flags := 256 } u).isSome) = true ∧
    stages patchAddOp (counted [f [(4, 1), (2, 0), (1, 1), (1, 0), (4, 1), (2, 512), (2, 0)]]) = true ∧
    stages patchRemoveOp (counted [f [(4, 0)]]) = true ∧
    stages sacnRxMapOp (counted [f [(4, 0), (2, 1), (2, 512), (4, 0)]]) = true ∧
    stages playbackDefineOp playback0 = true ∧ stages curveTableOp curve0 = true ∧ stages effectDefineOp effect0 = true ∧
    stages effectAssignOp (f [(2, 0), (2, 0), (4, 1), (4, 0), (2, 0), (2, 0)]) = true := by decide +kernel

theorem test_staged_output_commands :
    stages colourSpaceOp (f [(1, 0), (39, 0)]) = true ∧ stages mixStrategyOp (counted [f [(2, 0), (1, 0), (5, 0)]]) = true ∧
    stages dimCurveOp curve0 = true ∧ stages calsetLoadOp (f [(1, 1), (3, 0), (4, 1)] ++ f [(4, 0), (2, 0xFFFF), (1, 0), (1, 0), (1, 0), (1, 0xFF), (6, 0)]) = true ∧
    stages sensorScriptOp script0 = true ∧ stages canvasDefineOp canvas0 = true ∧ stages layerDefineOp layer0 = true ∧
    stages pixmapLoadOp (f [(1, 0), (1, 0), (1, 0), (1, 0), (4, 1), (1, 0), (3, 0), (4, 1), (4, 0), (4, 1)] ++ f [(4, 0), (4, 0), (4, 0), (2, 1), (2, 0)]) = true ∧
    stages videoRxDefineOp video0 = true ∧ stages witnessDefineOp witness0 = true ∧ stages laneDefineOp lane0 = true ∧
    stages flowDefineOp flow0 = true ∧ stages flowDeleteOp (f [(2, 0), (2, 0)]) = true ∧ stages sacnOutDefineOp (counted [sacnFlow0]) = true ∧
    stages sacnRxDefineOp (counted [sacnRx1]) = true ∧
    stages ixnikDefineOp (counted [f [(1, 1), (1, 1), (2, 3), (1, 0), (1, 0), (2, 0), (4, 4), (4, 0), (4, 0), (4, 0), (8, 0)]]) = true ∧
    stages scanDefineOp (counted [scan0]) = true ∧ stages dmxDefineOp (counted [dmx0]) = true ∧
    stages timeConfigOp (counted [f [(1, 0), (1, 4), (30, 0)]]) = true ∧ stages triggerDefineOp (counted [trigger0, capture0]) = true ∧
    stages pairDefineOp pair0 = true ∧ stages meterDefineOp (counted [meter0]) = true ∧ stages feederDefineOp (counted [feeder0]) = true := by
  decide +kernel

theorem test_staged_needs_area :
    basting.stage.holder ≠ some 65 ∧ base.ready setEnvelopeOp (req (f [(2, 750), (1, 85), (1, 0)])) = true ∧ base.stage.holder ≠ some 64 := by
  decide +kernel

theorem test_general_commands :
    meets identifyOp { req [] with session := 0 } base (fun _ => true) = true ∧
    meets sessionCloseOp (req (zeros 4)) base (fun _ => !(req []).opFlag 8) = true ∧
    meets sessionCloseOp { req (zeros 4) with flags := 256 } base (fun _ => ({ req [] with flags := 256 } : Req).opFlag 8) = true ∧
    meets sessionKeepaliveOp (req (zeros 4)) base (fun _ => true) = true ∧ meets sessionListOp (req []) base (fun _ => true) = true ∧
    (let x : Session := { isOpen := true, gen := 1, finished := [{ tag := 7, op := 0x0201, status := 0, detail := 0, frame := none }] }
     meets tagStatusOp (req (f [(2, 0), (2, 7)])) { base with ses := [(0, x)] } (fun u => match u.session 64 with
       | some (_, y) => (u.ring 0).source = some y.source && (y.lookup 7).isSome
       | none => false)) = true ∧
    meets timedCancelOp (req (f [(2, 64), (2, 1)])) { showing with rt := { queue := [inQueue 0x0403 (req (f [(2, 0), (2, 0)])) (some 2000)] } }
      (fun u => u.rt.queue.any fun q => q.frame.isSome && q.req.session = 64 && q.req.tag = 1) = true := by decide +kernel

theorem test_session_open :
    meets sessionOpenOp { req (f [(2, 3600), (2, 0)]) with session := 0 } base (fun u => (u.ring 0).source = some .pcie && u.freeSession = some 1) = true ∧
    meets sessionOpenOp { req (f [(2, 0), (2, 0)]) with session := 0 } base (fun u => u.freeSession = some 1) = true ∧
    (let full := { base with ses := (List.range 64).map fun i => (i, ({ isOpen := true, gen := 1 } : Session)) }
     meets sessionOpenOp { req (f [(2, 10), (2, 0)]) with session := 0 } full (fun u => u.freeSession = none && (u.ring 0).source = some .pcie)) = true ∧
    base.sessionOk echoOp { req [] with session := 0 } = true ∧ echoOp ∈ [echoOp] := by
  refine ⟨?_, ?_, ?_, ?_, List.mem_singleton.mpr rfl⟩ <;> decide +kernel

theorem test_session_sources :
    (∃ x, base.session 64 = some (0, x) ∧ (base.ring 0).source = some x.source ∧ (base.ring 56).source ≠ some x.source) ∧
    field 0 7 3 = 0 ∧ (req []).opFlag 0 = (req []).atFrame.isSome := by
  refine ⟨⟨_, rfl, ?_, ?_⟩, ?_, ?_⟩ <;> decide +kernel

theorem test_basting_commands :
    meets basteBeginOp (req []) base (fun u => u.stage.pending.isNone && u.stage.holder.isNone) = true ∧
    meets basteAbortOp (req []) basting (fun u => u.stage.holder = some 64) = true ∧
    meets basteAbortOp (req []) base (fun u => u.stage.holder = none) = true ∧
    meets configLoadOp (req []) { basting with nv := { basting.nv with configA := some ⟨1, cfg0.recs⟩ } }
      (fun u => u.stage.holder = some 64 && newerSaved u.nv.configA u.nv.configB = some ⟨1, cfg0.recs⟩) = true ∧
    meets configSaveOp (req []) base (fun u => u.gl.show_ ≠ .armed && decide ((u.cfg.recs.map fun x => x.data.length).foldl (· + ·) 0 ≤ 12582912)) = true ∧
    meets stageReadOp (req (f [(2, 0x0303), (1, 1), (1, 0), (4, 0), (4, 65535)])) base (fun _ => (stagedKinds 0x0303).isSome) = true ∧
    meets stageReadOp (req (f [(2, 0x0303), (1, 0), (1, 0), (4, 0), (4, 1)])) basting (fun u => u.stage.holder.isSome) = true ∧
    meets admitOp (req []) basting (fun u => u.gl.show_ ≠ .armed && u.stage.holder = some 64 && u.stage.pending.isNone && u.stage.admitting.isNone && !u.showRuns) = true ∧
    (let p : Pending := { cfg := {}, sched := {}, frame := none, id := 1 }
     meets pressConfigOp (req []) { base with stage := { base.stage with pending := some p } } (fun u => u.gl.show_ ≠ .armed && u.stage.pending = some p)) = true ∧
    (let p : Report := { id := 1, status := 0, recs := [], period := 0, speed := 0, depth := 3, flags := 0, slotNs := 0, budget := 0, work := 0, floor := 750, tjMax := 85 }
     meets admitReportOp (req []) { base with stage := { base.stage with report := some p } } (fun u => u.stage.report.isSome)) = true := by decide +kernel

theorem test_press :
    (let p : Pending := { cfg := cfg0, sched := {}, frame := some 7, id := 1 }
     ({ base with stage := { base.stage with pending := some p } } : State).stage.pending = some p ∧ base.pair.st = .unpaired ∧ p.frame = some 7 ∧ 7 ≠ 8) := by
  refine ⟨rfl, ?_, rfl, by decide⟩
  decide +kernel

theorem test_show_start :
    meets showStartOp (req []) base (fun u => u.pair.st = .unpaired && u.gl.show_ = .configured && u.gl.firstCut.isNone && u.timeReady) = true ∧
    (let n := base.cfg.slotAt base.tk.counter + 16777216
     meets showStartOp { req [] with atFrame := some n, flags := 1 } base
      (fun u => u.timeReady && decide (n ≤ u.cfg.slotAt u.tk.counter + 16777216 ∧ u.cfg.depth ≤ n ∧ u.tk.counter < u.cfg.cutInstant n))) = true := by decide +kernel

theorem test_show_states :
    queues showArmOp [] showing = true ∧
    queues showDisarmOp [] { showing with gl := { showing.gl with show_ := .armed } } = true ∧ queues showStopOp [] showing = true ∧
    queues safeHoldEnterOp [] showing = true ∧ queues showResumeOp [] { showing with gl := { showing.gl with show_ := .safeHold } } = true := by
  decide +kernel

theorem test_timed_commands :
    queues cueStoreOp (f [(2, 0), (2, 9), (1, 0), (1, 0), (1, 0), (1, 0), (28, 0), (4, 1), (8, 0), (4, 0), (4, 0xFFFFF)]) base = true ∧
    queues playbackGoOp (f [(2, 0), (2, 0)]) base = true ∧ queues playbackBackOp (f [(2, 0), (2, 0)]) base = true ∧
    queues playbackGotoOp (f [(2, 0), (2, 9), (4, 0)]) base = true ∧ queues playbackReleaseOp (f [(2, 0), (2, 1), (4, 5)]) base = true ∧
    queues playbackLevelOp (f [(2, 0), (2, 0), (4, 0x100000)]) base = true ∧ queues playbackRateOp (f [(2, 0), (2, 0), (4, 0x100000)]) base = true ∧
    queues effectRateOp (f [(2, 0), (2, 0), (4, 5)]) base = true ∧ queues effectSizeOp (f [(2, 0), (2, 0), (4, 0xFFFFF), (4, 65535)]) base = true ∧
    queues effectStartOp (f [(2, 0), (2, 1)]) base = true ∧ queues effectStopOp (f [(2, 0), (2, 0)]) base = true ∧
    queues effectPhaseOp (f [(2, 0), (2, 0), (4, 9)]) base = true ∧ (base.playback 0).isSome = true ∧ (base.generator 0).isSome = true := by decide +kernel

theorem test_timed_output_commands :
    queues flowEnableOp (f [(2, 0), (2, 1)]) base = true ∧
    queues paramWriteOp (f [(4, 1), (1, 100), (3, 0), (4, 0), (4, 0xFFFFF)]) base = true ∧
    queues paramReleaseOp (f [(4, 1), (1, 0), (3, 0), (4, 0), (4, 0)]) base = true ∧
    (let s := { base with pair := { base.pair with st := .solo, peerState := some 2 } }
     meets playbackGoOp (req (f [(2, 0), (2, 0)])) s (fun u => (playbackGoOp.queues (req (f [(2, 0), (2, 0)])) u).isSome)) = true ∧
    (let c := { cfg0 with recs := cfg0.recs ++ [⟨.group, 2, f [(1, 2), (1, 0), (1, 2), (1, 3), (4, 0)]⟩] }
     queues trimControlOp (f [(1, 3), (1, 1), (1, 2), (1, 0), (2, 25), (2, 0), (4, 0)]) { base with force := some { cfg := c, sched := {} } }) = true ∧
    (let c := { cfg0 with recs := cfg0.recs ++ [⟨.pair, 0, pair0⟩] }
     let s := { base with pair := { base.pair with st := .active }, force := some { cfg := c, sched := {} } }
     meets pairHandoverOp (req (f [(4, 0)])) s (fun u => (pairHandoverOp.queues (req (f [(4, 0)])) u).isSome && u.pair.st = .active)) = true := by
  decide +kernel

theorem test_named_frames :
    (let r := { req (f [(2, 0), (2, 0)]) with atFrame := some 1001, flags := 1 }
     showing.showRuns = true ∧ showing.gl.frame = some 1000 ∧ 1001 ≤ 1000 + 16777216 ∧ showing.rt.timedCount < 16384 ∧
     showing.rt.timedBytes + r.payload.length ≤ 8388608 ∧ showing.rt.cutCount < 65536 ∧ showing.rt.cutBytes + r.payload.length ≤ 16777216) := by
  decide +kernel

theorem test_refused_timed_commands :
    (stateCheck playbackGoOp (req (f [(2, 0), (2, 0)])) { base with gl := { base.gl with show_ := .idle } }).passes = true ∧
    playbackGoOp.layout (f [(2, 0), (2, 0)]) = none ∧ ({ base with pair := { base.pair with st := .standby } } : State).standbyMember = true := by
  decide +kernel

theorem test_queries :
    meets patchReadOp (req (f [(4, 0), (4, 1)])) base (fun _ => true) = true ∧
    meets paramReadOp (req (f [(4, 2 ^ 24 - 1), (4, 1)])) base (fun _ => true) = true ∧
    meets playbackStatusOp (req (f [(2, 255), (2, 1)])) base (fun _ => true) = true ∧
    meets effectStatusOp (req (f [(2, 0), (2, 512)])) base (fun _ => true) = true ∧
    (let x : CalRun := { job := ⟨5, 0x0606, 64, 1⟩, payload := [], since := 0 }
     meets calResultOp (req (f [(4, 5)])) { base with col := { base.col with runs := [x] } } (fun u => (u.col.runs.find? fun y => y.job.id = 5).isSome)) = true ∧
    meets trimStatusOp (req (f [(4, 0), (4, 4096)])) base (fun _ => true) = true ∧
    meets videoRxStatusOp (req (f [(4, 7), (4, 1)])) base (fun u => !u.fuses.te8220) = true ∧
    meets flowStatsOp (req (f [(2, 0), (2, 4096)])) base (fun _ => true) = true ∧ meets latencyTableOp (req (f [(2, 0), (2, 1)])) base (fun _ => true) = true ∧
    meets timeStatusOp (req []) base (fun _ => true) = true ∧ meets pairStatusOp (req []) base (fun _ => true) = true ∧
    meets personalityReadOp (req []) base (fun _ => true) = true ∧
    meets meterReadOp (req (f [(1, 0), (1, 63), (2, 1)])) base (fun u => u.cfg.has .meter 0) = true ∧
    meets flashReadOp (req (f [(8, 0x3FFFFFF), (4, 1), (4, 0)])) base (fun u => decide (0x3FFFFFF + 1 ≤ u.flashBytes)) = true ∧
    meets logReadOp (req (f [(8, 0), (2, 2046), (1, 0), (5, 0)])) base (fun _ => true) = true ∧
    (let e : EventRec := { src := 5, cls := 1, frameNamed := false, seq := 8, ns := 0, sec := 0, frame := 0, inst := 0, value := 0 }
     meets logReadOp (req (f [(8, 7), (2, 1), (1, 1), (5, 0)])) { base with nv := { base.nv with log := [e], logNext := 1 } }
      (fun u => (u.nv.log.findIdx? fun e => decide (1 ≤ (e.seq + 2 ^ 32 - 7) % 2 ^ 32 ∧ (e.seq + 2 ^ 32 - 7) % 2 ^ 32 ≤ 2 ^ 31)) = some 0)) = true ∧
    meets countersReadOp (req (f [(2, 65535), (2, 1)])) base (fun _ => true) = true ∧
    meets chkResultOp (req (f [(1, 3), (3, 0)])) base (fun u => (u.chan 3).st ≠ .dataError) = true ∧ meets echoOp (req [1, 2]) base (fun _ => true) = true ∧
    meets healthReadOp (req []) base (fun _ => true) = true ∧ meets avsStatusOp (req []) base (fun _ => true) = true := by decide +kernel

theorem test_unit_actions :
    meets domainSelectOp (req (f [(1, 4), (3, 0)])) base (fun u => u.cfg.sourceOn .free) = true ∧
    meets pairMaintenanceOp (req (f [(1, 1), (3, 0)])) base (fun _ => true) = true ∧
    (let s := fun (x : Feeder) => { base with met := { base.met with feeders := [(0, x)] } }
     meets feederResetOp (req (f [(1, 0), (1, 0), (2, 0)])) (s { st := .tripped, below := true }) (fun u => u.cfg.has .feeder 0 && (u.feeder 0).below) = true ∧
     meets feederResetOp (req (f [(1, 0), (1, 1), (2, 0)])) (s { st := .closed }) (fun u => (u.feeder 0).st = .closed) = true ∧
     meets feederResetOp (req (f [(1, 0), (1, 0), (2, 0)])) (s { st := .open_ }) (fun u => !(u.feeder 0).below) = true ∧
     meets feederResetOp (req (f [(1, 0), (1, 1), (2, 0)])) (s { st := .bleedFault }) (fun u => (u.feeder 0).st ≠ .closed) = true) ∧
    meets nightMeterReadOp (req (f [(2, 0), (2, 1), (4, 3)])) base (fun _ => true) = true ∧
    meets bufferRegisterOp (req (f [(8, 256), (4, 2 ^ 30), (4, 0)])) { base with buf := [(0, { address := 0, size := 256, owner := 64 })] }
      (fun u => !Tab.has u.buf 4095 && match u.session 64 with
        | some (_, x) => x.source = .pcie
        | none => false) = true ∧
    (let s := { base with buf := [(0, { address := 0, size := 256, owner := 64 })] }
     meets bufferReleaseOp (req (f [(4, 0)])) s (fun u => Tab.has u.buf 0 && !u.bufInUse 0) = true ∧
     meets bufferReleaseOp (req (f [(4, 0)])) { s with layer := [(0, { force := { buffer := 0 } })] } (fun u => Tab.has u.buf 0 && u.bufInUse 0) = true) ∧
    meets flowRinseOp (req (f [(2, 0), (2, 0)])) base (fun u => u.cfg.has .flow 0 && decide ((u.flowOf 0).busyUntil ≤ u.tk.counter)) = true ∧
    meets flowRinseOp (req (f [(2, 0), (2, 0)])) { base with flow := [(0, { busyUntil := base.tk.counter + 1 })] }
      (fun u => decide (u.tk.counter < (u.flowOf 0).busyUntil)) = true := by decide +kernel

theorem test_deferred_commands :
    (let c := { cfg0 with recs := cfg0.recs ++ [⟨.binding, 1, f [(4, 1), (2, 0), (10, 0)]⟩] }
     meets calRunOp (req (f [(4, 1), (1, 1), (1, 0), (1, 64), (1, 0), (4, 0xFFFFF), (2, 10000), (2, 10000), (4, 0), (4, 0)]))
      { showing with force := some { cfg := c, sched := {} } }
      (fun u => u.cfg.has .script 0 && u.gl.show_ ≠ .idle && !u.standbyMember && u.col.runs.isEmpty)) = true ∧
    meets latencyMeasureOp (req (f [(1, 0), (1, 0), (1, 1), (1, 0), (4, 0), (4, 0), (4, 0), (2, 3600), (2, 0), (4, 0)])) showing
      (fun u => (u.cfg.get .flow 0).any flNetwork && !u.standbyMember) = true ∧
    meets latencyMeasureOp (req (f [(1, 1), (1, 0), (1, 0), (1, 0), (4, 0), (4, 0), (4, 0), (2, 0), (2, 0), (4, 0)])) showing (fun _ => true) = true ∧
    (let c := { cfg0 with recs := cfg0.recs ++ [⟨.capture, 1, f [(1, 1), (1, 1), (1, 0), (1, 1), (12, 0)]⟩] }
     meets latencyMeasureOp (req (f [(1, 2), (1, 1), (1, 64), (1, 0), (4, 0), (4, 0x10000), (4, 0), (2, 0), (2, 600), (4, 0)]))
      { showing with force := some { cfg := c, sched := {} } } (fun u => (u.cfg.get .capture 1).any (fun c => u8 c 3 = 1) && (u.cfg.carrier 0).isSome)) = true ∧
    meets rdmDiscoverOp (req (f [(1, 0), (1, 1), (2, 0)])) base (fun u => (u.rdmPort 0).passes && (u.dmxOf 0).request.isNone && (u.dmxOf 0).disc.isNone) = true ∧
    meets loopbackOp (req (f [(1, 15), (1, 1), (2, 10000)])) { base with gl := { base.gl with device := .service } }
      (fun u => decide (15 < u.lanes) && !u.laneCarries 15) = true ∧
    (let p := f [(1, 0), (1, 0x30), (1, 0), (1, 0), (6, 0x112233445566), (2, 0), (2, 0x0060), (2, 0)]
     meets rdmRequestOp (req p) { base with dmx := [(0, { packetAt := some 0 })] } (fun u => match u.rdmPort 0 with
       | .ok (d, flow) => (u.earliest 0 d flow (requestUs d p)).any fun t => t + usT (requestUs d p) ≤ u.tk.counter + msT 45
       | .error _ => false)) = true := by decide +kernel

theorem test_update_commands :
    meets updateOpenOp (req (f [(4, 16776960), (4, 0)])) base (fun u => u.updateChecks.passes && u.boot.trialSince.isNone && u.upd.holder.isNone &&
      bodyLenOk 16776960 && bodyLenOk 4096 && !bodyLenOk 4095) = true ∧
    (let s := fun (x : Update) => { base with upd := { x with holder := some 64, bodyLen := 4096 } }
     meets updateBlockOp (req (f [(4, 4096), (2, 256), (2, 0)] ++ zeros 256)) (s { header := some (zeros 256) }) (fun u => u.upd.header.isSome) = true ∧
     meets updateBlockOp (req (f [(4, 0), (2, 4096), (2, 0)] ++ zeros 4096)) (s { header := some (zeros 256) })
      (fun u => u.upd.header = some ((zeros 4096).take 256)) = true ∧
     meets updateCloseOp (req (zeros 4)) (s { blocks := [(0, []), (1, [])] }) (fun u => u.updateChecks.passes && u.upd.missing = 0 && u.upd.closing.isNone) = true ∧
     meets updateAbortOp (req []) (s {}) (fun u => u.upd.holder = some 64) = true ∧
     meets updateActivateOp (req (zeros 4)) (s { verified := true }) (fun u => u.updateChecks.passes && u.upd.verified && !u.boot.recovery && u.gl.show_ ≠ .running) = true ∧
     meets updateActivateOp (req (zeros 4)) { (s { verified := true }) with boot := { base.boot with recovery := true } } (fun u => u.boot.recovery) = true) ∧
    meets healthConfirmOp (req (zeros 4)) { base with boot := { base.boot with trialSince := some 0 } } (fun u => u.boot.trialSince.isSome) = true ∧
    meets healthConfirmOp (req (zeros 4)) base (fun u => u.boot.trialSince.isNone) = true ∧
    meets ownerLockOp (req (f [(1, 1), (3, 0), (8, 7)])) base (fun u => u.nv.ownerHash.isNone) = true ∧
    meets ownerLockOp (req (f [(1, 0), (3, 0), (8, 7)])) { base with nv := { base.nv with ownerHash := some (sha256 (leBytes 8 7)) } }
      (fun u => u.nv.ownerHash = some (sha256 (slice (f [(1, 0), (3, 0), (8, 7)]) 4 8)) && u.lock.lockout.isNone) = true ∧
    meets ownerLockOp (req (f [(1, 0), (3, 0), (8, 7)])) { base with nv := { base.nv with ownerHash := some [] } }
      (fun u => u.nv.ownerHash = some [] && sha256 (slice (f [(1, 0), (3, 0), (8, 7)]) 4 8) ≠ []) = true := by decide +kernel

/-- The first check of R464 is MAGIC. -/
theorem test_header_magic : base.checkHeader none (putAt (zeros 256) 4 [1]) = Status.headerBad := by decide +kernel

/-- CRC-32C of the nine digits of R446's check value. -/
theorem test_crc32c : crc32c (b [0x31, 0x32, 0x33, 0x34, 0x35, 0x36, 0x37, 0x38, 0x39]) = 0xE3069283 := by decide +kernel

/-- The SHA-256 of the empty string. -/
theorem test_digest : sha256 [] = beBytes 32 0xE3B0C44298FC1C149AFBF4C8996FB92427AE41E4649B934CA495991B7852B855 := by decide +kernel

theorem test_digest_ok :
    digestOk (zeros 32 ++ beBytes 32 0xE3B0C44298FC1C149AFBF4C8996FB92427AE41E4649B934CA495991B7852B855 ++ zeros 192) = true ∧
    digestOk (zeros 256) = false := by decide +kernel

theorem test_flash_commands :
    meets flashWriteOp (req (f [(8, 0x3F00000), (4, 2), (4, 0)] ++ [0, 1])) base (fun u => (u.flashWritable 0x3F00000 2).passes) = true ∧
    meets flashEraseOp (req (f [(8, 0x3FF0000), (4, 65536), (4, 0)])) base (fun u => (u.flashWritable 0x3FF0000 65536).passes) = true ∧
    meets calsetSaveOp (req []) base (fun u => u.gl.show_ ≠ .armed) = true ∧ Memory.wf base.nv.flash = true := by decide +kernel

/-- A byte programmed twice holds the bits that both leave at 1, and an erase gives 0xFF again (R457). -/
theorem test_flash_bytes :
    Memory.read (Memory.program (Memory.program [] 5 [0xF0]) 5 [0x3C]) 5 = 0x30 ∧
    Memory.read (Memory.erase (Memory.program [] 5 [0xF0]) 0 65536) 5 = 0xFF ∧ Memory.program [] 5 [0xFF] = [] := by decide +kernel

theorem test_diagnostic_commands :
    meets eventRouteOp (req (f [(2, 0x1FF), (2, 1), (1, 0), (1, 7), (1, 63), (1, 0)])) base (fun _ => true) = true ∧
    (let e : Endpoint := ⟨1, 2⟩
     let s := { base with
       hq := { base.hq with pairs := [(56, { (RingPair.atReset 56) with running := true, bound := some e })] }
       ses := [(0, { isOpen := true, gen := 1, source := .ml e, keepalive := 10 })] }
     meets eventRouteOp { req (f [(2, 0), (2, 0x200), (1, 1), (3, 0)]) with pair := 56 } s (fun u => (u.ring 56).ml) = true ∧
     meets eventRouteOp { req (f [(2, 0), (2, 0x200), (1, 2), (3, 0)]) with pair := 56 } s (fun u => (u.ring 56).ml) = true) ∧
    meets eventMaskOp (req (f [(2, 0), (2, 0x200), (1, 1), (3, 0)])) base (fun _ => true) = true ∧
    meets eventMaskOp (req (f [(2, 0x1FF), (2, 1), (1, 0), (3, 0)])) base (fun _ => true) = true ∧
    meets chkStartOp (req (f [(1, 3), (1, 0), (1, 3), (1, 0), (4, 0), (8, 0), (8, 4096)])) base
      (fun u => u.startOk 0 0 && u.lengthOk 0 0 4096 && (u.chan 3).st ≠ .running) = true ∧
    meets chkStartOp (req (f [(1, 0), (1, 0), (1, 0), (1, 3), (4, 0), (8, 0), (8, 0)])) base (fun _ => true) = true ∧
    meets chkExpectOp (req (f [(1, 3), (7, 0), (8, 1)])) base (fun _ => true) = true ∧
    meets chkModeOp (req (f [(1, 3), (1, 1), (2, 0)])) base (fun u => (u.chan 3).st ≠ .running) = true ∧
    meets regReadOp (req (f [(4, 0x3FFFFC), (4, 1)])) base (fun _ => true) = true ∧
    meets regWriteOp (req (f [(4, 0x20000), (4, 1), (4, 0)])) base (fun _ => true) = true ∧
    meets serviceEnterOp (req (zeros 4)) base (fun u => !u.showRuns) = true ∧
    meets serviceExitOp (req (zeros 4)) { base with gl := { base.gl with device := .service } } (fun u => !u.boot.recovery) = true ∧
    meets deviceResetOp (req (zeros 4)) base (fun u => u.gl.show_ ≠ .armed) = true := by decide +kernel

theorem test_state_refusals :
    State.reset.gl.device = .boot ∧ ({ base with gl := { base.gl with device := .service } } : State).boot.recovery = false ∧
    [0x01, 0x0C, 0x0D, 0x0E, 0x0F].contains (showStartOp.code / 256) = false ∧ u32 (f [(4, 0x1FFFC), (4, 1), (4, 0)]) 0 < 0x20000 := by decide +kernel

theorem test_effects_at_cuts :
    (let big := f [(2, 0), (2, 9), (1, 0), (1, 0), (1, 0), (1, 0), (28, 0), (4, 101), (8, 0)] ++ (List.range 101).flatMap fun i => leBytes 4 i ++ zeros 4
     base.playback 0 = some (playback0, {}) ∧ 9 < pbCues playback0 ∧ ({} : Playback).cue = none ∧
     ({ cue := some 3 } : Playback).request = none ∧ (1 : Nat).testBit 0 = true ∧ cuesFit playback0 [] = true ∧
     cuesFit playback0 (storeCue [] big) = false) ∧
    (base.generator 0).isSome = true ∧ ({ running := true } : Gen).running = true ∧ ({} : Gen).running = false ∧
    (let s := { base with pair := { base.pair with st := .active, handover := some (7, false) } }
     s.pair.st = .active ∧ s.pair.handover.isSome = true) := by decide +kernel

theorem test_words_of_queues :
    (let x : Lane := { part := some (8, []), rinse := true, busyUntil := 7 }
     x.part.isSome = true ∧ x.rinse = true ∧ x.stalled = [] ∧ x.full = false ∧ ({ x with part := none } : Lane).part = none ∧ 6 < x.busyUntil ∧ x.busyUntil ≤ 7) ∧
    (let x : Lane := { queue := List.replicate 32 [] }
     x.full = true ∧ x.rinse = false) := by decide +kernel

/-! ## Events -/

/-- The unit with ring pair 0 in a given state. -/
def paired (x : RingPair) : State := { base with hq := { base.hq with pairs := [(0, x)] } }

/-- A running pair of host memory. -/
def hostRing : RingPair := { (RingPair.atReset 0) with enable := true, running := true }

/-- A slot of a command that has not answered. -/
def slot0 : Slot := { op := 0x0101, session := 0, tag := 1, rplSize := 4096, deadline := some 70000000000 }

theorem test_replies :
    (let s := paired { hostRing with slots := [slot0] }
     (s.ring 0).slots = [slot0] ∧ (s.ring 0).ml = false ∧ (s.ring 0).full = false ∧ s.canWrite (s.ring 0) = true ∧ (s.ring 0).vector.getLsbD 31 = false) := by
  decide +kernel

theorem test_ring_events :
    (let s := paired hostRing
     (s.ring 0).ml = false ∧ (s.ring 0).running = true ∧ ringUsed (16 % 65536) (s.ring 0).cmdTail ≤ 2 ^ (s.ring 0).latched.2.2.1 ∧
     2 ^ (s.ring 0).latched.2.2.1 < ringUsed (17 % 65536) (s.ring 0).cmdTail ∧ ringUsed (16 % 65536) (s.ring 0).rplTail ≤ 2 ^ (s.ring 0).latched.2.2.2 ∧
     (s.ring 0).slots = []) ∧
    (let s := paired { hostRing with slots := [{ slot0 with ans := some {} }], rplHead := 16, heldSince := some 5 }
     (s.ring 0).heldSince = some 5 ∧ (s.ring 0).held = true ∧ (s.ring 0).stalled = false) ∧
    (let s := paired { hostRing with slots := [slot0] }
     (s.ring 0).slots[0]? = some slot0 ∧ slot0.deadline = some 70000000000 ∧ slot0.ans = none ∧ (s.ring 0).slots ≠ []) ∧
    (base.ring 1).enable = false ∧ (base.ring 1).ml = false ∧ (base.ring 1).slots = [] ∧
    (let s := { base with hq := { base.hq with pairs := [(56, { (RingPair.atReset 56) with running := true, enable := false })] } }
     (s.ring 56).enable = false ∧ (s.ring 56).ml = true) ∧
    (let s := paired { hostRing with cmdTail := 1 }
     s.accepts 0 = true ∧ (s.ring 0).ml = false ∧ (s.ring 0).cmdHead ≠ (s.ring 0).cmdTail ∧ s.pcie.link = true ∧ s.pcie.master = true ∧ s.pcie.d3hot = false) ∧
    (let s := { base with hq := { base.hq with pairs := [(56, { (RingPair.atReset 56) with running := true, bound := some ⟨1, 2⟩, ring := [(5, b [1, 1])] })] } }
     s.serves 56 = true ∧ s.accepts 56 = true ∧ (s.ring 56).ml = true ∧ (s.ring 56).ring = [(5, b [1, 1])] ∧ (s.ring 56).cache = [] ∧
     ((s.ring 56).slots ++ (s.ring 56).late).any (fun x => sameCommand (b [1, 1]) x.op x.session x.tag) = false) ∧
    (let c := putAt (putAt (putAt (zeros 16) 0 (leBytes 2 0x0F03)) 6 (leBytes 2 64)) 8 (leBytes 2 7)
     let x : Reply := { op := 0x0F03, session := 64, tag := 7, ans := {}, length := 16, truncated := false }
     let s := fun (q : RingPair) => { base with hq := { base.hq with pairs := [(56, { q with running := true, bound := some ⟨1, 2⟩, ring := [(5, c)] })] } }
     ((s { (RingPair.atReset 56) with cache := [x] }).ring 56).cache.find? (fun y => sameCommand c y.op y.session y.tag) = some x ∧
     (s { (RingPair.atReset 56) with cache := [x] }).serves 56 = true ∧
     (((s { (RingPair.atReset 56) with slots := [{ slot0 with op := 0x0F03, session := 64, tag := 7 }] }).ring 56).slots).any
       (fun x => sameCommand c x.op x.session x.tag) = true) := by decide +kernel

/-- The management lane with an address and its link up. -/
def linked : State := { base with ml := { base.ml with link := true, addrSrc := .static, addr := 5, ipv4 := 5 } }

theorem test_link_events :
    State.reset.pcie.pba.getLsbD 63 = false ∧
    (let s := { base with pcie := { base.pcie with pba := BitVec.allOnes 64 } }
     s.pcie.pba.getLsbD 63 = true ∧ s.pcie.link = true ∧ s.pcie.master = true ∧ s.pcie.d3hot = false) ∧
    linked.ml.link = true ∧ linked.ml.addrSrc ≠ .none ∧ linked.pairFor ⟨1, 2⟩ = some 56 ∧ (linked.ring 56).ring.length < 64 ∧
    (let full := { linked with hq := { linked.hq with pairs := [(56, { (RingPair.atReset 56) with running := true, bound := some ⟨1, 2⟩, ring := List.replicate 64 (5, []) })] } }
     full.pairFor ⟨1, 2⟩ = some 56 ∧ 64 ≤ (full.ring 56).ring.length) ∧
    (let none_ := { linked with hq := { linked.hq with pairs := (List.range 8).map fun i => (56 + i, { (RingPair.atReset 56) with running := true, bound := some ⟨i, 2⟩ }) } }
     none_.pairFor ⟨9, 9⟩ = none) ∧
    (let s := { linked with hq := { linked.hq with pairs := [(56, { (RingPair.atReset 56) with running := true, bound := some ⟨1, 2⟩, idleSince := some 3 })] } }
     s.bindingIdle 56 = true ∧ (s.ring 56).idleSince = some 3) ∧
    linked.ml.reasm = [] ∧
    (let x : Reasm := { src := ⟨1, 2⟩, id := 7, parts := [], total := none, since := 3 }
     (({ linked with ml := { linked.ml with reasm := [x] } } : State).ml.reasm.find? fun x => decide (x.src = ⟨1, 2⟩ ∧ x.id = 7)) = some x) ∧
    ({ linked.ml with dhcpOn := true, offered := some 9 } : Ml).offered = some 9 ∧ ({ linked.ml with addrSrc := .dhcp } : Ml).addrSrc = .dhcp ∧
    ({ linked.ml with addrSrc := .none } : Ml).dhcpOn = true ∧ (0xA9FEFFFF : Nat) / 65536 = 0xA9FE ∧
    (∃ x, Tab.find ({ base with ses := [(0, { isOpen := true, gen := 1, keepalive := 10 })] } : State).ses 0 = some x ∧ x.isOpen = true ∧ x.keepalive ≠ 0) := by
  refine ⟨?_, ?_, ?_, ?_, ?_, ?_, ?_, ?_, ?_, ?_, ?_, ?_, ?_, ?_, ?_, ⟨_, rfl, rfl, ?_⟩⟩ <;> decide +kernel

theorem test_pcie_events :
    (let s := { base with pcie := { base.pcie with pba := 1#64 <<< 5, vecMask := 1#64 <<< 5 } }
     s.pcie.canDma = true ∧ s.pcie.masks 5 = true ∧ s.pcie.masks 6 = false ∧ s.pcie.fnMask = false ∧ s.gl.device ≠ .boot ∧ s.boot.hold = false) ∧
    State.reset.gl.device = .boot ∧ ({ base.boot with hold := true } : Boot).hold = true ∧ ({ base.pcie with link := false } : Pcie).canDma = false ∧
    linked.ml.wasDropped ⟨1, 2⟩ 7 linked.now = false ∧ linked.ml.dhcpOn = true ∧ linked.ml.addrSrc ≠ .dhcp := by decide +kernel

theorem test_confirm_waits :
    base.confirmWaits 0x0C06 = false ∧
    ({ base with upd := { base.upd with activate := some (false, some .timeout) } } : State).confirmWaits 0x0C06 = true := by decide +kernel

theorem test_reset_replies :
    (let x : Slot := { slot0 with op := deviceResetOp.code, wait := .executing }
     let s := paired { hostRing with slots := [x] }
     (s.ring 0).slots = [x] ∧ x.wait = .executing ∧ x.op = deviceResetOp.code ∧ (s.ring 0).full = false ∧
     ((paired { hostRing with slots := [x], rplHead := 16 }).ring 0).full = true ∧ s.canWrite (s.ring 0) = true) ∧
    base.gl.firstCut = none := by decide +kernel

theorem test_pcie_loss : (base.ring 0).enable = true ∧ (match exec .d3hotEnter base with
    | .next t => (t.ring 0).enable
    | .fault _ => true
    | .refused _ => true) = false := by decide +kernel

theorem test_register_accesses :
    (base.windowAt 0x32000).isSome = true ∧ (match base.windowAt 0x32000 with
      | some w => (base.fifo w).items = []
      | none => false) = true ∧
    (let s := { base with tk := { base.tk with inputs := [(0, { fifo := { items := [(1, false)] } })] } }
     (match s.windowAt 0x32000 with
      | some w => (s.fifo w).items ≠ []
      | none => false) = true ∧ (s.input 0).fifo.items = [(1, false)] ∧ (s.input 0).fifo.rinse = false ∧ s.windowAt 0x32000 = some (.input 0)) ∧
    (let s := { base with pcie := { base.pcie with waits := [(0x32000, 8)] } }
     (0x32000, 8) ∈ s.pcie.waits) ∧
    0x3FFFFC % 4 = 0 ∧ base.windowAt 0x3FFFFC = none ∧ (paired { hostRing with rinse := true }).ring 0 ≠ base.ring 0 ∧
    ((paired { hostRing with rinse := true }).ring 0).rinse = true ∧
    (({ base with lane := [(15, { rinse := true })] } : State).laneOf 15).rinse = true := by decide +kernel

theorem test_effective_writes :
    base.cfg.has .canvas 0 = true ∧ base.cfg.has .layer 0 = true ∧ bit (1#32).toNat 0 = true ∧ base.cfg.has .witness 0 = true ∧
    (let s := { base with layer := [(0, { mapped := true })] }
     (s.palAt 0).isSome) = true ∧
    base.tk.source = .free ∧ base.showRuns = false ∧ showing.showRuns = true ∧ base.cfg.has .trigger 0 = true ∧ (base.unit 0).mode < 4 ∧
    (base.laneOf 15).full = false ∧ (base.laneOf 15).stalled = [] ∧
    (({ base with lane := [(0, { queue := List.replicate 15000 [] })] } : State).laneOf 0).stalled = [] ∧
    (({ base with lane := [(0, { stalled := [1] })] } : State).laneOf 0).stalled = [1] ∧
    (({ base with lane := [(0, { part := some (8, []), rinse := true })] } : State).laneOf 0).part ≠ none ∧
    (base.laneOf 0).busyUntil ≤ base.tk.counter ∧ (base.laneOf 0).part = none ∧
    (base.cfg.get .scan 0).isSome = true ∧ base.evt.enable = false := by decide +kernel

theorem test_writes_of_ports :
    (({ base with lane := [(0, { queue := List.replicate 32 [] })] } : State).laneOf 0).full = true ∧
    (with_ [⟨.scan, 1, scan1⟩] base).cfg.get .scan 1 = some scan1 ∧ scMemory scan1 = true := by decide +kernel

theorem test_boot_events :
    ({ base with boot := { base.boot with resetAt := some 5 } } : State).boot.resetAt = some 5 ∧
    State.reset.gl.device = .boot ∧ State.reset.boot.thermal = false ∧ ([0] : List Int).all (fun t => t < 16 * State.reset.fuses.tjHi) = true ∧
    base.gl.device ≠ .boot ∧ base.mon.outside = none ∧ base.gl.coreLast = [] ∧ base.gl.restarting = [] := by decide +kernel

theorem test_resets :
    base.mon.holdup = false ∧ base.boot.supplyLost = false ∧ ({ base.mon with holdup := true } : Mon).holdup = true ∧
    base.upd.closing = none ∧ slotBase base.targetSlot + 256 ≤ slotBase base.targetSlot + 0x1000000 ∧ Memory.wf base.nv.flash = true := by decide +kernel

theorem test_saved_show_events :
    (let s := { base with
       boot := { base.boot with pers := some (putAt (zeros 256) 6 [24]) }
       nv := { base.nv with configA := some ⟨1, []⟩ } }
     s.gl.device = .operational ∧ bit (u16 s.personality 6) 3 = true ∧ s.boot.started = false ∧ s.stage.admitting = none ∧
     newerSaved s.nv.configA s.nv.configB = some ⟨1, []⟩ ∧ s.freeSession = some 1 ∧ s.stage.pending = none ∧ s.stage.holder = none ∧
     s.gl.show_ ≠ .armed ∧ s.showRuns = false ∧ newerSaved base.nv.configA base.nv.configB = none) ∧
    (let s := { base with boot := { base.boot with pers := some (putAt (zeros 256) 6 [24]), autoload := some 1 } }
     bit (u16 s.personality 6) 4 = true ∧ s.boot.autoload ≠ none ∧ s.boot.autoStart = false ∧ s.stage.admitting = none ∧
     s.gl.show_ = .configured ∧ s.timeReady = true ∧
     (({ s with boot := { s.boot with autoStart := true } } : State).startShow none false).passes = true) := by decide +kernel

theorem test_update_events :
    ({ base.upd with holder := some 64 } : Update).holder ≠ none ∧ base.upd.closing = none ∧
    ({ base.upd with pausing := some (true, none) } : Update).pausing = some (true, none) ∧ base.boot.running = false ∧
    ({ base.boot with trialSince := some 3 } : Boot).trialSince = some 3 ∧ ({ lockout := some 3 } : Lock).lockout = some 3 := by decide +kernel

theorem test_niwin_lines :
    (let s := { base with nw := { base.nw with started := true } }
     s.nw.started = true ∧ s.gl.device ≠ .updatePause ∧ s.nw.follow = false ∧ s.showRuns = false ∧ s.boot.recovery = false ∧ s.gl.device ≠ .service ∧
     s.nw.held = [] ∧ s.nw.cut = false ∧ s.gl.firstCut = none) ∧
    (let x : Niwin := { base.nw with held := [some .help] }
     x.held ≠ [] ∧ x.cut = false ∧ ({ x with cut := true } : Niwin).cut = true ∧ 5 + lineLength .help ≤ 256 ∧ 256 < 255 + lineLength .help) ∧
    (let s := { showing with nw := { base.nw with started := true, follow := true } }
     s.showRuns = true ∧ s.nw.follow = true) ∧
    (let p : OtpPrep := { slot := 3, hash := none, code := 7, since := 0 }
     let s := { base with
       gl := { base.gl with device := .service }, nw := { base.nw with started := true, prep := some p }
       nv := { base.nv with keys := [(3, { hash := some (zeros 32) })] }, now := secT 30 - 1 }
     s.nw.prep = some p ∧ s.now < p.since + secT 30 ∧ 8#32 ≠ p.code ∧ s.gl.device = .service ∧ (Tab.getD s.nv.keys 2 {}).hash = none ∧
     s.nv.ownerHash = none ∧ 3 ≠ s.runningKey ∧ (Tab.getD s.nv.keys 3 {}).hash = some (zeros 32) ∧ (zeros 32).length = 32 ∧
     0x3FFFFC + 4 * 1 ≤ 0x400000 ∧ s.gl.show_ ≠ .armed) := by decide +kernel

theorem test_monitor_events :
    (let e : EventRec := { src := 5, cls := 1, frameNamed := false, seq := 8, ns := 0, sec := 0, frame := 0, inst := 0, value := 0 }
     let x : Session := { isOpen := true, gen := 1, source := .ml ⟨1, 2⟩, keepalive := 10 }
     let s := { base with
       ses := [(63, x)]
       evt := { base.evt with subs := [(63, { waiting := [e] })], holding := [(63, { ends := 9, due := true })], uart1 := [{ entry := 4, since := 8, event := e }] } }
     Tab.find s.evt.subs 63 = some { waiting := [e] } ∧ Tab.find s.ses 63 = some x ∧ x.endpoint = some ⟨1, 2⟩ ∧ [e] ≠ [] ∧
     Tab.find s.evt.holding 63 = some { ends := 9, due := true } ∧ s.evt.uart1 = [{ entry := 4, since := 8, event := e }] ∧ s.gl.device ≠ .boot ∧
     ({ s with now := 9 } : State).now < 8 + secT 1) := by decide +kernel

theorem test_check_events :
    (let s := fun (x : Chk) => { base with chk := [(3, x)] }
     ((s { length := 8 }).chan 3).st ≠ .running ∧ ((s { length := 8 }).chan 3).region = 0 ∧ (s { length := 8 }).lengthOk 0 0 8 = true ∧
     ((s { st := .running }).chan 3).st = .running ∧ ((s { st := .running }).chan 3).te5100 = false ∧ ((s { st := .done }).chan 3).st = .done ∧
     ((s { reloading := true, holding := some 5 }).chan 3).reloading = true ∧ ((s { reloading := true, holding := some 5 }).chan 3).holding = some 5) ∧
    (base.window 0).reloading = false ∧ (({ base with wit := { base.wit with wins := [(63, { reloading := true })] } } : State).window 63).reloading = true ∧
    ({ rewriting := true } : Image).rewriting = true ∧
    (let c : ImageCopy := { force := { cfg := {}, sched := {} }, sets := [], palettes := [] }
     let x : Image := { restoring := true, copyA := some c }
     let y : Image := { restoring := true, copyB := some c, badA := [8] }
     x.restoring = true ∧ x.lost = false ∧ x.rewriting = false ∧ x.badA = [] ∧ x.copyA = some c ∧ base.force.isSome = true ∧
     y.lost = false ∧ y.badA ≠ [] ∧ y.badB = [] ∧ y.copyB = some c) ∧
    (({ base with wit := { base.wit with wins := [(63, { reloading := true })] } } : State).stableWindow 63) = false ∧
    (let j : Job := ⟨5, 0x0F04, 64, 1⟩
     let s := { base with jobs := { base.jobs with active := [j], loops := [(15, 5, 9)] } }
     15 < s.lanes ∧ Tab.find s.jobs.loops 15 = some (j.id, 9) ∧ (s.jobs.active.find? fun k => decide (k.id = j.id)) = some j) := by decide +kernel

/-- The running show with frame 1001 in the making: job 3 of its schedule runs on lane 63 in two segments. -/
def making : State :=
  let j : JobRun := { frame := 1001, num := 3, level := 8, peg := none, segments := 2 }
  { showing with sch := { showing.sch with running := [(63, j)] } }

theorem test_frame_events :
    (let a : Admitting := { job := ⟨1, 0x0201, 64, 1⟩, flags := 0, frame := none, area := {} }
     ({ base with stage := { base.stage with admitting := some a } } : State).stage.admitting = some a) ∧ base.stage.admitting = none ∧
    showing.nextCut = some 1001 ∧ showing.gl.device ≠ .updatePause ∧ showing.upd.activate = none ∧ base.nextCut = none ∧
    ({ showing with upd := { showing.upd with activate := some (true, none) } } : State).nextCut = some 1001 ∧
    ({ showing with gl := { showing.gl with device := .updatePause } } : State).nextCut = some 1001 ∧
    63 < making.renderLanes ∧ Tab.find making.sch.running 62 = none ∧ Tab.has making.sch.marks 63 = false ∧
    (match Tab.find making.sch.running 63 with
      | some j => decide (j.done + 1 < j.segments) && decide (({ j with done := 1 } : JobRun).segments ≤ 1 + 1)
      | none => false) = true ∧
    Tab.has ({ making.sch with marks := [(63, (1, 2))] } : Scheduler).marks 63 = true ∧
    (let x : Scheduler := { making.sch with lanes := [(62, { item := some .scrub })] }
     ((({ making with sch := x } : State).startItem x 62).lane 62).item = some .scrub ∧
     ((({ making with sch := x } : State).startItem x 62).lane 62).item ≠ some .telemetry) ∧
    (let r : FrameRec := { frame := 1001, force := { cfg := cfg0, sched := {} } }
     let s := { showing with flow := [(0, { next := some 1001 })], sch := { showing.sch with frames := [r] } }
     (s.flowOf 0).next = some 1001 ∧ s.issuable 0 1001 = true ∧ s.outranked 0 = false ∧ (s.launchCfg 0 1001).get .flow 0 = some flow0) := by
  decide +kernel

/-- A frame received with no fault. -/
def whole : RxFrame := { bytes := 64, tagged := false, fragment := false, goodFcs := true, room := true, source := zeros 6, ip := 9 }

theorem test_reads_of_jobs :
    showing.pair.awaits = none ∧ showing.decideLast.nextCut = some 1001 ∧
    (StoreRead.poisoned ⟨.dram, 8, .transient⟩) ≠ .clean := by decide +kernel

theorem test_canvas_events :
    (let s := { base with canvas := [(0, { commit := true })], layer := [(0, { fetching := some ⟨0, 5⟩ })] }
     s.cfg.get .canvas 0 = some canvas0 ∧ (Tab.getD s.canvas 0 {}).commit = true ∧ s.standbyMember = false ∧ (Tab.getD s.canvas 0 {}).period = none ∧
     (s.layerOf 0).isSome = true ∧ Tab.has s.layer 0 = true) ∧
    (let p : VideoPacket := { rx := whole, ssrc := 5, payloadType := 96, rtp := 0, pixels := [] }
     base.takesVideo = true ∧ base.cfg.get .video 0 = some video0 ∧ base.takesFrame (u8 video0 1) p.rx = true ∧ p.rx.room = true ∧
     p.payloadType = u8 video0 14 ∧ (Tab.getD base.video 0 {}).ssrc = none ∧ ({ p with payloadType := 97 } : VideoPacket).payloadType ≠ u8 video0 14 ∧
     ((Tab.getD ({ base with video := [(0, { ssrc := some 6 })] } : State).video 0 {}).ssrc.any (· ≠ p.ssrc)) = true ∧
     ({ whole with room := false } : RxFrame).room = false ∧ (with_ [⟨.role, 0, f [(1, 3), (3, 0)]⟩] base).role = 3) := by decide +kernel

theorem test_colour_events :
    base.cfg.get .script 0 = some script0 ∧ (base.bus (u8 script0 1)).running = none ∧ base.standbyMember = false ∧ base.readingRun 0 = none ∧ base.ballHeld (ballIndex 35 28) = false ∧
    (base.advanceNow (base.scriptDue 0)).nextScript (u8 script0 1) = some (0, false) ∧ base.settleDue = none ∧
    (({ base with col := { base.col with buses := [(0, { running := some 0 })] } } : State).bus (u8 script0 1)).running = some 0 ∧
    ({ base with pair := { base.pair with st := .standby }, col := { base.col with buses := [(0, { running := some 0 })] } } : State).standbyMember = true ∧
    (let x : CalRun := { job := ⟨5, 0x0606, 64, 1⟩, payload := f [(4, 0), (1, 0), (1, 0), (26, 0)], since := 0 }
     let s := fun (y : CalRun) => { base with col := { base.col with runs := [y] } }
     ((s x).col.runs.find? fun x => decide (x.outcome = 4) && decide (x.phase = .waitDark)) = some x ∧ (s x).showRuns = false ∧
     ([CalPhase.settleDark, .settleA, .darkTime, .settleB].all fun k => (s { x with phase := k, due := 7 }).settleDue = some 7) = true ∧
     ({ x with phase := .settleDark } : CalRun).settling = true ∧ x.settling = false ∧
     (s { x with phase := .readDark }).readingRun 0 = some { x with phase := .readDark } ∧
     (s { x with phase := .readDark }).nextScript (u8 script0 1) = some (0, true)) := by decide +kernel

theorem test_network_events :
    base.cfg.get .lane 15 = none ∧ base.cfg.get .lane 0 = some lane0 ∧ laNoIcmp lane0 = false ∧
    (let d := f [(1, 1), (1, 2), (1, 2), (1, 0), (2, 9000), (2, 0), (6, 0), (1, 24), (1, 0), (4, 0x0A000101), (4, 0), (8, 0)]
     (with_ [⟨.lane, 1, d⟩] base).cfg.get .lane 1 = some d ∧ laMode d = 2 ∧ laSpeed d ≠ 1 ∧
     ((base.cfg.get .lane 0).any fun d => laMode d = 2 && laSpeed d ≠ 1) = false) ∧
    base.takesFrame 0 whole = true ∧ base.takesFrame 0 { whole with fragment := true } = false ∧ base.takesFrame 0 { whole with goodFcs := false } = false ∧
    base.takesFrame 0 { whole with bytes := 1519 } = false ∧ base.takesFrame 0 { whole with bytes := 1519, tagged := true } = true ∧
    (let s := { base with lane := [(0, { link := true, arp := [(9, { mac := zeros 6, fails := 2 })] })] }
     (s.laneOf 0).link = true ∧ Tab.find (s.laneOf 0).arp 9 = some { mac := zeros 6, fails := 2 } ∧ Tab.has (s.laneOf 0).arp 9 = true ∧ ({ mac := zeros 6, fails := 1 } : Arp).fails < 2) ∧
    (let p : SacnPacket := ⟨whole, 0, 1, zeros 16, 100, 0, true, false, false, 0, 0, [255]⟩
     base.takesFrame p.lane p.rx = true ∧ ((base.rxOf 1).seqOf p.cid).any (outOfOrder p.sequence) = false ∧
     ((({ base with rx := [(1, { seqs := [(p.cid, 5)] })] } : State).rxOf 1).seqOf p.cid).any (outOfOrder p.sequence) = true ∧
     ({ p with terminated := true } : SacnPacket).terminated = true ∧ p.sync = 0 ∧
     base.cfg.get .sacnRx 1 = some sacnRx1 ∧ u8 sacnRx1 2 = p.lane ∧ (base.rxOf 1).sources = [] ∧ (base.rxOf 1).lost = none ∧
     ({ p with startCode := 0xDD } : SacnPacket).startCode ≠ 0 ∧ (base.rxOf 1).sources.length < 8) ∧
    (let y : RxSource := { cid := zeros 16, priority := 100, seq := 0, last := 5, waiting := some (7, [1], 5) }
     let s := { base with rx := [(1, { sources := [y] })] }
     s.cfg.all .sacnRx = [(1, sacnRx1)] ∧ u8 sacnRx1 2 = 0 ∧ y ∈ (s.rxOf 1).sources ∧ y.waiting = some (7, [1], 5) ∧
     ((s.rxOf 1).sources.find? fun x => decide (x.cid = zeros 16) && x.waiting.isSome) = some y) ∧
    (let d := f [(1, 0), (1, 1), (94, 0)]
     let s := { (with_ [⟨.sacnSource, 0, d⟩] base) with lane := [(0, { link := true })] }
     s.cfg.get .sacnSource 0 = some d ∧ (u8 d 1).testBit 0 = true ∧ (s.laneOf 0).link = true ∧ s.sendsSacn s.frameNow = true) ∧
    (let d := f [(1, 1), (1, 1), (2, 3), (1, 0), (1, 0), (2, 0), (4, 4), (4, 0), (4, 0), (4, 0), (8, 0)]
     let h := beBytes 2 0x4958 ++ [1, 1] ++ beBytes 2 3 ++ zeros 6 ++ beBytes 4 0x40000702 ++ zeros 16
     let s := { (with_ [⟨.ixRx, 768, d⟩] base) with ixrx := [(768, { claims := [(1, { claim := 0xC0000301 })] })] }
     h.length = 32 ∧ beNat (slice h 0 2) = 0x4958 ∧ u8 h 2 = 1 ∧ beNat (slice h 4 2) * 256 + 0 = 768 ∧ s.cfg.get .ixRx 768 = some d ∧ s.takesFeed d = true ∧
     (claimRule (s.ixOf 768) (beNat (slice h 12 4))).1 = false) := by decide +kernel

theorem test_ninth_source :
    let x : Rx := { sources := (List.range 8).map fun i => { cid := b (List.replicate 16 (i + 1)), priority := 100, seq := 0, last := 5 } }
    8 ≤ x.sources.length ∧ ∀ y ∈ x.sources, y.cid ≠ zeros 16 := by decide +kernel

theorem test_panel_events :
    (let s := { showing with scan := [(0, { codes := some [], period := some 1000, refresh := 1 })] }
     (s.cfgAt 1000).get .scan 0 = some scan0 ∧ (s.cfgAt 1000).scanFlow 0 = some (2, scanFlow) ∧ (s.port 0).codes = some [] ∧ (s.port 0).period = some 1000 ∧
     scMemory scan0 = false ∧ (s.port 0).tripped = false ∧ (s.port 0).refresh < (scPace scan0 (s.port 0).static).2) ∧
    (let e : Encoded := { frame := 1001, body := [[], []] }
     let s := { (with_ [⟨.scan, 1, scan1⟩, ⟨.flow, 3, scanFlow1⟩] showing) with
       flow := [(3, { next := some 1001, ready := [e] })]
       sch := { showing.sch with frames := [{ frame := 1001, force := { cfg := (with_ [⟨.scan, 1, scan1⟩, ⟨.flow, 3, scanFlow1⟩] base).cfg, sched := {} } }] } }
     s.cfg.scanFlow 1 = some (3, scanFlow1) ∧ (s.flowOf 3).next = some 1001 ∧ (s.cfgAt 1001).get .scan 1 = some scan1 ∧ scMemory scan1 = true ∧
     (s.port 1).tripped = false ∧ (s.port 1).restart = none ∧ s.holdsAt 1001 = false ∧ (s.port 1).dark = false ∧ (s.port 1).lines < scLines scan1 ∧
     s.mutedAt 3 1001 = false ∧ (s.port 1).rests scan1 1001 [] = false ∧ s.portFrame (s.cfgAt 1001) 1 scan1 3 1001 = some ([], []) ∧
     (s.port 1).stuckAt = none) ∧
    (let q : RdmReq := { session := 64, payload := f [(1, 0), (1, 0x20), (1, 0), (1, 0), (6, 0x112233445566), (2, 0), (2, 0x60), (2, 0)] }
     let s := fun (q : RdmReq) => { base with dmx := [(0, { packetAt := some 0, request := some q })] }
     (s q).cfg.get .dmx 0 = some dmx0 ∧ (s q).cfg.dmxFlow 0 = some (1, dmxFlow) ∧ ((s q).dmxOf 0).request = some q ∧ q.started = none ∧
     ((s q).nextTransact 0 dmx0 1 (requestUs dmx0 q.payload)).isSome = true ∧
     (let x : Discovery := { job := ⟨5, 0x0806, 64, 1⟩, step := .unMute }
      (({ base with dmx := [(0, { packetAt := some 0, disc := some x })] } : State).nextTransact 0 dmx0 1 (discoveryUs dmx0 x.step)).isSome = true ∧ x.started = none) ∧ dxRdm dmx0 = true ∧
     ((s { q with started := some 1 }).dmxOf 0).request = some { q with started := some 1 } ∧ broadcastUid (rqUid q.payload) = false ∧
     (base.dmxOf 0).request = none ∧ (base.dmxOf 0).disc = none ∧
     broadcastUid (rqUid (f [(1, 0), (1, 0x20), (1, 0), (1, 0), (6, 0xFFFFFFFFFFFF)])) = true ∧
     (let m : RdmResponse := { goodSum := true, transaction := 1, uid := rqUid q.payload, dest := 0, responseType := 0, messageCount := 0, pid := 0x60, pd := [], cutOff := false }
      m.goodSum = true ∧ m.cutOff = false ∧ m.transaction = 1 ∧ m.uid = rqUid q.payload) ∧ base.portHeld 0 = false) := by decide +kernel

/-- Whatever the controller UID of a port is, a response can name it, or another. -/
theorem test_rdm_destination :
    ∀ (u : Nat) (m : RdmResponse), ({ m with dest := u } : RdmResponse).dest = u ∧ ({ m with dest := u + 1 } : RdmResponse).dest ≠ u :=
  fun u _ => ⟨rfl, Nat.succ_ne_self u⟩

/-- A PTP domain A that follows a master on lane 0, an LTC and an FSYNC source, and a clock that switches and reverts. -/
def domain0 : Bytes := f [(1, 1), (1, 0), (1, 1), (1, 1), (1, 0), (1, 0), (1, 1), (1, 0), (1, 3), (3, 0), (1, 0), (1, 0), (2, 10), (16, 0)]
def port0 : Bytes := f [(1, 2), (1, 0), (1, 1), (29, 0)]
def ltc0 : Bytes := f [(1, 3), (1, 0), (30, 0)]
def fsync0 : Bytes := f [(1, 4), (1, 0), (2, 60), (28, 0)]
def clock0 : Bytes := f [(1, 0), (1, 0), (1, 3), (29, 0)]
def timed : State := { (with_ [⟨.clock, 0, clock0⟩, ⟨.domain, 0, domain0⟩, ⟨.port, 0, port0⟩, ⟨.ltc, 0, ltc0⟩, ⟨.fsync, 0, fsync0⟩] base) with
  lane := [(0, { link := true })] }
def announce0 : PtpAnnounce := ⟨whole, 0, 0, 1, 6, 0x20, 0, 1, 7, 0, none⟩
def followed (m : PtpDomain) : State := { timed with tk := { timed.tk with domA := { m with master := some announce0 } } }

theorem test_ptp_events :
    timed.cfg.domainRec 0 = some domain0 ∧ timed.ptpUsed 0 0 = true ∧ (timed.tk.dom 0).lostAnn = none ∧ announce0.dom = 0 ∧ timed.takesFrame 0 whole = true ∧
    (followed {}).fromMaster 0 0 = true ∧ ((followed {}).tk.dom 0).lostSync ≠ some (followed {}).now ∧
    ((followed { lostSync := some 65536000000 }).tk.dom 0).lostSync = some (followed {}).now ∧ 5 ∈ ((followed { lateFollow := [4, 5] }).tk.dom 0).lateFollow ∧
    5 ∈ ((followed { lateDelay := [5] }).tk.dom 0).lateDelay ∧ ((followed {}).tk.dom 0).twoStep = [] ∧ ((followed {}).tk.dom 0).delayReq = [] ∧
    ((followed { twoStep := [(4, 8, 1), (5, 9, 2)] }).tk.dom 0).twoStep.find? (fun x => decide (x.1 = 5)) = some (5, 9, 2) ∧
    (let s := { timed with tk := { timed.tk with domA := { servo := { st := .master } } } }
     s.portRole 0 0 domain0 = .master ∧ s.masterPorts 0 domain0 = [0]) ∧ timed.masterPorts 0 domain0 = [] ∧
    ((followed { delayReq := [(5, 9, 2)], lastSync := some (1, 2) }).tk.dom 0).delayReq.find? (fun x => decide (x.1 = 5)) = some (5, 9, 2) ∧
    ((followed { delayReq := [(5, 9, 2)], lastSync := some (1, 2) }).tk.dom 0).lastSync = some (1, 2) ∧
    ((followed {}).tk.dom 0).master = some announce0 ∧ ((followed { servo := { st := .locked } }).tk.servo (domSrc 0)).st = .locked ∧
    (followed {}).portFaulty 0 = false := by decide +kernel

theorem test_other_master :
    ({ announce0 with identity := Config.clockIdentity + 1 } : PtpAnnounce).identity ≠ Config.clockIdentity ∧
    (timed.tk.dom 0).lostAnn ≠ some (Config.clockIdentity + 1, 0, timed.now) := ⟨Nat.succ_ne_self _, nofun⟩

theorem test_time_events :
    timed.cfg.ltcRec = some ltc0 ∧ timed.tk.ltc.last = none ∧ timed.tk.ltc.missing < 3 ∧ ({ missing := 3 } : LtcIn).missing = 3 ∧
    timed.cfg.fsyncRec = some fsync0 ∧ false ≠ decide (u8 fsync0 1 = 0) ∧ true = decide (u8 fsync0 1 = 0) ∧ timed.tk.source ≠ .fsync ∧
    timed.tk.fsync.servo.known = false ∧
    (timed.cfg.fsyncNearest fsync0 timed.tk.counter - timed.tk.counter).natAbs * 4 ≤ nsT timed.cfg.periodNs ∧
    nsT timed.cfg.periodNs < (timed.cfg.fsyncNearest fsync0 (timed.cfg.periodT * 30 : Nat) - (timed.cfg.periodT * 30 : Nat)).natAbs * 4 ∧ timed.tk.fsync.missing < 3 ∧
    (let s := { timed with tk := { timed.tk with source := .fsync, counter := timed.cfg.periodT * 30 } }
     s.tk.source = .fsync ∧ s.showRuns = false ∧ s.tk.fsync.servo.st ≠ .locked ∧ s.cfg.fsyncNearest fsync0 s.tk.counter ≠ s.tk.counter) ∧
    (let s := { timed with tk := { timed.tk with
       source := .domB, domA := { servo := { st := .locked, lockedSince := some 5 } }, domB := { servo := { st := .holdover, downSince := some 9 } } } }
     s.cfg.autoSwitch = true ∧ s.candidates = [Src.ofCode 0] ∧ (s.qualifies (Src.ofCode 0)).isSome = true ∧
     s.cfg.revert = true ∧ s.preferred ≠ s.tk.source ∧ s.preferred ≠ .free ∧ (s.tk.servo s.preferred).lockedSince = some 5) ∧
    (let s := fun (u : Ttu) => { base with tk := { base.tk with units := [(0, u)] } }
     (s { armed := true }).cfg.get .trigger 0 = some trigger0 ∧ ((s { armed := true }).unit 0).due false = true ∧ ((s {}).unit 0).due false = false ∧
     u8 trigger0 2 ≠ 2 ∧ u8 (f [(1, 0), (1, 0), (1, 2), (1, 0), (2, 15), (10, 0)]) 2 = 2) ∧
    (let s := fun (u : Tti) => { base with tk := { base.tk with inputs := [(0, u)] } }
     (s { enable := true }).cfg.get .capture 0 = some capture0 ∧ u8 capture0 3 = 0 ∧ edgeSelected capture0 true = true ∧
     ((s { enable := true }).input 0).enable = true ∧ ((s { enable := true }).input 0).last = none ∧
     (((s { enable := true, last := some base.now }).input 0).last.any fun t => base.now < t + nsT 40) = true) := by decide +kernel

theorem test_latency_events :
    (let h := beBytes 2 0x4958 ++ [1, 0, 0, 0, 2, 0] ++ zeros 24
     beNat (slice h 0 2) = 0x4958 ∧ u8 h 2 = 1 ∧ u8 h 6 = 2 ∧ base.takesFrame 0 whole = true) ∧
    (let r : LatRun := { job := ⟨1, 0x0905, 64, 1⟩, payload := f [(1, 1), (1, 0), (1, 1), (29, 0)], since := 0, phase := .probing }
     let p := fun (n : Nat) => { r with payload := f [(1, 0), (1, 0), (1, n), (29, 0)] }
     let s := fun (x : LatRun) => { base with lat := { base.lat with runs := [x] } }
     base.cfg.get .flow 0 = some flow0 ∧ base.takesFrame (flLane flow0) whole = true ∧
     ((s r).lat.runs.find? fun r => decide (r.phase = .probing) && decide (r.target = 0)) = some r ∧ r.kind = 1 ∧
     ((s (p 1)).lat.runs.find? fun r => decide (r.phase = .probing) && decide (r.target = 0)) = some (p 1) ∧ (p 1).kind ≠ 1 ∧
     u8 (p 1).payload 2 ≤ ((p 1).results ++ [0]).length ∧ ((p 2).results ++ [0]).length < u8 (p 2).payload 2) ∧
    (let r : LatRun := { job := ⟨1, 0x0905, 64, 1⟩, payload := f [(1, 2), (31, 0)], since := 0, phase := .waiting }
     ([r].find? fun r => decide (r.phase = .waiting)) = some r ∧ base.showRuns = false ∧
     ({ r with phase := .lit 1001 } : LatRun).phase = .lit 1001 ∧ base.cfg.carrier r.target = some (0, flow0)) ∧
    Tab.find ([(1, (5, []))] : Tab (Nat × Bytes)) (2 * 0) = none ∧ Tab.find ([(1, (5, []))] : Tab (Nat × Bytes)) (2 * 0 + 1) = some (5, []) := by
  decide +kernel

/-- A member of a pair: primary, unit 1 with peer 2, on lane 1. -/
def role0 : Bytes := f [(1, 1), (3, 0)]
def pairLane1 : Bytes := f [(1, 1), (1, 4), (2, 0), (2, 1500), (2, 0), (6, 0), (1, 24), (1, 0), (4, 0), (4, 0), (8, 0)]
def member (p : Pair) : State := { (with_ [⟨.role, 0, role0⟩, ⟨.pair, 0, pair0⟩, ⟨.lane, 1, pairLane1⟩] showing) with pair := p }

theorem test_pair_events :
    (member {}).pairNow = some (pair0, 1) ∧ pdPeer pair0 = 2 ∧ 3 ≠ pdPeer pair0 ∧ (member {}).takesPair whole = true ∧
    (member {}).pairLane (member {}).cfg = some 1 ∧ 7 ∉ (member {}).pair.missing ∧ 7 ∈ (member { missing := [7] }).pair.missing ∧
    (member { missing := [7] }).gl.device ≠ .updatePause ∧ (member { st := .standby, awaits := some 1001 }).decideLast.gl.show_ = .running ∧ (member {}).pairActive = false ∧ (member {}).follows = false ∧
    (member {}).takesFrame 0 whole = true ∧ (member {}).gl.show_ = .running ∧
    ({ (member { st := .standby }) with gl := { showing.gl with show_ := .configured } } : State).gl.show_ = .configured ∧
    (member { st := .standby }).follows = true ∧ (member { st := .active }).follows = false ∧ (member { st := .active }).pairActive = true ∧
    (member { st := .standby, awaits := some 1001 }).awaited = some 1001 ∧ (0x0306 : Nat) ≠ 0x0206 ∧
    (member { st := .syncing }).pair.st = .syncing ∧ (member { st := .waiting }).pair.st = .waiting ∧
    (let s := member { st := .standby, holdSince := some 5 }
     s.nextCut = some 1001 ∧ pdHold pair0 = some 10 ∧ s.pair.maintenance = false ∧ s.handoverFixed 1001 = false ∧ s.pair.handover = none ∧
     s.primary = true ∧ s.pair.holdSince = some 5) ∧
    (let d := putAt (putAt pair0 12 (leBytes 2 7)) 14 [1]
     pdSentinel d ≠ 0 ∧ pdSentinelLane d = 1 ∧ ({ st := .solo, byLoss := true } : Pair).byLoss = true) := by decide +kernel

theorem test_meter_events :
    base.measuring = true ∧ base.cfg.all .meter ≠ [] ∧ base.cfg.get .meter 0 = some meter0 ∧ mtType meter0 ≠ 2 ∧ ({} : Meter).noLine = false ∧
    (let s := { base with met := { base.met with epos := [(3, { due := [5] })], feeders := [(0, { bleed := some 5, safe := 32 })] } }
     (Tab.getD s.met.epos 3 {}).due = [5] ∧ (s.feeder 0).bleed = some 5 ∧ 32 ≤ (s.feeder 0).safe ∧ s.cfg.get .feeder 0 = some feeder0) ∧
    (let d := f [(1, 2), (1, 15), (1, 60), (61, 0)]
     let s := { base with boot := { base.boot with hold := true, supplyLost := true }, bak := { base.bak with night := some d } }
     s.bak.night = some d ∧ s.boot.supplyLost = true ∧ s.bak.powered = true ∧ u8 d 1 % 16 ≠ 0) ∧
    base.boot.hold = false ∧ ({ powered := false } : Backup).powered = false := by decide +kernel

theorem test_flags_of_statements :
    (base.chan 0).te5100 = false ∧ (({ base with tk := { base.tk with units := [(0, { armed := true })] } } : State).unit 0).armed = true ∧
    ({ base with gl := { base.gl with frame := none } } : State).gl.frame = none ∧
    mayWriteFlash .cut = false ∧ Instr.wf .cut = true ∧ base.fuses.te8220 = false ∧
    1 + fpSlot ftype0 0 - 1 + fpWidth ftype0 0 ≤ [255#8].length := by decide +kernel

/-! ## Well-formedness: one ill-formed command for each kind of check -/

theorem test_wf_request :
    Instr.wf (.identify (req [])) = true ∧ Instr.wf (.identify { req [] with pair := 64 }) = false ∧
    Instr.wf (.sessionOpen { req [] with flags := 65536 }) = false ∧ Instr.wf (.echo { req [] with session := 65536 }) = false ∧
    Instr.wf (.showArm { req [] with tag := 65536 }) = false ∧ Instr.wf (.cueStore { req [] with timeoutMs := 65536 }) = false ∧
    Instr.wf (.playbackGo { req [] with atFrame := some (2 ^ 48) }) = false ∧
    Instr.wf (.playbackGo { req [] with atFrame := some (2 ^ 48 - 1) }) = true ∧
    Instr.wf (.regRead { req [] with rplSize := 1048577 }) = false ∧
    (∀ p : Bytes, p.length = 65537 → Instr.wf (.pixmapLoad (req p)) = false) := by
  refine ⟨by decide, by decide, by decide, by decide, by decide, by decide, by decide, by decide, by decide, fun p h => ?_⟩
  simp [Instr.wf, Req.wf, below, req, h]

theorem test_wf_units :
    Instr.wf (.cmdTailWrite 64 0) = false ∧ Instr.wf (.cmdTailWrite 0 65536) = false ∧ Instr.wf (.hostqRinse 64) = false ∧
    Instr.wf (.dmaReadFail (.ring 64)) = false ∧ Instr.wf (.dmaReadFail (.fetch 32)) = false ∧ Instr.wf (.dmaReadFail (.fetch 31)) = true ∧
    Instr.wf (.rinseDiscardPoint (.commandRing 64)) = false ∧ Instr.wf (.rinseDiscardPoint (.capture 8)) = false ∧
    Instr.wf (.rinseDiscardPoint (.launchQueue 16)) = false ∧ Instr.wf (.rinseDiscardPoint (.returnFifo 16)) = false ∧
    Instr.wf (.rinseDiscardPoint (.uids 32)) = false ∧ Instr.wf (.rinseDiscardPoint (.flowQueue 4096)) = false ∧
    Instr.wf (.rinseDiscardPoint (.flowQueue 4095)) = true ∧
    Instr.wf (.expectedLedgerCopy (.witness 64)) = false ∧ Instr.wf (.expectedLedgerCopy (.channel 4)) = false ∧
    Instr.wf (.msixUnmask (.vector 64)) = false ∧ Instr.wf (.msixUnmask (.function true)) = true ∧ Instr.wf (.sessionKeepaliveExpire 64) = false ∧ Instr.wf (.meterSeqRead 8) = false ∧
    Instr.wf (.canvasCommitWrite 16) = false ∧ Instr.wf (.palMapWrite 32 0) = false ∧ Instr.wf (.ttuArm 32 0) = false ∧
    Instr.wf (.ttuArm 0 4) = false ∧ Instr.wf (.ttiRinse 8) = false ∧ Instr.wf (.qdataWrite 16 0) = false ∧
    Instr.wf (.fullWriteRequest 16) = false ∧ Instr.wf (.groupRearm 0 8 0) = false ∧ Instr.wf (.uidRinse 32) = false ∧
    Instr.wf (.chkAbort 4) = false ∧ Instr.wf (.coreWatchdogExpire 4) = false ∧ Instr.wf (.launchInstant 4096) = false ∧
    Instr.wf (.ptpSyncInterval 2) = false ∧ Instr.wf (.autoSwitch 5) = false ∧ Instr.wf (.epoPulse 4) = false ∧
    Instr.wf (.feederBleedDone 8) = false ∧ Instr.wf (.vcoreUndervoltage 8) = false ∧ Instr.wf (.sensorScriptRun 64) = false ∧
    Instr.wf (.laneLinkUp 0 8 0) = false ∧ Instr.wf (.mlLinkChange true ⟨8, 0⟩) = false := by decide

theorem test_wf_addresses :
    Instr.wf (.rcRead ⟨0x410000, 4⟩) = false ∧ Instr.wf (.latchingRead ⟨2, 4⟩) = false ∧ Instr.wf (.latchingRead ⟨0x3FFFFC, 4⟩) = true ∧
    Instr.wf (.fifoWindowRead 4 8) = false ∧ Instr.wf (.fifoWindowRead 4 4) = true ∧ Instr.wf (.fifoWindowRead 3 1) = true ∧
    Instr.wf (.registerWrite 1 (.word 0)) = false ∧ Instr.wf (.registerWrite 4 (.wide 0 0)) = false ∧ Instr.wf (.registerWrite 1 (.narrow 0)) = true ∧
    Instr.wf (.paletteWrite 0x40000 0) = false ∧ Instr.wf (.niwinRegRd 0 257) = false ∧ Instr.wf (.niwinRegWr 3 0) = false ∧
    Instr.wf (.linkLocalTimeout 0x0A000001) = false ∧ Instr.wf (.linkLocalTimeout 0xA9FE0102) = true ∧
    Instr.wf (.niwinMlStatic (2 ^ 32) 0 0) = false ∧ Instr.wf (.niwinMlStatic 0 32 0) = false ∧ Instr.wf (.niwinLog 65) = false ∧
    Instr.wf (.mlReassemblyTimeout { ip := 2 ^ 32, port := 0 } 0) = false ∧ Instr.wf (.mlReassemblyTimeout { ip := 0, port := 65536 } 0) = false ∧
    Instr.wf (.arpRefresh 0 (2 ^ 32) true) = false ∧ Instr.wf (.sacnSourceTimeout 64000 (zeros 16)) = false := by decide

theorem test_wf_lengths :
    Instr.wf (.sacnSyncRx ⟨0, whole⟩ (zeros 15) 1) = false ∧ Instr.wf (.sacnSyncTimeout 1 (zeros 17)) = false ∧
    Instr.wf (.ixnikPacketRx ⟨0, whole⟩ (zeros 31) []) = false ∧ Instr.wf (.meterSample (List.replicate 15 0)) = false ∧
    Instr.wf (.niwinOtpKey 0 (zeros 31)) = false ∧ Instr.wf (.niwinOtpKey 4 (zeros 32)) = false ∧
    SacnPacket.wf ⟨whole, 0, 1, zeros 16, 100, 0, true, false, false, 0, 0, [255]⟩ = true ∧
    SacnPacket.wf ⟨whole, 0, 1, zeros 15, 100, 0, true, false, false, 0, 0, [255]⟩ = false ∧
    SacnPacket.wf ⟨whole, 16, 1, zeros 16, 100, 0, true, false, false, 0, 0, [255]⟩ = false ∧
    SacnPacket.wf ⟨whole, 0, 1, zeros 16, 256, 0, true, false, false, 0, 0, [255]⟩ = false ∧
    SacnPacket.wf ⟨whole, 0, 1, zeros 16, 100, 0, true, false, false, 0, 0, List.replicate 513 0⟩ = false ∧
    PtpMsg.wf { rx := whole, dom := 2, lane := 0, seq := 0, origin := 0, ingress := 0, twoStep := true } = false ∧
    PtpMsg.wf { rx := whole, dom := 0, lane := 17, seq := 0, origin := 0, ingress := 0, twoStep := true } = false ∧
    PtpMsg.wf { rx := whole, dom := 1, lane := 16, seq := 65535, origin := 0, ingress := 0, twoStep := true } = true ∧
    PtpAnnounce.wf ⟨whole, 0, 0, 1, 6, 0x20, 65536, 1, 7, 0, none⟩ = false ∧ PtpAnnounce.wf ⟨whole, 0, 0, 1, 6, 0x20, 0, 1, 7, 0, none⟩ = true ∧
    VideoPacket.wf { rx := whole, ssrc := 0, payloadType := 128, rtp := 0, pixels := [] } = false := by decide +kernel

/-! ## Worked examples of the manual, and values computed by hand from its formulas -/

/-- Section 11's example at 8 planes with 4 split: 15 heavy chunks, 8 of plane 7, 4 of plane 6, 2 of plane 5 and 1 of plane
4; the light planes 3 to 0 stand at places 3, 7, 11 and 15 of 19. -/
theorem test_chunk_list : chunkList 8 4 = [7, 7, 7, 3, 7, 7, 7, 2, 7, 7, 6, 1, 6, 6, 6, 0, 5, 5, 4] := by decide +kernel

/-- Section 11's example: code 4,660 at pixel 300 in refresh 0 of frame 90,000 shows 18; a code of 0 shows 0 and full 255. -/
theorem test_dithered_value : displayValue 8 4660 58368 300 0 = 18 ∧ displayValue 8 0 58368 300 0 = 0 ∧ displayValue 8 65535 58368 300 0 = 255 := by
  decide +kernel

/-- Section 14's example: K of 500 V and 500 A at full scale. -/
theorem test_meter_weight : mtK meter0 = 15270995 := by decide +kernel

/-- Section 2's example: 32,275,900 / 64 + 56,314 eu at f_c = 1.000, in units of 1/512 eu. -/
theorem test_slot_bound : slotBound 64 1000 ((32275900 + 56314 * 64) * 8) = 8938536 := by decide +kernel

/-- Section 19's example: TTU3 on TTO5 and EPO1 claim ball AW12; on TTO1 nothing meets. -/
theorem test_ball_conflict :
    let cfg := fun pin : Nat => ({ recs := [⟨.trigger, 3, f [(1, 3), (1, 0), (1, 0), (1, pin), (2, 0), (10, 0)]⟩, ⟨.pulse, 1, zeros 16⟩] } : Cfg)
    claimsMeet 0x0C (cfg 5).balls = [{ check := 4, ownerA := 0x04000003, ownerB := some 0x0E000041, demand := 0x0C0005F3 }] ∧
    claimsMeet 0x0C (cfg 1).balls = [] := by decide +kernel

/-- Section 13's example: a packet of claim 0x4000_0702 beside a table entry of 0xC000_0301 is dropped, one of
0xC100_0702 taken. -/
theorem test_claims :
    let x : IxRx := { claims := [(1, { claim := 0xC0000301 })] }
    (claimRule x 0x40000702).1 = false ∧ (claimRule x 0xC1000702).1 = true ∧ (claimRule x 0xC0000301).1 = true := by decide +kernel

/-- R135 by bit replication, and R169's ramp from 0 to 1,000 over 4 frames. -/
theorem test_expansion : expandSlot 1 0x80 = 0x80808 ∧ expandSlot 2 0x1234 = 0x12341 ∧ expandSlot 3 0x123456 = 0x12345 := by decide +kernel

theorem test_ramp :
    (({ ramp := some (0, 1000, 100, 4) } : Gen).atCut 101).size = 250 ∧ (({ ramp := some (0, 1000, 100, 4) } : Gen).atCut 104).size = 1000 := by
  decide +kernel

end Sys2Proof.Tests
end

section
/-! SUPPORT. The dispatch as a whole: a command that does not write the flash leaves the fuses, the queue and the flash as
they are, every command and the block going on by itself leave the fuses and the queue, and so a step takes exactly the
front command. -/

namespace Sys2Proof.Machine

/-- No command but those that may write the flash changes the fuses, the queue or the flash: the arms of the dispatch, each
by the lemma about its meaning. -/
theorem exec_key (i : Instr) (s : State) (h : mayWriteFlash i = false) : Keeps s.key (exec i s) := by
  cases i with
  | identify r => exact execIdentify_key r s
  | sessionOpen r => exact execSessionOpen_key r s
  | sessionClose r => exact execSessionClose_key r s
  | sessionKeepalive r => exact execSessionKeepalive_key r s
  | tagStatus r => exact execTagStatus_key r s
  | timedCancel r => exact execTimedCancel_key r s
  | sessionList r => exact execSessionList_key r s
  | admitConfig r => exact execAdmit_key r s
  | basteBegin r => exact execBasteBegin_key r s
  | basteAbort r => exact execBasteAbort_key r s
  | pressConfig r => exact execPressConfig_key r s
  | admitReport r => exact execAdmitReport_key r s
  | showStart r => exact execShowStart_key r s
  | showArm r => exact execShowArm_key r s
  | showDisarm r => exact execShowDisarm_key r s
  | showStop r => exact execShowStop_key r s
  | safeHoldEnter r => exact execSafeHoldEnter_key r s
  | showResume r => exact execShowResume_key r s
  | setEnvelope r => exact execSetEnvelope_key r s
  | setFrame r => exact execSetFrame_key r s
  | setRole r => exact execSetRole_key r s
  | stageRead r => exact execStageRead_key r s
  | configSave r => exact execConfigSave_key r s
  | configLoad r => exact execConfigLoad_key r s
  | typeDefine r => exact execTypeDefine_key r s
  | typeDelete r => exact execTypeDelete_key r s
  | patchAdd r => exact execPatchAdd_key r s
  | patchRemove r => exact execPatchRemove_key r s
  | patchRead r => exact execPatchRead_key r s
  | paramWrite r => exact execParamWrite_key r s
  | paramRelease r => exact execParamRelease_key r s
  | paramRead r => exact execParamRead_key r s
  | sacnRxMap r => exact execSacnRxMap_key r s
  | playbackDefine r => exact execPlaybackDefine_key r s
  | cueStore r => exact execCueStore_key r s
  | playbackGo r => exact execPlaybackGo_key r s
  | playbackBack r => exact execPlaybackBack_key r s
  | playbackGoto r => exact execPlaybackGoto_key r s
  | playbackRelease r => exact execPlaybackRelease_key r s
  | playbackLevel r => exact execPlaybackLevel_key r s
  | playbackRate r => exact execPlaybackRate_key r s
  | curveTable r => exact execCurveTable_key r s
  | playbackStatus r => exact execPlaybackStatus_key r s
  | effectDefine r => exact execEffectDefine_key r s
  | effectAssign r => exact execEffectAssign_key r s
  | effectRate r => exact execEffectRate_key r s
  | effectSize r => exact execEffectSize_key r s
  | effectStart r => exact execEffectStart_key r s
  | effectStop r => exact execEffectStop_key r s
  | effectPhase r => exact execEffectPhase_key r s
  | effectStatus r => exact execEffectStatus_key r s
  | colourSpace r => exact execColourSpace_key r s
  | mixStrategy r => exact execMixStrategy_key r s
  | dimCurve r => exact execDimCurve_key r s
  | calsetLoad r => exact execCalsetLoad_key r s
  | sensorScript r => exact execSensorScript_key r s
  | calRun r => exact execCalRun_key r s
  | calResult r => exact execCalResult_key r s
  | trimControl r => exact execTrimControl_key r s
  | trimStatus r => exact execTrimStatus_key r s
  | calsetSave r => exact execCalsetSave_key r s
  | canvasDefine r => exact execCanvasDefine_key r s
  | layerDefine r => exact execLayerDefine_key r s
  | pixmapLoad r => exact execPixmapLoad_key r s
  | videoRxDefine r => exact execVideoRxDefine_key r s
  | witnessDefine r => exact execWitnessDefine_key r s
  | bufferRegister r => exact execBufferRegister_key r s
  | bufferRelease r => exact execBufferRelease_key r s
  | videoRxStatus r => exact execVideoRxStatus_key r s
  | laneDefine r => exact execLaneDefine_key r s
  | flowDefine r => exact execFlowDefine_key r s
  | flowDelete r => exact execFlowDelete_key r s
  | sacnOutDefine r => exact execSacnOutDefine_key r s
  | sacnRxDefine r => exact execSacnRxDefine_key r s
  | ixnikDefine r => exact execIxnikDefine_key r s
  | scanDefine r => exact execScanDefine_key r s
  | dmxDefine r => exact execDmxDefine_key r s
  | flowEnable r => exact execFlowEnable_key r s
  | flowRinse r => exact execFlowRinse_key r s
  | flowStats r => exact execFlowStats_key r s
  | rdmRequest r => exact execRdmRequest_key r s
  | rdmDiscover r => exact execRdmDiscover_key r s
  | timeConfig r => exact execTimeConfig_key r s
  | timeStatus r => exact execTimeStatus_key r s
  | domainSelect r => exact execDomainSelect_key r s
  | triggerDefine r => exact execTriggerDefine_key r s
  | latencyMeasure r => exact execLatencyMeasure_key r s
  | latencyTable r => exact execLatencyTable_key r s
  | pairDefine r => exact execPairDefine_key r s
  | pairStatus r => exact execPairStatus_key r s
  | pairMaintenance r => exact execPairMaintenance_key r s
  | pairHandover r => exact execPairHandover_key r s
  | meterDefine r => exact execMeterDefine_key r s
  | feederDefine r => exact execFeederDefine_key r s
  | meterRead r => exact execMeterRead_key r s
  | feederReset r => exact execFeederReset_key r s
  | nightMeterRead r => exact execNightMeterRead_key r s
  | updateOpen r => exact execUpdateOpen_key r s
  | updateBlock r => exact execUpdateBlock_key r s
  | updateClose r => exact execUpdateClose_key r s
  | updateAbort r => exact execUpdateAbort_key r s
  | updateActivate r => exact execUpdateActivate_key r s
  | healthConfirm r => exact execHealthConfirm_key r s
  | flashRead r => exact execFlashRead_key r s
  | ownerLock r => exact execOwnerLock_key r s
  | personalityRead r => exact execPersonalityRead_key r s
  | healthRead r => exact execHealthRead_key r s
  | eventRoute r => exact execEventRoute_key r s
  | eventMask r => exact execEventMask_key r s
  | logRead r => exact execLogRead_key r s
  | countersRead r => exact execCountersRead_key r s
  | avsStatus r => exact execAvsStatus_key r s
  | chkStart r => exact execChkStart_key r s
  | chkResult r => exact execChkResult_key r s
  | chkExpect r => exact execChkExpect_key r s
  | chkMode r => exact execChkMode_key r s
  | regRead r => exact execRegRead_key r s
  | regWrite r => exact execRegWrite_key r s
  | echo r => exact execEcho_key r s
  | loopback r => exact execLoopback_key r s
  | serviceEnter r => exact execServiceEnter_key r s
  | serviceExit r => exact execServiceExit_key r s
  | deviceReset r => exact execDeviceReset_key r s
  | cmdTailWrite pair index => exact execCmdTailWrite_key pair index s
  | rplTailWrite pair index => exact execRplTailWrite_key pair index s
  | replyStallTimeout pair => exact execReplyStallTimeout_key pair s
  | replyTimeoutExpire pair position => exact execReplyTimeoutExpire_key pair position s
  | hostqEnableSet pair => exact execHostqEnableSet_key pair s
  | hostqEnableClear pair => exact execHostqEnableClear_key pair s
  | hostqDisableDone pair => exact execHostqDisableDone_key pair s
  | hostqRinse pair => exact execHostqRinse_key pair s
  | dmaReadFail target => exact execDmaReadFail_key target s
  | rplDmaFail pair => exact execRplDmaFail_key pair s
  | pcieLinkLoss => exact execPcieLinkLoss_key s
  | pcieFlr => exact execPcieFlr_key s
  | busMasterClear => exact execBusMasterClear_key s
  | d3hotEnter => exact execD3hotEnter_key s
  | perstNAssert => exact execPerstNAssert_key s
  | msixUnmask mask => exact execMsixUnmask_key mask s
  | mlDatagramRx src broadcast packet => exact execMlDatagramRx_key src broadcast packet s
  | mlBindingExpire pair => exact execMlBindingExpire_key pair s
  | mlFragmentRx src id offset more body => exact execMlFragmentRx_key src id offset more body s
  | mlReassemblyTimeout src id => exact execMlReassemblyTimeout_key src id s
  | mlApply => exact execMlApply_key s
  | dhcpMessageRx msg => exact execDhcpMessageRx_key msg s
  | linkLocalTimeout address => exact execLinkLocalTimeout_key address s
  | sessionKeepaliveExpire slot => exact execSessionKeepaliveExpire_key slot s
  | fifoWindowRead addr bytes => exact execFifoWindowRead_key addr bytes s
  | fifoReadWaitExpire addr bytes => exact execFifoReadWaitExpire_key addr bytes s
  | fifoWriteWaitExpire lane word => exact execFifoWriteWaitExpire_key lane word s
  | rinseDiscardPoint target => exact execRinseDiscardPoint_key target s
  | rinsePartialTimeout lane => exact execRinsePartialTimeout_key lane s
  | rcRead read => exact execRcRead_key read s
  | latchingRead read => exact execLatchingRead_key read s
  | nowNsRead => exact execNowNsRead_key s
  | sweepRead => exact execSweepRead_key s
  | meterSeqRead meter => exact execMeterSeqRead_key meter s
  | rtcFracRead => exact execRtcFracRead_key s
  | deltaRead meter set exported => exact execDeltaRead_key meter set exported s
  | registerWrite addr data => exact execRegisterWrite_key addr data s
  | shadowWrite addr data => exact execShadowWrite_key addr data s
  | canvasCommitWrite canvas => exact execCanvasCommitWrite_key canvas s
  | paletteWrite offset word => exact execPaletteWrite_key offset word s
  | palMapWrite layer word => exact execPalMapWrite_key layer word s
  | witnessExpectedWrite window word => exact execWitnessExpectedWrite_key window word s
  | timeSet => exact execTimeSet_key s
  | ttuArm unit mode => exact execTtuArm_key unit mode s
  | ttuDisarm unit => exact execTtuDisarm_key unit s
  | ttiRinse input => exact execTtiRinse_key input s
  | qdataWrite lane word => exact execQdataWrite_key lane word s
  | qrinse lane => exact execQrinse_key lane s
  | faultCtrlWrite port word => exact execFaultCtrlWrite_key port word s
  | seamGainWrite port vertical word => exact execSeamGainWrite_key port vertical word s
  | fullWriteRequest port => exact execFullWriteRequest_key port s
  | retRinse port => exact execRetRinse_key port s
  | groupRearm port index word => exact execGroupRearm_key port index word s
  | uidRinse port => exact execUidRinse_key port s
  | chkRegStart channel => exact execChkRegStart_key channel s
  | chkAbort channel => exact execChkAbort_key channel s
  | chkExpectedCommit channel word => exact execChkExpectedCommit_key channel word s
  | evtRingEnable => exact execEvtRingEnable_key s
  | boot inputs => exact execBoot_key inputs s
  | autoload => exact execAutoload_key s
  | autoStart => exact execAutoStart_key s
  | coreWatchdogExpire core => exact execCoreWatchdogExpire_key core s
  | coreRestartDone core => exact execCoreRestartDone_key core s
  | admissionComplete => exact execAdmissionComplete_key s
  | cut => exact execCut_key s
  | jobSegmentComplete lane storeError => exact execJobSegmentComplete_key lane storeError s
  | jobComplete lane badParity => exact execJobComplete_key lane badParity s
  | backgroundItemComplete lane kind => exact execBackgroundItemComplete_key lane kind s
  | scrubItem item => exact execScrubItem_key item s
  | launchInstant flow => exact execLaunchInstant_key flow s
  | pressPoint canvas => exact execPressPoint_key canvas s
  | bufferFetchComplete layer data => exact execBufferFetchComplete_key layer data s
  | paletteCopyDone layer => exact execPaletteCopyDone_key layer s
  | witnessReloadDone window ledgerGood => exact execWitnessReloadDone_key window ledgerGood s
  | expectedLedgerCopy owner => exact execExpectedLedgerCopy_key owner s
  | videoPacketRx stream packet => exact execVideoPacketRx_key stream packet s
  | imageRewriteDone => exact execImageRewriteDone_key s
  | ptpSyncRx msg => exact execPtpSyncRx_key msg s
  | ptpFollowUpRx msg => exact execPtpFollowUpRx_key msg s
  | ptpAnnounceRx msg => exact execPtpAnnounceRx_key msg s
  | ptpDelayReqRx msg => exact execPtpDelayReqRx_key msg s
  | ptpDelayRespRx msg => exact execPtpDelayRespRx_key msg s
  | announceReceiptTimeout dom => exact execAnnounceReceiptTimeout_key dom s
  | syncReceiptTimeout dom => exact execSyncReceiptTimeout_key dom s
  | followUpTimeout dom => exact execFollowUpTimeout_key dom s
  | delayRespTimeout dom => exact execDelayRespTimeout_key dom s
  | ptpSyncInterval dom => exact execPtpSyncInterval_key dom s
  | ptpAnnounceInterval dom => exact execPtpAnnounceInterval_key dom s
  | delayReqInterval dom => exact execDelayReqInterval_key dom s
  | ltcCodeword code => exact execLtcCodeword_key code s
  | ltcCodewordMissing => exact execLtcCodewordMissing_key s
  | fsyncEdge rising => exact execFsyncEdge_key rising s
  | fsyncEdgeMissing => exact execFsyncEdgeMissing_key s
  | autoSwitch candidate => exact execAutoSwitch_key candidate s
  | sourceReversion => exact execSourceReversion_key s
  | ttuPulse unit => exact execTtuPulse_key unit s
  | ttiEdge input rising => exact execTtiEdge_key input rising s
  | latencyCaptureTimeout => exact execLatencyCaptureTimeout_key s
  | latencyStartTimeout => exact execLatencyStartTimeout_key s
  | latencyRepeatInterval flow => exact execLatencyRepeatInterval_key flow s
  | ixnikProbeRx rx src header stamp => exact execIxnikProbeRx_key rx src header stamp s
  | probeReplyRx flow rx stamps locked processNs timing => exact execProbeReplyRx_key flow rx stamps locked processNs timing s
  | laneLinkUp lane speed align => exact execLaneLinkUp_key lane speed align s
  | laneLinkDown lane => exact execLaneLinkDown_key lane s
  | arpPacketRx rx request ip mac target => exact execArpPacketRx_key rx request ip mac target s
  | arpRefresh lane ip answered => exact execArpRefresh_key lane ip answered s
  | icmpEchoRx rx src body => exact execIcmpEchoRx_key rx src body s
  | igmpQueryRx rx group => exact execIgmpQueryRx_key rx group s
  | sacnDataRx packet => exact execSacnDataRx_key packet s
  | sacnSyncRx rx cid sync => exact execSacnSyncRx_key rx cid sync s
  | sacnSourceTimeout univ cid => exact execSacnSourceTimeout_key univ cid s
  | sacnSyncTimeout univ cid => exact execSacnSyncTimeout_key univ cid s
  | sacnDiscoveryTx lane => exact execSacnDiscoveryTx_key lane s
  | ixnikPacketRx rx header body => exact execIxnikPacketRx_key rx header body s
  | scanRefreshStart port detect => exact execScanRefreshStart_key port detect s
  | scanLineWrite port waited detect => exact execScanLineWrite_key port waited detect s
  | teStuckTimeout port => exact execTeStuckTimeout_key port s
  | rdmTransactionStart port => exact execRdmTransactionStart_key port s
  | rdmResponseRx port response => exact execRdmResponseRx_key port response s
  | rdmResponseTimeout port => exact execRdmResponseTimeout_key port s
  | heartbeatRx beat => exact execHeartbeatRx_key beat s
  | heartbeatTimeout => exact execHeartbeatTimeout_key s
  | mirrorRx mirror => exact execMirrorRx_key mirror s
  | mirrorAckRx ack => exact execMirrorAckRx_key ack s
  | syncTransferRx frame => exact execSyncTransferRx_key frame s
  | joinWaitExpire => exact execJoinWaitExpire_key s
  | reversion => exact execReversion_key s
  | sentinelRx rx cid ownMac => exact execSentinelRx_key rx cid ownMac s
  | meterSample bits => exact execMeterSample_key bits s
  | meterLineTimeout meter => exact execMeterLineTimeout_key meter s
  | epoPulse output => exact execEpoPulse_key output s
  | feederBleedDone feeder => exact execFeederBleedDone_key feeder s
  | feederBleedTimeout feeder => exact execFeederBleedTimeout_key feeder s
  | holdupExit => exact execHoldupExit_key s
  | nightMeterWindow samples => exact execNightMeterWindow_key samples s
  | tamperSample levels => exact execTamperSample_key levels s
  | tamperRecordMove => exact execTamperRecordMove_key s
  | backupPowerLoss => exact execBackupPowerLoss_key s
  | chkPassComplete channel outcome => exact execChkPassComplete_key channel outcome s
  | chkExpectedReloadDone channel ledgerGood => exact execChkExpectedReloadDone_key channel ledgerGood s
  | loopbackComplete lane good => exact execLoopbackComplete_key lane good s
  | calRunProgress => exact execCalRunProgress_key s
  | calRunStartTimeout => exact execCalRunStartTimeout_key s
  | sensorScriptRun script => exact execSensorScriptRun_key script s
  | sensorReadingDone script read => exact execSensorReadingDone_key script read s
  | sensorTransactionTimeout failed => exact execSensorTransactionTimeout_key failed s
  | vcoreUndervoltage monitor => exact execVcoreUndervoltage_key monitor s
  | eventDatagramSend slot => exact execEventDatagramSend_key slot s
  | vectorHoldoffExpire vector => exact execVectorHoldoffExpire_key vector s
  | uart1LogLine late => exact execUart1LogLine_key late s
  | updateSlotIdleTimeout => exact execUpdateSlotIdleTimeout_key s
  | activationPauseEnd => exact execActivationPauseEnd_key s
  | trialTimeout => exact execTrialTimeout_key s
  | ownerLockLockoutEnd => exact execOwnerLockLockoutEnd_key s
  | niwinHelp => exact execNiwinHelp_key s
  | niwinId => exact execNiwinId_key s
  | niwinState => exact execNiwinState_key s
  | niwinTime => exact execNiwinTime_key s
  | niwinHealth => exact execNiwinHealth_key s
  | niwinLog count => exact execNiwinLog_key count s
  | niwinLogFollow => exact execNiwinLogFollow_key s
  | niwinCounters => exact execNiwinCounters_key s
  | niwinMl => exact execNiwinMl_key s
  | niwinServiceOn => exact execNiwinServiceOn_key s
  | niwinServiceOff => exact execNiwinServiceOff_key s
  | niwinMlDhcp => exact execNiwinMlDhcp_key s
  | niwinMlStatic address prefixLen gateway => exact execNiwinMlStatic_key address prefixLen gateway s
  | niwinRegRd offset count => exact execNiwinRegRd_key offset count s
  | niwinRegWr offset word => exact execNiwinRegWr_key offset word s
  | niwinOtp => exact execNiwinOtp_key s
  | niwinOtpKey slot hash => exact execNiwinOtpKey_key slot hash s
  | niwinOtpRevoke slot => exact execNiwinOtpRevoke_key slot s
  | niwinOtpCommit code => exact execNiwinOtpCommit_key code s
  | niwinReset => exact execNiwinReset_key s
  | otpCommitExpire => exact execOtpCommitExpire_key s
  | mlLinkChange up speed => exact execMlLinkChange_key up speed s
  | pcieLinkUp => exact execPcieLinkUp_key s
  | backupPowerReturn => exact execBackupPowerReturn_key s
  | thermalHoldStep temps => exact execThermalHoldStep_key temps s
  | slewComplete => exact execSlewComplete_key s
  | scheduleRestoreDone => exact execScheduleRestoreDone_key s
  | dhcpLeaseTimer timer => exact execDhcpLeaseTimer_key timer s
  | niwinKeyPress => exact execNiwinKeyPress_key s
  | flashWrite r => cases h
  | flashErase r => cases h
  | commandAccept pair packet rplSize => cases h
  | updateCloseComplete outcome => cases h
  | holdupEnter => cases h
  | porstNAssert => cases h
  | resetDetectorTrip => cases h
  | deviceResetTimer => cases h
  | monitorSweep readings => cases h

/-- A command that may write the flash leaves the fuses and the queue, and keeps the flash in its canonical form. -/
theorem exec_kept_of_mayWriteFlash (i : Instr) (s : State) (h : mayWriteFlash i = true) : OKept s (exec i s) := by
  unfold mayWriteFlash at h
  split at h
  · exact hostCommand_kept _ _ s flashWriteOp_kept
  · exact hostCommand_kept _ _ s flashEraseOp_kept
  · exact execCommandAccept_kept _ _ _ s catalogue_kept
  · exact execUpdateCloseComplete_kept _ s
  · exact execHoldupEnter_kept s
  · exact execPorstNAssert_kept s
  · exact execResetDetectorTrip_kept s
  · exact execDeviceResetTimer_kept s
  · exact execMonitorSweep_kept _ s
  · cases h

theorem exec_kept (i : Instr) (s : State) : OKept s (exec i s) := by
  cases h : mayWriteFlash i with
  | false => exact .of_keeps (exec_key i s h)
  | true => exact exec_kept_of_mayWriteFlash i s h

/-- A step of a state keeps what a command keeps of the state with the rest of its queue; with an empty queue the rest is
empty too. -/
theorem step_kept (s : State) : OKept { s with pending := s.pending.tail } (step s) := by
  unfold step
  cases h : s.pending with
  | nil =>
    have hs : ({ s with pending := [] } : State) = s := by rw [← h]
    rw [List.tail_nil, hs]
    exact .next (s.tick_kept catalogue_kept)
  | cons c rest => exact exec_kept c _

/-- Settles O6: what a step keeps of the state with the rest of its queue, read off for the fuses and the queue. -/
theorem stepKeepsFusesAndQueue : Obligations.StepKeepsFusesAndQueue := by
  unfold Obligations.StepKeepsFusesAndQueue
  refine ⟨fun s t h => ?_, fun s t h => ?_⟩
  · obtain ⟨hf, -, -⟩ := step_kept s t h
    exact hf
  · obtain ⟨-, hq, -⟩ := step_kept s t h
    exact hq

end Sys2Proof.Machine
end

section
/-! SUPPORT. Accesses of the PCIe host to BAR0 and BAR2 (R509, R511): where the words of an access lie, what a read answers
and what a write does, and the discard points of rinses (R26). -/

namespace Sys2Proof.Machine

/-! ## The words of an access (R511) -/

theorem barWord_of_lt_eight (a : Nat) {bytes : Nat} (h : bytes < 8) : barWord a bytes = a - a % 4 := by
  rw [barWord, if_neg (Nat.ne_of_lt h)]

theorem barWord_eight (a : Nat) : barWord a 8 = a - a % 8 := rfl

theorem barWord_le (a bytes : Nat) : barWord a bytes ≤ a := Nat.sub_le _ _

theorem addressed_of_four_le (a : Nat) {bytes : Nat} (l : List Reg) (h : 4 ≤ bytes) : addressed a bytes l = l :=
  if_neg (Nat.not_lt.mpr h)

theorem addressed_singleton_of_lt (a : Nat) {bytes : Nat} (x : Reg) (h : bytes < 4) :
    addressed a bytes [x] = [word (x.toNat / 2 ^ (8 * (a % 4)) % 2 ^ (8 * bytes))] := by
  rw [addressed, if_pos h, Nat.pow_mul, Nat.pow_mul]
  rfl

theorem State.lanes_le (s : State) : s.lanes ≤ 16 := by
  unfold State.lanes
  split <;> decide

theorem State.dmxPorts_le (s : State) : s.dmxPorts ≤ 32 := by
  unfold State.dmxPorts
  split <;> decide

theorem lt_barsEnd_of_lt_bar0Size {a : Nat} (h : a < bar0Size) : a < barsEnd := Nat.lt_trans h (by decide)

/-- BAR2 holds no FIFO window. -/
theorem State.windowAt_bar2 (s : State) {a : Nat} (h : bar0Size ≤ a) : s.windowAt a = none := by
  have hl := s.lanes_le
  have hd := s.dmxPorts_le
  unfold bar0Size at h
  unfold State.windowAt
  rw [if_neg (by omega), if_neg (by omega), if_neg (by omega), if_neg (by omega)]

/-! ## Reads (R24, R511) -/

section
variable (s : State) {a bytes : Nat}

theorem State.hostRead_empty_window (h : a < barsEnd) {w : Window} (hw : s.windowAt (barWord a bytes) = some w)
    (he : (s.fifo w).items = []) :
    s.hostRead a bytes = { s with pcie := { s.pcie with waits := s.pcie.waits ++ [(a, bytes)] } } := by
  simp only [State.hostRead, if_neg (Nat.not_le.mpr h), hw, he, List.isEmpty_nil, if_true]

theorem State.hostRead_window (h : a < barsEnd) {w : Window} (hw : s.windowAt (barWord a bytes) = some w)
    (he : (s.fifo w).items ≠ []) : s.hostRead a bytes = State.readEnd a bytes (s.windowEnd w (bytes = 8)) := by
  simp only [State.hostRead, if_neg (Nat.not_le.mpr h), hw, List.isEmpty_iff, if_neg he]

theorem State.hostRead_words (h : a < barsEnd) (hw : s.windowAt (barWord a bytes) = none) :
    s.hostRead a bytes = State.readEnd a bytes (s.hostWords a bytes) := by
  simp only [State.hostRead, if_neg (Nat.not_le.mpr h), hw]

theorem State.endWait_window {w : Window} (hw : s.windowAt (barWord a bytes) = some w) :
    s.endWait a bytes =
      State.readEnd a bytes (State.windowEnd w (bytes = 8)
        { s with pcie := { s.pcie with waits := s.pcie.waits.erase (a, bytes) } }) := by
  simp only [State.endWait, hw]

theorem State.hostWord_bar0 (h : a < bar0Size) : s.hostWord a = s.readWord a := if_pos h

theorem State.hostWord_bar2 (h : bar0Size ≤ a) : s.hostWord a = (word (s.pcie.bar2Read (a - bar0Size)), s) :=
  if_neg (Nat.not_lt.mpr h)

theorem State.hostWords_of_lt_eight (h : bytes < 8) :
    s.hostWords a bytes = ([(s.hostWord (barWord a bytes)).1], (s.hostWord (barWord a bytes)).2) :=
  if_neg (Nat.ne_of_lt h)

theorem State.hostWords_eight :
    s.hostWords a 8 =
      ([(s.hostWord (barWord a 8)).1, ((s.hostWord (barWord a 8)).2.hostWord (barWord a 8 + 4)).1],
        ((s.hostWord (barWord a 8)).2.hostWord (barWord a 8 + 4)).2) := rfl

/-- Of fewer than 8 bytes, a read of BAR0 outside the windows answers the addressed bytes of one word. -/
theorem State.hostRead_bar0 (hw : s.windowAt (barWord a bytes) = none) (h : a < bar0Size) (hb : bytes < 8) :
    s.hostRead a bytes =
      (s.readWord (barWord a bytes)).2.emit (.readData (addressed a bytes [(s.readWord (barWord a bytes)).1])) := by
  have hword : barWord a bytes < bar0Size := Nat.lt_of_le_of_lt (barWord_le a bytes) h
  rw [s.hostRead_words (lt_barsEnd_of_lt_bar0Size h) hw, s.hostWords_of_lt_eight hb, s.hostWord_bar0 hword]
  rfl

/-- A read of 8 bytes of BAR0 outside the windows answers two words, the second read after the first. -/
theorem State.hostRead_bar0_eight (hw : s.windowAt (barWord a 8) = none) (h : a < bar0Size) :
    s.hostRead a 8 =
      ((s.readWord (barWord a 8)).2.readWord (barWord a 8 + 4)).2.emit
        (.readData [(s.readWord (barWord a 8)).1, ((s.readWord (barWord a 8)).2.readWord (barWord a 8 + 4)).1]) := by
  have hlow : barWord a 8 < bar0Size := Nat.lt_of_le_of_lt (barWord_le a 8) h
  have hhigh : barWord a 8 + 4 < bar0Size := by
    rw [barWord_eight] at hlow ⊢
    unfold bar0Size at hlow ⊢
    omega
  rw [s.hostRead_words (lt_barsEnd_of_lt_bar0Size h) hw, s.hostWords_eight, s.hostWord_bar0 hlow, State.hostWord_bar0 _ hhigh]
  rfl

/-- Of fewer than 8 bytes, a read of BAR2 answers the addressed bytes of one of its words and changes nothing. -/
theorem State.hostRead_bar2 (hlo : bar0Size ≤ a) (hhi : a < barsEnd) (hb : bytes < 8) :
    s.hostRead a bytes = s.emit (.readData (addressed a bytes [word (s.pcie.bar2Read (barWord a bytes - bar0Size))])) := by
  have hword : bar0Size ≤ barWord a bytes := by
    rw [barWord_of_lt_eight a hb]
    unfold bar0Size at hlo ⊢
    omega
  rw [s.hostRead_words hhi (s.windowAt_bar2 hword), s.hostWords_of_lt_eight hb, s.hostWord_bar2 hword]
  rfl

end

/-! ## Writes (R509, R511-R513) -/

section
variable (s : State) {a : Nat}

theorem State.hostWriteWord_bar0 (v : Nat) (h : a < bar0Size) (he : a ≠ 0x20004) : s.hostWriteWord a v = s.writeWord a v := by
  rw [State.hostWriteWord, if_neg (Nat.not_le.mpr h), if_neg fun hc => he hc.1]

/-- A write of EVT.CTRL with ENABLE comes with Bus Master Enable (R512). -/
theorem State.hostWriteWord_evtEnable (v : Nat) (h : bit v 0 = true) :
    s.hostWriteWord 0x20004 v = s.busMaster.writeWord 0x20004 v := by
  rw [State.hostWriteWord, if_neg (by decide), if_pos ⟨rfl, h⟩]

theorem State.hostWriteWord_bar2 (o v : Nat) : s.hostWriteWord (bar0Size + o) v = s.bar2Write o v := by
  rw [State.hostWriteWord, if_pos (Nat.le_add_right _ _), Nat.add_sub_cancel_left]

theorem State.hostWrite_word (w : Reg) (h : a < barsEnd) (ha : a % 4 = 0) :
    s.hostWrite a (.word w) = s.hostWriteWord a w.toNat := by
  simp only [State.hostWrite, if_neg (Nat.not_le.mpr h), if_pos ha]

theorem State.hostWrite_wide (lo hi : Reg) (h : a < barsEnd) (ha : a % 8 = 0) :
    s.hostWrite a (.wide lo hi) = (s.hostWriteWord a lo.toNat).hostWriteWord (a + 4) hi.toNat := by
  simp only [State.hostWrite, if_neg (Nat.not_le.mpr h), if_pos ha]

theorem State.hostWrite_narrow (a : Nat) (w : Reg) : s.hostWrite a (.narrow w) = s := ite_self _

theorem State.hostWrite_word_bar0 (w : Reg) (h : a < bar0Size) (ha : a % 4 = 0) (he : a ≠ 0x20004) :
    s.hostWrite a (.word w) = s.writeWord a w.toNat := by
  rw [s.hostWrite_word w (lt_barsEnd_of_lt_bar0Size h) ha, s.hostWriteWord_bar0 _ h he]

theorem State.hostWrite_wide_bar0 (lo hi : Reg) (h : a < bar0Size) (ha : a % 8 = 0) (he : a ≠ 0x20000) :
    s.hostWrite a (.wide lo hi) = (s.writeWord a lo.toNat).writeWord (a + 4) hi.toNat := by
  have hhigh : a + 4 < bar0Size := by
    unfold bar0Size at h ⊢
    omega
  rw [s.hostWrite_wide lo hi (lt_barsEnd_of_lt_bar0Size h) ha, s.hostWriteWord_bar0 _ h (by omega),
    State.hostWriteWord_bar0 _ _ hhigh (by omega)]

/-- The last word of an entry of the MSI-X table is the mask of its vector. -/
theorem State.bar2Write_mask {v : Nat} (x : Nat) (hv : v < 64) : s.bar2Write (16 * v + 12) x = s.maskVector v (bit x 0) := by
  have hk : (16 * v + 12) / 4 % 4 = 3 := by omega
  have hq : (16 * v + 12) / 16 = v := by omega
  rw [State.bar2Write, if_pos (by omega), if_pos hk, hq]

/-- The other words of an entry hold what is written; of the first, the low two bits are zero. -/
theorem State.bar2Write_table {v k : Nat} (x : Nat) (hv : v < 64) (hk : k = 1 ∨ k = 2) :
    s.bar2Write (16 * v + 4 * k) x = { s with pcie := { s.pcie with table := Tab.put s.pcie.table (4 * v + k) (word x) } } := by
  have hq : (16 * v + 4 * k) / 4 = 4 * v + k := by omega
  rw [State.bar2Write, if_pos (by omega), hq, if_neg (by omega), if_neg (by omega)]

end

/-! ## Discard points (R26) -/

/-- With no packet under way, a pending rinse of a launch queue takes its discard point when the launched packet is off the
wire. -/
theorem Lane.current_eq_discard {l : Lane} {t : Nat} (hr : l.rinse = true) (hp : l.part = none) (ht : l.queueUntil ≤ t)
    (hs : l.stalled = []) : l.current t = l.discard := by
  have hset : l.settle t = l.discard := by
    simp only [Lane.settle, hr, hp, ht, Option.isNone_none, decide_true, Bool.and_self, if_true]
  have hstall : l.discard.stalled = [] := hs
  rw [Lane.current, hset, hstall]
  rfl

theorem execRinseDiscardPoint_commandRing (s : State) {n : Nat} (hn : n < 64) (hr : (s.ring n).rinse = true) :
    execRinseDiscardPoint (.commandRing n) s = .next (s.rinseRing n) := by
  have ht : s.hasTarget (.commandRing n) = true := decide_eq_true hn
  simp only [execRinseDiscardPoint, ht, State.discardPoint, hr, if_true]

theorem execRinseDiscardPoint_launchQueue (s : State) {n : Nat} (hn : n < s.lanes) (hr : (s.laneOf n).rinse = true)
    (hp : (s.laneOf n).part = none) :
    execRinseDiscardPoint (.launchQueue n) s =
      let u := s.advanceTo (s.laneOf n).queueUntil
      .next (u.updLane n fun l => l.current u.tk.counter) := by
  have ht : s.hasTarget (.launchQueue n) = true := decide_eq_true hn
  simp only [execRinseDiscardPoint, ht, State.discardPoint, hr, hp, Option.isNone_none, Bool.and_self, if_true]

/-- Settles O37. Clause by clause: the words of an access, the reads (of a window, of BAR0, of BAR2), the writes (of BAR0, of
BAR2) and the discard points. The model's choices among them are the reads that wait on a window (log entry 190), the
accesses of fewer than 32 bits (192), BAR2 from 4 MiB on (268) and Bus Master Enable with the write of EVT.CTRL (31). -/
theorem registerAccessesComplete : Obligations.RegisterAccessesComplete := by
  unfold Obligations.RegisterAccessesComplete
  intro a bytes s ha
  dsimp only
  refine ⟨barWord_of_lt_eight a, ?eightBytes, ?emptyWindow, ?window, ?waitingRead, ?narrowRead, ?wideRead, ?bar2Read,
    ?addressedBytes, ?wordWrite, ?wideWrite, ?evtEnable, ?narrowWrite, ?maskWrite, ?tableWrite, rfl,
    ?ringRinse, ?queueRinse, ?discardPoint⟩
  case eightBytes => rintro rfl; exact barWord_eight a
  case emptyWindow => exact fun w hw he => congrArg Host.Outcome.next (s.hostRead_empty_window ha hw he)
  case window => exact fun w hw he => congrArg Host.Outcome.next (s.hostRead_window ha hw he)
  case waitingRead =>
    intro w hw hwait
    have hc : s.pcie.waits.contains (a, bytes) = true := List.contains_iff_mem.mpr hwait
    exact congrArg Host.Outcome.next ((if_pos hc).trans (s.endWait_window hw))
  case narrowRead =>
    intro hw h hb
    have hread := s.hostRead_bar0 hw h hb
    exact ⟨congrArg Host.Outcome.next hread, congrArg Host.Outcome.next hread⟩
  case wideRead => rintro hw h rfl; exact congrArg Host.Outcome.next (s.hostRead_bar0_eight hw h)
  case bar2Read => exact fun h hb => congrArg Host.Outcome.next (s.hostRead_bar2 h ha hb)
  case addressedBytes => exact fun x => ⟨addressed_of_four_le a [x], addressed_singleton_of_lt a x⟩
  case wordWrite =>
    intro w h4 h he
    have hwrite := s.hostWrite_word_bar0 w h h4 he
    exact ⟨congrArg Host.Outcome.next hwrite, congrArg Host.Outcome.next hwrite⟩
  case wideWrite => exact fun lo hi h8 h he => congrArg Host.Outcome.next (s.hostWrite_wide_bar0 lo hi h h8 he)
  case evtEnable =>
    exact fun w hw => congrArg Host.Outcome.next ((s.hostWrite_word w (by decide) rfl).trans (s.hostWriteWord_evtEnable _ hw))
  case narrowWrite =>
    intro w
    have hwrite := s.hostWrite_narrow a w
    exact ⟨congrArg Host.Outcome.next hwrite, congrArg Host.Outcome.next hwrite⟩
  case maskWrite =>
    rintro v w hv rfl
    refine congrArg Host.Outcome.next ((s.hostWrite_word w ha (by omega)).trans ?_)
    rw [Nat.add_assoc, s.hostWriteWord_bar2, s.bar2Write_mask _ hv]
  case tableWrite =>
    rintro v k w hv hk rfl
    refine congrArg Host.Outcome.next ((s.hostWrite_word w ha (by omega)).trans ?_)
    rw [Nat.add_assoc, s.hostWriteWord_bar2, s.bar2Write_table _ hv hk]
  case ringRinse => exact fun n hn hr => execRinseDiscardPoint_commandRing s hn hr
  case queueRinse => exact fun n hn hr hp => execRinseDiscardPoint_launchQueue s hn hr hp
  case discardPoint => exact fun l t hr hp ht hs => Lane.current_eq_discard hr hp ht hs

end Sys2Proof.Machine
end

section
/-! SUPPORT. The frame number (R43): a read of FRAME_LO latches the upper half, which FRAME_HI shows from then on. -/

namespace Sys2Proof.Machine

theorem State.latch_frameLo (s : State) :
    s.latch 0x08 = { s with gl := { s.gl with frameHi := frameHi s.frameNow } } := if_pos rfl

theorem State.peek_frameLo (s : State) : s.peek 0x08 = s.frameNow % 2 ^ 32 := if_pos (by decide)

theorem State.peek_frameHi (s : State) : s.peek 0x0C = s.gl.frameHi := if_pos (by decide)

theorem State.frameNow_of_no_cut {s : State} (h : s.cutFrame = none) : s.frameNow = 0 := by rw [State.frameNow, h]; rfl

theorem State.latch_frameNow (s : State) : (s.latch 0x08).frameNow = s.frameNow := by rw [s.latch_frameLo]; rfl

/-- Settles O60: the upper half is the latched copy, which no cut changes. -/
theorem frameNumberIsReadWhole : Obligations.FrameNumberIsReadWhole := by
  unfold Obligations.FrameNumberIsReadWhole
  refine ⟨fun s n => ?upperHalf, fun s => ?lowerHalf, fun s h => ⟨?noCutLower, ?noCutUpper⟩⟩
  case upperHalf => rw [State.peek_frameHi, s.latch_frameLo]
  case lowerHalf => rw [State.peek_frameLo, s.latch_frameNow]
  case noCutLower => rw [State.peek_frameLo, s.latch_frameNow, State.frameNow_of_no_cut h, Nat.zero_mod]
  case noCutUpper =>
    rw [State.peek_frameHi, s.latch_frameLo]
    exact congrArg frameHi (State.frameNow_of_no_cut h)

end Sys2Proof.Machine
end

section
/-! SUPPORT. Register writes with an effect of their own (R208, R216, R236, R268, R293, R294, R336, R357, R359, R360, R365,
R378, R502), and the waits of a launch queue (R25, R29). -/

namespace Sys2Proof.Machine

/-! ## Launch queues (R25-R29, R336) -/

theorem Lane.settle_of_no_rinse {l : Lane} (t : Nat) (h : l.rinse = false) : l.settle t = l := by
  simp only [Lane.settle, h, Bool.false_and, Bool.false_eq_true, if_false]

/-- While a packet is on the wire or only partly written, the discard point has not come. -/
theorem Lane.settle_of_busy {l : Lane} {t : Nat} (h : l.part.isSome = true ∨ t < l.queueUntil) : l.settle t = l := by
  refine if_neg ?_
  rcases h with hp | ht
  · rw [Option.isNone_eq_false_iff.mpr hp, Bool.and_false, Bool.false_and]
    exact Bool.false_ne_true
  · rw [decide_eq_false (Nat.not_le.mpr ht), Bool.and_false]
    exact Bool.false_ne_true

theorem Lane.unstall_full {l : Lane} (t k : Nat) (h : l.full = true) : l.unstall t k = l := by
  cases k with
  | zero => rfl
  | succ k =>
    rw [Lane.unstall]
    split
    · rfl
    · exact if_pos h

theorem Lane.current_of_settled {l : Lane} {t : Nat} (h : l.settle t = l) (hs : l.stalled = []) : l.current t = l := by
  rw [Lane.current, h, hs]
  rfl

theorem Lane.current_full {l : Lane} {t : Nat} (h : l.settle t = l) (hf : l.full = true) : l.current t = l := by
  rw [Lane.current, h, Lane.unstall_full t _ hf]

@[simp] theorem Lane.item_rinse (w : Reg) (l : Lane) : (l.item w).rinse = l.rinse := by
  unfold Lane.item
  split
  · rfl
  · split
    · rfl
    · dsimp only
      split <;> rfl

/-- With room in the queue and no write waiting, an item goes in at once. -/
theorem Lane.write_of_room {l : Lane} (t : Nat) (w : Reg) (hr : l.rinse = false) (hf : l.full = false) (hs : l.stalled = []) :
    l.write t w = l.item w := by
  have hitem : ({ l with stalled := [] } : Lane) = l := by rw [← hs]
  have hroom : ¬ ({ l with stalled := [w] } : Lane).full = true := fun h => Bool.false_ne_true (hf.symm.trans h)
  rw [Lane.write, Lane.current_of_settled (Lane.settle_of_no_rinse t hr) hs, hs, List.nil_append, Lane.current,
    Lane.settle_of_no_rinse (l := { l with stalled := [w] }) t hr]
  show Lane.unstall t 1 _ = _
  simp only [Lane.unstall, if_neg hroom, hitem, Lane.settle_of_no_rinse t ((Lane.item_rinse w l).trans hr)]

/-- A full queue keeps an item waiting. -/
theorem Lane.write_of_full {l : Lane} (t : Nat) (w : Reg) (hr : l.rinse = false) (hf : l.full = true) :
    l.write t w = { l with stalled := l.stalled ++ [w] } := by
  rw [Lane.write, Lane.current_full (Lane.settle_of_no_rinse t hr) hf]
  exact Lane.current_full (Lane.settle_of_no_rinse t hr) hf

theorem Lane.requestRinse_between_packets {l : Lane} {t : Nat} (hs : l.stalled = []) (hp : l.part = none) (ht : l.queueUntil ≤ t)
    (hr : l.rinse = false) : l.requestRinse t = l.discard := by
  rw [Lane.requestRinse, Lane.current_of_settled (Lane.settle_of_no_rinse t hr) hs]
  exact Lane.current_eq_discard rfl hp ht hs

theorem Lane.requestRinse_of_busy {l : Lane} {t : Nat} (hs : l.stalled = []) (h : l.part.isSome = true ∨ t < l.queueUntil) :
    l.requestRinse t = { l with rinse := true } := by
  rw [Lane.requestRinse, Lane.current_of_settled (Lane.settle_of_busy h) hs]
  exact Lane.current_of_settled (Lane.settle_of_busy (l := { l with rinse := true }) h) hs

theorem Lane.endPartial_of_rinse {l : Lane} (t : Nat) (hs : l.stalled = []) (hp : l.part.isSome = true) (hr : l.rinse = true) :
    l.endPartial t = l.discard := by
  rw [Lane.endPartial, Lane.current_of_settled (Lane.settle_of_busy (Or.inl hp)) hs, hr, hp]
  exact Lane.current_of_settled (Lane.settle_of_no_rinse t rfl) hs

section
variable (s : State)

theorem execFifoWriteWaitExpire_empty {l : Nat} (w : Reg) (hl : l < s.lanes)
    (h : ((s.updLane l fun x => x.current s.tk.counter).laneOf l).stalled = []) :
    execFifoWriteWaitExpire l w s = .next (s.updLane l fun x => x.current s.tk.counter) := by
  simp only [execFifoWriteWaitExpire, if_neg (Nat.not_le.mpr hl), ge_iff_le, h]

theorem execFifoWriteWaitExpire_stalled {l : Nat} {w : Reg} {rest : List Reg} (hl : l < s.lanes)
    (h : ((s.updLane l fun x => x.current s.tk.counter).laneOf l).stalled = w :: rest) :
    execFifoWriteWaitExpire l w s = .next (((s.updLane l fun x => x.current s.tk.counter).updLane l
      fun x => { x with stalled := rest, qdrop := satInc x.qdrop }).raise Ev.fifoWriteDrop l 0) := by
  simp only [execFifoWriteWaitExpire, if_neg (Nat.not_le.mpr hl), ge_iff_le, h, if_true]

/-! ## Canvases, layers and witness windows (R208, R216, R236) -/

theorem State.canvasWrite_commit {c : Nat} (h : s.cfg.has .canvas c = true) :
    s.canvasWrite c 0x004 1 = s.updCanvas c fun x => { x with commit := true } := by
  have hbit : bit 1 0 = true := rfl
  simp only [State.canvasWrite, h, Bool.not_true, Bool.false_eq_true, if_false, hbit, Bool.or_true]

theorem State.palWrite_of_palAt {off n e k : Nat} (v : Nat) (h : s.palAt off = some (n, e, k)) :
    s.palWrite off v = s.updLayer n fun x => x.writePal e k v := by rw [State.palWrite, h]

theorem State.writePalMap_mapped {n v : Nat} (h : s.cfg.has .layer n = true) (hv : bit v 0 = true) :
    s.writePalMap n v = ({ s with layer := Tab.mapV s.layer fun _ x => { x with mapped := false } } : State).updLayer n
      fun x => { x with mapped := true, page := field v 2 1 } := by
  simp only [State.writePalMap, h, hv, Bool.not_true, Bool.false_eq_true, if_false, if_true]

/-! ## Time (R268, R293, R308) -/

theorem State.timeSet_free (hf : s.tk.source = .free) (hr : s.showRuns = false) :
    s.timeSet = s.stepBy (nsT ((s.tk.setLo + s.tk.setHi * 2 ^ 32) * 1000000000 + s.tk.setNs) - s.tk.counter) := by
  rw [State.timeSet, if_pos ⟨hf, by rw [hr]; rfl⟩]

theorem State.timeSet_refused (h : s.tk.source ≠ .free ∨ s.showRuns = true) :
    s.timeSet = { s with tk := { s.tk with refused := true } } := by
  refine if_neg fun hc => ?_
  rcases h with hf | hr
  · exact hf hc.1
  · exact Bool.false_ne_true (by simpa only [hr, Bool.not_true] using hc.2)

section
variable {u : Nat} (hu : u < 31) (hd : s.cfg.has .trigger u = true)
include hu hd

theorem State.unitCtrl_defined (v : Nat) :
    s.unitCtrl u v = if bit v 0 then s.armUnit u (field v 2 1) else s.updUnit u fun x => { x with armed := false, mode := field v 2 1 } :=
  if_neg fun h => h.elim (Nat.not_le.mpr hu) fun h => by rw [hd] at h; exact Bool.false_ne_true h

theorem State.unitCtrl_arm (mode : Nat) : s.unitCtrl u (1 + 2 * (mode % 4)) = s.armUnit u (mode % 4) := by
  have hbit : bit (1 + 2 * (mode % 4)) 0 = true := by rw [bit, Nat.testBit_zero]; exact decide_eq_true (by omega)
  have hmode : field (1 + 2 * (mode % 4)) 2 1 = mode % 4 := by rw [field]; omega
  rw [s.unitCtrl_defined hu hd, if_pos hbit, hmode]

theorem State.unitCtrl_disarm {mode : Nat} (hm : mode < 4) :
    s.unitCtrl u (2 * mode) = s.updUnit u fun x => { x with armed := false, mode } := by
  have hbit : ¬ bit (2 * mode) 0 = true := by rw [bit, Nat.testBit_zero]; exact fun h => absurd (of_decide_eq_true h) (by omega)
  have hmode : field (2 * mode) 2 1 = mode := by rw [field]; omega
  rw [s.unitCtrl_defined hu hd, if_neg hbit, hmode]

end

/-! ## Events (R502, R512) -/

/-- Vectors that signal clear their pending bits and send messages, and change nothing else. -/
theorem State.flushMsix_eq : ∃ pba out, s.flushMsix = { s with pcie := { s.pcie with pba }, out } := by
  unfold State.flushMsix
  split
  · exact ⟨s.pcie.pba, s.out, rfl⟩
  · exact List.foldlRecOn (motive := fun u : State => ∃ pba out, u = { s with pcie := { s.pcie with pba }, out }) _ _
      ⟨s.pcie.pba, s.out, rfl⟩ fun u ⟨pba, out, hu⟩ v _ => hu ▸ ⟨_, _, rfl⟩

/-- With Bus Master Enable set and in D0 the device may issue DMA where its link is up. -/
theorem State.busMaster_canDma : s.busMaster.pcie.canDma = s.pcie.link := by
  obtain ⟨pba, out, h⟩ := State.flushMsix_eq { s with pcie := { s.pcie with master := true, d3hot := false } }
  rw [State.busMaster, h, Pcie.canDma]
  exact (Bool.and_true _).trans (Bool.and_true _)

theorem State.busMaster_evt : s.busMaster.evt = s.evt := by
  obtain ⟨pba, out, h⟩ := State.flushMsix_eq { s with pcie := { s.pcie with master := true, d3hot := false } }
  rw [State.busMaster, h]

theorem State.busMaster_evtEnable (he : s.evt.enable = false) (hl : s.pcie.link = true) :
    s.busMaster.evtEnable = { s.busMaster with evt := { s.evt with enable := true, latched := (s.evt.base, s.evt.k) } } := by
  simp only [State.evtEnable, State.busMaster_evt, State.busMaster_canDma, he, hl, Bool.not_true, Bool.or_false,
    Bool.false_eq_true, if_false]

theorem State.busMaster_evtEnable_ignored (h : s.evt.enable = true ∨ s.pcie.link = false) : s.busMaster.evtEnable = s.busMaster := by
  refine if_pos ?_
  rw [State.busMaster_evt, State.busMaster_canDma]
  rcases h with he | hl
  · rw [he, Bool.true_or]
  · rw [hl, Bool.not_false, Bool.or_true]

end

/-- Settles O38. First the registers of canvases, layers, witness windows and time, then those of lanes, scan ports, DMX ports
and the event ring. TIME.SET takes SET_NS beyond 999,999,999 as it is written (log entry 271), and Bus Master Enable comes
with the write that enables the event ring (log entry 31): both are the model's choices. -/
theorem effectiveWritesComplete : Obligations.EffectiveWritesComplete := by
  unfold Obligations.EffectiveWritesComplete
  refine ⟨fun s => ⟨?canvasCommit, ?palette, ?palMap, ?witnessExpected, ?timeSet, ?timeSetRefused, ?arm, ?disarm, ?inputRinse⟩,
    fun s => ⟨?launchQueue, ?laneWrite, ?laneRinse, ?faultCtrl, ?seamGain, ?fullWrite, ?retRinse, ?groupRearm, ?uidRinse,
      ?ringEnable, ?ringEnableIgnored⟩⟩
  case canvasCommit =>
    exact fun c hc hd => (if_neg (Nat.not_le.mpr hc)).trans (congrArg Host.Outcome.next (s.canvasWrite_commit hd))
  case palette =>
    exact fun off v n e k ho hp => (if_neg (Nat.not_le.mpr ho)).trans (congrArg Host.Outcome.next (s.palWrite_of_palAt v.toNat hp))
  case palMap =>
    exact fun n v hn hd hv => (if_neg (Nat.not_le.mpr hn)).trans (congrArg Host.Outcome.next (s.writePalMap_mapped hd hv))
  case witnessExpected =>
    exact fun w v hw hd => (if_neg (Nat.not_le.mpr hw)).trans (congrArg Host.Outcome.next (if_pos hd))
  case timeSet => exact fun hf hr => congrArg Host.Outcome.next (s.timeSet_free hf hr)
  case timeSetRefused => exact fun h => congrArg Host.Outcome.next (s.timeSet_refused h)
  case arm =>
    exact fun u mode hu hd => (if_neg (by omega)).trans (congrArg Host.Outcome.next (s.unitCtrl_arm hu hd mode))
  case disarm =>
    exact fun u hu hd hm => (if_neg (by omega)).trans (congrArg Host.Outcome.next (s.unitCtrl_disarm hu hd hm))
  case inputRinse => exact fun i hi => if_neg (Nat.not_le.mpr hi)
  case launchQueue =>
    intro l w hl
    have hlane : ¬ l ≥ s.lanes := Nat.not_le.mpr hl
    exact ⟨congrArg Host.Outcome.next (if_neg hlane), congrArg Host.Outcome.next (if_neg hlane), congrArg Host.Outcome.next (if_neg hlane),
      execFifoWriteWaitExpire_empty s w hl, fun _ => execFifoWriteWaitExpire_stalled s hl⟩
  case laneWrite =>
    exact fun x t w hr => ⟨Lane.write_of_room t w hr,
      fun hf => ⟨Lane.current_full (Lane.settle_of_no_rinse t hr) hf, Lane.write_of_full t w hr hf⟩⟩
  case laneRinse =>
    exact fun x t hs => ⟨Lane.requestRinse_between_packets hs, Lane.requestRinse_of_busy hs, Lane.endPartial_of_rinse t hs⟩
  case faultCtrl => exact fun p w hp => if_neg (Nat.not_le.mpr hp)
  case seamGain => exact fun p w hp => if_neg (Nat.not_le.mpr hp)
  case fullWrite =>
    intro p d hp hd hm
    have hmem : (s.cfg.get .scan p).any scMemory = true := by rw [hd]; exact hm
    exact (if_neg (Nat.not_le.mpr hp)).trans (congrArg Host.Outcome.next (if_pos hmem))
  case retRinse => exact fun p hp => if_neg (Nat.not_le.mpr hp)
  case groupRearm => exact fun p k w hp hk => if_neg (by omega)
  case uidRinse => exact fun p hp => if_neg (Nat.not_le.mpr hp)
  case ringEnable => exact fun he hl => congrArg Host.Outcome.next (s.busMaster_evtEnable he hl)
  case ringEnableIgnored => exact fun h => congrArg Host.Outcome.next (s.busMaster_evtEnable_ignored h)

end Sys2Proof.Machine
end

section
/-! SUPPORT. Resets, boots and core restarts (R34, R412, R461, R483), the start of a show after a boot (R477), and the ends of
update times (R466-R475). -/

namespace Sys2Proof.Machine

/-! ## Resets, boots, hold-up and the supervisor cores -/

section
variable (s : State)

theorem execPorstNAssert_supplied (hh : s.mon.holdup = false) (hl : s.boot.supplyLost = false) :
    execPorstNAssert s = .next (s.selfReset false) := by
  rw [execPorstNAssert, hh, hl]
  rfl

theorem execPorstNAssert_unsupplied (h : s.mon.holdup = true ∨ s.boot.supplyLost = true) :
    execPorstNAssert s = .next (s.selfReset false).loseSupply :=
  congrArg Host.Outcome.next (if_pos ((Bool.or_eq_true _ _).mpr h))

theorem execBoot_released (x : BootInputs) (hd : s.gl.device = .boot) (ht : s.boot.thermal = false) :
    execBoot x s = .next (((((s.readStraps x).sendVcore.bumpEpoch).startCores
      (((s.readStraps x).sendVcore.bumpEpoch).selectSlot x.strap0)).loadSaved).bootEvents
        ((((s.readStraps x).sendVcore.bumpEpoch).selectSlot x.strap0).bind Prod.snd) x) :=
  if_neg (not_or.mpr ⟨not_not_intro hd, Bool.eq_false_iff.mp ht⟩)

theorem execThermalHoldStep_below (temps : List Int) (ht : s.boot.thermal = true)
    (h : (temps.all fun t => t < 16 * (s.elapse (secT 1)).fuses.tjHi) = true) :
    execThermalHoldStep temps s = .next { s.elapse (secT 1) with boot := { (s.elapse (secT 1)).boot with thermal := false } } := by
  rw [execThermalHoldStep, ht]
  exact congrArg Host.Outcome.next (if_pos h)

theorem execHoldupEnter_running (hd : s.gl.device ≠ .boot) (hh : s.boot.hold = false) :
    execHoldupEnter s = .next s.enterHoldup := by
  rw [execHoldupEnter, hh, if_neg Bool.false_ne_true, if_neg hd]

theorem execHoldupEnter_held (h : s.boot.hold = true) : execHoldupEnter s = .next s.loseSupply :=
  congrArg Host.Outcome.next (if_pos h)

theorem execVcoreUndervoltage_inside {m : Nat} (hm : m < 8) (hd : s.gl.device ≠ .boot) (ho : s.mon.outside = none) :
    execVcoreUndervoltage m s = .next
      (({ s with mon := { s.mon with outside := some (0x10 + m), inside := 0 } }.count 0x0003).raise Ev.envelopeExit (0x10 + m) 0) := by
  rw [execVcoreUndervoltage, if_neg (Nat.not_le.mpr hm), if_neg hd, State.leaveEnvelope, ho]

/-- The first expiry of a core's watchdog restarts the core and falls back from a trial. -/
theorem execCoreWatchdogExpire_first {c : Nat} (hc : c < 4) (hd : s.gl.device ≠ .boot) (hl : s.gl.coreLast = [])
    (hr : s.gl.restarting = []) :
    execCoreWatchdogExpire c s = .next
      (((({ s with gl := { s.gl with coreLast := Tab.put [] c s.now, restarting := [c] } } : State).count 0x0002).raise
        Ev.coreStall c 0).fallBack .coreStall) := by
  rw [execCoreWatchdogExpire, if_neg (Nat.not_le.mpr hc), if_neg hd, hl, hr]
  rfl

/-! ## AUTOLOAD and AUTO_START (R477) -/

/-- The holder of the staging area starts its compile, where no admission is under way and no press is pending (R60, R64). -/
theorem State.startAdmission_ok {session : Nat} (tag flags : Nat) (frame : Option Nat) (ha : s.gl.show_ ≠ .armed)
    (hh : s.stage.holder = some session) (hp : s.stage.pending = none) (hadm : s.stage.admitting = none)
    (hrate : s.showRuns = false ∨ rateDiffers s.cfg s.stage.area = false) :
    s.startAdmission session tag flags frame =
      let w := s.startJob 0x0201 session tag
      .ok (w.1.id, { w.2 with stage := { w.2.stage with
        admitting := some { job := w.1, flags, frame, area := s.stage.area } } }) := by
  have hrate' : (!s.showRuns || !rateDiffers s.cfg s.stage.area) = true := by
    rcases hrate with h | h <;> rw [h] <;> simp
  unfold State.startAdmission
  rw [need_bind _ (decide_eq_true ha), need_bind _ (decide_eq_true hh), need_bind _ (by rw [hp]; rfl),
    need_bind _ (by rw [hadm]; rfl), need_bind _ hrate']
  rfl

theorem State.loadOwn_nothing_saved (session : Nat) (hp : s.stage.pending = none) (hh : s.stage.holder = none)
    (hn : newerSaved s.nv.configA s.nv.configB = none) : s.loadOwn session = .error ⟨Status.badReference, 0⟩ := by
  unfold State.loadOwn
  rw [need_bind _ (by rw [hp]; rfl), need_bind _ (by rw [hh]; rfl), hn]

theorem State.loadOwn_saved (session : Nat) {c : Saved} (hp : s.stage.pending = none) (hh : s.stage.holder = none)
    (hn : newerSaved s.nv.configA s.nv.configB = some c) (ha : s.gl.show_ ≠ .armed) (hadm : s.stage.admitting = none)
    (hrate : s.showRuns = false ∨ rateDiffers s.cfg (s.withSets { recs := c.recs }) = false) :
    s.loadOwn session =
      let v : State := { s with stage := { s.stage with holder := some session, area := s.withSets { recs := c.recs } } }
      let w := v.startJob 0x0201 session 0
      .ok (w.1.id, { w.2 with stage := { w.2.stage with
        admitting := some { job := w.1, flags := 0, frame := none, area := v.stage.area } } }) := by
  unfold State.loadOwn
  rw [need_bind _ (by rw [hp]; rfl), need_bind _ (by rw [hh]; rfl), hn]
  exact State.startAdmission_ok { s with stage := { s.stage with holder := some session, area := s.withSets { recs := c.recs } } }
    0 0 none ha rfl hp hadm hrate

/-- The state in which AUTOLOAD has begun and has opened a session of the firmware's own in a slot. -/
def State.autoloadOpened (slot : Nat) (s : State) : State := ({ s with boot := { s.boot with started := true } } : State).openOwn slot

section
variable {slot : Nat} (hd : s.gl.device = .operational) (hf : bit (u16 s.personality 6) 3 = true) (hst : s.boot.started = false)
  (ha : s.stage.admitting = none) (hs : s.freeSession = some slot)
include hd hf hst ha hs

/-- Where AUTOLOAD finds a free slot, what loading does in its session decides the outcome. -/
theorem execAutoload_opens :
    execAutoload s =
      let u := s.autoloadOpened slot
      match u.loadOwn ((Tab.getD u.ses slot {}).id slot) with
      | .error b => .next ((u.raise Ev.autostartFailed 0 b.status).endSession slot .close)
      | .ok (id, v) => .next { v with boot := { v.boot with autoload := some id } } := by
  have hs' : ({ s with boot := { s.boot with started := true } } : State).freeSession = some slot := hs
  rw [execAutoload, if_neg (by simp [hd, hf, hst, ha])]
  dsimp only at hs' ⊢
  rw [hs']
  rfl

variable (hp : s.stage.pending = none) (hh : s.stage.holder = none)
include hp hh

theorem execAutoload_nothing_saved (hn : newerSaved s.nv.configA s.nv.configB = none) :
    execAutoload s = .next (((s.autoloadOpened slot).raise Ev.autostartFailed 0 Status.badReference).endSession slot .close) := by
  rw [execAutoload_opens s hd hf hst ha hs]
  dsimp only
  rw [State.loadOwn_nothing_saved (s.autoloadOpened slot) _ hp hh hn]

theorem execAutoload_saved {c : Saved} (hn : newerSaved s.nv.configA s.nv.configB = some c) (harm : s.gl.show_ ≠ .armed)
    (hrate : s.showRuns = false ∨ rateDiffers s.cfg ((s.autoloadOpened slot).withSets { recs := c.recs }) = false) :
    execAutoload s =
      let u := s.autoloadOpened slot
      let id := (Tab.getD u.ses slot {}).id slot
      let v : State := { u with stage := { u.stage with holder := some id, area := u.withSets { recs := c.recs } } }
      let w := v.startJob 0x0201 id 0
      .next { w.2 with
        stage := { w.2.stage with admitting := some { job := w.1, flags := 0, frame := none, area := v.stage.area } }
        boot := { w.2.boot with autoload := some w.1.id } } := by
  rw [execAutoload_opens s hd hf hst ha hs]
  dsimp only
  rw [State.loadOwn_saved (s.autoloadOpened slot) _ hp hh hn harm ha hrate]

end

theorem execAutoStart_starts {n : Nat} {u : State} (hf : bit (u16 s.personality 6) 4 = true) (hl : s.boot.autoload ≠ none)
    (hst : s.boot.autoStart = false) (ha : s.stage.admitting = none) (hc : s.gl.show_ = .configured) (hr : s.timeReady = true)
    (h : ({ s with boot := { s.boot with autoStart := true } } : State).startShow none false = .ok (n, u)) :
    execAutoStart s = .next u := by
  rw [execAutoStart, if_neg (by simp [hf, hl, hst, ha, hc, hr])]
  dsimp only at h ⊢
  rw [h]

/-! ## Ends of update times (R466-R475) -/

section
variable {j : Job} {image : Bytes} (hc : s.upd.closing = some (j, image))
include hc

theorem execUpdateCloseComplete_written (hd : digestOk image = true) :
    execUpdateCloseComplete .done s = .next (({ s with nv := { s.nv with
      flash := (s.nv.flash.erase (slotBase s.targetSlot) 0x0100_0000).program (slotBase s.targetSlot) image } } : State).endClose j
        Status.ok 0) := by
  simp only [execUpdateCloseComplete, hc, hd, Bool.not_true, Bool.false_eq_true, if_false]

theorem execUpdateCloseComplete_bad_digest (o : WriteOutcome) (hd : digestOk image = false) :
    execUpdateCloseComplete o s = .next (s.endClose j Status.crcBad 0) := by
  simp only [execUpdateCloseComplete, hc, hd, Bool.not_false, if_true]

end

theorem execUpdateSlotIdleTimeout_idle (hh : s.upd.holder ≠ none) (hc : s.upd.closing = none) :
    execUpdateSlotIdleTimeout s = .next ((s.advanceNow (s.upd.last + secT 30)).freeUpdate.raise Ev.updateAborted 0 1) :=
  if_neg (by simp [hh, hc])

/-- An image of the same format as the running one needs no admission of the configuration again. -/
theorem execActivationPauseEnd_same_format {slot : Bool} {cause : Option FallbackCause} (h : s.upd.pausing = some (slot, cause))
    (hf : hdFormat (s.slotHeader slot) = hdFormat (s.slotHeader s.boot.running)) :
    execActivationPauseEnd s = .next (s.skipPast.newImage slot cause).leavePause := by
  simp only [execActivationPauseEnd, h, hf, ne_eq, not_true_eq_false, decide_false, Bool.false_eq_true, if_false]

end

/-- Settles O39. First resets, boots, hold-up and the cores, then AUTOLOAD, AUTO_START and the ends of update times. The
model's choices are the values of the update events (log entry 174), when AUTOLOAD and AUTO_START act and the session that
AUTOLOAD opens (176, 266), and the loss of the main supply with a reset in hold-up (261). -/
theorem bootAndUpdateEventsComplete : Obligations.BootAndUpdateEventsComplete := by
  unfold Obligations.BootAndUpdateEventsComplete
  refine ⟨fun s => ⟨execPorstNAssert_supplied s, execPorstNAssert_unsupplied s, rfl, ?resetTimer, execBoot_released s,
      execThermalHoldStep_below s, execHoldupEnter_running s, execHoldupEnter_held s, rfl,
      fun m => execVcoreUndervoltage_inside s, fun c => execCoreWatchdogExpire_first s, ?coreRestart⟩,
    fun s => ⟨?autoload, fun n u => execAutoStart_starts s, fun j image => execUpdateCloseComplete_written s,
      fun j image o hc => execUpdateCloseComplete_bad_digest s hc o, execUpdateSlotIdleTimeout_idle s,
      fun slot cause => execActivationPauseEnd_same_format s, ?trial, ?lockout⟩⟩
  case resetTimer =>
    intro t h
    show execDeviceResetTimer s = _
    rw [execDeviceResetTimer, h]
  case coreRestart => exact fun c hc => if_neg (Nat.not_le.mpr hc)
  case autoload =>
    intro slot hd hf hst ha hs hp hh
    exact ⟨execAutoload_nothing_saved s hd hf hst ha hs hp hh, fun c => execAutoload_saved s hd hf hst ha hs hp hh⟩
  case trial =>
    intro t h
    show execTrialTimeout s = _
    rw [execTrialTimeout, h]
  case lockout =>
    intro t h
    show execOwnerLockLockoutEnd s = _
    rw [execOwnerLockLockoutEnd, h]

end Sys2Proof.Machine
end

section
/-! SUPPORT. The press points of canvases and the packets of video streams (R207, R217, R221, R226, R315), and the calibration
runs and sensor scripts as time passes (R188-R191, R196, R201). -/

namespace Sys2Proof.Machine

/-- The duty of a member stays while time passes. -/
@[simp] theorem State.advanceTo_standbyMember (t : Nat) (s : State) : (s.advanceTo t).standbyMember = s.standbyMember := by
  simp only [State.standbyMember, State.pairActive, State.advanceTo_pair]

section
variable (s : State)

/-! ## Canvases and layers (R207, R217, R221) -/

/-- The period of the next press point of a canvas: the one after its last, and no earlier than the slot of the counter. -/
def Canvas.nextPeriod (x : Canvas) (slot : Nat) : Nat :=
  match x.period with
  | some p => if slot ≤ p then p + 1 else slot
  | none => slot

theorem execPressPoint_inForce {c : Nat} {d : Bytes} (hc : c < 16) (hd : s.cfg.get .canvas c = some d) :
    execPressPoint c s =
      let k := (Tab.getD s.canvas c {}).nextPeriod (s.cfg.slotAt s.tk.counter)
      let u := (s.advanceTo (s.cfg.pressPoint d k)).updCanvas c fun x => { x with period := some k }
      let u := if (Tab.getD s.canvas c {}).commit && !s.standbyMember then u.pressSet c (k + 1 + s.cfg.depth) else u
      .next ((u.applyCal c).startFetches c (k + 1 + s.cfg.depth)) := by
  have hcfg (t : Nat) (f : Canvas → Canvas) : ((s.advanceTo t).updCanvas c f).cfg = s.cfg :=
    congrArg (fun x => (x.map InForce.cfg).getD {}) (s.advanceTo_force t)
  have hduty (t : Nat) (f : Canvas → Canvas) : ((s.advanceTo t).updCanvas c f).standbyMember = s.standbyMember :=
    s.advanceTo_standbyMember t
  rw [execPressPoint, if_neg (Nat.not_le.mpr hc), hd]
  dsimp only
  rw [hduty, hcfg]
  rfl

theorem execBufferFetchComplete_fetching {l : Nat} (data : Bytes) {d : Bytes} {x : Layer} {f : Fetch} (hl : l < 32)
    (hd : s.layerOf l = some (d, x)) (hf : x.fetching = some f) :
    execBufferFetchComplete l data s = .next ((s.updLayer l fun x => { x with
      copy := some (padTo (lyFetch d) data), fetchFrame := f.frame % 2 ^ 32, fetching := none }).retire s.bufsInUse) := by
  simp only [execBufferFetchComplete, if_neg (Nat.not_le.mpr hl), ge_iff_le, hd, hf]

/-! ## Video streams (R37, R226, R315) -/

theorem execVideoPacketRx_node (k : Nat) (p : VideoPacket) (h : s.role = 3) : execVideoPacketRx k p s = .next s :=
  if_pos (by rw [State.takesVideo, h]; rfl)

section
variable {k : Nat} {d : Bytes} {p : VideoPacket} (hv : s.takesVideo = true) (hd : s.cfg.get .video k = some d)
include hv hd

/-- A packet that the lane takes and the stream refuses counts for the stream alone. -/
theorem execVideoPacketRx_refused (ht : s.takesFrame (u8 d 1) p.rx = true) (hroom : p.rx.room = true)
    (hr : (Tab.getD s.video k {}).refuses d p = true) :
    execVideoPacketRx k p s = .next { s with video := Tab.put s.video k { Tab.getD s.video k {} with
      dropped := satInc (Tab.getD s.video k {}).dropped } } := by
  simp only [execVideoPacketRx, hv, hd, hroom, hr, Bool.not_true, Bool.false_eq_true, if_false, if_true,
    State.receive_of_takesFrame _ _ _ _ ht]

theorem execVideoPacketRx_taken (ht : s.takesFrame (u8 d 1) p.rx = true) (hroom : p.rx.room = true)
    (hr : (Tab.getD s.video k {}).refuses d p = false) :
    execVideoPacketRx k p s = .next { s with video := Tab.put s.video k ((Tab.getD s.video k {}).take d p s.now) } := by
  simp only [execVideoPacketRx, hv, hd, hroom, hr, Bool.not_true, Bool.false_eq_true, if_false,
    State.receive_of_takesFrame _ _ _ _ ht]

/-- A packet that finds the FIFO of its MAC full counts for the stream, after what the lane makes of it. -/
theorem execVideoPacketRx_noRoom (hroom : p.rx.room = false) :
    execVideoPacketRx k p s = .next { s.receive (u8 d 1) p.rx fun s => s with
      video := Tab.put (s.receive (u8 d 1) p.rx fun s => s).video k { Tab.getD s.video k {} with
        dropped := satInc (Tab.getD s.video k {}).dropped } } := by
  simp only [execVideoPacketRx, hv, hd, hroom, Bool.not_true, Bool.not_false, Bool.false_eq_true, if_false, if_true]

end

theorem Video.take_ssrc (v : Video) (d : Bytes) (p : VideoPacket) (now : Nat) : (v.take d p now).ssrc = some p.ssrc := by
  unfold Video.take
  dsimp only
  split <;> rfl

theorem Video.take_dropped (v : Video) (d : Bytes) (p : VideoPacket) (now : Nat) : (v.take d p now).dropped = v.dropped := by
  unfold Video.take
  dsimp only
  split <;> rfl

theorem Video.refuses_of_other {v : Video} {d : Bytes} {p : VideoPacket}
    (h : p.payloadType ≠ u8 d 14 ∨ v.ssrc.any (· ≠ p.ssrc) = true) : v.refuses d p = true := by
  rw [Video.refuses, Bool.or_eq_true, decide_eq_true_eq]
  exact h

theorem Video.not_refuses {v : Video} {d : Bytes} {p : VideoPacket} (ht : p.payloadType = u8 d 14)
    (hs : v.ssrc = none ∨ v.ssrc = some p.ssrc) : v.refuses d p = false := by
  rcases hs with h | h <;> simp [Video.refuses, ht, h]

/-- The MAC of a defined lane drops and counts a good frame that finds its FIFO full (R315, R338). -/
theorem State.receive_noRoom_rxDrop {l : Nat} {rx : RxFrame} (f : State → State) (hl : l ≠ 16) (hd : s.cfg.has .lane l = true)
    (hg : rx.goodFcs = true) (hr : rx.room = false) : ((s.receive l rx f).laneOf l).rxDrop = satInc (s.laneOf l).rxDrop := by
  obtain ⟨d, hd⟩ := Option.isSome_iff_exists.mp hd
  have ht : s.takesFrame l rx = false := by simp only [State.takesFrame, if_neg hl, hr, Bool.and_false, Bool.false_and]
  rw [State.receive_of_not_takesFrame l rx f s d hl hd ht, if_pos hg, State.updLane_laneOf]

/-! ## Calibration runs (R190, R191) -/

/-- A run after what is due at a counter time: its settle or dark time is over, if it waits for the end of one. -/
def CalRun.settledBy (t : Nat) (r : CalRun) : CalRun := if r.settling && decide (r.due ≤ t) then r.settled else r

theorem execCalRunProgress_due {t : Nat} (h : s.settleDue = some t) :
    execCalRunProgress s =
      .next { s.advanceTo t with col := { (s.advanceTo t).col with runs := s.col.runs.map (CalRun.settledBy t) } } := by
  rw [execCalRunProgress, h]
  dsimp only
  rw [State.advanceTo_col]
  rfl

theorem execCalRunProgress_none (h : s.settleDue = none) : execCalRunProgress s = .next s := by rw [execCalRunProgress, h]

theorem CalRun.settledBy_of_pending {r : CalRun} {t : Nat} (h : r.settling = false ∨ t < r.due) : r.settledBy t = r := by
  refine if_neg ?_
  rcases h with hs | ht
  · simp [hs]
  · simp [Nat.not_le.mpr ht]

theorem CalRun.settledBy_of_due {r : CalRun} {t : Nat} (hs : r.settling = true) (ht : r.due ≤ t) : r.settledBy t = r.settled :=
  if_pos (by simp [hs, ht])

theorem CalRun.settling_of_phase {r : CalRun} (ho : r.outcome = 4)
    (h : r.phase = .settleDark ∨ r.phase = .settleA ∨ r.phase = .darkTime ∨ r.phase = .settleB) : r.settling = true := by
  simpa [CalRun.settling, ho, or_assoc] using h

theorem execCalRunStartTimeout_stopped {x : CalRun}
    (hx : (s.col.runs.find? fun x => decide (x.outcome = 4) && decide (x.phase = .waitDark)) = some x) (hr : s.showRuns = false) :
    execCalRunStartTimeout s =
      .next ((s.advanceNow (x.since + secT 60)).endRun x 6 Status.wrongState (s.advanceNow (x.since + secT 60)).wrongDetail) := by
  simp only [execCalRunStartTimeout, hx, hr, Bool.false_eq_true, if_false]

/-! ## Sensor scripts (R188, R189, R196, R201) -/

section
variable {k : Nat} {d : Bytes} (hk : k < 64) (hd : s.cfg.get .script k = some d)
include hk hd

theorem execSensorScriptRun_forRun (hb : (s.bus (u8 d 1)).running = none) (hm : s.standbyMember = false)
    (hball : u8 d 1 = 3 → s.ballHeld (ballIndex 35 28) = false) {r : CalRun} (hr : s.readingRun k = some r)
    (hn : s.nextScript (u8 d 1) = some (k, true)) : execSensorScriptRun k s = .next (s.startScript k d true) := by
  have hheld : ¬ (u8 d 1 = 3 ∧ s.ballHeld (ballIndex 35 28) = true) := fun h => Bool.false_ne_true ((hball h.1).symm.trans h.2)
  simp only [execSensorScriptRun, if_neg (Nat.not_le.mpr hk), ge_iff_le, hd, hr, Option.isSome_some, if_true, hb, hm, hn, hheld,
    Option.isSome_none, Bool.false_eq_true, ne_eq, not_true_eq_false, or_self, if_false]

theorem execSensorScriptRun_periodic (hb : (s.bus (u8 d 1)).running = none) (hm : s.standbyMember = false)
    (hball : u8 d 1 = 3 → s.ballHeld (ballIndex 35 28) = false) (hr : s.readingRun k = none)
    (hn : (s.advanceNow (s.scriptDue k)).nextScript (u8 d 1) = some (k, false)) :
    execSensorScriptRun k s = .next ((s.advanceNow (s.scriptDue k)).startScript k d false) := by
  have hheld : ¬ (u8 d 1 = 3 ∧ s.ballHeld (ballIndex 35 28) = true) := fun h => Bool.false_ne_true ((hball h.1).symm.trans h.2)
  simp only [execSensorScriptRun, if_neg (Nat.not_le.mpr hk), ge_iff_le, hd, hr, Option.isSome_none, Bool.false_eq_true, if_false,
    hb, hm, hn, hheld, ne_eq, not_true_eq_false, or_self]

variable (hb : (s.bus (u8 d 1)).running = some k)
include hb

/-- A reading frees its bus, and a standby member drops it. -/
theorem execSensorReadingDone_running (b : Bytes) :
    execSensorReadingDone k b s =
      let u := s.updBus (u8 d 1) fun b => { b with running := none }
      .next (if s.standbyMember then u else u.useReading k d (padTo (scriptReads d) b) (s.bus (u8 d 1))) := by
  simp only [execSensorReadingDone, if_neg (Nat.not_le.mpr hk), ge_iff_le, hd, hb, ne_eq, not_true_eq_false, if_false]
  rfl

theorem execSensorTransactionTimeout_running (step began : Nat) (nack : Bool) :
    execSensorTransactionTimeout ⟨k, step, began, nack⟩ s =
      let from_ := (s.bus (u8 d 1)).since + usT (max began (scriptWaits d step))
      let u := ((if nack then s else s.advanceNow (from_ + msT 25)).updBus (u8 d 1)
        fun b => { b with running := none, timeouts := satInc b.timeouts }).raise Ev.sensorFault k 0
      match if (s.bus (u8 d 1)).forRun then u.readingRun k else none with
      | some r => .next (u.endRun r 2 Status.sensorTimeout (u8 d 1))
      | none => .next u := by
  simp only [execSensorTransactionTimeout, if_neg (Nat.not_le.mpr hk), ge_iff_le, hd, hb, ne_eq, not_true_eq_false, if_false] <;> rfl

end
end

/-- Settles O45. First canvases, layers and video streams, then calibration runs and sensor scripts. The model's choices are
that a node ignores video packets (log entry 231), the start from which the 25 ms of a transaction count and the early end of
a read that is not acknowledged (224), and that a reading goes to a calibration run first (77). -/
theorem canvasAndColourEventsComplete : Obligations.CanvasAndColourEventsComplete := by
  unfold Obligations.CanvasAndColourEventsComplete
  refine ⟨fun s => ⟨?pressPoint, ?fetch, ?paletteCopy, execVideoPacketRx_node s, ?refused, ?noRoom, ?taken⟩,
    fun s => ⟨?settle, execCalRunProgress_none s, fun x => execCalRunStartTimeout_stopped s, ?scriptRun, ?reading, ?timeout⟩⟩
  case pressPoint =>
    rintro c d k hc hd rfl
    exact execPressPoint_inForce s hc hd
  case fetch => exact fun l data d x f => execBufferFetchComplete_fetching s data
  case paletteCopy =>
    exact fun l hl hx => (if_neg (Nat.not_le.mpr hl)).trans (congrArg Host.Outcome.next (if_pos hx))
  case refused =>
    exact fun k d p hv hd ht hr hroom => execVideoPacketRx_refused s hv hd ht hroom (Video.refuses_of_other hr)
  case noRoom =>
    intro k d p hv hd hroom
    refine ⟨_, execVideoPacketRx_noRoom s hv hd hroom, ?stream, fun hl hne hg => ?lane⟩
    case stream => exact congrArg Video.dropped (Tab.getD_put_self _ k _ {})
    case lane => exact s.receive_noRoom_rxDrop _ hne hl hg hroom
  case taken =>
    intro k d p hv hd ht hroom hpt hssrc
    refine ⟨_, execVideoPacketRx_taken s hv hd ht hroom (Video.not_refuses hpt hssrc), ?ssrc, ?dropped, rfl⟩
    case ssrc => rw [Tab.getD_put_self, Video.take_ssrc]
    case dropped => rw [Tab.getD_put_self, Video.take_dropped]
  case settle =>
    intro t ht
    refine ⟨_, execCalRunProgress_due s ht, rfl, List.length_map _, fun k r hr => ?_⟩
    have hrun : (s.col.runs.map (CalRun.settledBy t))[k]? = some (r.settledBy t) := by rw [List.getElem?_map, hr]; rfl
    have hover (ho : r.outcome = 4) (hd : r.due ≤ t)
        (hp : r.phase = .settleDark ∨ r.phase = .settleA ∨ r.phase = .darkTime ∨ r.phase = .settleB) :
        (s.col.runs.map (CalRun.settledBy t))[k]? = some r.settled := by
      rw [hrun, CalRun.settledBy_of_due (CalRun.settling_of_phase ho hp) hd]
    refine ⟨fun h => by rw [← CalRun.settledBy_of_pending h]; exact hrun, fun ho hd => ⟨?_, ?_, ?_, ?_⟩⟩ <;> intro hp <;>
      rw [hover ho hd (by simp [hp]), CalRun.settled, hp]
  case scriptRun =>
    intro k d hk hd hb hm hball
    exact ⟨fun r => execSensorScriptRun_forRun s hk hd hb hm hball, execSensorScriptRun_periodic s hk hd hb hm hball⟩
  case reading =>
    intro k d b hk hd hb
    exact ⟨fun hm => (execSensorReadingDone_running s hk hd hb b).trans (congrArg Host.Outcome.next (if_pos hm)),
      fun hm => (execSensorReadingDone_running s hk hd hb b).trans (congrArg Host.Outcome.next (if_neg (Bool.eq_false_iff.mp hm)))⟩
  case timeout =>
    exact fun k d step began nack hk hd hb => execSensorTransactionTimeout_running s hk hd hb step began nack

end Sys2Proof.Machine
end

section
/-! SUPPORT. The messages of the pair link and what a member does without them (R387-R401). -/

namespace Sys2Proof.Machine

section
variable (s : State)

/-! ## Reception on the pair link (R22, R381) -/

theorem State.receivePair_of_takesPair {rx : RxFrame} (f : State → State) (h : s.takesPair rx = true) : s.receivePair rx f = f s := by
  simp only [State.takesPair, Bool.and_eq_true, Option.isSome_iff_exists] at h
  obtain ⟨⟨⟨l, hl⟩, hg⟩, hr⟩ := h
  simp only [State.receivePair, hl, State.macReceive, hg, hr, Bool.not_true, Bool.or_self, Bool.false_eq_true, if_false]

/-- A good frame of the pair link that finds the receive FIFO full is dropped and counted. -/
theorem State.receivePair_noRoom {l : Nat} {rx : RxFrame} (f : State → State) (hl : s.pairLane s.cfg = some l)
    (hg : rx.goodFcs = true) (hr : rx.room = false) :
    s.receivePair rx f = s.updLane l fun x => { x with rxDrop := satInc x.rxDrop } := by
  simp only [State.receivePair, hl, State.macReceive, hg, hr, Bool.not_true, Bool.not_false, Bool.true_or, Bool.false_eq_true,
    if_false, if_true]

/-! ## Heartbeats (R389-R393) -/

section
variable {d : Bytes} {b : Heartbeat}

theorem State.hear_wrongUnit (h : b.unitId ≠ pdPeer d) : s.hear d b = s.raise Ev.pairFault 0 b.unitId := if_pos h

section
variable (hu : b.unitId = pdPeer d)
include hu

theorem State.hear_updatePause (hp : s.gl.device = .updatePause) : s.hear d b = s := by
  rw [State.hear, if_neg (not_not_intro hu), if_pos hp]

variable (hp : s.gl.device ≠ .updatePause)
include hp

/-- A heartbeat that loses against its own timeout is a miss. -/
theorem State.hear_lateAwaited (hi : b.inTime = false) (ha : s.awaited = some b.frame) :
    s.hear d b = (s.advanceTo (s.cfg.cutInstant b.frame + usT (pdTimeout d))).missHeartbeat b.frame 1 := by
  rw [State.hear, if_neg (not_not_intro hu), if_neg hp, if_pos ⟨by rw [hi]; rfl, ha⟩]

theorem State.hear_late (h : b.inTime = false ∧ s.awaited ≠ some b.frame ∨ b.inTime = true ∧ b.frame ∈ s.pair.missing) :
    s.hear d b = s.discardHeartbeat b := by
  rw [State.hear, if_neg (not_not_intro hu), if_neg hp]
  rcases h with ⟨hi, ha⟩ | ⟨hi, hm⟩
  · rw [if_neg fun h => ha h.2, if_pos (Or.inl (by rw [hi]; rfl))]
  · rw [if_neg (by simp [hi]), if_pos (Or.inr hm)]

theorem State.hear_inTime (hi : b.inTime = true) (hm : b.frame ∉ s.pair.missing) :
    s.hear d b = if s.follows then s.useHeartbeat b else if s.pairActive then s.hearAsActive d b else s.hearWaiting b := by
  rw [State.hear, if_neg (not_not_intro hu), if_neg hp, if_neg (by simp [hi]), if_neg (by simp [hi, hm])]

end
end

theorem execHeartbeatRx_taken {d : Bytes} {lane : Nat} {b : Heartbeat} (hn : s.pairNow = some (d, lane))
    (ht : s.takesPair b.rx = true) : execHeartbeatRx b s = .next (s.hear d b) := by
  rw [execHeartbeatRx, s.receivePair_of_takesPair _ ht, hn]

theorem execHeartbeatTimeout_awaited {d : Bytes} {lane n : Nat} (hn : s.pairNow = some (d, lane)) (ha : s.awaited = some n) :
    execHeartbeatTimeout s = .next ((s.advanceTo (s.cfg.cutInstant n + usT (pdTimeout d))).missHeartbeat n 2) := by
  simp only [execHeartbeatTimeout, hn, ha]

/-! ## Mirrored commands and the transfer of a joining member (R387, R392) -/

/-- What a mirrored command brings before it is kept: its sequence number and its place in the order of acceptance. -/
def State.mirrorHeard (m : Mirror) (s : State) : State :=
  { s with
    pair := { s.pair with mirrorSeq := max s.pair.mirrorSeq m.seq }, hq := { s.hq with accepted := max s.hq.accepted (m.order + 1) } }

theorem State.keepMirror_showStart {m : Mirror} (h : m.opcode = 0x0206) :
    s.keepMirror m = { s.mirrorHeard m with
      gl := { s.gl with firstCut := if s.gl.show_ = .configured then some m.frame else s.gl.firstCut } } := if_pos h

theorem State.keepMirror_timed {m : Mirror} (h : m.opcode ≠ 0x0206) :
    s.keepMirror m = ({ s.mirrorHeard m with rt := { queue := s.rt.queue.filter fun q => q.seq ≠ some m.seq } } : State).enqueue
      (mirrorQueued m) := if_neg h

theorem execMirrorRx_follows {m : Mirror} (ht : s.takesPair m.rx = true) (hf : s.follows = true) :
    execMirrorRx m s = .next ((s.keepMirror m).toPeer "mirror ack" [m.seq] []) := by
  rw [execMirrorRx, s.receivePair_of_takesPair _ ht, hf]
  rfl

theorem execMirrorRx_leads {m : Mirror} (ht : s.takesPair m.rx = true) (hf : s.follows = false) : execMirrorRx m s = .next s := by
  rw [execMirrorRx, s.receivePair_of_takesPair _ ht, hf]
  rfl

section
variable {x : SyncFrame} (ht : s.takesPair x.rx = true)
include ht

theorem execSyncTransferRx_syncing (hs : s.pair.st = .syncing) :
    execSyncTransferRx x s =
      let u := (s.syncParams x.part).syncObjects x.part
      .next (if x.part.last then u.renderFrom x.part.frame else { u with pair := { u.pair with permille := min 1000 x.part.permille } }) := by
  rw [execSyncTransferRx, s.receivePair_of_takesPair _ ht, if_neg (not_not_intro hs)]

theorem execSyncTransferRx_ignored (hs : s.pair.st ≠ .syncing) : execSyncTransferRx x s = .next s := by
  rw [execSyncTransferRx, s.receivePair_of_takesPair _ ht, if_pos hs]

end

/-! ## Waits, reversion and the sentinel (R396, R398, R401) -/

section
variable {d : Bytes} {lane : Nat} (hn : s.pairNow = some (d, lane))
include hn

theorem execJoinWaitExpire_waiting (hw : s.pair.st = .waiting) :
    execJoinWaitExpire s = .next (s.advanceNow (s.pair.waitSince + msT (pdJoin d))).firstDuty := by
  simp only [execJoinWaitExpire, hn, hw, ne_eq, not_true_eq_false, if_false]

theorem execReversion_due {n hold t : Nat} (hc : s.nextCut = some n) (hh : pdHold d = some hold) (hm : s.pair.maintenance = false)
    (hf : s.handoverFixed n = false) (ho : s.pair.handover = none)
    (hturn : s.pair.st = .standby ∧ s.primary = true ∨ s.pair.st = .active ∧ s.primary = false) (ht : s.pair.holdSince = some t) :
    execReversion s =
      let u := s.advanceNow (t + secT hold)
      .next { u with pair := { u.pair with handover := some (n, true) } } := by
  have hturn' : s.pair.st = .standby ∧ s.primary = true ∨ s.pair.st = .active ∧ (!s.primary) = true := by
    rwa [Bool.not_eq_true']
  simp only [execReversion, hn, hc, hh, ht, hm, hf, ho, hturn', decide_true, Bool.not_true,
    Option.isSome_none, Bool.false_eq_true, or_self, if_false]

/-- A member in SOLO that lost its peer, or is a secondary that never joined, yields to the other member's sentinel. -/
theorem execSentinelRx_yields {l : Nat} {rx : RxFrame} (ht : s.takesFrame l rx = true) (hs : s.pair.st = .solo) (hu : pdSentinel d ≠ 0)
    (hl : pdSentinelLane d = l) (hb : s.pair.byTakeover = false)
    (hy : s.pair.byLoss = true ∨ s.primary = false ∧ s.pair.joined = false) :
    execSentinelRx ⟨l, rx⟩ s.cid false s =
      .next ((s.loseDuty .isolated .yield (s.nextCut.getD s.frameNow)).raise Ev.pairDualActive 0 0) := by
  have hyield : (s.pair.byLoss || (!s.primary && !s.pair.joined)) = true := by
    rcases hy with h | ⟨hp, hj⟩ <;> simp [*]
  simp only [execSentinelRx, State.receive_of_takesFrame _ _ _ _ ht, hn, hs, hu, hl, hb, hyield, ne_eq, not_true_eq_false,
    Bool.false_eq_true, Bool.not_true, or_self, if_false]

theorem execSentinelRx_ignored {l : Nat} {rx : RxFrame} {cid : Bytes} {own : Bool} (ht : s.takesFrame l rx = true)
    (h : s.pair.st ≠ .solo ∨ pdSentinel d = 0 ∨ pdSentinelLane d ≠ l ∨ cid ≠ s.cid ∨ own = true) :
    execSentinelRx ⟨l, rx⟩ cid own s = .next s := by
  simp only [execSentinelRx, State.receive_of_takesFrame _ _ _ _ ht, hn, if_pos h]

end
end

/-- Settles O49. Heartbeats, then frames that find no room, mirrored commands, the transfer, the waits, the reversion and the
sentinel. The model's choices are that a heartbeat in UPDATE_PAUSE is not used (log entry 254), and that a late heartbeat
takes back its count in HB_MISSED (219). -/
theorem pairEventsComplete : Obligations.PairEventsComplete := by
  unfold Obligations.PairEventsComplete
  intro s d role hn
  refine ⟨?heartbeat, ?noRoom, fun n => execHeartbeatTimeout_awaited s hn, ?mirror, fun m => execMirrorRx_leads s, ?mirrorAck,
    ?sync, fun x => execSyncTransferRx_ignored s, execJoinWaitExpire_waiting s hn, fun n hold t => execReversion_due s hn,
    fun l rx => execSentinelRx_yields s hn, fun l rx cid own => execSentinelRx_ignored s hn⟩
  case heartbeat =>
    intro b ht
    have hear {u : State} (h : s.hear d b = u) : exec (.heartbeatRx b) s = .next u :=
      (execHeartbeatRx_taken s hn ht).trans (congrArg Host.Outcome.next h)
    refine ⟨fun hu => hear (s.hear_wrongUnit hu), fun hu hp => hear (s.hear_updatePause hu hp), fun hu hp =>
      ⟨fun hi ha => hear (s.hear_lateAwaited hu hp hi ha), fun h => hear (s.hear_late hu hp h), fun hi hm => ⟨?_, ?_, ?_⟩⟩⟩
    · exact fun hf => hear ((s.hear_inTime hu hp hi hm).trans (if_pos hf))
    · exact fun hf ha => hear (by rw [s.hear_inTime hu hp hi hm, hf, ha]; rfl)
    · exact fun hf ha => hear (by rw [s.hear_inTime hu hp hi hm, hf, ha]; rfl)
  case noRoom =>
    rintro l b m k part rx hl hg hr hb hm hk hx t rfl
    have drop {r : RxFrame} (f : State → State) (he : r = rx) :
        (.next (s.receivePair r f) : Outcome) = .next (s.updLane l fun x => { x with rxDrop := satInc x.rxDrop }) := by
      rw [he, s.receivePair_noRoom f hl hg hr]
    exact ⟨drop _ hb, drop _ hm, drop _ hk, drop _ hx⟩
  case mirror =>
    intro m ht hf
    refine ⟨fun h => ?_, fun h => ?_⟩
    · exact (execMirrorRx_follows s ht hf).trans (by rw [s.keepMirror_showStart h]; rfl)
    · exact (execMirrorRx_follows s ht hf).trans (by rw [s.keepMirror_timed h]; rfl)
  case mirrorAck => exact fun k ht => congrArg Host.Outcome.next (s.receivePair_of_takesPair _ ht)
  case sync =>
    intro x ht hs
    have hsync := execSyncTransferRx_syncing s ht hs
    exact ⟨fun hl => hsync.trans (congrArg Host.Outcome.next (if_pos hl)),
      fun hl => hsync.trans (congrArg Host.Outcome.next (if_neg (Bool.eq_false_iff.mp hl)))⟩

end Sys2Proof.Machine
end

section
/-! SUPPORT. What lanes receive (R314, R315, R317, R338), received universes and discovery (R327-R331), and packets of Ixnik
(R37, R332, R386). -/

namespace Sys2Proof.Machine

section
variable (s : State)

/-! ## Links (R315) -/

theorem execLaneLinkUp_atSpeed {l sp : Nat} (al : Nat) (hl : l < s.lanes)
    (h : ((s.cfg.get .lane l).any fun d => laMode d = 2 && laSpeed d ≠ sp) = false) :
    execLaneLinkUp l sp al s =
      let u := ((s.updLane l fun x => { x with link := true, speed := sp, align := al }).raise Ev.linkUp l 0).ptpPorts
      .next (if u.pairLane u.cfg = some l then u.emit (.pairLink "probe" [u.tk.counter] []) else u) := by
  rw [execLaneLinkUp, if_neg (Nat.not_le.mpr hl), if_neg (Bool.eq_false_iff.mp h)]

/-- A link of another speed than that of its lane's definition is held down. -/
theorem execLaneLinkUp_otherSpeed {l sp : Nat} {d : Bytes} (al : Nat) (hl : l < s.lanes) (hd : s.cfg.get .lane l = some d)
    (hm : laMode d = 2) (hs : laSpeed d ≠ sp) :
    execLaneLinkUp l sp al s =
      let u := s.updLane l fun x => { x with speed := sp }
      .next (if (s.laneOf l).link then (u.dropLink l).ptpPorts else u.raise Ev.linkDown l 0) := by
  have h : ((s.cfg.get .lane l).any fun d => laMode d = 2 && laSpeed d ≠ sp) = true := by simp [hd, hm, hs]
  rw [execLaneLinkUp, if_neg (Nat.not_le.mpr hl), if_pos h]
  rfl

theorem execLaneLinkDown_up {l : Nat} (hl : l < s.lanes) (hu : (s.laneOf l).link = true) :
    execLaneLinkDown l s = .next (s.dropLink l).ptpPorts :=
  congrArg Host.Outcome.next (if_neg (by simp [hl, hu]))

/-! ## ARP, echo and membership (R314, R317) -/

section
variable {l : Nat} {rx : RxFrame} (ht : s.takesFrame l rx = true)
include ht

theorem execArpPacketRx_taken {d : Bytes} (hd : s.cfg.get .lane l = some d) (req : Bool) (ip : Nat) (mac : Bytes) (target : Nat) :
    execArpPacketRx ⟨l, rx⟩ req ip mac target s =
      let u := if s.needsArp l d ip = true ∨ Tab.has (s.laneOf l).arp ip = true then
        s.updLane l fun x => { x with arp := Tab.put x.arp ip { mac := padTo 6 mac } } else s
      .next (if req = true ∧ target = u.laneIp u.cfg l ∧ target ≠ 0 then
        u.laneSend l "arp reply" mac 0 0 none (arpBody 2 (u.laneMac u.cfg l) target mac ip) else u) := by
  simp only [execArpPacketRx, State.receive_of_takesFrame _ _ _ _ ht, hd, Option.getD_some, Bool.and_eq_true, decide_eq_true_eq, and_assoc]

theorem execIcmpEchoRx_taken (src : Nat) (b : Bytes) :
    execIcmpEchoRx ⟨l, rx⟩ src b s =
      .next (if (s.cfg.get .lane l).any fun d => laNoIcmp d then s.updLane l fun x => { x with rxDrop := satInc x.rxDrop }
        else s.laneSend l "echo reply" rx.source 0 src none b) :=
  congrArg Host.Outcome.next (State.receive_of_takesFrame _ _ _ _ ht)

theorem execIgmpQueryRx_taken (g : Nat) :
    execIgmpQueryRx ⟨l, rx⟩ g s =
      .next (((s.cfg.laneGroups l).filter fun x => g = 0 || x.1 = g).foldl (fun s x => s.igmpReport l x) s) :=
  congrArg Host.Outcome.next (State.receive_of_takesFrame _ _ _ _ ht)

end

section
variable {l ip : Nat} {e : Arp} (he : Tab.find (s.laneOf l).arp ip = some e)
include he

theorem execArpRefresh_answered :
    execArpRefresh l ip true s = .next ((s.arpRequest l ip).updLane l fun x => { x with arp := Tab.put x.arp ip { e with fails := 0 } }) := by
  simp only [execArpRefresh, he, if_true]

theorem execArpRefresh_failed (hf : e.fails < 2) :
    execArpRefresh l ip false s =
      .next ((s.arpRequest l ip).updLane l fun x => { x with arp := Tab.put x.arp ip { e with fails := e.fails + 1 } }) := by
  simp only [execArpRefresh, he, Bool.false_eq_true, if_false, ge_iff_le, if_neg (show ¬ 3 ≤ e.fails + 1 by omega)]

/-- The third failure in a row removes the entry. -/
theorem execArpRefresh_removed (hf : 2 ≤ e.fails) :
    execArpRefresh l ip false s = .next ((s.arpRequest l ip).updLane l fun x => { x with arp := Tab.del x.arp ip }) := by
  simp only [execArpRefresh, he, Bool.false_eq_true, if_false, ge_iff_le, if_pos (show 3 ≤ e.fails + 1 by omega)]

end

/-! ## Received universes (R329-R331) -/

/-- A packet that is not well formed, not for levels, out of order, or from a ninth source is dropped and counted. -/
theorem State.useSacn_dropped {p : SacnPacket} (d : Bytes)
    (h : p.wellFormed = false ∨ p.startCode ≠ 0 ∨ p.preview = true ∨ ((s.rxOf p.univ).seqOf p.cid).any (outOfOrder p.sequence) = true ∨
      (8 ≤ (s.rxOf p.univ).sources.length ∧ ∀ y ∈ (s.rxOf p.univ).sources, y.cid ≠ p.cid)) :
    s.useSacn p d = { s with rx := Tab.put s.rx p.univ { s.rxOf p.univ with dropped := satInc (s.rxOf p.univ).dropped } } := by
  unfold State.useSacn
  dsimp only
  split
  · rfl
  next hkind =>
    split
    · rfl
    next horder =>
      refine if_pos ?_
      rcases h with h | h | h | h | ⟨hfull, hnew⟩
      · simp [h] at hkind
      · simp [h] at hkind
      · simp [h] at hkind
      · exact absurd h horder
      · exact ⟨by simpa using hnew, hfull⟩

section
variable {p : SacnPacket} (hw : p.wellFormed = true) (hs : p.startCode = 0) (hp : p.preview = false)
  (hl : (s.rxOf p.univ).lost = none) (hseq : ((s.rxOf p.univ).seqOf p.cid).any (outOfOrder p.sequence) = false)
include hw hs hp hl hseq

/-- The end of a stream removes its source. -/
theorem State.useSacn_terminated (d : Bytes) (ht : p.terminated = true)
    (hroom : (s.rxOf p.univ).sources.length < 8 ∨ ∃ y ∈ (s.rxOf p.univ).sources, y.cid = p.cid) :
    s.useSacn p d = s.settleRx p.univ { (s.rxOf p.univ).used p.cid p.sequence with
      sources := (s.rxOf p.univ).sources.filter fun y => y.cid ≠ p.cid } := by
  have hadmit : ¬ (((s.rxOf p.univ).sources.find? fun y => y.cid = p.cid).isNone ∧ (s.rxOf p.univ).sources.length ≥ 8) := by
    rintro ⟨hnone, hfull⟩
    rcases hroom with h | ⟨y, hy, hc⟩
    · omega
    · simp only [Option.isNone_iff_eq_none, List.find?_eq_none, decide_eq_true_eq] at hnone
      exact hnone y hy hc
  simp only [State.useSacn, hw, hs, hp, hl, hseq, ht, hadmit, Bool.not_true, Bool.false_eq_true, ne_eq, not_true_eq_false,
    reduceCtorEq, or_self, if_false, if_true]

/-- The first source of a universe comes with its levels. -/
theorem State.useSacn_first (d : Bytes) (ht : p.terminated = false) (hsync : p.sync = 0) (hnone : (s.rxOf p.univ).sources = []) :
    s.useSacn p d = s.settleRx p.univ { (s.rxOf p.univ).used p.cid p.sequence with sources :=
      [{ cid := p.cid, priority := p.priority, seq := p.sequence, last := s.now, complete := some p.slots, waiting := none }] } := by
  have hroom : ¬ 8 ≤ 0 := Nat.not_succ_le_zero 7
  simp only [State.useSacn, hw, hs, hp, hl, hseq, ht, hsync, hnone, List.find?_nil, List.length_nil, Option.getD_none, putSource,
    Bool.not_true, Bool.false_eq_true, ne_eq, not_true_eq_false, reduceCtorEq, or_self, decide_false, Bool.and_false,
    ge_iff_le, hroom, and_false, if_false]

end

theorem execSacnDataRx_taken {p : SacnPacket} {d : Bytes} (ht : s.takesFrame p.lane p.rx = true)
    (hd : s.cfg.get .sacnRx p.univ = some d) (hl : u8 d 2 = p.lane) : execSacnDataRx p s = .next (s.useSacn p d) := by
  simp only [execSacnDataRx, State.receive_of_takesFrame _ _ _ _ ht, hd, hl, ne_eq, not_true_eq_false, if_false]

/-- A synchronization packet completes the data that waits for it in the one universe received on the lane. -/
theorem execSacnSyncRx_one {l u v : Nat} {rx : RxFrame} {cid e : Bytes} (ht : s.takesFrame l rx = true)
    (hu : s.cfg.all .sacnRx = [(u, e)]) (hl : u8 e 2 = l)
    (hy : ∃ y ∈ (s.rxOf u).sources, y.cid = cid ∧ ∃ w, y.waiting = some w ∧ w.1 = v) :
    execSacnSyncRx ⟨l, rx⟩ cid v s =
      let here := completeWaiting (fun y => y.cid = cid && (y.waiting.any fun w => w.1 = v)) (s.rxOf u).sources
      .next (s.settleRx u { s.rxOf u with sources := here }) := by
  have hhit : ((s.rxOf u).sources.any fun y => y.cid = cid && (y.waiting.any fun w => w.1 = v)) = true := by
    obtain ⟨y, hmem, hc, w, hw, hv⟩ := hy
    exact List.any_eq_true.mpr ⟨y, hmem, by simp [hc, hw, hv]⟩
  simp only [execSacnSyncRx, State.receive_of_takesFrame _ _ _ _ ht, hu, List.foldl_cons, List.foldl_nil, hl, ne_eq, not_true_eq_false,
    if_false, hhit, if_true]

theorem execSacnSourceTimeout_source {u : Nat} {cid : Bytes} {y : RxSource}
    (hy : ((s.rxOf u).sources.find? fun y => decide (y.cid = cid)) = some y) :
    execSacnSourceTimeout u cid s =
      let t := s.advanceNow (y.last + msT 2500)
      .next (t.settleRx u { s.rxOf u with sources := (s.rxOf u).sources.filter fun y => y.cid ≠ cid, lost := some (cid, t.now) }) := by
  simp only [execSacnSourceTimeout, hy]

theorem execSacnSyncTimeout_waiting {u : Nat} {cid : Bytes} {y : RxSource} {a : Nat} {b : Bytes} {since : Nat}
    (hy : ((s.rxOf u).sources.find? fun y => decide (y.cid = cid) && y.waiting.isSome) = some y)
    (hw : y.waiting = some (a, b, since)) :
    execSacnSyncTimeout u cid s =
      .next ((s.advanceNow (since + msT 2500)).settleRx u { s.rxOf u with
        sources := completeWaiting (fun y => y.cid = cid) (s.rxOf u).sources }) := by
  simp only [execSacnSyncTimeout, hy, Option.bind_some, hw]

theorem execSacnDiscoveryTx_sends {l : Nat} {d : Bytes} (hl : l < s.lanes) (hd : s.cfg.get .sacnSource 0 = some d)
    (hon : (u8 d 1).testBit 0 = true) (hlink : (s.laneOf l).link = true) (hs : s.sendsSacn s.frameNow = true) :
    execSacnDiscoveryTx l s =
      let pgs := pages ((s.cfg.laneUniverses l).length + 1) (s.cfg.laneUniverses l)
      .next ((pgs.zip (List.range pgs.length)).foldl (fun s p =>
        s.laneSend l "sacn discovery" (multicastMac discoveryGroup) 0 discoveryGroup (some (5568, 5568))
          (s.cid ++ s.sacnName ++ beBytes 1 p.2 ++ beBytes 1 (pgs.length - 1) ++ p.1.flatMap fun u => beBytes 2 u)) s) := by
  rw [execSacnDiscoveryTx, if_neg (Nat.not_le.mpr hl)]
  exact congrArg Host.Outcome.next (if_neg (by
    simp only [hd, Option.any_some, hon, hlink, hs, Bool.not_true, Bool.false_eq_true, or_self, not_false_eq_true]))

/-! ## Ixnik (R37, R332, R386) -/

section
variable {l : Nat} {rx : RxFrame} (ht : s.takesFrame l rx = true) (h b : Bytes)
include ht

theorem execIxnikPacketRx_unknown (hk : beNat (slice h 0 2) ≠ 0x4958 ∨ u8 h 2 ≠ 1) :
    execIxnikPacketRx ⟨l, rx⟩ h b s = .next (s.updLane l fun x => { x with rxDrop := satInc x.rxDrop }) := by
  have hunknown : ixKnown h = false := by rcases hk with hk | hk <;> simp [ixKnown, hk]
  simp only [execIxnikPacketRx, State.receive_of_takesFrame _ _ _ _ ht, hunknown, Bool.not_false, if_true]

theorem execIxnikPacketRx_used {d : Bytes} (hm : beNat (slice h 0 2) = 0x4958) (hv : u8 h 2 = 1)
    (hd : s.cfg.get .ixRx (beNat (slice h 4 2) * 256 + l) = some d) (hf : s.takesFeed d = true) :
    execIxnikPacketRx ⟨l, rx⟩ h b s =
      .next ((s.useIxnik (beNat (slice h 4 2) * 256 + l) d h b).compareOwed (beNat (slice h 16 6))) := by
  have hknown : ixKnown h = true := by simp [ixKnown, hm, hv]
  simp only [execIxnikPacketRx, State.receive_of_takesFrame _ _ _ _ ht, hknown, hd, Option.filter_some, hf, Bool.not_true,
    Bool.false_eq_true, if_false, if_true]

end

/-- A packet whose claim loses is counted, and has no other effect. -/
theorem State.useIxnik_claimLost {num : Nat} {h : Bytes} (d b : Bytes)
    (hc : (claimRule (s.ixOf num) (beNat (slice h 12 4))).1 = false) :
    s.useIxnik num d h b = { s with ixrx := Tab.put s.ixrx num { (claimRule (s.ixOf num) (beNat (slice h 12 4))).2 with
      claimDrops := satInc (claimRule (s.ixOf num) (beNat (slice h 12 4))).2.claimDrops } } := by
  unfold State.useIxnik
  dsimp only
  rw [hc]
  rfl

end
end Sys2Proof.Machine
end

section
/-! SUPPORT. Refreshes and line writes of scan ports (R346, R351, R352), and the transactions of the RDM controllers (R375, R377,
R378). -/

namespace Sys2Proof.Machine

section
variable (s : State)

/-! ## Scan ports (R346, R351, R352) -/

theorem execScanRefreshStart_plain {p flow n : Nat} {d f codes : Bytes} (det : List Bool) (hcodes : (s.port p).codes = some codes)
    (hn : (s.port p).period = some n) (hd : (s.cfgAt n).get .scan p = some d) (hf : (s.cfgAt n).scanFlow p = some (flow, f))
    (hm : scMemory d = false) (ht : (s.port p).tripped = false)
    (hr : (s.port p).refresh < (scPace d (s.port p).static).2 ∨ s.showRuns = false) :
    execScanRefreshStart p det s =
      let x := s.port p
      let u := s.advanceTo (s.refreshAt flow n x.refresh (scPace d x.static).2)
      let u := (u.scanOut p "refresh" [x.frame, x.refresh]).emitRefresh p d codes x.static
        (n * scRefresh d + x.refresh * (if x.static then scRefresh d / scStatic d else 1))
      let u := u.updPort p fun y => { y with refresh := x.refresh + 1 }
      .next (if x.refresh = 0 then u.runSlot p n d (refreshTicks d x.static - slotTicks d) det else u) := by
  have hgo : ¬ ((s.port p).refresh ≥ (scPace d (s.port p).static).2 ∧ s.showRuns = true) := by
    rintro ⟨hge, hruns⟩
    rcases hr with h | h
    · omega
    · exact Bool.false_ne_true (h.symm.trans hruns)
  simp only [execScanRefreshStart, hcodes, hn, hd, hf, hm, ht, hgo, Bool.false_eq_true, or_self, if_false]

theorem execScanLineWrite_open {p flow n : Nat} {f d codes key : Bytes} {x : ScanPort} (waited : Bool) (det : List Bool)
    (hp : p < s.lanes) (hf : s.cfg.scanFlow p = some (flow, f)) (hn : (s.flowOf flow).next = some n)
    (hd : (s.cfgAt n).get .scan p = some d) (hm : scMemory d = true)
    (hx : x = (if (s.port p).restart.any fun f => decide (f ≤ n) then (s.port p).restarted else s.port p))
    (ht : x.tripped = false) (hframe : s.portFrame (s.cfgAt n) p d flow n = some (codes, key)) (hh : s.holdsAt n = false)
    (hline : (if x.writing = some n then x.lines else 0) < scLines d) (hdark : s.mutedAt flow n = true → x.dark = false)
    (hrest : s.mutedAt flow n = false → x.rests d n key = false) :
    execScanLineWrite p waited det s =
      let line := if x.writing = some n then x.lines else 0
      let u := s.advanceTo ((s.cfgAt n).instantN n - (s.cfgAt n).periodT + line * lineWriteTicks d * portTick)
      let prepared := if x.isStatic n key then x.codes.getD [] else (s.cfgAt n).prepare p d (x.marksOf n) codes
      let words := (List.range (scChain d)).reverse.flatMap fun k => (List.range (scDataLines d)).map fun dl =>
        u16 prepared (6 * (scChannel d line dl k / 4) + 2 * (scChannel d line dl k % 4))
      let u := (u.updPort p fun _ => { x with
        writing := some n, lines := line + 1, te := some (u.now, true)
        teStalls := if waited then satInc x.teStalls else x.teStalls }).emitLine p n line d words
      .next (if line + 1 = scLines d then u.runSlot p n d (lineWriteTicks d) det else u) := by
  have hwrites : ¬ ((!scMemory d) = true ∨ x.tripped = true ∨ (if x.writing = some n then x.lines else 0) ≥ scLines d ∨
      (s.mutedAt flow n = true ∧ x.dark = true) ∨ ((!s.mutedAt flow n) = true ∧ x.rests d n key = true) ∨ s.holdsAt n = true) := by
    simp only [hm, ht, hh, Bool.not_true, Bool.false_eq_true, false_or, or_false, not_or, Bool.not_eq_true']
    exact ⟨Nat.not_le.mpr hline, fun h => Bool.false_ne_true ((hdark h.1).symm.trans h.2),
      fun h => Bool.false_ne_true ((hrest h.1).symm.trans h.2)⟩
  simp only [execScanLineWrite, if_neg (Nat.not_le.mpr hp), ge_iff_le, hf, hn, hd, ← hx, hframe]
  exact if_neg hwrites

/-- A TE level that stays busy is counted, and reported where no report came within the last second. -/
theorem execTeStuckTimeout_first {p : Nat} {d : Bytes} (hp : p < s.lanes) (hd : s.cfg.get .scan p = some d) (hm : scMemory d = true)
    (hq : (s.port p).stuckAt = none) :
    execTeStuckTimeout p s =
      let u := s.updPort p fun x => { x with te := some (s.now, false), teStuck := satInc x.teStuck }
      .next ((u.updPort p fun x => { x with stuckAt := some u.now }).raise Ev.teStuck p 0) := by
  have hport (f : ScanPort → ScanPort) : (s.updPort p f).port p = f (s.port p) := Tab.getD_upd_self _ _ _ _
  simp only [execTeStuckTimeout, if_neg (Nat.not_le.mpr hp), ge_iff_le, hd, Option.any_some, hm, Bool.not_true, Bool.false_eq_true,
    if_false, hport, hq]

/-! ## Transactions of an RDM controller (R375, R377, R378) -/

section
variable {p : Nat} {d : Bytes} (hp : p < s.dmxPorts)
include hp

section
variable {flow at_ : Nat} {f : Bytes} (hh : s.portHeld p = false) (hd : s.cfg.get .dmx p = some d)
  (hf : s.cfg.dmxFlow p = some (flow, f))
include hh hd hf

theorem execRdmTransactionStart_request {q : RdmReq} (hq : (s.dmxOf p).request = some q) (hs : q.started = none)
    (ht : s.nextTransact p d flow (requestUs d q.payload) = some at_) :
    execRdmTransactionStart p s =
      let txn := ((s.dmxOf p).txn + 1) % 256
      let m := s.rdmMessage p (rqUid q.payload) txn (u16 q.payload 10) (u8 q.payload 1) (u16 q.payload 12) (q.payload.drop 16)
      .next ((s.startRdm p d (rqPdl q.payload) at_ m).updDmx p fun x => { x with request := some { q with started := some txn } }) := by
  simp only [execRdmTransactionStart, hh, hd, hf, hq, hs, ht, ge_iff_le, Nat.not_le.mpr hp, Bool.false_eq_true, or_self, if_false]

theorem execRdmTransactionStart_discovery {q : Discovery} (hr : (s.dmxOf p).request = none) (hq : (s.dmxOf p).disc = some q)
    (hs : q.started = none) (ht : s.nextTransact p d flow (discoveryUs d q.step) = some at_) :
    execRdmTransactionStart p s =
      let txn := ((s.dmxOf p).txn + 1) % 256
      .next ((s.startRdm p d q.step.pdl at_ (s.discMessage p txn q.step)).updDmx p
        fun x => { x with disc := some { q with started := some txn } }) := by
  simp only [execRdmTransactionStart, hh, hd, hf, hr, hq, hs, ht, ge_iff_le, Nat.not_le.mpr hp, Bool.false_eq_true, or_self, if_false]

end

section
variable (hd : s.cfg.get .dmx p = some d) (hdm : dxRdm d = true)
include hd hdm

section
variable {q : RdmReq} {txn : Nat} {m : RdmResponse} (hq : (s.dmxOf p).request = some q) (hs : q.started = some txn)
  (hb : broadcastUid (rqUid q.payload) = false)
include hq hs hb

/-- A response that belongs to the request answers it. -/
theorem execRdmResponseRx_good (hsum : m.goodSum = true) (hcut : m.cutOff = false) (ht : m.transaction = txn)
    (hu : m.uid = rqUid q.payload) (hto : m.dest = s.controllerUid p) :
    execRdmResponseRx p m s = .next (s.endRequest p { payload := rdmReply m }) := by
  simp only [execRdmResponseRx, if_neg (Nat.not_le.mpr hp), ge_iff_le, hd, Option.any_some, hdm, hq, hs, hb, hsum, hcut, ht, hu, hto,
    decide_true, Bool.and_self, Bool.not_true, Bool.not_false, Bool.false_eq_true, if_false, if_true]

/-- Any other response is counted and ends the request with CRC_BAD. -/
theorem execRdmResponseRx_bad (h : m.goodSum = false ∨ m.cutOff = true ∨ m.transaction ≠ txn ∨ m.uid ≠ rqUid q.payload ∨
      m.dest ≠ s.controllerUid p) :
    execRdmResponseRx p m s =
      .next ((s.updDmx p fun x => { x with rdmBad := satInc x.rdmBad }).endRequest p { status := Status.crcBad }) := by
  have hbad : (m.goodSum && !m.cutOff && m.transaction = txn && m.uid = rqUid q.payload && m.dest = s.controllerUid p) = false := by
    rcases h with h | h | h | h | h <;> simp [h]
  simp only [execRdmResponseRx, if_neg (Nat.not_le.mpr hp), ge_iff_le, hd, Option.any_some, hdm, hq, hs, hb, hbad, Bool.not_true,
    Bool.false_eq_true, if_false]

end

/-- Outside every transaction a response is late, unless an issue instant cut it off. -/
theorem execRdmResponseRx_late (m : RdmResponse) (hr : (s.dmxOf p).request = none) (hq : (s.dmxOf p).disc = none) :
    execRdmResponseRx p m s = .next (if m.cutOff then s else s.updDmx p fun x => { x with rdmLate := satInc x.rdmLate }) := by
  simp only [execRdmResponseRx, if_neg (Nat.not_le.mpr hp), ge_iff_le, hd, Option.any_some, hdm, hr, hq, Bool.not_true,
    Bool.false_eq_true, if_false, State.lateResponse]

end

section
variable {q : RdmReq} {txn : Nat} (hq : (s.dmxOf p).request = some q) (hs : q.started = some txn)
include hq hs

theorem execRdmResponseTimeout_single (hb : broadcastUid (rqUid q.payload) = false) :
    execRdmResponseTimeout p s =
      .next ((s.advanceNow (s.dmxOf p).expires).endRequest p { status := Status.rdmTimeout, detail := p }) := by
  simp only [execRdmResponseTimeout, if_neg (Nat.not_le.mpr hp), ge_iff_le, hq, hs, hb, Option.isNone_some, Bool.false_eq_true, if_false]

theorem execRdmResponseTimeout_broadcast (hb : broadcastUid (rqUid q.payload) = true) :
    execRdmResponseTimeout p s = .next ((s.advanceNow (s.dmxOf p).expires).endRequest p {}) := by
  simp only [execRdmResponseTimeout, if_neg (Nat.not_le.mpr hp), ge_iff_le, hq, hs, hb, Option.isNone_some, Bool.false_eq_true, if_false,
    if_true]

end
end
end

/-- Settles O46. First lanes, received universes and Ixnik, then scan ports and the RDM controllers. The model's choices are
LINK_DOWN with VALUE 0 (log entry 258), the answers to broadcasts and with no transaction (143), a response that is cut off
(259), and which receive records a unit takes (231). -/
theorem networkAndPanelEventsComplete : Obligations.NetworkAndPanelEventsComplete := by
  unfold Obligations.NetworkAndPanelEventsComplete
  refine ⟨fun s => ⟨?linkUp, ?linkSpeed, fun l => execLaneLinkDown_up s, fun l => rfl, ?notTaken, ?arp, ?arpRefresh,
      fun l rx src b ht => execIcmpEchoRx_taken s ht src b, fun l rx g ht => execIgmpQueryRx_taken s ht g, ?sacnDropped, ?sacnUsed,
      fun l rx cid u e v => execSacnSyncRx_one s, fun u cid y => execSacnSourceTimeout_source s,
      fun u cid y a b since => execSacnSyncTimeout_waiting s, fun l d => execSacnDiscoveryTx_sends s,
      fun l rx h b ht => execIxnikPacketRx_unknown s ht h b, ?ixnik⟩,
    fun s => ⟨?refresh, ?lineWrite, fun p n line d words t => rfl, fun p d => execTeStuckTimeout_first s,
      fun p d flow f q at_ hp hh hd hf => execRdmTransactionStart_request s hp hh hd hf,
      fun p d flow f q at_ hp hh hd hf => execRdmTransactionStart_discovery s hp hh hd hf,
      fun p d q txn m hp hd hdm hq hs hb => execRdmResponseRx_good s hp hd hdm hq hs hb,
      fun p d q txn m hp hd hdm hq hs hb => execRdmResponseRx_bad s hp hd hdm hq hs hb,
      fun p d m hp hd hdm => execRdmResponseRx_late s hp hd hdm m,
      fun p q txn hp hq hs => execRdmResponseTimeout_single s hp hq hs,
      fun p q txn hp hq hs => execRdmResponseTimeout_broadcast s hp hq hs⟩⟩
  case linkUp => exact fun l sp al => execLaneLinkUp_atSpeed s al
  case linkSpeed => exact fun l d sp al => execLaneLinkUp_otherSpeed s al
  case notTaken =>
    rintro l d rx hl hd ht t rfl
    have drop (f : State → State) : (.next (s.receive l rx f) : Outcome) = _ :=
      congrArg Host.Outcome.next (s.receive_of_not_takesFrame l rx f d hl hd ht)
    refine ⟨fun q ip mac g => drop _, fun a b => drop _, fun g => drop _, fun cid v => drop _, fun h b => drop _, ?_⟩
    rintro p rfl rfl
    exact drop _
  case arp => exact fun l rx d ip mac target req hl ht hd => execArpPacketRx_taken s ht hd req ip mac target
  case arpRefresh =>
    exact fun l ip e he => ⟨execArpRefresh_answered s he, execArpRefresh_failed s he, execArpRefresh_removed s he⟩
  case sacnDropped =>
    exact fun p d ht hd hl h => (execSacnDataRx_taken s ht hd hl).trans (congrArg Host.Outcome.next (s.useSacn_dropped d h))
  case sacnUsed =>
    intro p d ht hd hl hw hs hp hlost hseq
    have htaken := execSacnDataRx_taken s ht hd hl
    exact ⟨fun hterm hroom => htaken.trans (congrArg Host.Outcome.next (s.useSacn_terminated hw hs hp hlost hseq d hterm hroom)),
      fun hterm hsync hnone => htaken.trans (congrArg Host.Outcome.next (s.useSacn_first hw hs hp hlost hseq d hterm hsync hnone))⟩
  case ixnik =>
    intro l rx h b d ht hm hv hd hf
    refine ⟨execIxnikPacketRx_used s ht h b hm hv hd hf, fun hc => ?_⟩
    rw [s.useIxnik_claimLost d b hc]
    refine ⟨?_, rfl⟩
    rw [State.ixOf, Tab.getD_put_self]
  case refresh => exact fun p d flow f codes n det => execScanRefreshStart_plain s det
  case lineWrite =>
    exact fun p waited det flow f n d codes key x hp hf hn hd hm hx ht hframe hh =>
      execScanLineWrite_open s waited det hp hf hn hd hm hx ht hframe hh

end Sys2Proof.Machine
end

section
/-! SUPPORT. Commands of class S (R58, R59): what one that executes makes of the state, and that everything else about it is the
host interface. -/

namespace Sys2Proof.Machine

/-! ## The body of a class S command -/

/-- A class S command is refused, or replaces the staging area and answers OK without data. -/
theorem runStaged_cases (f : Req → Cfg → State → Chk? Cfg) (r : Req) (s : State) :
    (∃ b, runStaged f r s = .error b) ∨ ∃ c, runStaged f r s = .ok (s.withArea c, .ok) := by
  unfold runStaged
  split
  · exact .inl ⟨_, rfl⟩
  · split
    · exact .inl ⟨_, rfl⟩
    · exact .inr ⟨_, rfl⟩

theorem runStaged_of_not_holder (f : Req → Cfg → State → Chk? Cfg) {r : Req} {s : State} (h : s.stage.holder ≠ some r.session) :
    runStaged f r s = .error ⟨Status.notBasting, s.stage.holder.getD 0⟩ := if_pos h

theorem Op.result_staged {op : Op} {f : Req → Cfg → State → Chk? Cfg} (hb : op.body = .staged f) (r : Req) (s : State) :
    op.result r s = runStaged f r s := by rw [Op.result, hb]

theorem Op.execute_staged {op : Op} {f : Req → Cfg → State → Chk? Cfg} (hb : op.body = .staged f) (r : Req) (s : State) :
    (∃ b, op.execute r s = .error b) ∨ ∃ c, op.execute r s = .ok (s.withArea c, .ok) := by
  unfold Op.execute
  split
  · exact .inl ⟨_, rfl⟩
  · split
    · exact .inl ⟨_, rfl⟩
    · rw [hb]
      exact runStaged_cases f r s

@[simp] theorem State.entered_stage (op : Op) (r : Req) (s : State) : (s.entered op r).stage = s.stage := by
  obtain ⟨h, l, n, e⟩ := s.entered_eq op r
  rw [e]

/-! ## What a class S command leaves alone -/

theorem State.coreStaged_of_core {s t : State} (h : t.core = s.core) : t.coreStaged = s.coreStaged := congrArg (State.withArea {}) h

theorem State.withArea_coreStaged (c : Cfg) (s : State) : (s.withArea c).coreStaged = s.coreStaged := rfl

/-- A command without data in its reply ends as it executed, whatever its reads met (R439). -/
theorem State.concludeRead_of_no_data {r : Req} {x : Chk? (State × Res)} (h : repliesPoison r x = false) (s : State) :
    s.concludeRead r x = s.conclude r.pair x := by
  unfold State.concludeRead
  rw [h]
  cases r.poison <;> rfl

theorem repliesPoison_ok (r : Req) (s : State) : repliesPoison r (.ok (s, .ok)) = false := Bool.and_false _

theorem State.conclude_staged {op : Op} {f : Req → Cfg → State → Chk? Cfg} (hb : op.body = .staged f) (r : Req) (s : State) :
    (s.concludeRead r (op.execute r s)).coreStaged = s.coreStaged := by
  rcases Op.execute_staged hb r s with ⟨b, h⟩ | ⟨c, h⟩
  · rw [h, State.concludeRead_of_no_data rfl]
    exact State.coreStaged_of_core (State.answer_core _ _ s)
  · rw [h, State.concludeRead_of_no_data (repliesPoison_ok r _)]
    exact (State.coreStaged_of_core (State.answer_core _ _ (s.withArea c))).trans (s.withArea_coreStaged c)

theorem Op.takesJob_of_staged {op : Op} (hc : op.cls = .staged) : op.takesJob = false := by rw [Op.takesJob, hc]; rfl

/-- A class S command that has been accepted is refused by its header, executes, or waits for its turn. -/
theorem State.start_staged {op : Op} {f : Req → Cfg → State → Chk? Cfg} (hc : op.cls = .staged) (hb : op.body = .staged f) (r : Req)
    (s : State) : (s.start op r).coreStaged = s.coreStaged := by
  have htouch : (s.touch op.code r).coreStaged = s.coreStaged := State.coreStaged_of_core (s.touch_core op.code r)
  unfold State.start
  split
  · exact State.coreStaged_of_core (State.answer_core _ _ s)
  · dsimp only
    split
    · exact (State.conclude_staged hb r _).trans htouch
    · exact (State.coreStaged_of_core (State.hold_core op r _ (Op.takesJob_of_staged hc))).trans htouch

/-- Settles O17: a pair takes no command, or accepts it and starts it, and neither touches more than the area. -/
theorem stagedCommandsChangeOnlyTheArea : Obligations.StagedCommandsChangeOnlyTheArea := by
  unfold Obligations.StagedCommandsChangeOnlyTheArea
  intro op f r s t hc hb h
  unfold hostCommand at h
  split at h
  · cases h; rfl
  · split at h
    · cases h; rfl
    · cases h
      exact (State.start_staged hc hb r _).trans (State.coreStaged_of_core (s.accept_core op.code r))

/-- Settles O18: acceptance leaves the staging area as it is, and the body of the command asks for its holder first. -/
theorem stagedCommandNeedsTheArea : Obligations.StagedCommandNeedsTheArea := by
  unfold Obligations.StagedCommandNeedsTheArea
  intro op f r s hb hr hh
  have hrefused : op.result r (s.entered op r) = .error ⟨Status.notBasting, s.stage.holder.getD 0⟩ := by
    rw [Op.result_staged hb, runStaged_of_not_holder f (by rwa [State.entered_stage]), State.entered_stage]
  exact hostCommand_refused op r s ⟨Status.notBasting, s.stage.holder.getD 0⟩ hr hrefused

/-- A command whose meaning is that of its opcode replaces the staging area where its body does. -/
theorem stages_of_exec {i : Req → Instr} {op : Op} (hi : ∀ r s, exec (i r) s = hostCommand op r s) (r : Req) (s : State) :
    Stages i op r s :=
  fun c hr hc => (hi r s).trans (hostCommand_staged op r s c hr hc)

/-- Settles O15: each of the 35 commands means its opcode, and a ready one of class S replaces the area (`hostCommand_staged`). -/
theorem stagedCommandsComplete : Obligations.StagedCommandsComplete := by
  unfold Obligations.StagedCommandsComplete
  refine ⟨fun r s => ?_, fun r s => ?_⟩ <;> and_intros <;> exact stages_of_exec (fun _ _ => rfl) r s

end Sys2Proof.Machine
end

section
/-! SUPPORT. What a press leaves alone (R61-R63): every part of the device that takes the new configuration over leaves the
staging area and the configuration in force as they are. -/

namespace Sys2Proof.Machine

/-- What is kept unchanged by each step of a fold is unchanged by the fold. -/
theorem foldl_unchanged {σ α β : Type} (p : σ → β) {f : σ → α → σ} (h : ∀ s a, p (f s a) = p s) (l : List α) :
    ∀ s, p (l.foldl f s) = p s := by
  induction l with
  | nil => exact fun s => rfl
  | cons a l ih => exact fun s => (ih (f s a)).trans (h s a)

/-- The configurations that a state holds: the staging area with what is pending, and the one in force. -/
def State.configs (s : State) : Stage × Option InForce := (s.stage, s.force)

theorem State.configs_of_core {s t : State} (h : t.core = s.core) : t.configs = s.configs :=
  show t.core.configs = s.core.configs from congrArg State.configs h

/-! ## Shared operations -/

theorem State.raise_configs (a b c : Nat) (s : State) : (s.raise a b c).configs = s.configs :=
  Prod.ext (State.raise_stage a b c s) (State.raise_force a b c s)

theorem State.raiseFrame_configs (a b c d : Nat) (s : State) : (s.raiseFrame a b c d).configs = s.configs :=
  Prod.ext (State.raiseFrame_stage a b c d s) (State.raiseFrame_force a b c d s)

theorem State.drive_configs (b : Nat) (o : Output) (s : State) : (s.drive b o).configs = s.configs :=
  Prod.ext (State.drive_stage b o s) (State.drive_force b o s)

theorem State.updDom_configs (n : Nat) (f : PtpDomain → PtpDomain) (s : State) : (s.updDom n f).configs = s.configs :=
  Prod.ext (State.updDom_stage n f s) (State.updDom_force n f s)

theorem State.endJob_configs (j : Job) (status detail : Nat) (s : State) : (s.endJob j status detail).configs = s.configs :=
  (State.raise_configs _ _ _ _).trans ((State.configs_of_core (State.finish_core _ _ _)).trans rfl)

/-- A reply that has waited changes nothing but the host interface. -/
theorem State.complete_core (n : Nat) (w : Wait) (a : Ans) (s : State) : (s.complete n w a).core = s.core := by
  unfold State.complete
  dsimp only
  split
  · rw [State.setRing_core, State.record_core]
  · split
    · rfl
    · rw [State.flush_core, State.setRing_core, State.record_core]

theorem State.completeAny_core (w : Wait) (a : Ans) (s : State) : (s.completeAny w a).core = s.core :=
  foldl_unchanged State.core (fun s n => s.complete_core n w a) _ s

theorem State.releaseMirrors_core (p : Nat → Bool) (s : State) : (s.releaseMirrors p).core = s.core := by
  refine foldl_unchanged State.core (fun s e => foldl_unchanged State.core (fun s x => ?_) _ s) _ s
  split
  · split
    · exact s.complete_core _ _ _
    · rfl
  · rfl

/-! ## Time -/

theorem State.stepTo_configs (x : Src) (d : Int) (s : State) : (s.stepTo x d).configs = s.configs := by
  have hstep : (s.stepBy d).configs = s.configs := State.raise_configs _ _ _ _
  unfold State.stepTo
  dsimp only
  split
  · exact (State.updDom_configs _ _ _).trans hstep
  · split
    · exact (State.updDom_configs _ _ _).trans hstep
    · exact hstep

theorem State.changeSource_configs (x : Src) (s : State) : (s.changeSource x).configs = s.configs := by
  unfold State.changeSource
  split
  · rfl
  · dsimp only
    split
    · exact State.raise_configs _ _ _ _
    · split
      · exact State.raise_configs _ _ _ _
      · split
        · exact State.raise_configs _ _ _ _
        · exact (State.stepTo_configs _ _ _).trans (State.raise_configs _ _ _ _)

theorem State.firstLock_configs (s : State) : s.firstLock.configs = s.configs := by
  unfold State.firstLock
  split
  · exact s.changeSource_configs _
  · rfl

theorem State.setSrc_configs (x : Src) (st : SrcState) (s : State) : (s.setSrc x st).configs = s.configs := by
  unfold State.setSrc
  extract_lets _ _ _ _ _ _ settled
  have hsettled : settled.configs = s.configs := by
    unfold settled
    split <;> rfl
  split
  · rfl
  · exact (State.firstLock_configs _).trans ((State.raise_configs _ _ _ _).trans hsettled)

theorem State.restartSource_configs (x : Src) (on : Bool) (s : State) : (s.restartSource x on).configs = s.configs := by
  refine (State.setSrc_configs _ _ _).trans ?_
  cases x with
  | domA => exact State.updDom_configs _ _ _
  | domB => exact State.updDom_configs _ _ _
  | ltc => rfl
  | fsync => rfl
  | free => rfl

theorem State.ptpPorts_configs (s : State) : s.ptpPorts.configs = s.configs := by
  refine foldl_unchanged State.configs (fun s n => ?_) _ s
  split
  · rfl
  · dsimp only
    split
    · exact s.setSrc_configs _ _
    · split
      · exact s.setSrc_configs _ _
      · rfl

theorem State.pressTime_configs (c c' : Cfg) (s : State) : (s.pressTime c c').configs = s.configs := by
  unfold State.pressTime
  extract_lets _ clocked
  have hclocked : clocked.configs = s.configs := by
    unfold clocked
    split <;> rfl
  refine (foldl_unchanged State.configs (fun s x => ?_) _ _).trans hclocked
  split
  · rfl
  · extract_lets _ _ steered _ unselected
    have hsteered : steered.configs = s.configs := by
      unfold steered
      split <;> exact s.restartSource_configs x _
    have hunselected : unselected.configs = s.configs := by
      unfold unselected
      split <;> exact hsteered
    split
    · exact hsteered
    · split
      · exact (State.changeSource_configs _ _).trans hunselected
      · exact hunselected

/-! ## Lanes and flows -/

theorem State.dropLink_configs (l : Nat) (s : State) : (s.dropLink l).configs = s.configs := by
  unfold State.dropLink
  extract_lets t x cut
  have hcut : cut.configs = s.configs := by
    unfold cut
    split <;> rfl
  exact (State.raise_configs _ _ _ _).trans hcut

theorem State.pressLanes_configs (c c' : Cfg) (s : State) : (s.pressLanes c c').configs = s.configs := by
  refine foldl_unchanged State.configs (fun s e => ?_) _ s
  dsimp only
  split
  · exact State.dropLink_configs _ _
  · rfl

theorem State.laneSend_configs (l : Nat) (kind : String) (dest : Bytes) (dscp ip : Nat) (ports : Option (Nat × Nat)) (body : Bytes)
    (s : State) : (s.laneSend l kind dest dscp ip ports body).configs = s.configs := by
  unfold State.laneSend
  dsimp only
  split <;> rfl

theorem State.igmpReport_configs (l : Nat) (g : Nat × Nat) (s : State) : (s.igmpReport l g).configs = s.configs := by
  unfold State.igmpReport
  split <;> exact State.laneSend_configs _ _ _ _ _ _ _ _

theorem State.pressSends_configs (c c' : Cfg) (s : State) : (s.pressSends c c').configs = s.configs := by
  refine (foldl_unchanged State.configs (fun s e => foldl_unchanged State.configs (fun s g => s.igmpReport_configs _ g) _ s) _ _).trans
    (foldl_unchanged State.configs (fun s e => ?_) _ s)
  split
  · rfl
  · dsimp only
    split
    · rfl
    · exact State.laneSend_configs _ _ _ _ _ _ _ _

theorem State.settleLeads_configs (n : Nat) (s : State) : (s.settleLeads n).configs = s.configs := by
  refine foldl_unchanged State.configs (fun s e => ?_) _ s
  extract_lets
  split
  · exact (State.raise_configs _ _ _ _).trans rfl
  · rfl

/-! ## Colour and canvases -/

theorem State.endRun_configs (r : CalRun) (outcome status detail : Nat) (s : State) :
    (s.endRun r outcome status detail).configs = s.configs := State.endJob_configs _ _ _ _

theorem State.pressColour_configs (c c' : Cfg) (s : State) : (s.pressColour c c').configs = s.configs := by
  unfold State.pressColour
  extract_lets replaced unbound dropped ended scripts
  have hdropped : dropped.configs = s.configs := foldl_unchanged State.configs (by intros; rfl) _ s
  exact (foldl_unchanged State.configs (fun s r => s.endRun_configs r _ _ _) _ dropped).trans hdropped

theorem State.freeBuffer_configs (id : Nat) (s : State) : (s.freeBuffer id).configs = s.configs :=
  (State.raise_configs _ _ _ _).trans
    (foldl_unchanged State.configs (fun s _ => State.configs_of_core (State.finish_core _ _ s)) _ _)

theorem State.retire_configs (before : List Nat) (s : State) : (s.retire before).configs = s.configs := by
  refine foldl_unchanged State.configs (fun s id => ?_) _ s
  split
  · rfl
  · split
    · rfl
    · split
      · exact s.freeBuffer_configs id
      · exact State.raise_configs _ _ _ _

theorem State.pressCanvases_configs (c c' : Cfg) (s : State) : (s.pressCanvases c c').configs = s.configs :=
  (State.retire_configs _ _).trans (foldl_unchanged State.configs (fun s _ => State.raise_configs _ _ _ s) _ _)

/-! ## Ports and meters -/

theorem State.scanStop_configs (n : Nat) (d : Bytes) (s : State) : (s.scanStop n d).configs = s.configs :=
  (State.drive_configs _ _ _).trans ((State.drive_configs _ _ _).trans (State.drive_configs _ _ _))

theorem State.pressScan_configs (c c' : Cfg) (running : Bool) (frame : Nat) (s : State) :
    (s.pressScan c c' running frame).configs = s.configs := by
  refine (foldl_unchanged State.configs (by intros; rfl) _ _).trans (foldl_unchanged State.configs (fun s e => ?_) _ s)
  dsimp only
  split
  · rfl
  · exact State.scanStop_configs _ _ _

theorem State.endRequest_configs (p : Nat) (a : Ans) (s : State) : (s.endRequest p a).configs = s.configs :=
  (State.configs_of_core (State.completeAny_core _ _ _)).trans rfl

theorem State.pressRdm_configs (c' : Cfg) (s : State) : (s.pressRdm c').configs = s.configs := by
  refine foldl_unchanged State.configs (fun s e => ?_) _ s
  dsimp only
  split
  · rfl
  · have hrequest (a : Ans) : (if e.2.request.isSome then s.endRequest e.1 a else s).configs = s.configs := by
      split
      · exact s.endRequest_configs _ _
      · rfl
    split
    · exact (State.endJob_configs _ _ _ _).trans (hrequest _)
    · exact hrequest _

theorem State.openOutputs_configs (c : Cfg) (f : Nat) (s : State) : (s.openOutputs c f).configs = s.configs :=
  (State.drive_configs _ _ _).trans (State.drive_configs _ _ _)

theorem State.openFeeder_configs (c : Cfg) (f : Nat) (st : FeederState) (s : State) : (s.openFeeder c f st).configs = s.configs :=
  (State.openOutputs_configs _ _ _).trans rfl

theorem State.closeFeeder_configs (f : Nat) (s : State) : (s.closeFeeder f).configs = s.configs :=
  (foldl_unchanged State.configs (by intros; rfl) _ _).trans ((State.drive_configs _ _ _).trans (State.drive_configs _ _ _))

theorem State.pressPulse_configs (c : Cfg) (output : Nat) (d : Bytes) (s : State) : (s.pressPulse c output d).configs = s.configs := by
  unfold State.pressPulse
  split <;> rfl

theorem State.pressMeter_configs (c : Cfg) (frame m : Nat) (d : Bytes) (s : State) : (s.pressMeter c frame m d).configs = s.configs := by
  unfold State.pressMeter
  split
  · rfl
  · dsimp only
    split <;> rfl

theorem State.pressFeeder_configs (c : Cfg) (f : Nat) (d : Bytes) (s : State) : (s.pressFeeder c f d).configs = s.configs := by
  unfold State.pressFeeder
  split
  · rfl
  · extract_lets fresh
    have hfresh : fresh.configs = s.configs := by
      unfold fresh
      split <;> rfl
    split
    · exact (State.closeFeeder_configs _ _).trans hfresh
    · exact hfresh

theorem State.pressMeters_configs (c c' : Cfg) (frame : Nat) (s : State) : (s.pressMeters c c' frame).configs = s.configs := by
  unfold State.pressMeters
  extract_lets _ stored _ opened _ due pulsed metered fed
  have hstored : stored.configs = s.configs := foldl_unchanged State.configs (by intros; rfl) _ s
  have hopened : opened.configs = s.configs :=
    (foldl_unchanged State.configs (fun s f => s.openFeeder_configs c f .open_) _ stored).trans hstored
  have hpulsed : pulsed.configs = s.configs :=
    (foldl_unchanged State.configs (fun s e => s.pressPulse_configs c _ _) _ due).trans hopened
  have hmetered : metered.configs = s.configs :=
    (foldl_unchanged State.configs (fun s e => s.pressMeter_configs c frame _ _) _ pulsed).trans hpulsed
  have hfed : fed.configs = s.configs :=
    (foldl_unchanged State.configs (fun s e => s.pressFeeder_configs c _ _) _ metered).trans hmetered
  split <;> exact hfed

theorem State.pressPair_configs (c' : Cfg) (s : State) : (s.pressPair c').configs = s.configs := by
  unfold State.pressPair
  split
  · exact (State.configs_of_core (State.releaseMirrors_core _ _)).trans rfl
  · split <;> rfl

/-! ## The press (R61-R63) -/

section
variable (c c' : Cfg) (s : State)

theorem State.pressBalls_configs (frame : Nat) : (s.pressBalls c c' frame).configs = s.configs := rfl
theorem State.pressParams_configs : (s.pressParams c c').configs = s.configs := rfl
theorem State.pressPlaybacks_configs : (s.pressPlaybacks c c').configs = s.configs := rfl
theorem State.pressEffects_configs : (s.pressEffects c c').configs = s.configs := rfl
theorem State.pressFlows_configs (running : Bool) (frame : Nat) : (s.pressFlows c c' running frame).configs = s.configs := rfl
theorem State.pressReceive_configs : (s.pressReceive c c').configs = s.configs := rfl
theorem State.pressVideo_configs : (s.pressVideo c c').configs = s.configs := rfl
theorem State.pressWitness_configs : (s.pressWitness c c').configs = s.configs := rfl
theorem State.pressLatency_configs : (s.pressLatency c c').configs = s.configs := rfl
theorem State.pressDmx_configs : (s.pressDmx c').configs = s.configs := rfl

end

/-- The configuration that comes into force is in force when every part has taken it over, and nothing else is staged. -/
theorem State.takeForce_configs (c' : Cfg) (sched : Sched) (running : Bool) (frame : Nat) (s : State) :
    (s.takeForce c' sched running frame).configs = (s.stage, some { cfg := c', sched }) := by
  simp only [State.takeForce, State.pressPair_configs, State.pressMeters_configs, State.pressDmx_configs, State.pressRdm_configs,
    State.pressScan_configs, State.settleLeads_configs, State.pressLatency_configs, State.pressWitness_configs,
    State.pressVideo_configs, State.pressCanvases_configs, State.pressColour_configs, State.pressSends_configs,
    State.pressReceive_configs, State.pressFlows_configs, State.firstLock_configs, State.ptpPorts_configs,
    State.pressLanes_configs, State.pressTime_configs, State.pressEffects_configs, State.pressPlaybacks_configs,
    State.pressParams_configs, State.pressBalls_configs]
  rfl

theorem State.pressPending_configs (p : Pending) (n : Nat) (s : State) :
    (s.pressPending p n).configs = ({ s.stage with pending := none }, some { cfg := p.cfg, sched := p.sched }) := by
  unfold State.pressPending
  extract_lets _ unstaged forced _ running
  have hrunning : running.configs = forced.configs := by
    unfold running
    split <;> rfl
  exact (State.raiseFrame_configs _ _ _ _ running).trans (hrunning.trans (unstaged.takeForce_configs _ _ _ _))

section
variable {s : State} {p : Pending} (hp : s.stage.pending = some p)
include hp

/-- On a unit that is not of a pair, the cut of the named frame, or without one the next cut, presses what is pending. -/
theorem State.pressAt_due {n : Nat} (hf : p.frame = none ∨ p.frame = some n) (hu : s.pair.st = .unpaired) :
    s.pressAt n none false = (true, s.pressPending p n) := by
  have hdue : (p.frame.all fun f => decide (f = n)) = true := by rcases hf with h | h <;> simp [h]
  simp only [State.pressAt, hp, hdue, hu, Bool.not_true, Bool.false_eq_true, if_false, reduceCtorEq, false_and]

theorem State.pressAt_other {n m : Nat} (hf : p.frame = some m) (hm : m ≠ n) : s.pressAt n none false = (false, s) := by
  have hdue : (p.frame.all fun f => decide (f = n)) = false := by rw [hf]; exact decide_eq_false hm
  simp only [State.pressAt, hp, hdue, Bool.not_false, Bool.false_eq_true, if_false, if_true]

end

/-- Settles O19: the press takes what is pending, and every part of the device that it reaches leaves the staging area and the
configuration in force as the press has set them (`State.takeForce_configs`). -/
theorem pressTakesThePendingConfiguration : Obligations.PressTakesThePendingConfiguration := by
  unfold Obligations.PressTakesThePendingConfiguration
  refine fun s p n hp => ⟨fun hf hu => ?_, fun m hf hm => State.pressAt_other hp hf hm⟩
  have hpress := s.pressPending_configs p n
  have hstage : (s.pressPending p n).stage = { s.stage with pending := none } := congrArg Prod.fst hpress
  have hforce : (s.pressPending p n).force = some { cfg := p.cfg, sched := p.sched } := congrArg Prod.snd hpress
  rw [State.pressAt_due hp hf hu]
  exact ⟨rfl, by rw [hstage], by rw [hforce]; rfl⟩

end Sys2Proof.Machine
end

section
/-! SUPPORT. The commands of the staging area (R58-R62, R78, R476, R558): what the body of each gives where its checks pass. -/

namespace Sys2Proof.Machine

/-- A ready command whose body ends in `t` and answers `a`. -/
theorem runs_of_result {i : Req → Instr} {op : Op} (hi : ∀ r s, exec (i r) s = hostCommand op r s) {r : Req} {p : State → Prop}
    {t : State → State} {a : State → Ans} (h : ∀ u, p u → op.result r u = .ok (t u, .done (a u))) (s : State) : Runs i op r s p t a :=
  fun hr hp => (hi r s).trans (hostCommand_done op r s _ _ hr (h _ hp))

section
variable (r : Req) {u : State}

/-! ## The staging area and its holder (R58, R61) -/

theorem basteBeginOp_result (hp : u.stage.pending = none) (hh : u.stage.holder = none ∨ u.stage.holder = some r.session) :
    basteBeginOp.result r u = .ok ({ u with stage := { u.stage with
      holder := some r.session, area := if r.opFlag 8 then {} else u.areaStart } }, .ok) := by
  have hfree : (u.stage.holder.isNone || decide (u.stage.holder = some r.session)) = true := by
    rcases hh with h | h <;> simp [h]
  simp only [Op.result, basteBeginOp]
  rw [need_bind _ (by rw [hp]; rfl), need_bind _ hfree]

theorem basteAbortOp_result_holder {r : Req} (hh : u.stage.holder = some r.session) :
    basteAbortOp.result r u = .ok ({ u with stage := { u.stage with holder := none, area := {} } }, .ok) := by
  simp only [Op.result, basteAbortOp, hh]
  rw [need_bind _ (decide_eq_true trivial)]

theorem basteAbortOp_result_free (hh : u.stage.holder = none) :
    basteAbortOp.result r u = .ok ({ u with stage := { u.stage with pending := none } }, .ok) := by
  simp only [Op.result, basteAbortOp, hh]

/-! ## Saved copies (R476) -/

theorem configLoadOp_result {r : Req} {c : Saved} (hh : u.stage.holder = some r.session)
    (hn : newerSaved u.nv.configA u.nv.configB = some c) :
    configLoadOp.result r u = .ok (u.withArea (u.withSets { recs := c.recs }), .ok) := by
  simp only [Op.result, configLoadOp, hn]
  rw [need_bind _ (decide_eq_true hh)]
  rfl

/-- The copy that is written is good or spoilt, as the flash completes the save in time or not. -/
theorem configSaveOp_result (ha : u.gl.show_ ≠ .armed)
    (hlen : ((u.cfg.recs.filter fun x => x.kind ≠ .calSet).map fun x => x.data.length).foldl (· + ·) 0 ≤ 12582912) :
    configSaveOp.result r u =
      let c := saveCopy (u.cfg.recs.filter fun x => x.kind ≠ .calSet) u.nv.configA u.nv.configB
      let c := if Config.flashDone u.fresh then c else spoilCopy u.nv.configA u.nv.configB c.1
      .ok ({ u with fresh := u.fresh + 1, nv := { u.nv with configA := c.1, configB := c.2 } },
        .done { status := if Config.flashDone u.fresh then Status.ok else Status.flashTimeout }) := by
  simp only [Op.result, configSaveOp]
  rw [need_bind _ (decide_eq_true ha), need_bind _ (decide_eq_true hlen)]

/-! ## STAGE_READ (R558) -/

theorem stageReadOp_result {k : List RecKind} (hk : stagedKinds (u16 r.payload 0) = some k) (hsel : u8 r.payload 2 ≤ 1)
    (hlo : 1 ≤ u32 r.payload 8) (hhi : u32 r.payload 8 ≤ 65535) (hh : u8 r.payload 2 = 1 ∨ u.stage.holder ≠ none) :
    stageReadOp.result r u =
      let l := k.flatMap fun k => u.kindRecs (if u8 r.payload 2 = 0 then u.stage.area else u.cfg) k
      let some_ := (l.drop (u32 r.payload 4)).take (u32 r.payload 8)
      .ok (u, .ok (leBytes 4 some_.length ++ leBytes 4 l.length ++ some_.flatten)) := by
  have hread : (decide (u8 r.payload 2 = 1) || u.stage.holder.isSome) = true := by
    rcases hh with h | h
    · simp [h]
    · simp [Option.isSome_iff_ne_none.mpr h]
  simp only [Op.result, stageReadOp, hk]
  rw [inRange_bind _ (decide_eq_true hsel), need_bind _ hread, inRange_bind _ (decide_eq_true ⟨hlo, hhi⟩)]

/-! ## Admission and press (R60, R62, R78) -/

theorem admitOp_result {r : Req} (ha : u.gl.show_ ≠ .armed) (hh : u.stage.holder = some r.session) (hp : u.stage.pending = none)
    (hadm : u.stage.admitting = none) (hrate : u.showRuns = false ∨ rateDiffers u.cfg u.stage.area = false) :
    admitOp.result r u =
      .ok ({ (u.startJob 0x0201 r.session r.tag).2 with stage := { u.stage with
          admitting := some { job := (u.startJob 0x0201 r.session r.tag).1, flags := r.flags, frame := r.atFrame, area := u.stage.area } } },
        .done { status := Status.acceptedDeferred, payload := leBytes 4 u.jobId }) := by
  simp only [Op.result, admitOp, u.startAdmission_ok r.tag r.flags r.atFrame ha hh hp hadm hrate]
  rfl

/-- What is pending takes the frame of the command, or without one, and where that has passed, the next cut. -/
theorem pressConfigOp_result {p : Pending} (ha : u.gl.show_ ≠ .armed) (hp : u.stage.pending = some p)
    (hlate : (r.atFrame.map u.cutBegun).getD false = false ∨ r.opFlag 1 = true) :
    pressConfigOp.result r u =
      let frame := if (r.atFrame.map u.cutBegun).getD false then none else r.atFrame
      .ok ({ u with stage := { u.stage with pending := some { p with frame } } },
        .done { frame := frame.or (if u.showRuns then u.nextCut else none) }) := by
  have hin : (!(r.atFrame.map u.cutBegun).getD false || r.opFlag 1) = true := by
    rcases hlate with h | h <;> simp [h]
  simp only [Op.result, pressConfigOp, hp]
  rw [need_bind _ (decide_eq_true ha), need_bind _ hin]

theorem admitReportOp_result {p : Report} (hp : u.stage.report = some p) : admitReportOp.result r u = .ok (u, .ok p.bytes) := by
  simp only [Op.result, admitReportOp, hp]

end

/-- Settles O14, command by command. The model's choices are the sets in force in a loaded configuration (log entry 222), the
frames at which a press is late (34), and the copy that a save spoils where the flash does not complete it (170). -/
theorem bastingCommandsComplete : Obligations.BastingCommandsComplete := by
  unfold Obligations.BastingCommandsComplete
  refine fun r s => ⟨?begin_, ?abortHolder, ?abortFree, fun c => ?load, ?save, fun k => ?read, ?compile, fun p => ?press,
    fun p f => ?pressLate, fun p => ?report⟩
  case begin_ => exact runs_of_result (fun _ _ => rfl) (fun u ⟨hp, hh⟩ => basteBeginOp_result r hp hh) s
  case abortHolder => exact runs_of_result (fun _ _ => rfl) (fun u hh => basteAbortOp_result_holder hh) s
  case abortFree => exact runs_of_result (fun _ _ => rfl) (fun u hh => basteAbortOp_result_free r hh) s
  case load => exact runs_of_result (fun _ _ => rfl) (fun u ⟨hh, hn⟩ => configLoadOp_result hh hn) s
  case save => exact runs_of_result (fun _ _ => rfl) (fun u ⟨ha, hlen⟩ => configSaveOp_result r ha hlen) s
  case read =>
    exact runs_of_result (fun _ _ => rfl) (fun u ⟨hk, hsel, hlo, hhi, hh⟩ => stageReadOp_result r hk hsel hlo hhi hh) s
  case compile =>
    exact runs_of_result (fun _ _ => rfl) (fun u ⟨ha, hh, hp, hadm, hrate⟩ => admitOp_result ha hh hp hadm hrate) s
  case press =>
    refine runs_of_result (fun _ _ => rfl) (fun u ⟨ha, hp, hin⟩ => ?_) s
    rw [pressConfigOp_result r ha hp (.inl hin), hin]
    rfl
  case pressLate =>
    refine runs_of_result (fun _ _ => rfl) (fun u ⟨ha, hp, hf, hbegun, hlate⟩ => ?_) s
    rw [pressConfigOp_result r ha hp (.inr hlate), hf, Option.map_some, hbegun]
    rfl
  case report => exact runs_of_result (fun _ _ => rfl) (fun u hp => admitReportOp_result r hp) s

end Sys2Proof.Machine
end

section
/-! SUPPORT. The show-state commands (R56, R89): the start of a show, the way of a class T command to its queue, and the
transitions at a cut. -/

namespace Sys2Proof.Machine

/-! ## SHOW_START -/

theorem State.mirrors_of_unpaired {s : State} (h : s.pair.st = .unpaired) : s.mirrors = false := by simp [State.mirrors, h]

theorem State.mirrored_of_not_mirrors {s : State} (h : s.mirrors = false) (op : Nat) (r : Req) (known : Option Nat) :
    s.mirrored op r known = (s, .done { frame := known }) := by
  rw [State.mirrored, h]
  rfl

section
variable {u : State} (hu : u.pair.st = .unpaired) (hs : u.gl.show_ = .configured) (hc : u.gl.firstCut = none) (ht : u.timeReady = true)
include hu hs hc ht

/-- A CONFIGURED show starts at the frame asked for, or without one at the default, within the limit of R106 and before the
cut has begun. -/
theorem State.startShow_ok (at_ : Option Nat) (late : Bool)
    (hlimit : (at_.all fun n => decide (n ≤ u.cfg.slotAt u.tk.counter + 16777216)) = true)
    (hpassed : (at_.map u.startPassed).getD false = false) :
    u.startShow at_ late =
      .ok (at_.getD u.defaultStart, { u with gl := { u.gl with firstCut := some (at_.getD u.defaultStart) } }) := by
  have halone : (decide (u.pair.st = .unpaired) || u.pairActive) = true := by rw [decide_eq_true hu, Bool.true_or]
  have hconfigured : (decide (u.gl.show_ = .configured) && u.gl.firstCut.isNone) = true := by rw [decide_eq_true hs, hc]; rfl
  unfold State.startShow
  rw [need_bind _ halone, need_bind _ hconfigured, need_bind _ ht, need_bind _ hlimit, hpassed]
  rfl

theorem showStartOp_result (r : Req)
    (hlimit : (r.atFrame.all fun n => decide (n ≤ u.cfg.slotAt u.tk.counter + 16777216)) = true)
    (hpassed : (r.atFrame.map u.startPassed).getD false = false) :
    showStartOp.result r u =
      .ok ({ u with gl := { u.gl with firstCut := some (r.atFrame.getD u.defaultStart) } },
        .done { frame := some (r.atFrame.getD u.defaultStart) }) := by
  have hmirrors : ∀ g : Global, ({ u with gl := g } : State).mirrors = false := fun g => State.mirrors_of_unpaired hu
  simp only [Op.result, showStartOp, State.startShow_ok hu hs hc ht _ _ hlimit hpassed,
    State.mirrored_of_not_mirrors (hmirrors _)]

end

/-- Settles O20: without a frame the first cut is the default one, and a frame that is named is not passed. -/
theorem showStartFixesTheFirstCut : Obligations.ShowStartFixesTheFirstCut := by
  unfold Obligations.ShowStartFixesTheFirstCut
  refine fun r s => ⟨runs_of_result (fun _ _ => rfl) (fun u ⟨hu, hs, hc, ht, hf⟩ => ?_) s,
    fun n => runs_of_result (fun _ _ => rfl) (fun u ⟨hu, hs, hc, ht, hf, hlimit, hdepth, hcut⟩ => ?_) s⟩
  · rw [showStartOp_result hu hs hc ht r (by rw [hf]; rfl) (by rw [hf]; rfl), hf]
    rfl
  · have hpassed : u.startPassed n = false := by
      simp only [State.startPassed, Nat.not_lt.mpr hdepth, Nat.not_le.mpr hcut, decide_false, Bool.or_self]
    rw [showStartOp_result hu hs hc ht r (by rw [hf]; exact decide_eq_true hlimit) (by rw [hf]; exact hpassed), hf]
    rfl

/-! ## The way to the queue -/

/-- A class T command whose meaning is that of its opcode goes to its queue, mirrored or not. -/
theorem queues_of_exec {i : Req → Instr} {op : Op} (hi : ∀ r s, exec (i r) s = hostCommand op r s) (r : Req) (s : State) :
    Queues i op r s := by
  intro slot known hr hq
  have hmirrored := fun hm => (hi r s).trans (hostCommand_mirrored op r s slot known hr hq hm)
  refine ⟨fun hm => (hi r s).trans (hostCommand_queued op r s slot known hr hq hm), fun ha => ?_, fun hsolo hpeer => ?_⟩
  · rw [hmirrored (by simp [State.mirrors, ha]), if_pos ha]
    rfl
  · rw [hmirrored (by simp [State.mirrors, hsolo, hpeer]), if_neg (by rw [hsolo]; decide)]
    rfl

/-! ## The transitions at a cut (R56) -/

theorem State.gl_of_core {s t : State} (h : t.core = s.core) : t.gl = s.gl := show t.core.gl = s.core.gl by rw [h]

theorem State.endJob_gl (j : Job) (status detail : Nat) (s : State) : (s.endJob j status detail).gl = s.gl :=
  (State.raise_gl _ _ _ _).trans ((State.gl_of_core (State.finish_core _ _ _)).trans rfl)

theorem State.endRun_gl (x : CalRun) (outcome status detail : Nat) (s : State) : (s.endRun x outcome status detail).gl = s.gl :=
  (State.endJob_gl _ _ _ _).trans rfl

theorem State.endCalRuns_gl (s : State) : s.endCalRuns.gl = s.gl :=
  foldl_unchanged State.gl (fun s x => s.endRun_gl x _ _ _) _ s

theorem State.endLatRun_gl (x : LatRun) (status detail : Nat) (s : State) : (s.endLatRun x status detail).gl = s.gl := by
  unfold State.endLatRun
  extract_lets
  split
  · rfl
  · exact (State.endJob_gl _ _ _ _).trans rfl

theorem State.endLatRuns_gl (s : State) : s.endLatRuns.gl = s.gl :=
  foldl_unchanged State.gl (fun s _ => s.endLatRun_gl _ _ _) _ s

theorem State.withdrawn_gl (cause : WithdrawCause) (q : Queued) (s : State) : (s.withdrawn cause q).gl = s.gl :=
  (State.raise_gl _ _ _ _).trans rfl

theorem State.withdraw_gl (cause : WithdrawCause) (p : Queued → Bool) (s : State) : (s.withdraw cause p).gl = s.gl :=
  (foldl_unchanged State.gl (fun s q => s.withdrawn_gl cause q) _ _).trans rfl

theorem State.stopPair_gl (s : State) : s.stopPair.gl = s.gl := by
  unfold State.stopPair
  split
  · rfl
  · exact (State.gl_of_core (State.releaseMirrors_core _ _)).trans rfl

theorem State.enterHold_show (s : State) : s.enterHold.gl.show_ = .safeHold := by
  rw [State.enterHold, State.endLatRuns_gl, State.endCalRuns_gl]

theorem State.stopShow_show (n : Nat) (s : State) : (s.stopShow n).gl.show_ = .configured := by
  unfold State.stopShow
  extract_lets _ _ stopped withdrawn
  have hwithdrawn : withdrawn.gl = stopped.gl := by
    unfold withdrawn
    split
    · exact State.withdraw_gl _ _ stopped
    · rfl
  rw [State.stopPair_gl, State.endLatRuns_gl, State.endCalRuns_gl, hwithdrawn]

/-- The cut moves the show where R56 lists the command in the show state. -/
theorem State.move_show {s : State} {op : Nat} {st : ShowState} (h : showMove op s.gl.show_ = some st) (n : Nat) :
    (s.move n op).gl.show_ = st := by
  unfold State.move
  rw [h]
  cases st with
  | configured => exact s.stopShow_show n
  | safeHold => exact s.enterHold_show
  | idle => rfl
  | running => rfl
  | armed => rfl

/-- Settles O21: each command means its opcode and goes to its queue (`queues_of_exec`), and the cut moves the show along the
table of R56 (`State.move_show`). -/
theorem showStateCommandsComplete : Obligations.ShowStateCommandsComplete := by
  unfold Obligations.ShowStateCommandsComplete
  refine ⟨fun r s => ?queues, fun n s => ⟨fun h => ?arm, fun h => ?disarm, fun h => ?stop, fun h => ?hold, fun h => ?resume⟩⟩
  case queues => and_intros <;> exact queues_of_exec (fun _ _ => rfl) r s
  case arm => exact State.move_show (by rw [h]; rfl) n
  case disarm => exact State.move_show (by rw [h]; rfl) n
  case stop => rcases h with h | h <;> exact State.move_show (by rw [h]; rfl) n
  case hold => rcases h with h | h <;> exact State.move_show (by rw [h]; rfl) n
  case resume => exact State.move_show (by rw [h]; rfl) n

end Sys2Proof.Machine
end

section
/-! SUPPORT. Events of a frame: the cut (R50, R390, R393, R470), the segments and the end of a render job (R255, R258, R263,
R439), background items (R75, R76) and launches (R295, R296). -/

namespace Sys2Proof.Machine

section
variable {s : State}

/-! ## The cut -/

/-- A member that waits for no heartbeat, or does not follow, has nothing to decide before its next cut. -/
theorem State.decideLast_decided (h : s.pair.awaits = none ∨ s.follows = false) : s.decideLast = s := by
  unfold State.decideLast
  split
  · next ha _ =>
    rcases h with h | h
    · rw [h] at ha
      cases ha
    · rw [h]
      rfl
  · rfl

theorem State.decideLast_missed {m e : Nat} {d : Bytes} (ha : s.pair.awaits = some m) (hp : s.pairNow = some (d, e))
    (hf : s.follows = true) :
    s.decideLast = (s.advanceTo (s.cfg.cutInstant m + usT (pdTimeout d))).missHeartbeat m 2 := by
  simp only [State.decideLast, ha, hp, hf, if_true]

theorem execCut_none (h : s.decideLast.nextCut = none) : execCut s = .next s.decideLast := by
  simp only [execCut, h]

theorem execCut_updatePause {n : Nat} (h : s.decideLast.nextCut = some n) (hd : s.decideLast.gl.device = .updatePause) :
    execCut s = .next ((s.decideLast.advanceTo (s.decideLast.cfg.cutInstant n)).openSlot.startReady.skipFrame n) := by
  simp only [execCut, h, State.advanceTo_gl, hd, if_true]

section
variable {n : Nat} (h : s.decideLast.nextCut = some n) (hd : s.decideLast.gl.device ≠ .updatePause)
include h hd

theorem execCut_activates (ha : s.decideLast.upd.activate.isSome = true) :
    execCut s = .next ((s.decideLast.advanceTo (s.decideLast.cfg.cutInstant n)).beginPause.openSlot.startReady.skipFrame n) := by
  simp only [execCut, h, State.advanceTo_gl, State.advanceTo_upd, if_neg hd, ha, if_true]

theorem execCut_cuts (ha : s.decideLast.upd.activate = none) :
    execCut s =
      let u := s.decideLast.advanceTo (s.decideLast.cfg.cutInstant n)
      .next (if u.follows then u.followCut n else u.runCut n u.rx u.video none false) := by
  simp only [execCut, h, State.advanceTo_gl, State.advanceTo_upd, if_neg hd, ha, Option.isSome_none, Bool.false_eq_true, if_false]

end

/-! ## Render jobs -/

section
variable {l : Nat} {j : JobRun}

theorem State.endSegment_last (h : j.segments ≤ j.done + 1) : s.endSegment l j = s := if_pos h

theorem State.endSegment_next (h : j.done + 1 < j.segments) (hm : Tab.has s.sch.marks l = false) :
    s.endSegment l j = { s with sch := { s.sch with
      affinity := Tab.put s.sch.affinity j.num l, running := Tab.put s.sch.running l { j with done := j.done + 1, segAt := s.now } } } := by
  simp only [State.endSegment, ge_iff_le, if_neg (Nat.not_le.mpr h), hm, Bool.false_eq_true, if_false]

/-- A marked job is pre-empted at its segment boundary and goes back to the head of its list (R255). -/
theorem State.endSegment_marked (h : j.done + 1 < j.segments) (hm : Tab.has s.sch.marks l = true) :
    s.endSegment l j = ({ s with sch := { s.sch with
      affinity := Tab.put s.sch.affinity j.num l, running := Tab.del s.sch.running l, marks := Tab.del s.sch.marks l,
      ready := { j with done := j.done + 1, preempted := true, asked := false } :: s.sch.ready } } : State).dispatch := by
  simp only [State.endSegment, ge_iff_le, if_neg (Nat.not_le.mpr h), hm, if_true]

theorem State.memCorrected_sch (k : MemKind) (a : Nat) (s : State) : (s.memCorrected k a).sch = s.sch := by
  unfold State.memCorrected
  extract_lets
  split
  · exact (State.raise_sch _ _ _ _).trans rfl
  · rfl

theorem State.memCorrected_fuses (k : MemKind) (a : Nat) (s : State) : (s.memCorrected k a).fuses = s.fuses := by
  unfold State.memCorrected
  extract_lets
  split
  · exact (State.raise_fuses _ _ _ _).trans rfl
  · rfl

section
variable (hl : l < s.renderLanes) (hj : Tab.find s.sch.running l = some j)
include hl hj

theorem execJobSegmentComplete_clean : execJobSegmentComplete l .clean s = .next (s.endSegment l j) := by
  simp only [execJobSegmentComplete, ge_iff_le, if_neg (Nat.not_le.mpr hl), hj]

/-- Errors of the lane's store that were corrected are counted, and the segment ends as a clean one does (R263). -/
theorem execJobSegmentComplete_corrected (n : Nat) :
    execJobSegmentComplete l (.corrected n) s =
      execJobSegmentComplete l .clean { s with sch := s.sch.updLane l fun x => { x with corrected := satAdd x.corrected n } } := by
  refine Eq.trans ?_ (Eq.symm (execJobSegmentComplete_clean (j := j) hl hj))
  simp only [execJobSegmentComplete, ge_iff_le, if_neg (Nat.not_le.mpr hl), hj]

theorem execJobSegmentComplete_uncorrectable :
    execJobSegmentComplete l .uncorrectable s = .next
      (({ s with sch := { s.sch with running := Tab.put s.sch.running l { j with segAt := s.now } } } : State).raise Ev.laneStoreError l 0) := by
  simp only [execJobSegmentComplete, ge_iff_le, if_neg (Nat.not_le.mpr hl), hj]

theorem execJobSegmentComplete_memCorrected (k : MemKind) (a : Nat) :
    execJobSegmentComplete l (.memCorrected k a) s = execJobSegmentComplete l .clean (s.memCorrected k a) := by
  have hl' : l < (s.memCorrected k a).renderLanes := by rwa [State.renderLanes, State.memCorrected_fuses]
  rw [execJobSegmentComplete_clean (j := j) hl' (by rwa [State.memCorrected_sch])]
  simp only [execJobSegmentComplete, ge_iff_le, if_neg (Nat.not_le.mpr hl), hj]

theorem execJobSegmentComplete_poisoned (p : Poison) :
    execJobSegmentComplete l (.poisoned p) s = .next ((s.memPoisoned p).stopJob l j) := by
  simp only [execJobSegmentComplete, ge_iff_le, if_neg (Nat.not_le.mpr hl), hj]

end

/-- A lane that the device lacks, or that runs no job, ends none. -/
theorem execJob_idle (h : s.renderLanes ≤ l ∨ Tab.find s.sch.running l = none) (x : StoreRead) (bad : List Nat) :
    execJobSegmentComplete l x s = .next s ∧ execJobComplete l bad s = .next s := by
  unfold execJobSegmentComplete execJobComplete
  rcases h with h | h
  · rw [if_pos h, if_pos h]
    exact ⟨rfl, rfl⟩
  · rw [h]
    exact ⟨ite_self _, ite_self _⟩

/-! ## Background items (R75, R76) -/

theorem execBackgroundItemComplete_running {k : BackgroundKind} (hl : l < s.renderLanes)
    (hk : ((s.startItem s.sch l).lane l).item = some k) :
    execBackgroundItemComplete l k s = .next
      ({ s with sch := (s.startItem s.sch l).updLane l fun y => { y with item := none, share := y.share + itemT } } : State).dispatch := by
  simp only [execBackgroundItemComplete, ge_iff_le, if_neg (Nat.not_le.mpr hl), hk, ne_eq, not_true, if_false]

theorem execBackgroundItemComplete_other {k : BackgroundKind}
    (h : s.renderLanes ≤ l ∨ ((s.startItem s.sch l).lane l).item ≠ some k) : execBackgroundItemComplete l k s = .next s := by
  unfold execBackgroundItemComplete
  rcases h with h | h
  · exact if_pos h
  · rw [if_pos h, ite_self]

end

/-! ## Launches (R295, R296) -/

/-- The issue instant of a flow's next frame, where no flow of the lane has its turn before. -/
theorem execLaunchInstant_issues {flow n : Nat} {f : Bytes} (hn : (s.flowOf flow).next = some n) (hi : s.issuable flow n = true)
    (ho : s.outranked flow = false) (hf : (s.launchCfg flow n).get .flow flow = some f) :
    execLaunchInstant flow s =
      let u := (s.advanceTo (s.launchAt flow n)).updFlow flow fun x =>
        if x.restart.any fun r => r ≤ n then
          { x with stale := true, restart := none, last := if x.renew then none else x.last, renew := false } else x
      .next ((u.issue (s.launchCfg flow n) flow n f).afterIssue flow n) := by
  simp only [execLaunchInstant, hn, hi, ho, hf, Bool.not_true, Bool.or_self, Bool.false_eq_true, if_false]

end

/-- Settles O44. The model's choices are the cut of a standby that waits for its heartbeat (log entry 121), the 2 us of a
background item (226), and events without an object, which change nothing (14). -/
theorem frameEventsComplete : Obligations.FrameEventsComplete := by
  unfold Obligations.FrameEventsComplete
  refine fun s => ⟨fun a h => ?admission, fun h => ?noAdmission, State.decideLast_decided,
    fun m d e ha hp hf => State.decideLast_missed ha hp hf, ?cut, fun l j hl hj => ⟨?next, ?marked, ?last,
      execJobSegmentComplete_corrected hl hj, execJobSegmentComplete_uncorrectable hl hj,
      execJobSegmentComplete_memCorrected hl hj, execJobSegmentComplete_poisoned hl hj, fun bad => ?complete⟩,
    fun l bad x h => execJob_idle h x bad, fun l k => execBackgroundItemComplete_running,
    fun l k => execBackgroundItemComplete_other, fun flow n f hn hi ho hf => execLaunchInstant_issues hn hi ho hf⟩
  case admission =>
    show execAdmissionComplete s = _
    rw [execAdmissionComplete, h]
  case noAdmission =>
    show execAdmissionComplete s = _
    rw [execAdmissionComplete, h]
  case cut =>
    rintro v rfl
    exact ⟨fun n => execCut_cuts, fun n a h hd ha => execCut_activates h hd (by rw [ha]; rfl), fun n => execCut_updatePause,
      execCut_none⟩
  case next =>
    exact fun h hm => (execJobSegmentComplete_clean hl hj).trans (congrArg Host.Outcome.next (State.endSegment_next h hm))
  case marked =>
    exact fun h hm => (execJobSegmentComplete_clean hl hj).trans (congrArg Host.Outcome.next (State.endSegment_marked h hm))
  case last => exact fun h => (execJobSegmentComplete_clean hl hj).trans (congrArg Host.Outcome.next (State.endSegment_last h))
  case complete =>
    show execJobComplete l bad s = _
    simp only [execJobComplete, ge_iff_le, if_neg (Nat.not_le.mpr hl), hj] <;> rfl

end Sys2Proof.Machine
end

section
/-! SUPPORT. What refuses a command before its body (R83, R89, R113, R388), the frames that a class T command may name (R106,
R107), and what a class T command leaves alone until its cut (R87, R88). -/

namespace Sys2Proof.Machine

/-! ## The device state (R113) -/

theorem State.not_serves_of_device {s : State} (h : s.gl.device = .boot ∨ s.gl.device = .updatePause) (n : Nat) :
    s.serves n = false := by
  rcases h with h | h <;> simp [State.serves, h]

theorem State.not_accepts_of_not_serves {s : State} {n : Nat} (h : s.serves n = false) : s.accepts n = false := by
  rw [State.accepts, h, Bool.false_and]

theorem onPair_of_lt {n : Nat} (h : n < 64) (s : State) (f : State → State) : onPair n s f = .next (f s) := if_neg (Nat.not_le.mpr h)

theorem execCommandAccept_of_not_serves {s : State} {n : Nat} (h : s.serves n = false) (hn : n < 64) (packet : Bytes) (size : Nat) :
    execCommandAccept n packet size s = .next s := by
  rw [execCommandAccept, onPair_of_lt hn, h]
  rfl

theorem Op.execute_of_refused {op : Op} {r : Req} {s : State} {b : Bad} (h : stateCheck op r s = .error b) : op.execute r s = .error b := by
  rw [Op.execute, h]

/-- In SERVICE, outside the recovery loader, a command of another family is refused. -/
theorem serviceCheck_refuses {op : Op} {s : State} (hd : s.gl.device = .service) (hr : s.boot.recovery = false)
    (hc : [0x01, 0x0C, 0x0D, 0x0E, 0x0F].contains (op.code / 256) = false) :
    serviceCheck op s = .error ⟨Status.wrongState, s.wrongDetail⟩ := by
  simp only [serviceCheck, hd, hr, hc, ne_eq, not_true, Bool.false_eq_true, if_false, need]

/-- SERVICE refuses nothing but with WRONG_STATE. -/
theorem serviceCheck_cases (op : Op) (s : State) :
    serviceCheck op s = .ok () ∨ serviceCheck op s = .error ⟨Status.wrongState, s.wrongDetail⟩ := by
  unfold serviceCheck
  split
  · exact .inl rfl
  · dsimp only
    generalize (if s.boot.recovery then _ else _ : Bool) = allowed
    cases allowed
    · exact .inr rfl
    · exact .inl rfl

theorem stateCheck_of_service {op : Op} {s : State} {b : Bad} (h : serviceCheck op s = .error b) (r : Req) : stateCheck op r s = .error b := by
  rw [stateCheck, h]
  rfl

/-- A write to the registers of the GLOBAL and HOSTQ blocks is refused, whether SERVICE runs the command or not. -/
theorem stateCheck_regWrite {r : Req} (s : State) (hl : 4 ≤ r.payload.length) (ho : u32 r.payload 0 < 0x20000) :
    stateCheck regWriteOp r s = .error ⟨Status.wrongState, s.wrongDetail⟩ := by
  have hblock : (decide (regWriteOp.code ≠ 0x0F02) || decide (r.payload.length < 4) || decide (u32 r.payload 0 ≥ 0x20000)) = false := by
    rw [decide_eq_false (Nat.not_lt.mpr hl), decide_eq_false (Nat.not_le.mpr ho)]
    rfl
  rcases serviceCheck_cases regWriteOp s with h | h
  · rw [stateCheck, h, hblock]
    rfl
  · exact stateCheck_of_service h r

/-- Settles O11: a pair that does not serve takes nothing, and the refusals by the device state come before the body. -/
theorem deviceStateRefusesCommands : Obligations.DeviceStateRefusesCommands := by
  unfold Obligations.DeviceStateRefusesCommands
  refine ⟨fun s n hd => ?paused, fun op r s hd hr hc => ?service, fun r s hl ho => ?regWrite⟩
  case paused =>
    have hserves := State.not_serves_of_device hd n
    exact ⟨State.not_accepts_of_not_serves hserves, fun hn packet size => execCommandAccept_of_not_serves hserves hn packet size⟩
  case service => exact Op.execute_of_refused (stateCheck_of_service (serviceCheck_refuses hd hr hc) r)
  case regWrite => exact ⟨_, Op.execute_of_refused (stateCheck_regWrite s hl ho)⟩

/-! ## The show state and the pair state (R89, R388) -/

theorem timedState_refuses {s : State} (h : s.standbyMember = true ∨ s.gl.show_ = .idle) (op : Nat) :
    timedState op s = .error ⟨Status.wrongState, s.wrongDetail⟩ := by
  unfold timedState
  rcases h with h | h
  · exact if_pos h
  · rw [h]
    exact ite_self _

/-- Settles O59, for each opcode whose body waits for a cut; SHOW_START, of class T by R112, has a body of its own. -/
theorem standbyRefusesClassT : Obligations.StandbyRefusesClassT := by
  unfold Obligations.StandbyRefusesClassT
  intro op check apply r s hb hs hl h
  rw [Op.execute, Chk?.eq_ok hs, hl, hb]
  dsimp only
  rw [timedState_refuses h]

/-! ## The frame that a command names (R106, R107) -/

section
variable {r : Req} {s : State} {f n : Nat} (hf : r.atFrame = some f) (hs : s.showRuns = true) (hn : s.cutFrame = some n)
  (hcount : s.rt.timedCount < 16384) (hbytes : s.rt.timedBytes + r.payload.length ≤ 8388608)
include hf hs hn hcount hbytes

/-- While the show runs, and with room in the timed queue, a named frame is weighed against the most recent cut. -/
theorem fixFrame_running :
    fixFrame r s =
      if f > n + 16777216 then .error ⟨Status.badAtFrame, 0⟩
      else if f ≤ n then
        if r.opFlag 1 then
          if s.rt.cutCount ≥ 65536 ∨ s.rt.cutBytes + r.payload.length > 16777216 then .error ⟨Status.queueFull, 0⟩
          else .ok (none, s.nextCut)
        else .error ⟨Status.framePassed, 0⟩
      else .ok (some f, some f) := by
  have hroom : ¬(s.rt.timedCount ≥ 16384 ∨ s.rt.timedBytes + r.payload.length > 8388608) := by omega
  simp only [fixFrame, hf, hs, hn, State.frameNow, hroom, if_true, if_false, true_or, Option.getD_some, decide_eq_true_eq]

end

/-- Settles O25: `fixFrame_running` at the three places of a frame within 2^24 of the most recent cut. -/
theorem namedFrameIsKeptOrPassed : Obligations.NamedFrameIsKeptOrPassed := by
  unfold Obligations.NamedFrameIsKeptOrPassed
  intro r s f n hf hs hn hlimit hcount hbytes hcuts hcutBytes
  have hroom : ¬(s.rt.cutCount ≥ 65536 ∨ s.rt.cutBytes + r.payload.length > 16777216) := by omega
  rw [fixFrame_running hf hs hn hcount hbytes, if_neg (Nat.not_lt.mpr hlimit)]
  refine ⟨fun h => ?ahead, fun h hlate => ?passed, fun h hlate => ?late⟩
  case ahead => rw [if_neg (Nat.not_le.mpr h)]
  case passed => rw [if_pos h, hlate, if_neg Bool.false_ne_true]
  case late => rw [if_pos h, if_pos hlate, if_neg hroom]

/-! ## What a class T command leaves alone (R87, R88) -/

theorem State.coreTimed_of_core {s t : State} (h : t.core = s.core) : t.coreTimed = s.coreTimed := by
  rw [State.coreTimed, State.coreTimed, h]

theorem State.enqueue_coreTimed (q : Queued) (s : State) : (s.enqueue q).coreTimed = s.coreTimed := rfl

theorem State.mirrored_coreTimed (op : Nat) (r : Req) (known : Option Nat) (s : State) : (s.mirrored op r known).1.coreTimed = s.coreTimed := by
  unfold State.mirrored
  dsimp only
  split <;> rfl

/-- The reply of a class T command carries a frame, and no data that a read could have met poisoned (R439). -/
theorem repliesPoison_mirrored (op : Nat) (r : Req) (known : Option Nat) (s : State) : repliesPoison r (.ok (s.mirrored op r known)) = false := by
  unfold State.mirrored
  dsimp only
  split
  · exact Bool.and_false _
  · split
    · rfl
    · exact Bool.and_false _

/-- A class T command is refused, or joins its queue and is mirrored. -/
theorem Op.execute_timed {op : Op} {check : Req → State → Chk? Unit} {apply : Req → Nat → State → State} (hb : op.body = .timed check apply)
    (r : Req) (s : State) :
    (∃ b, op.execute r s = .error b) ∨ ∃ q known, op.execute r s = .ok ((s.enqueue q).mirrored op.code r known) := by
  unfold Op.execute
  rw [hb]
  split
  · exact .inl ⟨_, rfl⟩
  · split
    · exact .inl ⟨_, rfl⟩
    · dsimp only
      split
      · exact .inl ⟨_, rfl⟩
      · split
        · exact .inl ⟨_, rfl⟩
        · unfold queueTimed
          split
          · exact .inl ⟨_, rfl⟩
          · exact .inr ⟨_, _, rfl⟩

/-- A command that has executed answers or waits, which changes the host interface alone. -/
theorem State.conclude_core (n : Nat) (x : State × Res) (s : State) : (s.conclude n (.ok x)).core = x.1.core := by
  obtain ⟨t, y⟩ := x
  cases y with
  | done a => exact t.answer_core n a
  | wait w => exact t.waitFor_core n w

section
variable {op : Op} {check : Req → State → Chk? Unit} {apply : Req → Nat → State → State} (hb : op.body = .timed check apply)
include hb

theorem State.conclude_timed (r : Req) (s : State) : (s.concludeRead r (op.execute r s)).coreTimed = s.coreTimed := by
  rcases Op.execute_timed hb r s with ⟨b, h⟩ | ⟨q, known, h⟩
  · rw [h, State.concludeRead_of_no_data rfl]
    exact State.coreTimed_of_core (s.answer_core _ _)
  · rw [h, State.concludeRead_of_no_data (repliesPoison_mirrored _ r known _)]
    calc (s.conclude r.pair (.ok ((s.enqueue q).mirrored op.code r known))).coreTimed
        = ((s.enqueue q).mirrored op.code r known).1.coreTimed := State.coreTimed_of_core (s.conclude_core _ _)
      _ = (s.enqueue q).coreTimed := State.mirrored_coreTimed _ r known _
      _ = s.coreTimed := s.enqueue_coreTimed q

/-- A class T command that has been accepted is refused by its header, executes, or waits behind its fence. -/
theorem State.start_timed (hc : op.cls = .timed) (r : Req) (s : State) : (s.start op r).coreTimed = s.coreTimed := by
  have htouch : (s.touch op.code r).coreTimed = s.coreTimed := State.coreTimed_of_core (s.touch_core op.code r)
  have hjob : op.takesJob = false := by rw [Op.takesJob, hc]; rfl
  unfold State.start
  split
  · exact State.coreTimed_of_core (s.answer_core _ _)
  · dsimp only
    split
    · exact (State.conclude_timed hb r _).trans htouch
    · exact (State.coreTimed_of_core (State.hold_core op r _ hjob)).trans htouch

end

/-- Settles O23: a pair takes no command, or accepts it and starts it, and neither touches more than the queues of class T. SHOW_START,
of class T by R112, has a body of its own that this statement leaves out. -/
theorem timedCommandsWaitForTheirCut : Obligations.TimedCommandsWaitForTheirCut := by
  unfold Obligations.TimedCommandsWaitForTheirCut
  intro op check apply r s t hc hb h
  unfold hostCommand at h
  split at h
  · cases h; rfl
  · split at h
    · cases h; rfl
    · cases h
      exact (State.start_timed hb hc r _).trans (State.coreTimed_of_core (s.accept_core op.code r))

end Sys2Proof.Machine
end

section
/-! SUPPORT. Replies in the ring of a pair (R91, R93), sessions and their sources (R100-R102), tags and timed withdrawals (R108,
R110, R558). -/

namespace Sys2Proof.Machine

/-! ## A reply in its ring (R91, R93) -/

/-- A finished command that is recorded changes the sessions alone. -/
theorem State.finish_eq (id : Nat) (f : Finished) (s : State) : ∃ ses, s.finish id f = { s with ses } := by
  unfold State.finish
  split
  · exact ⟨s.ses, rfl⟩
  · exact ⟨_, rfl⟩

theorem State.record_eq (x : Slot) (a : Ans) (s : State) : ∃ ses, s.record x a = { s with ses } := by
  unfold State.record
  split
  · exact ⟨s.ses, rfl⟩
  · exact s.finish_eq _ _

/-- Arming the reset of DEVICE_RESET touches no pair, session or output. -/
theorem State.armReset_eq (x : Slot) (a : Ans) (s : State) : ∃ boot, s.armReset x a = { s with boot } := by
  unfold State.armReset
  split
  · exact ⟨_, rfl⟩
  · exact ⟨s.boot, rfl⟩

theorem State.armReset_ring (x : Slot) (a : Ans) (s : State) (n : Nat) : (s.armReset x a).ring n = s.ring n := by
  obtain ⟨boot, h⟩ := s.armReset_eq x a
  rw [h]
  rfl

theorem State.armReset_canWrite (x : Slot) (a : Ans) (s : State) (p : RingPair) : (s.armReset x a).canWrite p = s.canWrite p := by
  obtain ⟨boot, h⟩ := s.armReset_eq x a
  rw [h]
  rfl

theorem State.armReset_out (x : Slot) (a : Ans) (s : State) : (s.armReset x a).out = s.out := by
  obtain ⟨boot, h⟩ := s.armReset_eq x a
  rw [h]

theorem State.armReset_ses (x : Slot) (a : Ans) (s : State) : (s.armReset x a).ses = s.ses := by
  obtain ⟨boot, h⟩ := s.armReset_eq x a
  rw [h]

/-- A pair of host memory that signals no vector writes a reply at its producer index. -/
theorem State.sendReply_hostRing {n : Nat} {s : State} (hml : (s.ring n).ml = false) (hw : s.canWrite (s.ring n) = true)
    (hv : (s.ring n).vector.getLsbD 31 = false) (x : Slot) (a : Ans) (rest : List Slot) :
    s.sendReply n x a rest =
      ((s.armReset x a).emit (.replyEntry n (s.ring n).rplHead (phaseOf (s.ring n).rplHead (s.ring n).latched.2.2.2) (x.reply false a))).setRing n
        { s.ring n with slots := rest, heldSince := none, stalled := false, rplHead := ((s.ring n).rplHead + 1) % 65536 } := by
  have hwrite : (!(s.armReset x a).canWrite (s.ring n)) = false := by rw [State.armReset_canWrite, hw]; rfl
  unfold State.sendReply
  dsimp only
  rw [State.armReset_ring, ← hml]
  exact (if_neg (Bool.eq_false_iff.mp hwrite)).trans ((if_neg (Bool.eq_false_iff.mp hml)).trans (if_neg (Bool.eq_false_iff.mp hv)))

/-- An answered command that stands alone on its pair leaves, where the reply ring has room. -/
theorem State.flush_answered {n : Nat} {s : State} {x : Slot} {a : Ans} (hs : (s.ring n).slots = [x]) (ha : x.ans = some a)
    (hroom : (s.ring n).full = false) : s.flush n = s.sendReply n x a [] := by
  simp only [State.flush, hs, List.length_singleton, State.flushFuel, ha, hroom, Bool.false_and, Bool.false_eq_true, if_false]

theorem State.answer_executing {n : Nat} {s : State} {x : Slot} (hs : (s.ring n).slots = [x]) (hx : x.wait = .executing) (a : Ans) :
    s.answer n a = ((s.record x a).setRing n { s.ring n with slots := [{ x with ans := some a, wait := .nothing }] }).flush n := by
  simp only [State.answer, hs, List.find?_singleton, hx, decide_true, if_true, onExecuting, List.map_cons, List.map_nil]

/-- Settles O10: the answer leaves the pair's registers as they are, and its reply goes to the ring (`State.sendReply_hostRing`). -/
theorem replyIsWrittenAtItsIndex : Obligations.ReplyIsWrittenAtItsIndex := by
  unfold Obligations.ReplyIsWrittenAtItsIndex
  intro n x a s hs hx hml hroom hw hv
  obtain ⟨ses, hses⟩ := s.record_eq x a
  rw [State.answer_executing hs hx, hses]
  generalize hu : ({ s with ses } : State).setRing n { s.ring n with slots := [{ x with ans := some a, wait := .nothing }] } = u
  have hring : u.ring n = { s.ring n with slots := [{ x with ans := some a, wait := .nothing }] } := by rw [← hu, State.setRing_ring]
  have hout : u.out = s.out := by rw [← hu]; rfl
  have hwrite : u.canWrite (u.ring n) = true := by rw [hring, ← hu]; exact hw
  rw [State.flush_answered (by rw [hring]) rfl (by rw [hring]; exact hroom),
    State.sendReply_hostRing (by rw [hring]; exact hml) hwrite (by rw [hring]; exact hv), State.setRing_ring, hring, State.setRing_out,
    State.emit_out, State.armReset_out, hout]
  exact ⟨rfl, rfl, rfl⟩

/-! ## The sessions that a reply finds (R101, R110) -/

theorem State.signal_ses (v : Nat) (s : State) : (s.signal v).ses = s.ses := by
  have hsend : (s.msixSend v).ses = s.ses := by
    unfold State.msixSend
    split
    · rfl
    · split <;> rfl
  unfold State.signal
  split
  · rfl
  · dsimp only
    split <;> exact hsend

theorem State.sendReply_ses (n : Nat) (x : Slot) (a : Ans) (rest : List Slot) (s : State) : (s.sendReply n x a rest).ses = s.ses := by
  have harm := s.armReset_ses x a
  unfold State.sendReply
  dsimp only
  split
  · exact harm
  · split
    · split <;> exact harm
    · split
      · exact (State.signal_ses _ _).trans harm
      · exact harm

theorem State.flushFuel_ses (k n : Nat) (s : State) : (s.flushFuel k n).ses = s.ses := by
  induction k generalizing s with
  | zero => rfl
  | succ k ih =>
    unfold State.flushFuel
    split
    · rfl
    · split
      · rfl
      · split
        · split
          · rfl
          · exact State.setRing_ses _ _ s
        · exact (ih _).trans (State.sendReply_ses _ _ _ _ s)

theorem State.flush_ses (n : Nat) (s : State) : (s.flush n).ses = s.ses := State.flushFuel_ses _ n s

/-- Whether a slot has an open session, and its source. -/
def State.owner (s : State) (slot : Nat) : Option (Bool × Source) := (Tab.find s.ses slot).map fun x => (x.isOpen, x.source)

theorem State.owner_of_ses {s t : State} (h : t.ses = s.ses) (slot : Nat) : t.owner slot = s.owner slot := by
  rw [State.owner, State.owner, h]

theorem State.session_eq_some {s : State} {id slot : Nat} {x : Session} (h : s.session id = some (slot, x)) :
    slot = id % 64 ∧ Tab.find s.ses slot = some x ∧ x.isOpen = true ∧ x.gen = id / 64 ∧ id ≠ 0 := by
  unfold State.session at h
  split at h
  · next y hy =>
    split at h
    · next hopen =>
      cases h
      exact ⟨rfl, hy, hopen⟩
    · cases h
  · cases h

theorem State.finish_owner (id : Nat) (f : Finished) (s : State) (slot : Nat) : (s.finish id f).owner slot = s.owner slot := by
  unfold State.finish
  split
  · rfl
  · next own x hx =>
    obtain ⟨-, hfind, -⟩ := State.session_eq_some hx
    unfold State.owner
    dsimp only
    rw [Tab.find_put]
    split
    · next h => rw [← h, hfind, Option.map_some, Option.map_some]
    · rfl

theorem State.record_owner (x : Slot) (a : Ans) (s : State) (slot : Nat) : (s.record x a).owner slot = s.owner slot := by
  unfold State.record
  split
  · rfl
  · exact s.finish_owner _ _ slot

/-- A reply opens and closes no session. -/
theorem State.answer_owner (n : Nat) (a : Ans) (s : State) (slot : Nat) : (s.answer n a).owner slot = s.owner slot := by
  unfold State.answer
  dsimp only
  split
  · rfl
  · exact (State.owner_of_ses (State.flush_ses n _) slot).trans (State.record_owner _ a s slot)

/-! ## SESSION_OPEN (R100, R102) -/

/-- A state in which a slot has been opened with its next generation. -/
def State.opened (slot : Nat) (src : Source) (keep : Nat) (s : State) : State :=
  { s with ses := Tab.put s.ses slot {
      isOpen := true, gen := (Tab.getD s.ses slot {}).gen % 1023 + 1, source := src, keepalive := keep, lastUse := s.now } }

theorem State.opened_owner (slot : Nat) (src : Source) (keep : Nat) (s : State) :
    (s.opened slot src keep).owner slot = some (true, src) := by
  rw [State.owner, State.opened, Tab.find_put_self, Option.map_some]

section
variable {r : Req} {u : State} {src : Source} (hk : u16 r.payload 0 ≤ 3600) (h0 : u16 r.payload 0 ≠ 0 ∨ src = .pcie)
  (hsrc : (u.ring r.pair).source = some src)
include hk h0 hsrc

theorem sessionOpenOp_result {slot : Nat} (hfree : u.freeSession = some slot) :
    sessionOpenOp.result r u =
      .ok (u.opened slot src (u16 r.payload 0), .ok (leBytes 2 (slot + 64 * ((Tab.getD u.ses slot {}).gen % 1023 + 1)) ++ zeros 2)) := by
  have hkeep : (decide (u16 r.payload 0 ≠ 0) || decide (src = .pcie)) = true := by simpa using h0
  simp only [Op.result, sessionOpenOp, hsrc, hfree]
  rw [inRange_bind _ (decide_eq_true hk), inRange_bind _ hkeep]
  rfl

theorem sessionOpenOp_full (hfull : u.freeSession = none) : sessionOpenOp.result r u = .error ⟨Status.sessionLimit, 0⟩ := by
  have hkeep : (decide (u16 r.payload 0 ≠ 0) || decide (src = .pcie)) = true := by simpa using h0
  simp only [Op.result, sessionOpenOp, hsrc, hfull]
  rw [inRange_bind _ (decide_eq_true hk), inRange_bind _ hkeep]

end

theorem State.freeSession_some {s : State} {slot : Nat} (h : s.freeSession = some slot) :
    slot < 64 ∧ (Tab.getD s.ses slot {}).isOpen = false := by
  unfold State.freeSession at h
  exact ⟨List.mem_range.mp (List.mem_of_find?_eq_some h), by simpa using List.find?_some h⟩

/-- The opcodes for which SESSION may be 0: IDENTIFY, SESSION_OPEN and ECHO. -/
theorem catalogue_noSession : (catalogue.filter Op.noSession).map Op.code = [0x0101, 0x0102, 0x0F03] := rfl

theorem Op.code_of_noSession {op : Op} (hc : op ∈ catalogue) (h : op.noSession = true) :
    op.code = 0x0101 ∨ op.code = 0x0102 ∨ op.code = 0x0F03 := by
  have hmem : op.code ∈ (catalogue.filter Op.noSession).map Op.code := List.mem_map_of_mem (List.mem_filter.mpr ⟨hc, h⟩)
  rw [catalogue_noSession] at hmem
  simpa using hmem

/-- Settles O13: what SESSION_OPEN makes of a free slot, the ids that follow from it, its refusal with every slot open, and the opcodes
that need no session (`catalogue_noSession`). -/
theorem sessionIdsAreNeverZero : Obligations.SessionIdsAreNeverZero := by
  unfold Obligations.SessionIdsAreNeverZero
  refine ⟨fun r s src slot => ?opens, fun s slot h => State.freeSession_some h, fun g slot h => ?id,
    fun r s src hr hk h0 hsrc hfull => ?full, fun op r s hc h0 h => ?without⟩
  case opens => exact runs_of_result (fun _ _ => rfl) (fun u ⟨hk, h0, hsrc, hfree⟩ => sessionOpenOp_result hk h0 hsrc hfree) s
  case id => omega
  case full => exact hostCommand_refused sessionOpenOp r s ⟨Status.sessionLimit, 0⟩ hr (sessionOpenOp_full hk h0 hsrc hfull)
  case without =>
    rw [State.sessionOk, if_pos h0] at h
    exact Op.code_of_noSession hc h

/-! ## The source of a session (R101) -/

theorem State.sessionOk_iff {s : State} {r : Req} {slot : Nat} {x : Session} (hx : s.session r.session = some (slot, x)) (op : Op) :
    s.sessionOk op r = true ↔ (s.ring r.pair).source = some x.source := by
  obtain ⟨-, -, -, -, h0⟩ := State.session_eq_some hx
  rw [State.sessionOk, if_neg h0, hx]
  exact decide_eq_true_iff

theorem headerCheck_badSession {op : Op} {r : Req} {s : State} (hf : r.opFlag 0 = r.atFrame.isSome) (h7 : field r.flags 7 3 = 0)
    (h8 : (r.flags / 256) &&& (0xFF - op.flags) = 0) (h16 : r.flags < 65536) (h : s.sessionOk op r = false) :
    headerCheck op r s = .error ⟨Status.badSession, 0⟩ := by
  have hflags : ¬(field r.flags 7 3 ≠ 0 ∨ (r.flags / 256) &&& (0xFF - op.flags) ≠ 0 ∨ r.flags ≥ 65536) := by
    simp only [h7, h8, ne_eq, not_true, false_or, ge_iff_le, Nat.not_le, h16]
  rw [headerCheck, if_neg (by simp [hf]), if_neg hflags, h]
  rfl

/-- Settles O53: the reply to SESSION_OPEN leaves the owner of the slot as it has been set (`State.answer_owner`). -/
theorem sessionsBelongToTheirSource : Obligations.SessionsBelongToTheirSource := by
  unfold Obligations.SessionsBelongToTheirSource
  refine ⟨fun r s src slot hr hk h0 hsrc hfree => ?opened, fun op r s slot x hf h7 h8 h16 hx hother => ?other,
    fun op r s slot x _ hx hsame => (State.sessionOk_iff hx op).mpr hsame⟩
  case opened =>
    obtain ⟨a, hexec⟩ : ∃ a, exec (.sessionOpen r) s =
        .next (((s.entered sessionOpenOp r).opened slot src (u16 r.payload 0)).answer r.pair a) :=
      ⟨_, hostCommand_done sessionOpenOp r s _ _ hr (sessionOpenOp_result hk h0 hsrc hfree)⟩
    have howner := (State.answer_owner r.pair a _ slot).trans ((s.entered sessionOpenOp r).opened_owner slot src (u16 r.payload 0))
    obtain ⟨x, hx, hpair⟩ := Option.map_eq_some_iff.mp howner
    obtain ⟨hopen, hsource⟩ := Prod.mk.inj hpair
    exact ⟨_, x, hexec, hx, hopen, hsource⟩
  case other =>
    exact headerCheck_badSession hf h7 h8 h16 (Bool.eq_false_iff.mpr fun h => hother ((State.sessionOk_iff hx op).mp h))

/-! ## The other commands of family 0x01 (R102, R108, R110, R558) -/

section
variable {r : Req} {u : State}

theorem sessionCloseOp_result (r : Req) (u : State) :
    sessionCloseOp.result r u =
      .ok (if r.opFlag 8 then (u.endSession (r.session % 64) .close).withdraw .cancel fun q => q.req.session = r.session
        else u.endSession (r.session % 64) .close, .ok) := rfl

theorem tagStatusOp_result {slot : Nat} {x : Session} {f : Finished}
    (hx : u.session (if u16 r.payload 0 = 0 then r.session else u16 r.payload 0) = some (slot, x))
    (hsrc : (u.ring r.pair).source = some x.source) (hf : x.lookup (u16 r.payload 2) = some f) :
    tagStatusOp.result r u =
      .ok (u, .ok (leBytes 2 f.op ++ leBytes 2 f.status ++ leBytes 2 f.detail ++ leBytes 1 (flag f.frame.isSome 0) ++ zeros 1 ++
        leBytes 8 (f.frame.getD 0))) := by
  simp only [Op.result, tagStatusOp, hx, hsrc, hf, ne_eq, not_true, if_false]

theorem timedCancelOp_result
    (h : u.rt.queue.filter (fun q => q.frame.isSome && decide (q.req.session = u16 r.payload 0 ∧ q.req.tag = u16 r.payload 2)) ≠ []) :
    timedCancelOp.result r u =
      .ok (u.withdraw .cancel fun q => decide (q.req.session = u16 r.payload 0 ∧ q.req.tag = u16 r.payload 2),
        .ok (leBytes 4 (u.rt.queue.filter fun q =>
          q.frame.isSome && decide (q.req.session = u16 r.payload 0 ∧ q.req.tag = u16 r.payload 2)).length)) := by
  simp only [Op.result, timedCancelOp, gt_iff_lt, List.length_pos_iff.mpr h, if_true]

end

/-- Settles O12, command by command. That PURGE withdraws with the cause of TIMED_CANCEL is the model's choice (log entry 50). -/
theorem generalCommandsComplete : Obligations.GeneralCommandsComplete := by
  unfold Obligations.GeneralCommandsComplete
  refine fun r s => ⟨?identify, ?close, ?purge, ?keepalive, fun slot x f => ?status, fun q => ?cancel, ?list⟩
  case identify => exact runs_of_result (fun _ _ => rfl) (fun u _ => rfl) s
  case close => exact runs_of_result (fun _ _ => rfl) (fun u h => by rw [sessionCloseOp_result, h]; rfl) s
  case purge => exact runs_of_result (fun _ _ => rfl) (fun u h => by rw [sessionCloseOp_result, h]; rfl) s
  case keepalive => exact runs_of_result (fun _ _ => rfl) (fun u _ => rfl) s
  case status => exact runs_of_result (fun _ _ => rfl) (fun u ⟨hx, hsrc, hf⟩ => tagStatusOp_result hx hsrc hf) s
  case cancel =>
    refine runs_of_result (fun _ _ => rfl) (fun u ⟨hq, hne⟩ => ?_) s
    subst hq
    exact timedCancelOp_result hne
  case list => exact runs_of_result (fun _ _ => rfl) (fun u _ => rfl) s

/-! ## Commands that start a job (R90, R190, R300, R378, R519) and RDM_REQUEST (R376) -/

/-- A ready command whose body refuses with `b` changes nothing but the host interface. -/
theorem runs_of_refusal {i : Req → Instr} {op : Op} (hi : ∀ r s, exec (i r) s = hostCommand op r s) {r : Req} {p : State → Prop} {b : Bad}
    (h : ∀ u, p u → op.result r u = .error b) (s : State) : Runs i op r s p (fun u => u) fun _ => b.ans :=
  fun hr hp => (hi r s).trans (hostCommand_refused op r s b hr (h _ hp))

section
variable {r : Req} {u : State}

/-- The show state and the pair state let a measurement run. -/
theorem measures_of (hi : u.gl.show_ ≠ .idle) (hs : u.standbyMember = false) :
    (decide (u.gl.show_ ≠ .idle) && !u.standbyMember) = true := by
  rw [decide_eq_true hi, hs]
  rfl

section
variable (ha : u.gl.show_ ≠ .armed) (hi : u.gl.show_ ≠ .idle) (hs : u.standbyMember = false)
include ha hi hs

/-- KIND 0 and 1 probe the node of a network flow. -/
theorem latencyMeasureOp_probes {f : Bytes} (hk : u8 r.payload 0 = 0 ∧ 1 ≤ u8 r.payload 2 ∨ u8 r.payload 0 = 1)
    (hf : u.cfg.get .flow (u32 r.payload 4) = some f) (hnet : flNetwork f = true)
    (hrepeat : u16 r.payload 16 = 0 ∨ 10 ≤ u16 r.payload 16 ∧ u16 r.payload 16 ≤ 3600) :
    latencyMeasureOp.result r u =
      .ok ((u.startJob 0x0905 r.session r.tag).2.startProbing (u.startJob 0x0905 r.session r.tag).1 r.payload,
        .done { status := Status.acceptedDeferred, payload := leBytes 4 u.jobId }) := by
  have hkind : u8 r.payload 0 ≤ 2 := by omega
  have hcount : u8 r.payload 0 = 1 ∨ 1 ≤ u8 r.payload 2 := by omega
  have hprobe : u8 r.payload 0 ≠ 2 := by omega
  simp only [Op.result, latencyMeasureOp]
  rw [need_bind _ (decide_eq_true ha), need_bind _ (measures_of hi hs), inRange_bind _ (decide_eq_true hkind), if_neg hprobe,
    inRange_bind _ (decide_eq_true hcount), need_bind _ (by rw [hf]; exact hnet), inRange_bind _ (decide_eq_true hrepeat), if_neg hprobe]
  rfl

section
variable (hk : u8 r.payload 0 = 2) (hc : ((u.cfg.get .capture (u8 r.payload 1)).any fun c => u8 c 3 = 1) = true)
  (hlo : 2 ≤ u8 r.payload 2) (hhi : u8 r.payload 2 ≤ 64)
include hk hc hlo hhi

/-- A carrier that is a lane which the device lacks. -/
theorem latencyMeasureOp_noLane (hlane : u32 r.payload 4 / 2 ^ 24 = 1) (hfits : u32 r.payload 4 % 2 ^ 24 < 16)
    (habsent : u.lanes ≤ u32 r.payload 4 % 2 ^ 24) :
    latencyMeasureOp.result r u = .error ⟨Status.unitAbsent, 4⟩ := by
  have hmissing : (decide (u32 r.payload 4 / 2 ^ 24 ≠ 1) || decide (u32 r.payload 4 % 2 ^ 24 ≥ 16) || decide (u32 r.payload 4 % 2 ^ 24 < u.lanes)) = false := by
    simp only [Bool.or_eq_false_iff, decide_eq_false_iff_not]
    omega
  simp only [Op.result, latencyMeasureOp]
  rw [need_bind _ (decide_eq_true ha), need_bind _ (measures_of hi hs), inRange_bind _ (by rw [hk]; rfl), if_pos hk, need_bind _ hc,
    inRange_bind _ (decide_eq_true ⟨hlo, hhi⟩), hmissing]
  rfl

/-- KIND 2 waits for its captures. -/
theorem latencyMeasureOp_captures (hcarrier : (u.cfg.carrier (u32 r.payload 4)).isSome = true)
    (hlane : u32 r.payload 4 / 2 ^ 24 = 1 → u32 r.payload 4 % 2 ^ 24 < 16 → u32 r.payload 4 % 2 ^ 24 < u.lanes)
    (hllo : 0x10000 ≤ u32 r.payload 8) (hlhi : u32 r.payload 8 ≤ 0xFFFFF) (htlo : 1 ≤ u16 r.payload 18) (hthi : u16 r.payload 18 ≤ 600) :
    latencyMeasureOp.result r u =
      .ok ({ (u.startJob 0x0905 r.session r.tag).2 with lat := { u.lat with
          runs := u.lat.runs ++ [{ job := (u.startJob 0x0905 r.session r.tag).1, payload := r.payload, since := u.now, phase := .waiting }] } },
        .done { status := Status.acceptedDeferred, payload := leBytes 4 u.jobId }) := by
  have hpresent : (decide (u32 r.payload 4 / 2 ^ 24 ≠ 1) || decide (u32 r.payload 4 % 2 ^ 24 ≥ 16) || decide (u32 r.payload 4 % 2 ^ 24 < u.lanes)) = true := by
    simp only [Bool.or_eq_true, decide_eq_true_eq]
    omega
  simp only [Op.result, latencyMeasureOp]
  rw [need_bind _ (decide_eq_true ha), need_bind _ (measures_of hi hs), inRange_bind _ (by rw [hk]; rfl), if_pos hk, need_bind _ hc,
    inRange_bind _ (decide_eq_true ⟨hlo, hhi⟩), need_bind _ hpresent, need_bind _ hcarrier, inRange_bind _ (decide_eq_true ⟨hllo, hlhi⟩),
    inRange_bind _ (decide_eq_true ⟨htlo, hthi⟩), if_pos hk]
  rfl

end

/-- A calibration run starts where no run that has not ended uses the bus of its script. -/
theorem calRunOp_result {sc : Bytes} (hb : ((u.cfg.get .binding (u32 r.payload 0)).any fun b => u16 b 4 ≠ 0xFFFF) = true)
    (hverify : u8 r.payload 4 ≤ 1) (hsc : u.cfg.get .script (u8 r.payload 5) = some sc) (hkind : u8 sc 4 = 0)
    (hlo : 1 ≤ u8 r.payload 6) (hhi : u8 r.payload 6 ≤ 64) (hllo : 0x10000 ≤ u32 r.payload 8) (hlhi : u32 r.payload 8 ≤ 0xFFFFF)
    (h12 : u16 r.payload 12 ≤ 10000) (h14 : u16 r.payload 14 ≤ 10000)
    (hbus : ∀ x ∈ u.col.runs, x.outcome = 4 → u.cfg.busOf (u8 x.payload 5) ≠ u.cfg.busOf (u8 r.payload 5)) :
    calRunOp.result r u =
      let runs := u.col.runs ++ [{ job := (u.startJob 0x0606 r.session r.tag).1, payload := r.payload, since := u.now, set := ((u.cfg.get .binding (u32 r.payload 0)).map fun b => u16 b 4).getD 0xFFFF, count := ((u.cfg.instType (u32 r.payload 0)).map ftEmitters).getD 0 }]
      .ok ({ (u.startJob 0x0606 r.session r.tag).2 with col := { u.col with runs := runs.drop (runs.length - 64) } },
        .done { status := Status.acceptedDeferred, payload := leBytes 4 u.jobId }) := by
  have hfree : (u.col.runs.find? fun x => x.outcome = 4 && u.cfg.busOf (u8 x.payload 5) = u.cfg.busOf (u8 r.payload 5)) = none :=
    List.find?_eq_none.mpr fun x hx => by simpa using hbus x hx
  simp only [Op.result, calRunOp, hsc]
  rw [need_bind _ (decide_eq_true ha), need_bind _ (measures_of hi hs), need_bind _ hb, inRange_bind _ (decide_eq_true hverify),
    inRange_bind _ (decide_eq_true hkind), inRange_bind _ (decide_eq_true ⟨hlo, hhi⟩), inRange_bind _ (decide_eq_true ⟨hllo, hlhi⟩),
    inRange_bind _ (decide_eq_true h12), inRange_bind _ (decide_eq_true h14), hfree]
  rfl

end

theorem DmxPort.rdmFree_ok {x : DmxPort} (hr : x.request = none) (hd : x.disc = none) : x.rdmFree = .ok () := by
  rw [DmxPort.rdmFree, hr, hd]

theorem rdmDiscoverOp_result {x : Bytes × Nat} (hport : u.rdmPort (u8 r.payload 0) = .ok x)
    (hreq : (u.dmxOf (u8 r.payload 0)).request = none) (hdisc : (u.dmxOf (u8 r.payload 0)).disc = none) :
    rdmDiscoverOp.result r u =
      .ok ((u.startJob 0x080D r.session r.tag).2.updDmx (u8 r.payload 0) fun x =>
          { x with disc := some { job := (u.startJob 0x080D r.session r.tag).1, step := if bit (u8 r.payload 1) 0 then .unMute else .branch 0 (allDevices - 1) } },
        .done { status := Status.acceptedDeferred, payload := leBytes 4 u.jobId }) := by
  simp only [Op.result, rdmDiscoverOp]
  rw [Chk?.ok_bind _ hport, Chk?.ok_bind _ (DmxPort.rdmFree_ok hreq hdisc)]
  rfl

theorem rdmRequestOp_result {d : Bytes} {flow : Nat} (hcc : u8 r.payload 1 = 0x20 ∨ u8 r.payload 1 = 0x30) (hpdl : rqPdl r.payload ≤ 32)
    (hport : u.rdmPort (u8 r.payload 0) = .ok (d, flow)) (hreq : (u.dmxOf (u8 r.payload 0)).request = none)
    (hdisc : (u.dmxOf (u8 r.payload 0)).disc = none)
    (hgap : (u.earliest (u8 r.payload 0) d flow (requestUs d r.payload)).any
      (fun t => t + usT (requestUs d r.payload) ≤ u.tk.counter + msT 45) = true) :
    rdmRequestOp.result r u =
      .ok (u.updDmx (u8 r.payload 0) fun x => { x with request := some { session := r.session, payload := r.payload } },
        .wait (.rdm (u8 r.payload 0))) := by
  simp only [Op.result, rdmRequestOp]
  rw [Chk?.ok_bind _ hport, inRange_bind _ (decide_eq_true hcc), inRange_bind _ (decide_eq_true hpdl),
    Chk?.ok_bind _ (DmxPort.rdmFree_ok hreq hdisc), need_bind _ hgap]

theorem loopbackOp_result (hlane : u8 r.payload 0 < u.lanes) (hmode : u8 r.payload 1 ≤ 1) (hlo : 1 ≤ u16 r.payload 2)
    (hhi : u16 r.payload 2 ≤ 10000) (hd : u.gl.device = .service) (hfree : u.laneCarries (u8 r.payload 0) = false) :
    loopbackOp.result r u =
      .ok (({ (u.startJob 0x0F04 r.session r.tag).2 with
          jobs := { (u.startJob 0x0F04 r.session r.tag).2.jobs with loops := u.jobs.loops ++ [(u8 r.payload 0, u.jobId, u.now + msT (u16 r.payload 2))] } } : State).emit
            (.bus "loopback" [u8 r.payload 0, u8 r.payload 1, u16 r.payload 2, u.jobId]),
        .done { status := Status.acceptedDeferred, payload := leBytes 4 u.jobId }) := by
  have hunit : unitField 16 u.lanes (u8 r.payload 0) 0 = .ok () := by
    have hlanes := u.lanes_le
    rw [unitField, if_neg (by omega), if_neg (by omega)]
  have hidle : (decide (u.gl.device = .service) && !u.laneCarries (u8 r.payload 0)) = true := by rw [hd, hfree]; rfl
  simp only [Op.result, loopbackOp]
  rw [Chk?.ok_bind _ hunit, inRange_bind _ (decide_eq_true hmode), inRange_bind _ (decide_eq_true ⟨hlo, hhi⟩), need_bind _ hidle]
  rfl

end

/-- Settles O29, command by command. The model's choice is that calibration runs on other buses go on beside the one that starts,
and that the last 64 are kept (log entry 76). -/
theorem deferredCommandsStart : Obligations.DeferredCommandsStart := by
  unfold Obligations.DeferredCommandsStart
  refine fun r s => ⟨?noLane, fun sc => ?calibrate, fun f => ?probe, ?capture, fun x => ?discover, ?loopback,
    fun d flow hr hcc hpdl hport hreq hdisc hgap => ?request⟩
  case noLane =>
    exact runs_of_refusal (b := ⟨Status.unitAbsent, 4⟩) (fun _ _ => rfl) (fun u ⟨hk, hc, hlo, hhi, hlane, hfits, habsent, ha, hi, hs⟩ =>
      latencyMeasureOp_noLane ha hi hs hk hc hlo hhi hlane hfits habsent) s
  case calibrate =>
    exact runs_of_result (fun _ _ => rfl) (fun u ⟨hb, hverify, hsc, hkind, hlo, hhi, hllo, hlhi, h12, h14, ha, hi, hs, hbus⟩ =>
      calRunOp_result ha hi hs hb hverify hsc hkind hlo hhi hllo hlhi h12 h14 hbus) s
  case probe =>
    exact runs_of_result (fun _ _ => rfl) (fun u ⟨hk, hf, hnet, hrepeat, ha, hi, hs⟩ =>
      latencyMeasureOp_probes ha hi hs hk hf hnet hrepeat) s
  case capture =>
    exact runs_of_result (fun _ _ => rfl) (fun u ⟨hk, hc, hlo, hhi, hcarrier, hlane, hllo, hlhi, htlo, hthi, ha, hi, hs⟩ =>
      latencyMeasureOp_captures ha hi hs hk hc hlo hhi hcarrier hlane hllo hlhi htlo hthi) s
  case discover => exact runs_of_result (fun _ _ => rfl) (fun u ⟨hport, hreq, hdisc⟩ => rdmDiscoverOp_result hport hreq hdisc) s
  case loopback =>
    exact runs_of_result (fun _ _ => rfl) (fun u ⟨hlane, hmode, hlo, hhi, hd, hfree⟩ =>
      loopbackOp_result hlane hmode hlo hhi hd hfree) s
  case request => exact hostCommand_waits rdmRequestOp r s _ _ hr (rdmRequestOp_result hcc hpdl hport hreq hdisc hgap)

end Sys2Proof.Machine
end

section
/-! SUPPORT. The events of ring pairs (R86, R94, R95, R105, R109) and the acceptance of packets and datagrams (R86, R92, R99). -/

namespace Sys2Proof.Machine

/-- An event of a pair that the device has. -/
theorem onPair_eq {n : Nat} {s t : State} {f : State → State} (hn : n < 64) (h : f s = t) : onPair n s f = .next t := by
  rw [onPair_of_lt hn, h]

section
variable {n : Nat} {s : State}

/-! ## Tail registers (R94) -/

theorem State.writeCmdTail_within {i : Nat} (hml : (s.ring n).ml = false)
    (h : ringUsed (i % 65536) (s.ring n).cmdTail ≤ 2 ^ (s.ring n).latched.2.2.1) :
    s.writeCmdTail n i = s.setRing n { s.ring n with cmdTail := i % 65536 } := by
  simp only [State.writeCmdTail, hml, gt_iff_lt, decide_eq_false (Nat.not_lt.mpr h), Bool.and_false, Bool.false_eq_true, if_false]

theorem State.writeCmdTail_beyond {i : Nat} (hml : (s.ring n).ml = false) (hrun : (s.ring n).running = true)
    (h : 2 ^ (s.ring n).latched.2.2.1 < ringUsed (i % 65536) (s.ring n).cmdTail) :
    s.writeCmdTail n i = (s.setRing n { s.ring n with cmdTail := i % 65536 }).badIndex n := by
  simp only [State.writeCmdTail, hml, hrun, gt_iff_lt, decide_eq_true h, Bool.and_true, Bool.false_eq_true, if_false, if_true]

theorem State.writeRplTail_within {i : Nat} (hml : (s.ring n).ml = false)
    (h : ringUsed (i % 65536) (s.ring n).rplTail ≤ 2 ^ (s.ring n).latched.2.2.2) :
    s.writeRplTail n i = (s.setRing n { s.ring n with rplTail := i % 65536 }).flush n := by
  simp only [State.writeRplTail, hml, gt_iff_lt, decide_eq_false (Nat.not_lt.mpr h), Bool.and_false, Bool.false_eq_true, if_false]

/-! ## ENABLE and RINSE (R95) -/

theorem State.enableRing_ml (he : (s.ring n).enable = false) (hml : (s.ring n).ml = true) :
    s.enableRing n = s.setRing n { s.ring n with
      enable := true, running := true, latched := ((s.ring n).cmdBase, (s.ring n).rplBase, (s.ring n).kCmd, (s.ring n).kRpl) } := by
  simp only [State.enableRing, he, hml, Bool.false_eq_true, if_false, if_true]

theorem State.enableRing_pcie (he : (s.ring n).enable = false) (hml : (s.ring n).ml = false) :
    s.enableRing n = s.busMaster.setRing n { s.ring n with
      enable := true, running := true, latched := ((s.ring n).cmdBase, (s.ring n).rplBase, (s.ring n).kCmd, (s.ring n).kRpl) } := by
  simp only [State.enableRing, he, hml, Bool.false_eq_true, if_false]

/-- A pair with accepted commands stays in service until they have replied. -/
theorem State.settleDisable_busy (h : (s.ring n).slots ≠ []) : s.settleDisable n = s := by
  have hbusy : (s.ring n).slots.isEmpty = false := List.isEmpty_eq_false_iff.mpr h
  simp only [State.settleDisable, hbusy, Bool.and_false, Bool.false_eq_true, if_false]

theorem State.settleDisable_idle (he : (s.ring n).enable = false) (h : (s.ring n).slots = []) :
    s.settleDisable n = s.setRing n { s.ring n with running := false } := by
  simp only [State.settleDisable, he, h, List.isEmpty_nil, Bool.not_false, Bool.and_true, if_true]

theorem State.disableRing_busy (h : (s.ring n).slots ≠ []) : s.disableRing n = s.setRing n { s.ring n with enable := false } := by
  rw [State.disableRing, State.settleDisable_busy (by rw [State.setRing_ring]; exact h)]

theorem State.rinseRing_pcie (hml : (s.ring n).ml = false) :
    s.rinseRing n = s.setRing n { s.ring n with
      rinse := false, ring := []
      cmdHead := ((s.ring n).cmdHead + ringUsed (s.ring n).cmdTail (s.ring n).cmdHead) % 65536
      rinsed := satAdd (s.ring n).rinsed (ringUsed (s.ring n).cmdTail (s.ring n).cmdHead) } := by
  simp only [State.rinseRing, hml, Bool.false_eq_true, if_false]

theorem State.rinseRing_ml (hml : (s.ring n).ml = true) :
    s.rinseRing n = s.setRing n { s.ring n with
      rinse := false, ring := [], cmdHead := ((s.ring n).cmdHead + (s.ring n).ring.length) % 65536
      rinsed := satAdd (s.ring n).rinsed (s.ring n).ring.length } := by
  simp only [State.rinseRing, hml, if_true]

/-! ## Time-outs and failed accesses to the rings (R95, R105, R109, R512) -/

theorem execReplyStallTimeout_held {t : Nat} (hn : n < 64) (ht : (s.ring n).heldSince = some t) (hheld : (s.ring n).held = true)
    (hst : (s.ring n).stalled = false) :
    execReplyStallTimeout n s =
      let u := (s.advanceNow (t + msT 1)).setRing n { (s.advanceNow (t + msT 1)).ring n with stalled := true }
      .next ((if (u.ring n).error.testBit 3 then u else u.pairError n 3).raise Ev.ringStall n 0) := by
  rw [execReplyStallTimeout, onPair_of_lt hn, ht]
  simp only [hheld, hst, Bool.not_true, Bool.or_self, Bool.false_eq_true, if_false]

theorem execReplyTimeoutExpire_unanswered {k t : Nat} {x : Slot} (hn : n < 64) (hx : (s.ring n).slots[k]? = some x)
    (ht : x.deadline = some t) (ha : x.ans = none) : execReplyTimeoutExpire n k s = .next ((s.advanceNow t).expireSlot n k x) := by
  rw [execReplyTimeoutExpire, onPair_of_lt hn, hx]
  simp only [ht, ha, Option.isSome_none, Bool.false_eq_true, if_false]

theorem execDmaReadFail_ring (hn : n < 64) (hml : (s.ring n).ml = false) (hrun : (s.ring n).running = true) :
    execDmaReadFail (.ring n) s = .next ((s.aerError.disablePair n).pairError n 0) := by
  simp only [execDmaReadFail, onPair_of_lt hn, hml, hrun, Bool.not_true, Bool.or_self, Bool.false_eq_true, if_false]

theorem execRplDmaFail_running (hn : n < 64) (hml : (s.ring n).ml = false) (hrun : (s.ring n).running = true) :
    execRplDmaFail n s = .next (((s.disablePair n).pairError n 1).flush n) := by
  simp only [execRplDmaFail, onPair_of_lt hn, hml, hrun, Bool.not_true, Bool.or_self, Bool.false_eq_true, if_false]

/-! ## Taking the next packet (R86, R92, R99) -/

theorem State.serves_of_accepts (h : s.accepts n = true) : s.serves n = true := (Bool.and_eq_true_iff.mp h).1

theorem State.takeEntry_takes (hr : (s.ring n).cmdHead ≠ (s.ring n).cmdTail) (hdma : s.pcie.canDma = true) (size : Nat) (b : Bytes) :
    s.takeEntry n size b =
      (s.setRing n { s.ring n with cmdHead := ((s.ring n).cmdHead + 1) % 65536 }).acceptPacket n (min size 1048576) none b := by
  simp only [State.takeEntry, hdma, Bool.not_true, Bool.false_eq_true, or_false, if_neg hr]

/-- HEALTH_CONFIRM that has lost against the expiry of its trial waits in its ring (R474). -/
theorem execCommandAccept_waits (hn : n < 64) (packet : Bytes) (size : Nat) (hw : s.confirmWaits (pkOp packet) = true)
    (hml : (s.ring n).ml = false) : execCommandAccept n packet size s = .next s :=
  onPair_eq hn (by simp only [hw, hml, Bool.not_true, Bool.and_false, Bool.false_eq_true, if_false, ite_self])

theorem execCommandAccept_entry (hn : n < 64) (packet : Bytes) (size : Nat) (ha : s.accepts n = true)
    (hw : s.confirmWaits (pkOp packet) = false) (hml : (s.ring n).ml = false) :
    execCommandAccept n packet size s = .next (s.takeEntry n size packet) :=
  onPair_eq hn (by simp only [State.serves_of_accepts ha, ha, hw, hml, Bool.not_true, Bool.not_false, Bool.and_self, Bool.false_eq_true,
    if_false, if_true])

theorem execCommandAccept_datagram (hn : n < 64) (packet : Bytes) (size : Nat) (hs : s.serves n = true) (hml : (s.ring n).ml = true) :
    execCommandAccept n packet size s = .next (s.takeDatagram n) :=
  onPair_eq hn (by simp only [hs, hml, Bool.not_true, Bool.false_eq_true, if_false, if_true])

section
variable {sentTo : Nat} {b : Bytes} {rest : List (Nat × Bytes)} (hring : (s.ring n).ring = (sentTo, b) :: rest)
include hring

/-- A retransmission of a command whose reply is cached is answered from the cache. -/
theorem State.takeDatagram_cached {x : Reply} {e : Endpoint}
    (hc : ((s.ring n).cache.find? fun y => sameCommand b y.op y.session y.tag) = some x) (he : (s.ring n).bound = some e) :
    s.takeDatagram n =
      let taken := s.setRing n { s.ring n with ring := rest, cmdHead := ((s.ring n).cmdHead + 1) % 65536 }
      ({ taken with hq := { taken.hq with mlDup := satInc s.hq.mlDup } } : State).sendDatagram sentTo e { x with dup := true } := by
  simp only [State.takeDatagram, hring, hc, he]

variable (hc : ((s.ring n).cache.find? fun y => sameCommand b y.op y.session y.tag) = none)
include hc

/-- A retransmission of a command that has not replied is dropped. -/
theorem State.takeDatagram_executing
    (hx : ((s.ring n).slots ++ (s.ring n).late).any (fun x => sameCommand b x.op x.session x.tag) = true) :
    s.takeDatagram n =
      let taken := s.setRing n { s.ring n with ring := rest, cmdHead := ((s.ring n).cmdHead + 1) % 65536 }
      { taken with hq := { taken.hq with mlDup := satInc s.hq.mlDup } } := by
  simp only [State.takeDatagram, hring, hc, hx, if_true]

theorem State.takeDatagram_accepts
    (hx : ((s.ring n).slots ++ (s.ring n).late).any (fun x => sameCommand b x.op x.session x.tag) = false)
    (ha : s.accepts n = true) (hw : s.confirmWaits (pkOp b) = false) :
    s.takeDatagram n =
      (s.setRing n { s.ring n with ring := rest, cmdHead := ((s.ring n).cmdHead + 1) % 65536 }).acceptPacket n 0 (some sentTo) b := by
  simp only [State.takeDatagram, hring, hc, hx, ha, hw, Bool.not_false, Bool.and_self, Bool.false_eq_true, if_false, if_true]

end

end

/-- Settles O34. The model's choices are BAD_INDEX by one write that moves too far (log entry 54), RING_STALL once for each reply
that is held (56), RPL_SIZE cut to 1 MiB (57), and a duplicate looked for at the front of its ring (58). -/
theorem ringEventsComplete : Obligations.RingEventsComplete := by
  unfold Obligations.RingEventsComplete
  refine fun n s hn => ⟨fun i hml _ h => ?cmdTail, fun i hml hrun h => ?cmdTailBad, fun i hml _ h => ?rplTail,
    fun t ht hheld hst => ?stall, fun k x t hx ht ha => ?expire, fun he hml => ?enableMl, fun he hml => ?enablePcie, fun h => ?disableBusy,
    fun h => ?disableIdle, fun he h => ?disableDone, fun hml => ?rinsePcie, fun hml => ?rinseMl, fun hml hrun => ⟨?readFail, ?writeFail⟩,
    fun packet size hw hml => ?waits, fun packet size ha hw hml hr hlink hmaster hd3 => ?entry,
    fun packet size sentTo b rest hs hml hring => ⟨fun x e hc he => ?cached, fun hc hx => ?executing, fun ha hw hc hx => ?datagram⟩⟩
  case cmdTail => exact onPair_eq hn (State.writeCmdTail_within hml h)
  case cmdTailBad => exact onPair_eq hn (State.writeCmdTail_beyond hml hrun h)
  case rplTail => exact onPair_eq hn (State.writeRplTail_within hml h)
  case stall => exact execReplyStallTimeout_held hn ht hheld hst
  case expire => exact execReplyTimeoutExpire_unanswered hn hx ht ha
  case enableMl => exact onPair_eq hn (State.enableRing_ml he hml)
  case enablePcie => exact onPair_eq hn (State.enableRing_pcie he hml)
  case disableBusy => exact onPair_eq hn (State.disableRing_busy h)
  case disableIdle => exact onPair_eq hn rfl
  case disableDone => exact onPair_eq hn (State.settleDisable_idle he h)
  case rinsePcie => exact onPair_eq hn (State.rinseRing_pcie hml)
  case rinseMl => exact onPair_eq hn (State.rinseRing_ml hml)
  case readFail => exact execDmaReadFail_ring hn hml hrun
  case writeFail => exact execRplDmaFail_running hn hml hrun
  case waits => exact execCommandAccept_waits hn packet size hw hml
  case entry =>
    have hdma : s.pcie.canDma = true := by rw [Pcie.canDma, hlink, hmaster, hd3]; rfl
    exact (execCommandAccept_entry hn packet size ha hw hml).trans (congrArg Host.Outcome.next (State.takeEntry_takes hr hdma size packet))
  case cached =>
    exact (execCommandAccept_datagram hn packet size hs hml).trans (congrArg Host.Outcome.next (State.takeDatagram_cached hring hc he))
  case executing =>
    exact (execCommandAccept_datagram hn packet size hs hml).trans
      (congrArg Host.Outcome.next (State.takeDatagram_executing hring (by rw [hc]; rfl) hx))
  case datagram =>
    exact (execCommandAccept_datagram hn packet size hs hml).trans
      (congrArg Host.Outcome.next (State.takeDatagram_accepts hring (by rw [hc]; rfl) hx ha hw))

end Sys2Proof.Machine
end

section
/-! SUPPORT. The PCIe function (R96, R507-R513, R535), datagrams and fragments of the management lane (R98, R514), its address (R515),
and the keepalive of a session (R102). -/

namespace Sys2Proof.Machine

section
variable {s : State}

/-! ## The PCIe function (R507-R509) -/

/-- Bits 15:8 of GLOBAL.ID are the stepping (R41). -/
theorem State.globalId_stepping (s : State) : s.globalId / 256 % 256 = s.fuses.stepping % 256 := by
  have hgrade : (if s.fuses.gradeI then 16 else 0) ≤ 16 := by split <;> decide
  have hkind : (if s.fuses.te8220 then 1 else 0) ≤ 1 := by split <;> decide
  unfold State.globalId
  omega

theorem State.pciFunction_values (s : State) :
    s.pciFunction.vendor = u16 s.personality 0 ∧ s.pciFunction.device = 0x8200 ∧ s.pciFunction.classCode = 0x048000 ∧
    s.pciFunction.revision = s.fuses.stepping % 256 ∧ s.pciFunction.subVendor = u16 s.personality 2 ∧
    s.pciFunction.subsystem = u16 s.personality 4 ∧ s.pciFunction.bars = [4194304, 0, 65536, 0, 0, 0, 0] ∧
    s.pciFunction.vectors = 64 ∧ (s.pciFunction.retry = true ↔ s.gl.device = .boot) ∧
    s.pciFunction.capabilities = [.pciExpress, .powerManagement, .msix, .advancedErrorReporting, .deviceSerialNumber, .functionLevelReset] ∧
    s.pciFunction.d3hot = s.pcie.d3hot ∧ s.pciFunction.aer = s.pcie.aer :=
  ⟨rfl, rfl, rfl, s.globalId_stepping, rfl, rfl, rfl, rfl, decide_eq_true_iff, rfl, rfl, rfl⟩

theorem State.onConfig_boot (h : s.gl.device = .boot) (f : State → State) : s.onConfig f = .next s :=
  congrArg Host.Outcome.next (if_pos h)

theorem State.onConfig_booted (h : s.gl.device ≠ .boot) (f : State → State) : s.onConfig f = .next (f s) :=
  congrArg Host.Outcome.next (if_neg h)

/-- Until boot has reached its step 8, configuration requests do nothing (R549). -/
theorem exec_config_boot (h : s.gl.device = .boot) :
    execPcieFlr s = .next s ∧ execBusMasterClear s = .next s ∧ execD3hotEnter s = .next s ∧ ∀ b, s.maskFunction b = .next s :=
  ⟨State.onConfig_boot h _, State.onConfig_boot h _, State.onConfig_boot h _, fun _ => State.onConfig_boot h _⟩

theorem exec_config_booted (h : s.gl.device ≠ .boot) :
    execPcieFlr s = .next s.resetFunction.losePcie ∧
    execBusMasterClear s = .next ({ s with pcie := { s.pcie with master := false } } : State).losePcie ∧
    execD3hotEnter s = .next ({ s with pcie := { s.pcie with d3hot := true } } : State).losePcie ∧
    ∀ b, s.maskFunction b = .next ({ s with pcie := { s.pcie with fnMask := b } } : State).flushMsix :=
  ⟨State.onConfig_booted h _, State.onConfig_booted h _, State.onConfig_booted h _, fun _ => State.onConfig_booted h _⟩

/-! ## Pending vectors (R513) -/

/-- A pending vector signals: its pending bit clears, and its message leaves. -/
def State.signalPending (v : Nat) (s : State) : State :=
  ({ s with pcie := { s.pcie with pba := s.pcie.pba &&& ~~~(1#64 <<< v) } } : State).msixEmit v

/-- The vectors that are pending and not masked, in rising number. -/
def Pcie.signalling (p : Pcie) : List Nat := (List.range 64).filter fun v => p.pba.getLsbD v && !p.masks v

theorem State.flushMsix_of_canDma (h : s.pcie.canDma = true) :
    s.flushMsix = s.pcie.signalling.foldl (fun s v => s.signalPending v) s := by
  rw [State.flushMsix, h]
  rfl

theorem Pcie.signalling_of_none_pending {p : Pcie} (h : p.pba = 0) : p.signalling = [] := by
  simp [Pcie.signalling, h]

theorem State.flushMsix_idle (h : s.pcie.canDma = false ∨ s.pcie.pba = 0) : s.flushMsix = s := by
  cases hdma : s.pcie.canDma with
  | false => rw [State.flushMsix, hdma]; rfl
  | true =>
    have hpba : s.pcie.pba = 0 := h.resolve_left (by rw [hdma]; decide)
    rw [State.flushMsix_of_canDma hdma, Pcie.signalling_of_none_pending hpba, List.foldl_nil]

/-- The bit of a vector among the 64. -/
theorem getLsbD_vectorBit (v : Nat) {w : Nat} (hw : w < 64) : (1#64 <<< v).getLsbD w = decide (w = v) := by
  rw [← BitVec.twoPow_eq, BitVec.getLsbD_twoPow]
  by_cases h : w = v
  · simp [← h, hw]
  · simp [h, Ne.symm h]

theorem getLsbD_clearVector (x : BitVec 64) (v : Nat) {w : Nat} (hw : w < 64) :
    (x &&& ~~~(1#64 <<< v)).getLsbD w = (x.getLsbD w && !decide (w = v)) := by
  rw [BitVec.getLsbD_and, BitVec.getLsbD_not, decide_eq_true hw, Bool.true_and, getLsbD_vectorBit v hw]

theorem State.signalPending_pba (v : Nat) (s : State) {w : Nat} (hw : w < 64) :
    (s.signalPending v).pcie.pba.getLsbD w = (s.pcie.pba.getLsbD w && !decide (w = v)) := getLsbD_clearVector _ v hw

/-- Each vector that has signalled is no longer pending. -/
theorem foldl_signalPending_pba (l : List Nat) (s : State) {w : Nat} (hw : w < 64) :
    (l.foldl (fun s v => s.signalPending v) s).pcie.pba.getLsbD w = (s.pcie.pba.getLsbD w && !decide (w ∈ l)) := by
  induction l generalizing s with
  | nil => simp
  | cons v l ih => rw [List.foldl_cons, ih, State.signalPending_pba v s hw]; simp [Bool.and_assoc]

theorem State.flushMsix_pba {v : Nat} (hv : v < 64) (hdma : s.pcie.canDma = true) (hm : s.pcie.masks v = false) :
    s.flushMsix.pcie.pba.getLsbD v = false := by
  rw [State.flushMsix_of_canDma hdma, foldl_signalPending_pba _ s hv]
  cases hp : s.pcie.pba.getLsbD v with
  | false => rfl
  | true =>
    have hmem : v ∈ s.pcie.signalling := List.mem_filter.mpr ⟨List.mem_range.mpr hv, by rw [hp, hm]; rfl⟩
    rw [decide_eq_true hmem]
    rfl

theorem State.maskVector_idle {v : Nat} (h : s.pcie.pba = 0 ∨ s.pcie.canDma = false) :
    s.maskVector v false = { s with pcie := { s.pcie with vecMask := s.pcie.vecMask &&& ~~~(1#64 <<< v) } } :=
  State.flushMsix_idle (Or.symm h)

/-- With one vector pending, which is not masked, it signals alone. -/
theorem Pcie.signalling_single {p : Pcie} {v : Nat} (hv : v < 64) (hp : p.pba = 1#64 <<< v) (hm : p.masks v = false) : p.signalling = [v] := by
  have honly : ∀ u ∈ List.range 64, (p.pba.getLsbD u && !p.masks u) = decide (u = v) := fun u hu => by
    rw [hp, getLsbD_vectorBit v (List.mem_range.mp hu)]
    by_cases h : u = v
    · rw [h, hm, Bool.not_false, Bool.and_true]
    · rw [decide_eq_false h, Bool.false_and]
  rw [Pcie.signalling, List.filter_congr honly, List.filter_eq, List.count_range, if_pos hv]
  rfl

theorem State.flushMsix_single {v : Nat} (hv : v < 64) (hp : s.pcie.pba = 1#64 <<< v) (hdma : s.pcie.canDma = true)
    (hm : s.pcie.masks v = false) : s.flushMsix = ({ s with pcie := { s.pcie with pba := 0 } } : State).msixEmit v := by
  have hclear : s.pcie.pba &&& ~~~(1#64 <<< v) = 0 := by rw [hp, BitVec.and_not_self]
  rw [State.flushMsix_of_canDma hdma, Pcie.signalling_single hv hp hm, List.foldl_cons, List.foldl_nil, State.signalPending, hclear]

theorem State.maskVector_signals {v : Nat} (hv : v < 64) (hp : s.pcie.pba = 1#64 <<< v) (hdma : s.pcie.canDma = true)
    (hf : s.pcie.fnMask = false) :
    s.maskVector v false = ({ s with pcie := { s.pcie with
      vecMask := s.pcie.vecMask &&& ~~~(1#64 <<< v), pba := 0 } } : State).emit (.msix v (s.pcie.message v).1 (s.pcie.message v).2) := by
  have hmask : ({ s.pcie with vecMask := s.pcie.vecMask &&& ~~~(1#64 <<< v) } : Pcie).masks v = false := by
    rw [Pcie.masks, hf, getLsbD_clearVector _ v hv, decide_eq_true rfl, Bool.not_true, Bool.and_false, Bool.or_false]
  exact State.flushMsix_single (s := { s with pcie := { s.pcie with vecMask := s.pcie.vecMask &&& ~~~(1#64 <<< v) } }) hv hp hdma hmask

/-! ## Datagrams of the management lane (R98, R514) -/

section
variable {e : Endpoint} {b : Bytes}

theorem State.datagramRx_unbound (h : s.pairFor e = none) :
    s.datagramRx e b = { s with hq := { s.hq with mlUnbound := satInc s.hq.mlUnbound } } := by rw [State.datagramRx, h]

theorem State.datagramRx_room {n : Nat} (h : s.pairFor e = some n) (hroom : (s.ring n).ring.length < 64) :
    s.datagramRx e b = s.setRing n { s.ring n with bound := some e, idleSince := none, ring := (s.ring n).ring ++ [(s.ml.addr, b)] } := by
  simp only [State.datagramRx, h, ge_iff_le, if_neg (Nat.not_le.mpr hroom)]

theorem State.datagramRx_full {n : Nat} (h : s.pairFor e = some n) (hfull : 64 ≤ (s.ring n).ring.length) :
    s.datagramRx e b = s.setRing n { s.ring n with bound := some e, idleSince := none, mlDrop := satInc (s.ring n).mlDrop } := by
  simp only [State.datagramRx, h, ge_iff_le, if_pos hfull]

/-- A datagram to the address in use. -/
theorem execMlDatagramRx_addressed (hl : s.ml.link = true) (ha : s.ml.addrSrc ≠ .none) :
    execMlDatagramRx e false b s = .next (s.datagramRx e b) := by
  simp only [execMlDatagramRx, State.mlRx, hl, if_neg ha, Bool.not_true, Bool.false_eq_true, if_false]

end

theorem execMlBindingExpire_idle {n t : Nat} (hn : n < 64) (hi : s.bindingIdle n = true) (ht : (s.ring n).idleSince = some t) :
    execMlBindingExpire n s = .next ((s.advanceNow (t + secT 60)).setRing n
      { (s.advanceNow (t + secT 60)).ring n with bound := none, cache := [], idleSince := none }) := by
  simp only [execMlBindingExpire, onPair_of_lt hn, hi, ht, Option.getD_some, Bool.not_true, Bool.false_eq_true, if_false]

/-! ## Reassembly (R514) -/

/-- The first fragment of a datagram, with nothing else in reassembly. -/
theorem State.fragmentRx_first {e : Endpoint} {id : Nat} {b : Bytes} (hl : s.ml.link = true) (ha : s.ml.addrSrc ≠ .none)
    (hr : s.ml.reasm = []) (hd : s.ml.wasDropped e id s.now = false) (hb : b.length ≤ 524288) :
    s.fragmentRx e id 0 true b =
      { s with ml := { s.ml with reasm := [{ src := e, id, parts := [(0, b)], total := none, since := s.now }] } } := by
  have hopen : ¬(!s.ml.link ∨ s.ml.addrSrc = .none ∨ s.ml.wasDropped e id s.now) := by simp [hl, ha, hd]
  have hbytes : s.ml.reasmBytes = 0 := by rw [Ml.reasmBytes, hr]; rfl
  have hroom : ¬(([] : List Reasm).length ≥ 8 ∨ s.ml.reasmBytes + b.length > 524288) := by
    rw [hbytes, List.length_nil]
    omega
  simp only [State.fragmentRx, if_neg hopen, hr, List.filter_nil, List.find?_nil, Option.getD_none, if_neg hroom]
  rfl

theorem execMlReassemblyTimeout_found {e : Endpoint} {id : Nat} {x : Reasm}
    (hx : (s.ml.reasm.find? fun x => decide (x.src = e ∧ x.id = id)) = some x) :
    execMlReassemblyTimeout e id s = .next ((s.advanceNow (x.since + secT 1)).dropReasm e id) := by
  rw [execMlReassemblyTimeout, hx]

/-- A datagram that reassembly drops is counted, remembered and gone, and the others stay. -/
theorem State.dropReasm_drops (e : Endpoint) (id : Nat) (s : State) :
    (s.dropReasm e id).ml.reasmDrop = satInc s.ml.reasmDrop ∧ (s.dropReasm e id).ml.wasDropped e id s.now = true ∧
    ∀ y, y ∈ (s.dropReasm e id).ml.reasm ↔ y ∈ s.ml.reasm ∧ ¬(y.src = e ∧ y.id = id) := by
  refine ⟨rfl, ?_, fun y => ?_⟩
  · exact List.any_eq_true.mpr ⟨{ src := e, id, at_ := s.now }, List.mem_append_right _ (List.mem_singleton.mpr rfl),
      decide_eq_true ⟨rfl, rfl, Nat.lt_add_of_pos_right (by decide)⟩⟩
  · show y ∈ s.ml.reasm.filter _ ↔ _
    simp only [List.mem_filter, Bool.not_eq_true', decide_eq_false_iff_not]

/-! ## The address of the lane (R515) and the keepalive of a session (R102) -/

theorem execDhcpMessageRx_ack (a gateway plen : Nat) (hl : s.ml.link = true) (hd : s.ml.dhcpOn = true) (ho : s.ml.offered = some a) :
    execDhcpMessageRx (.ack a gateway plen) s =
      .next { s with ml := { s.ml with addr := a, addrSrc := .dhcp, inUse := (plen, gateway), offered := none } } := by
  simp only [execDhcpMessageRx, hl, hd, ho, Bool.not_true, Bool.or_self, Bool.false_eq_true, if_false, true_or, if_true]

theorem execDhcpLeaseTimer_expire (h : s.ml.addrSrc = .dhcp) : execDhcpLeaseTimer .expire s = .next s.loseLease := by
  simp only [execDhcpLeaseTimer, h, ne_eq, not_true, if_false]

theorem execDhcpLeaseTimer_requests (timer : LeaseTimer) (h : s.ml.addrSrc ≠ .dhcp) (hl : s.ml.link = true) (hd : s.ml.dhcpOn = true) :
    execDhcpLeaseTimer timer s = .next s.dhcpDiscover := by
  simp only [execDhcpLeaseTimer, if_pos h, hl, hd, Bool.and_self, if_true]

theorem execLinkLocalTimeout_taken {a : Nat} (hl : s.ml.link = true) (hd : s.ml.dhcpOn = true) (hs : s.ml.addrSrc = .none)
    (ha : a / 65536 = 0xA9FE) :
    execLinkLocalTimeout a s =
      let u := s.advanceNow (s.ml.upAt + secT 10)
      .next ({ u with ml := { u.ml with addr := a, addrSrc := .linkLocal, inUse := (16, 0) } } : State).dhcpDiscover := by
  have hfree : ¬(!s.ml.link || !s.ml.dhcpOn || decide (s.ml.addrSrc ≠ .none) || decide (a / 65536 ≠ 0xA9FE)) = true := by
    simp [hl, hd, hs, ha]
  rw [execLinkLocalTimeout, if_neg hfree]

theorem execSessionKeepaliveExpire_open {slot : Nat} {x : Session} (hx : Tab.find s.ses slot = some x) (ho : x.isOpen = true)
    (hk : x.keepalive ≠ 0) :
    execSessionKeepaliveExpire slot s = .next ((s.advanceNow (x.lastUse + secT x.keepalive)).endSession slot .keepalive) := by
  have hlive : ¬(!x.isOpen || decide (x.keepalive = 0)) = true := by simp [ho, hk]
  rw [execSessionKeepaliveExpire, hx]
  exact if_neg hlive

end

/-- Settles O35. First the PCIe function, then the management lane and the keepalive of a session. The model's choices are the
function as its reset leaves it (log entry 7), the address after a lost lease and over APPLY (193), the bounds of reassembly (195),
and the configuration values that no row reads (240). -/
theorem linkEventsComplete : Obligations.LinkEventsComplete := by
  unfold Obligations.LinkEventsComplete
  refine ⟨fun s => ?function, fun s => ?lane⟩
  case function =>
    refine ⟨s.pciFunction_values, exec_config_boot, rfl, exec_config_booted, rfl, fun hh => ?held, fun hh => ?up,
      fun v hv hdma hm => State.flushMsix_pba hv hdma hm, State.flushMsix_idle, fun v hv h => ?unmask, fun v hv hp hdma hf => ?signals⟩
    case held => exact congrArg Host.Outcome.next (if_pos hh)
    case up => exact congrArg Host.Outcome.next (if_neg (Bool.eq_false_iff.mp hh))
    case unmask => exact congrArg Host.Outcome.next ((if_pos hv).trans (State.maskVector_idle h))
    case signals => exact congrArg Host.Outcome.next ((if_pos hv).trans (State.maskVector_signals hv hp hdma hf))
  case lane =>
    refine ⟨fun e b n hl ha hn hroom => ?room, fun e b n hl ha hn hfull => ?full, fun e b hl ha hn => ?unbound,
      fun n t hn hi ht => execMlBindingExpire_idle hn hi ht, fun e id b hl ha hr hd hb => ?fragment,
      fun e id x hx => execMlReassemblyTimeout_found hx, fun e id => s.dropReasm_drops e id, rfl,
      fun a g p hl hd ho => execDhcpMessageRx_ack a g p hl hd ho, fun h => execDhcpLeaseTimer_expire h,
      fun a hl hd hs ha => execLinkLocalTimeout_taken hl hd hs ha, fun timer h hl hd => execDhcpLeaseTimer_requests timer h hl hd,
      fun sp => rfl, fun slot x hx ho hk => execSessionKeepaliveExpire_open hx ho hk⟩
    case room => exact (execMlDatagramRx_addressed hl ha).trans (congrArg Host.Outcome.next (State.datagramRx_room hn hroom))
    case full => exact (execMlDatagramRx_addressed hl ha).trans (congrArg Host.Outcome.next (State.datagramRx_full hn hfull))
    case unbound => exact (execMlDatagramRx_addressed hl ha).trans (congrArg Host.Outcome.next (State.datagramRx_unbound hn))
    case fragment => exact congrArg Host.Outcome.next (State.fragmentRx_first hl ha hr hd hb)

end Sys2Proof.Machine
end

section
/-! SUPPORT. Received slot values (R135): bit replication as shifts, the slots of a parameter within a packet, and their order. -/

namespace Sys2Proof.Machine

/-! ## Bit replication -/

theorem expandSlot_one {v : Nat} (h : v < 2 ^ 8) : expandSlot 1 v = v <<< 12 ||| v <<< 4 ||| v >>> 4 := by
  have hlow : v >>> 4 < 2 ^ 4 := by rw [Nat.shiftRight_eq_div_pow]; omega
  have hmid : v <<< 4 + v >>> 4 < 2 ^ 12 := by rw [Nat.shiftLeft_eq]; omega
  rw [Nat.or_assoc, ← Nat.shiftLeft_add_eq_or_of_lt hlow, ← Nat.shiftLeft_add_eq_or_of_lt hmid, Nat.shiftLeft_eq, Nat.shiftLeft_eq,
    Nat.shiftRight_eq_div_pow, ← Nat.add_assoc]
  rfl

theorem expandSlot_two {v : Nat} (h : v < 2 ^ 16) : expandSlot 2 v = v <<< 4 ||| v >>> 12 := by
  have hlow : v >>> 12 < 2 ^ 4 := by rw [Nat.shiftRight_eq_div_pow]; omega
  rw [← Nat.shiftLeft_add_eq_or_of_lt hlow, Nat.shiftLeft_eq, Nat.shiftRight_eq_div_pow]
  rfl

theorem expandSlot_three (v : Nat) : expandSlot 3 v = v >>> 4 := (Nat.shiftRight_eq_div_pow v 4).symm

/-! ## The slots of a parameter -/

theorem slice_length {b : Bytes} {off len : Nat} (h : off + len ≤ b.length) : (slice b off len).length = len := by
  rw [slice, List.length_take, List.length_drop]
  omega

theorem padTo_of_length {n : Nat} {b : Bytes} (h : b.length = n) : padTo n b = b := by
  subst h
  rw [padTo, Nat.sub_self, zeros, List.replicate_zero, List.append_nil, List.take_length]

/-- Where the packet reaches over the slots of a parameter, none is filled up with zeros (R139). -/
theorem receivedValue_within {t slots : Bytes} {p start : Nat} (h : start + fpSlot t p - 1 + fpWidth t p ≤ slots.length) :
    receivedValue t p start slots =
      let v := expandSlot (fpWidth t p) (beNat (slice slots (start + fpSlot t p - 1) (fpWidth t p)))
      if fpInvert t p then 0xFFFFF - v else v := by
  rw [receivedValue, padTo_of_length (slice_length h)]

theorem leNat_append (a b : Bytes) : leNat (a ++ b) = leNat a + 256 ^ a.length * leNat b := by
  induction a with
  | nil => rw [List.nil_append, leNat, List.length_nil, Nat.pow_zero, Nat.one_mul, Nat.zero_add]
  | cons x a ih =>
    rw [List.cons_append, leNat, ih, leNat, List.length_cons, Nat.pow_succ', Nat.mul_add, Nat.mul_assoc, Nat.add_assoc]

/-- The first byte on the wire is the most significant one. -/
theorem beNat_cons (a : Byte) (b : Bytes) : beNat (a :: b) = a.toNat * 256 ^ b.length + beNat b := by
  rw [beNat, beNat, List.reverse_cons, leNat_append, List.length_reverse, leNat, leNat, Nat.mul_zero, Nat.add_zero,
    Nat.mul_comm, Nat.add_comm]

/-- Settles O51: the products and quotients of `expandSlot` are shifts of disjoint bits, and a packet that reaches over the slots
of the parameter gives them as they are. -/
theorem receivedSlotsExpandTo20Bits : Obligations.ReceivedSlotsExpandTo20Bits := by
  unfold Obligations.ReceivedSlotsExpandTo20Bits
  exact ⟨fun _ => expandSlot_one, fun _ => expandSlot_two, fun v _ => expandSlot_three v, rfl, rfl, rfl, rfl, rfl, rfl,
    fun _ _ _ _ => receivedValue_within, beNat_cons⟩

end Sys2Proof.Machine
end

section
/-! SUPPORT. Class T commands at their cut (R87, R137, R138, R199, R320, R389, R397). -/

namespace Sys2Proof.Machine

/-! ## The effect of a queued command -/

/-- A command of the class T takes effect by the body of its opcode. -/
theorem State.takeEffect_timed {op : Op} {check : Req → State → Chk? Unit} {apply : Req → Nat → State → State}
    (hf : timedOps.find? (fun o => o.code = op.code) = some op) (hb : op.body = .timed check apply)
    (n : Nat) (r : Req) (f : Option Nat) (s : State) : s.takeEffect n (inQueue op.code r f) = apply r n s := by
  rw [State.takeEffect, show (inQueue op.code r f).op = op.code from rfl, hf]
  simp only [inQueue, hb]

/-- The effect of a mirrored command also counts its mirror as done (R389). -/
theorem State.takeEffect_mirrored (n op k : Nat) (r : Req) (f : Option Nat) (s : State) :
    s.takeEffect n { inQueue op r f with seq := some k } =
      ({ s with pair := { s.pair with mirrorDone := max s.pair.mirrorDone k } } : State).takeEffect n (inQueue op r f) := rfl

section
variable (r : Req) (n : Nat) (f : Option Nat) (s : State)

/-! ## TRIM_CONTROL, FLOW_ENABLE and PAIR_HANDOVER (R199, R320, R397) -/

variable {r} in
theorem State.takeEffect_trimControl_temperature (h : u8 r.payload 0 = 3) :
    s.takeEffect n (inQueue trimControlOp.code r f) =
      { s with col := { s.col with temps := Tab.put s.col.temps (u8 r.payload 2) (iAt r.payload 4 2) } } :=
  (s.takeEffect_timed (op := trimControlOp) rfl rfl n r f).trans (if_pos h)

theorem State.takeEffect_flowEnable_flowOf :
    (s.takeEffect n (inQueue flowEnableOp.code r f)).flowOf (u16 r.payload 0) = { s.flowOf (u16 r.payload 0) with
      switches := (s.flowOf (u16 r.payload 0)).switches ++
        [{ frame := n, enable := (u16 r.payload 2).testBit 0, terminate := (u16 r.payload 2).testBit 1 }] } := by
  rw [s.takeEffect_timed (op := flowEnableOp) rfl rfl, State.updFlow_flowOf]

theorem State.takeEffect_pairHandover : s.takeEffect n (inQueue pairHandoverOp.code r f) = s.fixHandover n :=
  s.takeEffect_timed (op := pairHandoverOp) rfl rfl n r f

variable {s} in
theorem State.fixHandover_fixed (h : s.pair.handover.isSome = true) :
    s.fixHandover n = s.raiseFrame Ev.pairDuty 0 DutyCause.abandoned.code n := by
  refine if_neg fun hfree => ?_
  rw [Option.isNone_iff_eq_none.mp hfree.2] at h
  exact Bool.false_ne_true h

variable {s} in
theorem State.fixHandover_active (ha : s.pair.st = .active) (h : s.pair.handover = none) :
    s.fixHandover n = { s with pair := { s.pair with handover := some (n, false) } } :=
  if_pos ⟨.inl ha, by rw [h]; rfl⟩

/-! ## PARAM_WRITE and PARAM_RELEASE (R137, R138) -/

theorem State.takeEffect_paramWrite :
    s.takeEffect n (inQueue paramWriteOp.code r f) = (records r.payload 8 8 (u32 r.payload 0)).foldl (fun s d =>
      s.updPar (u32 d 0 % 2 ^ 24) fun p => { p with live := some ⟨u32 d 4 % 2 ^ 20, u8 r.payload 4, n⟩ }) s :=
  s.takeEffect_timed (op := paramWriteOp) rfl rfl n r f

theorem State.takeEffect_paramRelease :
    s.takeEffect n (inQueue paramReleaseOp.code r f) =
      if r.opFlag 8 then { s with par := { s.par with tab := Tab.mapV s.par.tab fun _ p => { p with live := none } } }
      else (records r.payload 8 8 (u32 r.payload 0)).foldl (fun s d => s.updPar (u32 d 0 % 2 ^ 24) fun p => { p with live := none }) s :=
  s.takeEffect_timed (op := paramReleaseOp) rfl rfl n r f

end

/-- Settles O24: each command means its opcode and goes to its queue (`queues_of_exec`), and at the cut the body of its opcode acts
(`State.takeEffect_timed`). -/
theorem timedOutputCommandsComplete : Obligations.TimedOutputCommandsComplete := by
  unfold Obligations.TimedOutputCommandsComplete
  refine ⟨⟨fun r s => ?queuesOutput, fun r s n f => ⟨s.takeEffect_trimControl_temperature n f, s.takeEffect_flowEnable_flowOf r n f,
      fun _ h => ?abandoned, fun ha h => ?fixed, fun op k => s.takeEffect_mirrored n op k r f⟩⟩,
    fun r s => ?queuesParam, fun r s n f => ⟨s.takeEffect_paramWrite r n f, fun h => ?release, fun h => ?releaseAll⟩⟩
  case queuesOutput => and_intros <;> exact queues_of_exec (fun _ _ => rfl) r s
  case abandoned => exact (s.takeEffect_pairHandover r n f).trans (State.fixHandover_fixed n h)
  case fixed => exact (s.takeEffect_pairHandover r n f).trans (State.fixHandover_active n ha h)
  case queuesParam => and_intros <;> exact queues_of_exec (fun _ _ => rfl) r s
  case release => rw [State.takeEffect_paramRelease, h, if_neg Bool.false_ne_true]
  case releaseAll => rw [State.takeEffect_paramRelease, if_pos h]

end Sys2Proof.Machine
end

section
/-! SUPPORT. The queries of the show and of the units: what the body of each answers where its checks pass, and the reply in place
of data that was read poisoned (R439). -/

namespace Sys2Proof.Machine

section
variable (r : Req) {u : State}

/-! ## Patch and parameters (R127, R142) -/

theorem patchReadOp_result (hfirst : u32 r.payload 0 ≤ 131071) (hlo : 1 ≤ u32 r.payload 4) (hhi : u32 r.payload 4 ≤ 16384) :
    patchReadOp.result r u =
      let left := (u.cfg.all .patch).filter fun e => u32 r.payload 0 ≤ e.1
      let l := left.take (u32 r.payload 4)
      let next := if left.length ≤ u32 r.payload 4 then 131072 else (l.getLast?.map fun e => e.1 + 1).getD 131072
      .ok (u, .ok (leBytes 4 l.length ++ leBytes 4 next ++ l.flatMap fun e => u.cfg.patchRow e.2)) := by
  simp only [Op.result, patchReadOp]
  rw [inRange_bind _ (decide_eq_true hfirst), inRange_bind _ (decide_eq_true ⟨hlo, hhi⟩)]
  generalize (u.cfg.all .patch).filter (fun e => decide (u32 r.payload 0 ≤ e.1)) = left
  cases (left.take (u32 r.payload 4)).getLast? with
  | none => simp only [Option.map_none, Option.getD_none, ite_self]
  | some e => simp only [gt_iff_lt, ← Nat.not_le, ite_not, Option.map_some, Option.getD_some]

theorem paramReadOp_result (hlo : 1 ≤ u32 r.payload 4) (hhi : u32 r.payload 4 ≤ 16384)
    (hend : u32 r.payload 0 % 2 ^ 24 + u32 r.payload 4 ≤ 2 ^ 24) :
    paramReadOp.result r u = .ok (u, .done {
      frame := if u.par.cut then u.gl.frame else none
      payload := (List.range (u32 r.payload 4)).flatMap fun i => leBytes 4 (u.paramEntry (u32 r.payload 0 % 2 ^ 24 + i)) }) := by
  simp only [Op.result, paramReadOp]
  rw [inRange_bind _ (decide_eq_true ⟨hlo, hhi, hend⟩)]

/-! ## Playbacks and generators (R171, R172) -/

theorem playbackStatusOp_result (hlo : 1 ≤ u16 r.payload 2) (hend : u16 r.payload 0 + u16 r.payload 2 ≤ 256) :
    playbackStatusOp.result r u = .ok (u, .done {
      frame := u.gl.frame, payload := (List.range (u16 r.payload 2)).flatMap fun i => u.playbackRow (u16 r.payload 0 + i) }) := by
  simp only [Op.result, playbackStatusOp]
  rw [inRange_bind _ (decide_eq_true ⟨hlo, hend⟩)]

theorem effectStatusOp_result (hlo : 1 ≤ u16 r.payload 2) (hend : u16 r.payload 0 + u16 r.payload 2 ≤ 512) :
    effectStatusOp.result r u =
      .ok (u, .ok ((List.range (u16 r.payload 2)).flatMap fun i => u.generatorRow (u16 r.payload 0 + i))) := by
  simp only [Op.result, effectStatusOp]
  rw [inRange_bind _ (decide_eq_true ⟨hlo, Nat.le_trans (Nat.le_add_left _ _) hend, hend⟩)]

/-! ## Calibration runs, trimming and video receivers (R193, R200, R230) -/

theorem calResultOp_result {x : CalRun} (hx : (u.col.runs.find? fun y => y.job.id = u32 r.payload 0) = some x) :
    calResultOp.result r u = .ok (u, .ok x.report) := by
  simp only [Op.result, calResultOp, hx]

theorem trimStatusOp_result (hlo : 1 ≤ u32 r.payload 4) (hhi : u32 r.payload 4 ≤ 4096) :
    trimStatusOp.result r u =
      .ok (u, .ok (((u.cfg.all .binding).filter fun e => bdTrim e.2 && u32 r.payload 0 ≤ e.1 &&
        e.1 < u32 r.payload 0 + u32 r.payload 4).flatMap fun e => u.trimRow e.1)) := by
  simp only [Op.result, trimStatusOp]
  rw [inRange_bind _ (decide_eq_true ⟨hlo, hhi⟩)]

theorem videoRxStatusOp_result (hf : u.fuses.te8220 = false) (hfirst : u32 r.payload 0 ≤ 7) (hlo : 1 ≤ u32 r.payload 4)
    (hend : u32 r.payload 0 + u32 r.payload 4 ≤ 8) :
    videoRxStatusOp.result r u = .ok (u, .ok ((List.range (u32 r.payload 4)).flatMap fun i =>
      let v := Tab.getD u.video (u32 r.payload 0 + i) {}
      leBytes 1 (u32 r.payload 0 + i) ++ leBytes 1 (u.videoState (u32 r.payload 0 + i)) ++ zeros 2 ++ leBytes 4 v.complete ++
        leBytes 4 v.incomplete ++ leBytes 4 v.dropped ++ leBytes 4 v.rtp ++ leBytes 4 v.diverge ++ zeros 8)) := by
  simp only [Op.result, videoRxStatusOp]
  rw [inRange_bind _ (decide_eq_true hfirst), need_bind _ (by rw [hf]; rfl), inRange_bind _ (decide_eq_true ⟨hlo, hend⟩)]

/-! ## Flows and latencies (R305, R323) -/

theorem flowStatsOp_result (hlo : 1 ≤ u16 r.payload 2) (hhi : u16 r.payload 2 ≤ 4096) :
    flowStatsOp.result r u =
      let here := fun (n : Nat) => decide (u16 r.payload 0 ≤ n) && decide (n < u16 r.payload 0 + u16 r.payload 2)
      .ok (u, .ok ((((u.cfg.all .flow).filter fun e => here e.1).flatMap fun e => u.flowRow e.1 e.2) ++
        (u.cfg.mappedUniverses.filter here).flatMap u.universeRow)) := by
  simp only [Op.result, flowStatsOp]
  rw [inRange_bind _ (decide_eq_true ⟨hlo, hhi⟩)]

theorem latencyTableOp_result (hlo : 1 ≤ u16 r.payload 2) (hhi : u16 r.payload 2 ≤ 4096) :
    latencyTableOp.result r u =
      .ok (u, .ok (((u.cfg.all .flow).filter fun e => u16 r.payload 0 ≤ e.1 && e.1 < u16 r.payload 0 + u16 r.payload 2).flatMap
        fun e => u.latencyRow e.1 e.2)) := by
  simp only [Op.result, latencyTableOp]
  rw [inRange_bind _ (decide_eq_true ⟨hlo, hhi⟩)]

/-! ## Meters, flash, log and counters (R416, R457, R499, R500) -/

theorem meterReadOp_result {d : Bytes} (hset : u8 r.payload 1 ≤ 63) (hd : u.cfg.get .meter (u8 r.payload 0) = some d) :
    meterReadOp.result r u =
      let snap := (Tab.getD u.nv.snaps (u8 r.payload 0) []).getD (u8 r.payload 1) {}
      let now_ := (Tab.getD u.met.meters (u8 r.payload 0) {}).sets
      let live := fun (a : Nat) => { snap.sets.getD a {} with imp := accOf (now_.getD a {}).imp, exp := accOf (now_.getD a {}).exp }
      .ok (u, .ok (snap.bytes ((List.range (mtSets d)).map fun a =>
        if bit (u16 r.payload 2) 0 then live a else snap.sets.getD a {}))) := by
  simp only [Op.result, meterReadOp, hd]
  rw [inRange_bind _ (decide_eq_true hset)]

theorem flashReadOp_result (hlo : 1 ≤ u32 r.payload 8) (hhi : u32 r.payload 8 ≤ 65536)
    (hend : u64 r.payload 0 + u32 r.payload 8 ≤ u.flashBytes) :
    flashReadOp.result r u =
      .ok (u, .ok ((List.range (u32 r.payload 8)).map fun i => u.flashAt (u64 r.payload 0 + i))) := by
  simp only [Op.result, flashReadOp]
  rw [inRange_bind _ (decide_eq_true ⟨hlo, hhi⟩), need_bind _ (decide_eq_true hend), State.flashRange]

/-- A test that does not look at the position finds the position that `List.findIdx?` gives. -/
theorem firstIdx_eq_findIdx? {α : Type} (p : α → Bool) (l : List α) (i : Nat) :
    firstIdx l i (fun _ x => p x) = (l.findIdx? p).map (· + i) := by
  induction l generalizing i with
  | nil => rfl
  | cons x l ih =>
    rw [firstIdx, List.findIdx?_cons]
    split
    · simp
    · rw [ih, Option.map_map]
      simp [Function.comp_def, Nat.add_assoc, Nat.add_comm 1]

/-- Whether an entry of the log comes after a sequence number, in the half of the numbers ahead of it (R499). -/
def logsAfter (seq : Nat) (e : EventRec) : Bool :=
  decide (1 ≤ (e.seq + 2 ^ 32 - seq) % 2 ^ 32 ∧ (e.seq + 2 ^ 32 - seq) % 2 ^ 32 ≤ 2 ^ 31)

/-- The reply of LOG_READ from the entry with index `k` on. -/
def State.logPage (k count : Nat) (s : State) : Bytes :=
  let l := (s.nv.log.drop (k - s.nv.logOldest)).take count
  leBytes 8 k ++ leBytes 8 (k + l.length) ++ l.flatMap fun e => e.bytes false

section
variable {r} (hlo : 1 ≤ u16 r.payload 8) (hhi : u16 r.payload 8 ≤ 2046)
include hlo hhi

theorem logReadOp_result_index (hm : u8 r.payload 10 = 0) :
    logReadOp.result r u =
      .ok (u, .ok (u.logPage (min (max (u48 r.payload 0) u.nv.logOldest) u.nv.logNext) (u16 r.payload 8))) := by
  simp only [Op.result, logReadOp, hm, if_true]
  rw [inRange_bind _ (decide_eq_true ⟨hlo, hhi⟩), inRange_bind _ (decide_eq_true (Nat.zero_le 1)), State.logPage]

theorem logReadOp_result_seq {k : Nat} (hm : u8 r.payload 10 = 1) (hk : u.nv.log.findIdx? (logsAfter (u32 r.payload 0)) = some k) :
    logReadOp.result r u = .ok (u, .ok (u.logPage (u.nv.logOldest + k) (u16 r.payload 8))) := by
  have hfirst : firstIdx u.nv.log 0 (fun _ e => decide (1 ≤ (e.seq + 2 ^ 32 - u32 r.payload 0) % 2 ^ 32) &&
      decide ((e.seq + 2 ^ 32 - u32 r.payload 0) % 2 ^ 32 ≤ 2 ^ 31)) = some k := by
    simp only [← Bool.decide_and]
    exact (firstIdx_eq_findIdx? (logsAfter (u32 r.payload 0)) u.nv.log 0).trans (by rw [hk]; rfl)
  simp only [Op.result, logReadOp, hm]
  rw [inRange_bind _ (decide_eq_true ⟨hlo, hhi⟩), inRange_bind _ (decide_eq_true (Nat.le_refl 1)), if_neg Nat.one_ne_zero, hfirst, State.logPage]

end

theorem countersReadOp_result (hlo : 1 ≤ u16 r.payload 2) (hhi : u16 r.payload 2 ≤ 512)
    (hend : u16 r.payload 0 + u16 r.payload 2 ≤ 65536) :
    countersReadOp.result r u = .ok (u, .ok ((List.range (u16 r.payload 2)).flatMap fun i =>
      leBytes 2 (u16 r.payload 0 + i) ++ zeros 2 ++ leBytes 4 (u.counterValue (u16 r.payload 0 + i)))) := by
  simp only [Op.result, countersReadOp]
  rw [inRange_bind _ (decide_eq_true ⟨hlo, hhi, hend⟩)]

/-! ## Check channels (R452) -/

theorem chkResultOp_result (hc : u8 r.payload 0 ≤ 3) (hst : (u.chan (u8 r.payload 0)).st ≠ .dataError) :
    chkResultOp.result r u =
      let x := u.chan (u8 r.payload 0)
      .ok (u, .ok (leBytes 4 x.statusWord ++ leBytes 4 x.passes ++ leBytes 1 x.source ++ leBytes 1 x.poly ++
        leBytes 1 (if x.te5100 then 1 else 0) ++ zeros 1 ++ leBytes 4 x.mismatches ++ leBytes 8 x.start ++ leBytes 8 x.length ++
        leBytes 8 x.result ++ leBytes 8 x.expected)) := by
  simp only [Op.result, chkResultOp]
  rw [inRange_bind _ (decide_eq_true hc), need_bind _ (decide_eq_true hst)]

theorem chkResultOp_result_dataError (hc : u8 r.payload 0 ≤ 3) (hst : (u.chan (u8 r.payload 0)).st = .dataError) :
    chkResultOp.result r u = .error ⟨Status.dataUncorrectable, 0⟩ := by
  simp only [Op.result, chkResultOp, hst]
  rw [inRange_bind _ (decide_eq_true hc)]
  rfl

end

/-! ## A reply whose data was read poisoned (R439) -/

/-- A command that passes its checks and need not wait executes at once. -/
theorem hostCommand_starts {op : Op} {r : Req} {s : State} (hc : s.checks op r = true) (hn : (s.entered op r).startsNow op r = true) :
    hostCommand op r s = .next ((s.entered op r).concludeRead r (op.execute r (s.entered op r))) := by
  simp only [State.checks, Bool.and_eq_true, decide_eq_true_eq, Bool.not_eq_true'] at hc
  obtain ⟨⟨⟨⟨hpair, haccepts, hconfirm⟩, hheader⟩, -⟩, -⟩ := hc
  have hstart : (s.accept op.code r).start op r = (s.entered op r).concludeRead r (op.execute r (s.entered op r)) := by
    unfold State.start
    rw [headerCheck_accept, Chk?.eq_ok hheader]
    exact if_pos hn
  simp only [hostCommand, if_neg (Nat.not_le.mpr hpair), ge_iff_le, haccepts, hconfirm, hstart, Bool.not_true, Bool.or_self,
    Bool.false_eq_true, if_false]

theorem State.concludeRead_poisoned {r : Req} {p : Poison} {a : Ans} (hp : r.poison = some p) (ha : a.status = Status.ok)
    (hdata : a.payload ≠ []) (s u : State) :
    s.concludeRead r (.ok (u, .done a)) = (s.foundPoison p).answer r.pair { status := Status.dataUncorrectable } := by
  have hreplies : repliesPoison r (.ok (u, .done a)) = true := by simp [repliesPoison, hp, ha, hdata]
  rw [State.concludeRead, hreplies, hp]

/-- Settles O26, query by query. The model's choices are the universe records of FLOW_STATS (log entry 228), zeros for a missing
snapshot (161), the continuation of PATCH_READ (63), the fields of TRIM_STATUS and VIDEO_RX_STATUS (21), and EFFECT_STATUS
without FRAME_VALID (68). -/
theorem queriesAnswer : Obligations.QueriesAnswer := by
  unfold Obligations.QueriesAnswer
  refine ⟨fun r s => ⟨?patch, ?params, ?playbacks, ?generators, fun x => ?calibration, ?trim, ?video⟩,
    fun r s => ⟨?flows, ?latency, ?time, ?pair, ?personality, fun d => ?meter, ?flash, fun k => ?logIndex, fun k => ?logSeq,
      ?counters, ?channel, ?echo, ?health, ?avs, ?dataError, fun op p u a hp hc hn hx ha hdata => ?poisoned⟩⟩
  case patch => exact runs_of_result (fun _ _ => rfl) (fun u ⟨hfirst, hlo, hhi⟩ => patchReadOp_result r hfirst hlo hhi) s
  case params => exact runs_of_result (fun _ _ => rfl) (fun u ⟨hlo, hhi, hend⟩ => paramReadOp_result r hlo hhi hend) s
  case playbacks => exact runs_of_result (fun _ _ => rfl) (fun u ⟨hlo, hend⟩ => playbackStatusOp_result r hlo hend) s
  case generators => exact runs_of_result (fun _ _ => rfl) (fun u ⟨hlo, hend⟩ => effectStatusOp_result r hlo hend) s
  case calibration => exact runs_of_result (fun _ _ => rfl) (fun u hx => calResultOp_result r hx) s
  case trim => exact runs_of_result (fun _ _ => rfl) (fun u ⟨hlo, hhi⟩ => trimStatusOp_result r hlo hhi) s
  case video =>
    exact runs_of_result (fun _ _ => rfl) (fun u ⟨hf, hfirst, hlo, hend⟩ => videoRxStatusOp_result r hf hfirst hlo hend) s
  case flows => exact runs_of_result (fun _ _ => rfl) (fun u ⟨hlo, hhi⟩ => flowStatsOp_result r hlo hhi) s
  case latency => exact runs_of_result (fun _ _ => rfl) (fun u ⟨hlo, hhi⟩ => latencyTableOp_result r hlo hhi) s
  case time => exact runs_of_result (fun _ _ => rfl) (fun u _ => rfl) s
  case pair => exact runs_of_result (fun _ _ => rfl) (fun u _ => rfl) s
  case personality => exact runs_of_result (fun _ _ => rfl) (fun u _ => rfl) s
  case meter => exact runs_of_result (fun _ _ => rfl) (fun u ⟨hset, hd⟩ => meterReadOp_result r hset hd) s
  case flash => exact runs_of_result (fun _ _ => rfl) (fun u ⟨hlo, hhi, hend⟩ => flashReadOp_result r hlo hhi hend) s
  case logIndex =>
    refine runs_of_result (fun _ _ => rfl) (fun u ⟨hlo, hhi, hm, hk⟩ => ?_) s
    subst hk
    exact logReadOp_result_index hlo hhi hm
  case logSeq =>
    refine runs_of_result (fun _ _ => rfl) (fun u ⟨hlo, hhi, hm, hk⟩ => ?_) s
    rw [logReadOp_result_seq hlo hhi hm hk, State.logPage, Nat.add_sub_cancel_left]
    rfl
  case counters => exact runs_of_result (fun _ _ => rfl) (fun u ⟨hlo, hhi, hend⟩ => countersReadOp_result r hlo hhi hend) s
  case channel => exact runs_of_result (fun _ _ => rfl) (fun u ⟨hc, hst⟩ => chkResultOp_result r hc hst) s
  case echo => exact runs_of_result (fun _ _ => rfl) (fun u _ => rfl) s
  case health => exact runs_of_result (fun _ _ => rfl) (fun u _ => rfl) s
  case avs => exact runs_of_result (fun _ _ => rfl) (fun u _ => rfl) s
  case dataError =>
    exact runs_of_refusal (b := ⟨Status.dataUncorrectable, 0⟩) (fun _ _ => rfl)
      (fun u ⟨hc, hst⟩ => chkResultOp_result_dataError r hc hst) s
  case poisoned => rw [hostCommand_starts hc hn, hx, State.concludeRead_poisoned hp ha hdata]

end Sys2Proof.Machine
end

section
/-! SUPPORT. The ramp of the size of a generator (R169): while it lasts, each cut of a frame interpolates and keeps it, and the cut
of the frame in which it ends takes its target and removes it. -/

namespace Sys2Proof.Machine

/-! ## Rounding to the nearest -/

theorem rdiv_eq_fdiv (a : Int) {b : Int} (hb : 0 < b) : rdiv a b = Int.fdiv (2 * a + b) (2 * b) :=
  (Int.fdiv_eq_ediv_of_nonneg _ (by omega)).symm

/-- A size k/N of the way from one size to another, rounded to the nearest, is not negative. -/
theorem ramp_nonneg (s0 s1 : Nat) {k n : Nat} (h : k < n) : 0 ≤ (s0 : Int) + rdiv (((s1 : Int) - s0) * k) n := by
  have hstart : (s0 : Int) * k ≤ s0 * n := Int.mul_le_mul_of_nonneg_left (by omega) (by omega)
  have htarget : 0 ≤ (s1 : Int) * k := Int.mul_nonneg (by omega) (by omega)
  have hround : -(s0 : Int) ≤ rdiv (((s1 : Int) - s0) * k) n := by
    refine (Int.le_ediv_iff_mul_le (by omega)).mpr ?_
    rw [Int.sub_mul, Int.neg_mul, Int.mul_left_comm (s0 : Int) 2 n]
    omega
  omega

/-! ## One cut -/

section
variable {g : Gen} {s0 s1 f n : Nat}

theorem Gen.sizeAt_of_ramp (h : g.ramp = some (s0, s1, f, n)) {k : Nat} (hk : k < n) :
    (g.sizeAt (f + k) : Int) = s0 + rdiv (((s1 : Int) - s0) * k) n := by
  have hlasts : ¬f + k ≥ f + n := by omega
  simp only [Gen.sizeAt, h, if_neg hlasts, Nat.add_sub_cancel_left]
  exact Int.toNat_of_nonneg (ramp_nonneg s0 s1 hk)

theorem Gen.atCut_ramp_lasts (h : g.ramp = some (s0, s1, f, n)) {k : Nat} (hk : k < n) : (g.atCut (f + k)).ramp = g.ramp := by
  have hlasts : ¬f + k ≥ f + n := by omega
  simp only [Gen.atCut, h, if_neg hlasts]

theorem Gen.atCut_ramp_ends (h : g.ramp = some (s0, s1, f, n)) : (g.atCut (f + n)).ramp = none ∧ (g.atCut (f + n)).size = s1 := by
  have hends : f + n ≥ f + n := Nat.le_refl _
  simp only [Gen.atCut, Gen.sizeAt, h, if_pos hends, and_self]

theorem Gen.atCut_of_no_ramp (h : g.ramp = none) (m : Nat) : (g.atCut m).ramp = none ∧ (g.atCut m).size = g.size := by
  simp only [Gen.atCut, Gen.sizeAt, h, and_self]

/-! ## The cuts from one frame on -/

/-- A generator after the cuts of the m frames from frame f on, with no command in them. -/
def Gen.cuts (f m : Nat) (g : Gen) : Gen := (List.range m).foldl (fun g i => g.atCut (f + i)) g

theorem Gen.cuts_succ (f m : Nat) (g : Gen) : g.cuts f (m + 1) = (g.cuts f m).atCut (f + m) := by
  simp only [Gen.cuts, List.range_succ, List.foldl_append, List.foldl_cons, List.foldl_nil]

theorem Gen.cuts_ramp_lasts (h : g.ramp = some (s0, s1, f, n)) {m : Nat} (hm : m ≤ n) : (g.cuts f m).ramp = g.ramp := by
  induction m with
  | zero => rfl
  | succ m ih =>
    have hramp := ih (by omega)
    rw [Gen.cuts_succ, Gen.atCut_ramp_lasts (hramp.trans h) hm, hramp]

theorem Gen.cuts_ramp_ended (h : g.ramp = some (s0, s1, f, n)) {k : Nat} (hk : n ≤ k) :
    (g.cuts f (k + 1)).ramp = none ∧ (g.cuts f (k + 1)).size = s1 := by
  induction hk with
  | refl =>
    rw [Gen.cuts_succ]
    exact Gen.atCut_ramp_ends ((Gen.cuts_ramp_lasts h (Nat.le_refl n)).trans h)
  | step _ ih =>
    obtain ⟨hnone, hsize⟩ := ih
    rw [Gen.cuts_succ, ← hsize]
    exact Gen.atCut_of_no_ramp hnone _

theorem Gen.cuts_size_ramping (h : g.ramp = some (s0, s1, f, n)) {k : Nat} (hk : k < n) :
    ((g.cuts f (k + 1)).size : Int) = s0 + rdiv (((s1 : Int) - s0) * k) n := by
  rw [Gen.cuts_succ]
  exact Gen.sizeAt_of_ramp ((Gen.cuts_ramp_lasts h (Nat.le_of_lt hk)).trans h) hk

end

/-- Settles O52: the command sets the ramp, the cuts before frame F + N keep it (`Gen.cuts_ramp_lasts`), and that of frame F + N
ends it (`Gen.cuts_ramp_ended`). -/
theorem effectSizeRamps : Obligations.EffectSizeRamps := by
  unfold Obligations.EffectSizeRamps
  refine ⟨fun check apply hb r f s => ?restarts, fun g s1 f n k => ⟨fun hk => ?ramping, fun hk => ?ended⟩,
    fun a _ hb => rdiv_eq_fdiv a hb⟩
  case restarts =>
    obtain ⟨-, rfl⟩ := Body.timed.inj hb
    rfl
  case ramping => exact Gen.cuts_size_ramping (g := { g with ramp := some (g.size, s1, f, n) }) rfl hk
  case ended => exact (Gen.cuts_ramp_ended (g := { g with ramp := some (g.size, s1, f, n) }) rfl hk).2

end Sys2Proof.Machine
end

section
/-! SUPPORT. The class T commands of playbacks and generators at their cut (R147-R153, R160, R161, R168, R169). -/

namespace Sys2Proof.Machine

/-! ## What a command changes -/

section
variable {op : Op} {check : Req → State → Chk? Unit} {r : Req} {s : State} {rec : Bytes}

theorem State.updPb_of_playback {b : Nat} {p : Playback} (h : s.playback b = some (rec, p)) (change : Bytes → Playback → Playback) :
    s.updPb b change = { s with pb := Tab.put s.pb b (change rec p) } := by
  rw [State.updPb, h]

theorem State.updGen_of_generator {i : Nat} {g : Gen} (h : s.generator i = some (rec, g)) (change : Gen → Gen) :
    s.updGen i change = { s with gen := Tab.put s.gen i (change g) } := by
  rw [State.updGen, h]

/-- The cut of a command that changes the playback it names, which it makes into `q`. -/
theorem State.takeEffect_playback {p q : Playback} {change : Req → Bytes → Playback → Playback}
    (h : s.playback (u16 r.payload 0) = some (rec, p)) (n : Nat) (f : Option Nat)
    (hf : timedOps.find? (fun o => o.code = op.code) = some op)
    (hb : op.body = .timed check fun r _ s => s.updPb (u16 r.payload 0) (change r)) (hq : change r rec p = q) :
    s.takeEffect n (inQueue op.code r f) = { s with pb := Tab.put s.pb (u16 r.payload 0) q } := by
  rw [s.takeEffect_timed hf hb, State.updPb_of_playback h, hq]

/-- The cut of a command that changes the generator it names, which it makes into `q`. -/
theorem State.takeEffect_generator {g q : Gen} {change : Req → Nat → Gen → Gen}
    (h : s.generator (u16 r.payload 0) = some (rec, g)) (n : Nat) (f : Option Nat)
    (hf : timedOps.find? (fun o => o.code = op.code) = some op)
    (hb : op.body = .timed check fun r n s => s.updGen (u16 r.payload 0) (change r n)) (hq : change r n g = q) :
    s.takeEffect n (inQueue op.code r f) = { s with gen := Tab.put s.gen (u16 r.payload 0) q } := by
  rw [s.takeEffect_timed hf hb, State.updGen_of_generator h, hq]

end

/-! ## CUE_STORE, PLAYBACK_GOTO and PLAYBACK_RELEASE, which act by cases (R147, R148, R161) -/

section
variable {r : Req} {s : State} {rec : Bytes} {p : Playback} (h : s.playback (u16 r.payload 0) = some (rec, p)) (n : Nat) (f : Option Nat)
include h

theorem State.takeEffect_cueStore_fits (hc : u16 r.payload 2 < pbCues rec) (hfit : cuesFit rec (storeCue p.cues r.payload) = true) :
    s.takeEffect n (inQueue cueStoreOp.code r f) =
      { s with pb := Tab.put s.pb (u16 r.payload 0) { p with cues := storeCue p.cues r.payload } } :=
  State.takeEffect_playback (op := cueStoreOp) h n f rfl rfl (if_pos (by rw [decide_eq_true hc, hfit]; rfl))

theorem State.takeEffect_cueStore_unfit (hfit : cuesFit rec (storeCue p.cues r.payload) = false) :
    s.takeEffect n (inQueue cueStoreOp.code r f) = { s with pb := Tab.put s.pb (u16 r.payload 0) p } :=
  State.takeEffect_playback (op := cueStoreOp) h n f rfl rfl (if_neg (by rw [hfit, Bool.and_false]; exact Bool.false_ne_true))

theorem State.takeEffect_playbackGoto (hc : u16 r.payload 2 < pbCues rec) (hsnap : (u32 r.payload 4).testBit 0 = false) :
    s.takeEffect n (inQueue playbackGotoOp.code r f) =
      { s with pb := Tab.put s.pb (u16 r.payload 0) (p.step (some (u16 r.payload 2)) fun t => t) } :=
  State.takeEffect_playback (op := playbackGotoOp) h n f rfl rfl
    (by simp only [if_pos hc, hsnap, Bool.false_eq_true, if_false])

theorem State.takeEffect_playbackRelease_released (hcue : p.cue = none) :
    s.takeEffect n (inQueue playbackReleaseOp.code r f) = { s with pb := Tab.put s.pb (u16 r.payload 0) { p with asked := true } } :=
  State.takeEffect_playback (op := playbackReleaseOp) h n f rfl rfl (if_pos (by rw [hcue]; rfl))

/-- A release that carries its own time, of a playback that stands in a cue and has taken no request in the frame. -/
theorem State.takeEffect_playbackRelease_timed {c : Nat} (hcue : p.cue = some c) (hreq : p.request = none)
    (ht : (u16 r.payload 2).testBit 0 = true) :
    s.takeEffect n (inQueue playbackReleaseOp.code r f) =
      { s with pb := Tab.put s.pb (u16 r.payload 0) { p with asked := true, request := some (.release (u32 r.payload 4)) } } := by
  have hcued : ¬p.cue.isNone = true := by rw [hcue]; exact Bool.false_ne_true
  have hfirst : ({ p with asked := true } : Playback).supersede = { p with asked := true } :=
    if_neg (by rw [hreq]; exact Bool.false_ne_true)
  exact State.takeEffect_playback (op := playbackReleaseOp) h n f rfl rfl ((if_neg hcued).trans (by simp only [hfirst, if_pos ht]))

end

/-! ## EFFECT_START, which acts by cases (R168) -/

section
variable {r : Req} {s : State} {rec : Bytes} {g : Gen} (h : s.generator (u16 r.payload 0) = some (rec, g)) (n : Nat) (f : Option Nat)
include h

theorem State.takeEffect_effectStart_reset (hreset : (u16 r.payload 2).testBit 0 = true) :
    s.takeEffect n (inQueue effectStartOp.code r f) =
      { s with gen := Tab.put s.gen (u16 r.payload 0) { g with running := true, phi := 0, startFrame := n, still := true } } :=
  State.takeEffect_generator (op := effectStartOp) h n f rfl rfl (if_pos hreset)

theorem State.takeEffect_effectStart_running (hkeep : (u16 r.payload 2).testBit 0 = false) (hrun : g.running = true) :
    s.takeEffect n (inQueue effectStartOp.code r f) = { s with gen := Tab.put s.gen (u16 r.payload 0) g } :=
  State.takeEffect_generator (op := effectStartOp) h n f rfl rfl ((if_neg (Bool.eq_false_iff.mp hkeep)).trans (if_pos hrun))

theorem State.takeEffect_effectStart_stopped (hkeep : (u16 r.payload 2).testBit 0 = false) (hrun : g.running = false) :
    s.takeEffect n (inQueue effectStartOp.code r f) =
      { s with gen := Tab.put s.gen (u16 r.payload 0) { g with running := true, startFrame := n, still := true } } :=
  State.takeEffect_generator (op := effectStartOp) h n f rfl rfl
    ((if_neg (Bool.eq_false_iff.mp hkeep)).trans (if_neg (Bool.eq_false_iff.mp hrun)))

end

/-- Settles O22: each command means its opcode and goes to its queue (`queues_of_exec`), and at the cut the body of its opcode changes
the playback or the generator that it names (`State.takeEffect_playback`, `State.takeEffect_generator`). That a cue which no longer
fits at its cut stores nothing is the model's choice (log entry 212). -/
theorem playbackAndEffectCommandsComplete : Obligations.PlaybackAndEffectCommandsComplete := by
  unfold Obligations.PlaybackAndEffectCommandsComplete
  refine ⟨⟨fun r s => ?queuesPlayback, fun r s n f rec p h => ?playback⟩, fun r s => ?queuesEffect, fun r s n f rec g h => ?generator⟩
  case queuesPlayback => and_intros <;> exact queues_of_exec (fun _ _ => rfl) r s
  case queuesEffect => and_intros <;> exact queues_of_exec (fun _ _ => rfl) r s
  case playback =>
    refine ⟨State.takeEffect_cueStore_fits h n f, State.takeEffect_cueStore_unfit h n f, ?go, ?back, State.takeEffect_playbackGoto h n f,
      State.takeEffect_playbackRelease_released h n f, fun _ => State.takeEffect_playbackRelease_timed h n f, ?level, ?rate⟩
    case go => exact State.takeEffect_playback (op := playbackGoOp) h n f rfl rfl rfl
    case back => exact State.takeEffect_playback (op := playbackBackOp) h n f rfl rfl rfl
    case level => exact State.takeEffect_playback (op := playbackLevelOp) h n f rfl rfl rfl
    case rate => exact State.takeEffect_playback (op := playbackRateOp) h n f rfl rfl rfl
  case generator =>
    refine ⟨?rate, ?size, State.takeEffect_effectStart_reset h n f, State.takeEffect_effectStart_running h n f,
      State.takeEffect_effectStart_stopped h n f, ?stop, ?phase⟩
    case rate => exact State.takeEffect_generator (op := effectRateOp) h n f rfl rfl rfl
    case size => exact State.takeEffect_generator (op := effectSizeOp) h n f rfl rfl rfl
    case stop => exact State.takeEffect_generator (op := effectStopOp) h n f rfl rfl rfl
    case phase => exact State.takeEffect_generator (op := effectPhaseOp) h n f rfl rfl rfl

end Sys2Proof.Machine
end

section
/-! SUPPORT. The commands with an effect at once on a unit (R218, R219, R303, R321, R399, R423, R428). -/

namespace Sys2Proof.Machine

@[simp] theorem State.entered_tk (op : Op) (r : Req) (s : State) : (s.entered op r).tk = s.tk := by
  obtain ⟨h, l, n, e⟩ := s.entered_eq op r
  rw [e]

section
variable (r : Req) {u : State}

/-! ## The time source and the pair (R303, R399) -/

theorem domainSelectOp_result (hcode : u8 r.payload 0 ≤ 4) (hon : u.cfg.sourceOn (Src.ofCode (u8 r.payload 0)) = true)
    (hlock : Src.ofCode (u8 r.payload 0) = .free ∨ (u.tk.servo (Src.ofCode (u8 r.payload 0))).st = .locked ∨
      bit (u8 r.payload 1) 0 = true) :
    domainSelectOp.result r u =
      let x := Src.ofCode (u8 r.payload 0)
      let v := { u with tk := { u.tk with selected := some x, autoFrom := u.now } }.changeSource x
      .ok (v, .done { payload := leBytes 1 v.tk.source.code ++ zeros 3 }) := by
  simp only [Op.result, domainSelectOp]
  rw [inRange_bind _ (decide_eq_true hcode), inRange_bind _ hon, need_bind _ (decide_eq_true hlock)]
  rfl

theorem pairMaintenanceOp_result (hon : u8 r.payload 0 ≤ 1) :
    pairMaintenanceOp.result r u =
      .ok ({ u with pair := { u.pair with maintenance := u8 r.payload 0 = 1 } }, .ok) := by
  simp only [Op.result, pairMaintenanceOp]
  rw [inRange_bind _ (decide_eq_true hon)]

/-! ## Feeders (R427, R428) -/

section
variable (hf : u.cfg.has .feeder (u8 r.payload 0) = true)
include hf

/-- ACTION 0 closes a feeder that is not closed, whose voltage is low, out of hold-up; of any other it changes nothing. -/
theorem feederResetOp_close (hact : u8 r.payload 1 = 0) {v : State}
    (hv : (if (u.feeder (u8 r.payload 0)).st ≠ .closed && (u.feeder (u8 r.payload 0)).below && !u.mon.holdup then
      u.closeFeeder (u8 r.payload 0) else u) = v) :
    feederResetOp.result r u = .ok (v, .done { payload := leBytes 4 (v.feeder (u8 r.payload 0)).st.code }) := by
  have haction : u8 r.payload 1 ≤ 1 := by omega
  simp only [Op.result, feederResetOp]
  rw [need_bind _ hf, inRange_bind _ (decide_eq_true haction), if_pos hact, hv]
  rfl

/-- ACTION 1 opens a feeder that is closed, and changes nothing of any other. -/
theorem feederResetOp_open (hact : u8 r.payload 1 = 1) {v : State}
    (hv : (if (u.feeder (u8 r.payload 0)).st = .closed then u.openFeeder u.cfg (u8 r.payload 0) .open_ else u) = v) :
    feederResetOp.result r u = .ok (v, .done { payload := leBytes 4 (v.feeder (u8 r.payload 0)).st.code }) := by
  have haction : u8 r.payload 1 ≤ 1 := by omega
  have hnot : u8 r.payload 1 ≠ 0 := by omega
  simp only [Op.result, feederResetOp]
  rw [need_bind _ hf, inRange_bind _ (decide_eq_true haction), if_neg hnot, hv]
  rfl

theorem feederResetOp_unchanged
    (hnone : u8 r.payload 1 = 0 ∧ ((u.feeder (u8 r.payload 0)).st = .closed ∨ (u.feeder (u8 r.payload 0)).below = false ∨ u.mon.holdup = true) ∨
      u8 r.payload 1 = 1 ∧ (u.feeder (u8 r.payload 0)).st ≠ .closed) :
    feederResetOp.result r u = .ok (u, .done { payload := leBytes 4 (u.feeder (u8 r.payload 0)).st.code }) := by
  rcases hnone with ⟨hact, hnot⟩ | ⟨hact, hst⟩
  · exact feederResetOp_close r hf hact (if_neg (by rcases hnot with h | h | h <;> simp [h]))
  · exact feederResetOp_open r hf hact (if_neg hst)

end

/-! ## The night meter (R423) -/

/-- The records of the night log or of the tamper log that a read of `count` from `first` leaves. -/
def leftRecords (first count : Nat) (l : List Bytes) : List Bytes := l.take first ++ l.drop (first + count)

theorem nightMeterReadOp_result :
    nightMeterReadOp.result r u =
      let tamper := bit (u32 r.payload 4) 1
      let l := if tamper then u.nv.tamperLog else u.nv.nightLog
      let left := leftRecords (u16 r.payload 0) (u16 r.payload 2)
      .ok (if bit (u32 r.payload 4) 0 = false then u
        else if tamper then { u with nv := { u.nv with tamperLog := left u.nv.tamperLog } }
        else { u with nv := { u.nv with nightLog := left u.nv.nightLog } },
        .done { payload := u.nightHead tamper ++ ((l.drop (u16 r.payload 0)).take (u16 r.payload 2)).flatten }) := by
  simp only [Op.result, nightMeterReadOp]
  cases bit (u32 r.payload 4) 0 <;> cases bit (u32 r.payload 4) 1 <;> rfl

/-! ## Buffers (R218, R219) -/

/-- The ids that no registered buffer has. -/
def State.freeBufferIds (s : State) : List Nat := (List.range 4096).filter fun i => !Tab.has s.buf i

/-- The id that BUFFER_REGISTER draws among those that are free. -/
def State.drawnBufferId (s : State) : Nat := s.freeBufferIds.getD (s.draw.1.toNat % s.freeBufferIds.length) 0

theorem State.mem_freeBufferIds (s : State) (i : Nat) : i ∈ s.freeBufferIds ↔ i < 4096 ∧ Tab.has s.buf i = false := by
  simp [State.freeBufferIds]

theorem State.drawnBufferId_mem {s : State} (h : s.freeBufferIds ≠ []) : s.drawnBufferId ∈ s.freeBufferIds := by
  have hlt : s.draw.1.toNat % s.freeBufferIds.length < s.freeBufferIds.length := Nat.mod_lt _ (List.length_pos_iff.mpr h)
  rw [State.drawnBufferId, List.getD_eq_getElem?_getD, List.getElem?_eq_getElem hlt, Option.getD_some]
  exact List.getElem_mem hlt

theorem bufferRegisterOp_result {slot : Nat} {x : Session} (halign : u64 r.payload 0 % 256 = 0) (hlo : 256 ≤ u32 r.payload 8)
    (hhi : u32 r.payload 8 ≤ 2 ^ 30) (hx : u.session r.session = some (slot, x)) (hsrc : x.source = .pcie) (hfree : u.freeBufferIds ≠ []) :
    bufferRegisterOp.result r u =
      .ok ({ u with fresh := u.fresh + 1, buf := Tab.put u.buf u.drawnBufferId { address := u64 r.payload 0, size := u32 r.payload 8, owner := r.session } },
        .done { payload := leBytes 4 u.drawnBufferId }) := by
  have hsome : (!((List.range 4096).filter fun i => !Tab.has u.buf i).isEmpty) = true := by simpa [State.freeBufferIds] using hfree
  simp only [Op.result, bufferRegisterOp, hx]
  rw [inRange_bind _ (decide_eq_true halign), inRange_bind _ (decide_eq_true ⟨hlo, hhi⟩), inRange_bind _ hsome,
    inRange_bind _ (decide_eq_true hsrc)]
  rfl

section
variable (hb : Tab.has u.buf (u32 r.payload 0) = true)
include hb

theorem bufferReleaseOp_frees (huse : u.bufInUse (u32 r.payload 0) = false) :
    bufferReleaseOp.result r u = .ok (u.freeBuffer (u32 r.payload 0), .ok) := by
  simp only [Op.result, bufferReleaseOp]
  rw [need_bind _ hb, if_neg (Bool.eq_false_iff.mp huse)]

/-- A buffer in use is retired later, by the job whose id the command takes. -/
theorem bufferReleaseOp_pends (huse : u.bufInUse (u32 r.payload 0) = true) :
    bufferReleaseOp.result r u =
      let pend := fun (b : Buffer) => { b with release := true, jobs := b.jobs ++ [(u.takeJobId 0x0707 r.session r.tag).1] }
      .ok ({ (u.takeJobId 0x0707 r.session r.tag).2 with buf := Tab.upd u.buf (u32 r.payload 0) { address := 0, size := 0, owner := 0 } pend },
        .done { status := Status.acceptedDeferred, payload := leBytes 4 u.jobId }) := by
  simp only [Op.result, bufferReleaseOp]
  rw [need_bind _ hb, if_pos huse]
  rfl

end

/-! ## Flows (R321) -/

section
variable (hf : u.cfg.has .flow (u16 r.payload 0) = true)
include hf

theorem flowRinseOp_rinses (hidle : (u.flowOf (u16 r.payload 0)).busyUntil ≤ u.tk.counter) :
    flowRinseOp.result r u = .ok (u.rinseFlow (u16 r.payload 0), .ok) := by
  simp only [Op.result, flowRinseOp]
  rw [need_bind _ hf, if_neg (Nat.not_lt.mpr hidle)]

/-- While a packet of the flow is on the wire the rinse waits for its end. -/
theorem flowRinseOp_waits (hbusy : u.tk.counter < (u.flowOf (u16 r.payload 0)).busyUntil) :
    flowRinseOp.result r u =
      .ok (u.updFlow (u16 r.payload 0) fun x => { x with rinsing := true }, .wait (.rinse (u16 r.payload 0))) := by
  simp only [Op.result, flowRinseOp]
  rw [need_bind _ hf, if_pos hbusy]

end
end

/-- Settles O28, command by command. The model's choices are the header of NIGHT_METER_READ (log entry 157), FEEDER_RESET in
hold-up (263) and the id that BUFFER_REGISTER draws (81). -/
theorem unitActionsComplete : Obligations.UnitActionsComplete := by
  unfold Obligations.UnitActionsComplete
  refine fun r s => ⟨?select, ?maintenance, ?close, ?open_, ?unchanged, ?night,
    fun slot x i hr halign hlo hhi hx hsrc hi hfree => ?register, ?release, ?pend, ?rinse, fun hr hf hbusy => ?rinseWaits⟩
  case select => exact runs_of_result (fun _ _ => rfl) (fun u ⟨hcode, hon, hlock⟩ => domainSelectOp_result r hcode hon hlock) s
  case maintenance => exact runs_of_result (fun _ _ => rfl) (fun u hon => pairMaintenanceOp_result r hon) s
  case close =>
    exact runs_of_result (fun _ _ => rfl) (fun u ⟨hf, hact, hst, hbelow, hhold⟩ => feederResetOp_close r hf hact (if_pos (by simp [hst, hbelow, hhold]))) s
  case open_ => exact runs_of_result (fun _ _ => rfl) (fun u ⟨hf, hact, hst⟩ => feederResetOp_open r hf hact (if_pos hst)) s
  case unchanged => exact runs_of_result (fun _ _ => rfl) (fun u ⟨hf, hnone⟩ => feederResetOp_unchanged r hf hnone) s
  case night =>
    refine runs_of_result (fun _ _ => rfl) (fun u _ => (nightMeterReadOp_result r).trans ?_) s
    simp only [State.nightHead, leftRecords, List.append_assoc]
  case register =>
    have hids : (s.entered bufferRegisterOp r).freeBufferIds ≠ [] := List.ne_nil_of_mem ((State.mem_freeBufferIds _ i).mpr ⟨hi, hfree⟩)
    obtain ⟨hid, hnew⟩ := (State.mem_freeBufferIds _ _).mp (State.drawnBufferId_mem hids)
    exact ⟨_, hid, hnew, hostCommand_done bufferRegisterOp r s _ _ hr (bufferRegisterOp_result r halign hlo hhi hx hsrc hids)⟩
  case release => exact runs_of_result (fun _ _ => rfl) (fun u ⟨hb, huse⟩ => bufferReleaseOp_frees r hb huse) s
  case pend => exact runs_of_result (fun _ _ => rfl) (fun u ⟨hb, huse⟩ => bufferReleaseOp_pends r hb huse) s
  case rinse => exact runs_of_result (fun _ _ => rfl) (fun u ⟨hf, hidle⟩ => flowRinseOp_rinses r hf hidle) s
  case rinseWaits =>
    exact hostCommand_waits flowRinseOp r s _ _ hr (flowRinseOp_waits r hf (by rwa [State.entered_tk]))

end Sys2Proof.Machine
end

section
/-! SUPPORT. A sweep of the monitors (R479): the checks of the sensors, the supplies, the envelope and the core voltage leave what
the sweep has read. -/

namespace Sys2Proof.Machine

/-- What the last sweep counted and read. -/
def State.swept (s : State) : Nat × Readings := (s.mon.sweep, s.mon.raw)

theorem State.swept_of_mon {s t : State} (h : t.mon = s.mon) : t.swept = s.swept := congrArg (fun m : Mon => (m.sweep, m.raw)) h

theorem State.raise_swept (a b c : Nat) (s : State) : (s.raise a b c).swept = s.swept := State.swept_of_mon (s.raise_mon a b c)

theorem State.mon_of_core {s t : State} (h : t.core = s.core) : t.mon = s.mon := show t.core.mon = s.core.mon by rw [h]

theorem eachIndexed_unchanged {α β : Type} (p : State → β) {f : Nat → α → State → State} (h : ∀ i x s, p (f i x s) = p s) (l : List α) :
    ∀ i s, p (eachIndexed l i f s) = p s := by
  induction l with
  | nil => exact fun _ _ => rfl
  | cons x l ih => exact fun i s => (ih (i + 1) (f i x s)).trans (h i x s)

theorem State.swept_ite {p : Prop} [Decidable p] {a b s : State} (ha : a.swept = s.swept) (hb : b.swept = s.swept) :
    (if p then a else b).swept = s.swept := by
  split
  · exact ha
  · exact hb

/-! ## Sensors and supplies (R481, R483, R551) -/

theorem State.checkTemp_swept (i : Nat) (t : Int) (s : State) : (s.checkTemp i t).swept = s.swept :=
  State.swept_ite (State.swept_ite rfl (State.raise_swept _ _ _ _)) (State.swept_ite rfl rfl)

theorem State.checkVolt_swept (v x : Nat) (s : State) : (s.checkVolt v x).swept = s.swept :=
  State.swept_ite (State.raise_swept _ _ _ _) rfl

theorem State.openOutputs_swept (c : Cfg) (f : Nat) (s : State) : (s.openOutputs c f).swept = s.swept :=
  State.swept_of_mon ((State.drive_mon _ _ _).trans (State.drive_mon _ _ _))

theorem State.openFeeder_swept (c : Cfg) (f : Nat) (st : FeederState) (s : State) : (s.openFeeder c f st).swept = s.swept :=
  (State.openOutputs_swept _ _ _).trans rfl

theorem State.feederLevels_swept (f : Nat) (s : State) : (s.feederLevels f).swept = s.swept :=
  State.swept_of_mon ((State.drive_mon _ _ _).trans (State.drive_mon _ _ _))

theorem State.checkBanks_swept (x : Readings) (s : State) : (s.checkBanks x).swept = s.swept := by
  have hballs (l : List Nat) (u : State) : (l.foldl (fun (s : State) b => s.emit (.ballsReset (some b) s.now)) u).swept = u.swept :=
    foldl_unchanged State.swept (fun u _ => State.swept_of_mon (u.emit_mon _)) l u
  exact State.swept_ite ((foldl_unchanged State.swept (fun u _ => u.feederLevels_swept _) _ _).trans (hballs _ _)) (hballs _ _)

/-! ## Hold-up (R412) -/

theorem State.spoilSlot_swept (short : Bool) (s : State) : (s.spoilSlot short).swept = s.swept := rfl

theorem State.endJob_swept (j : Job) (status detail : Nat) (s : State) : (s.endJob j status detail).swept = s.swept :=
  (State.raise_swept _ _ _ _).trans ((State.swept_of_mon (State.mon_of_core (State.finish_core _ _ _))).trans rfl)

theorem State.endClose_swept (j : Job) (status detail : Nat) (s : State) : (s.endClose j status detail).swept = s.swept :=
  (State.endJob_swept _ _ _ _).trans rfl

theorem State.stopClose_swept (s : State) : s.stopClose.swept = s.swept := by
  unfold State.stopClose
  split
  · rfl
  · exact State.swept_ite ((State.endClose_swept _ _ _ _).trans (State.spoilSlot_swept _ _)) rfl

theorem State.enterHoldup_swept (s : State) : s.enterHoldup.swept = s.swept := by
  refine State.swept_ite rfl ((State.stopClose_swept _).trans ((foldl_unchanged State.swept (fun u e => ?_) _ _).trans rfl))
  exact State.swept_ite (State.openFeeder_swept _ _ _ _) (State.openOutputs_swept _ _ _)

/-! ## The envelope and the core voltage (R67, R68, R484, R485) -/

theorem State.leaveEnvelope_swept (m : Nat) (s : State) : (s.leaveEnvelope m).swept = s.swept := by
  unfold State.leaveEnvelope
  split
  · rfl
  · exact State.raise_swept _ _ _ _

theorem State.checkEnvelope_swept (x : Readings) (s : State) : (s.checkEnvelope x).swept = s.swept := by
  unfold State.checkEnvelope
  split
  · exact State.leaveEnvelope_swept _ _
  · exact State.swept_ite rfl (State.swept_ite rfl (State.swept_ite rfl (State.raise_swept _ _ _ _)))

theorem State.checkAvs_swept (ok : Bool) (vout : Nat) (s : State) : (s.checkAvs ok vout).swept = s.swept :=
  State.swept_ite (State.raise_swept _ _ _ _) rfl

theorem State.stepAvs_swept (x : Readings) (s : State) : (s.stepAvs x).swept = s.swept :=
  State.swept_ite rfl ((State.swept_of_mon (State.drive_mon _ _ _)).trans rfl)

/-! ## The sweep (R479) -/

/-- A thermal trip resets the device; without one what the sweep has read stands (R483). -/
theorem State.checkTrip_swept (temps : List Int) (s : State) (h : (s.checkTrip temps).gl.device ≠ .boot) :
    (s.checkTrip temps).swept = s.swept := by
  unfold State.checkTrip at h ⊢
  dsimp only at h ⊢
  split
  · next hhot =>
    rw [hhot] at h
    exact absurd rfl h
  · rfl

/-- What a sweep reads of the monitors of the state. -/
def State.sweepShows (r : SweepReadings) (s : State) : Readings where
  temps := r.temps
  volts := r.volts
  cycles := r.cycles
  preds := (List.range r.cycles.length).map fun p => Config.pmPredict p (r.volts.getD p 0) (r.temps.foldl max (r.temps.headD 0))
  refs := s.pmRefs
  vout := if r.pmbus then r.vout else s.mon.raw.vout
  iout := if r.pmbus then r.iout else s.mon.raw.iout

/-- The checks of a sweep, up to the thermal trip. -/
def State.checkSweep (r : SweepReadings) (x : Readings) (s : State) : State :=
  let s := (eachIndexed x.volts 0 State.checkVolt (eachIndexed x.temps 0 State.checkTemp s)).checkBanks x
  let s := if x.volts.getD 23 900 < s.vmLo 23 then s.enterHoldup else s
  ((s.checkEnvelope x).checkAvs r.pmbus r.vout).stepAvs x

theorem State.checkSweep_swept (r : SweepReadings) (x : Readings) (s : State) : (s.checkSweep r x).swept = s.swept := by
  have hlevels : ((eachIndexed x.volts 0 State.checkVolt (eachIndexed x.temps 0 State.checkTemp s)).checkBanks x).swept = s.swept := by
    rw [State.checkBanks_swept, eachIndexed_unchanged State.swept State.checkVolt_swept, eachIndexed_unchanged State.swept State.checkTemp_swept]
  unfold State.checkSweep
  rw [State.stepAvs_swept, State.checkAvs_swept, State.checkEnvelope_swept]
  exact State.swept_ite ((State.enterHoldup_swept _).trans hlevels) hlevels

theorem execMonitorSweep_running (r : SweepReadings) (s : State) (h : s.gl.device ≠ .boot) :
    execMonitorSweep r s =
      let v := s.advanceNow (s.mon.sweepAt + msT 1)
      let w := { v with mon := { v.mon with sweep := (v.mon.sweep + 1) % 2 ^ 32, raw := v.sweepShows r, sweepAt := v.now } }
      .next ((w.checkSweep r (v.sweepShows r)).checkTrip r.temps) :=
  if_neg h

/-- Unless it resets the device, a sweep counts and shows what it has read. -/
theorem execMonitorSweep_swept (r : SweepReadings) (s : State) (h : s.gl.device ≠ .boot) :
    ∃ t, execMonitorSweep r s = .next t ∧
      (t.gl.device ≠ .boot → t.swept = ((s.mon.sweep + 1) % 2 ^ 32, (s.advanceNow (s.mon.sweepAt + msT 1)).sweepShows r)) :=
  ⟨_, execMonitorSweep_running r s h, fun ht =>
    (State.checkTrip_swept _ _ ht).trans ((State.checkSweep_swept r _ _).trans rfl)⟩

end Sys2Proof.Machine
end

section
/-! SUPPORT. Delivery of events and of the log (R496, R497, R521), check channels, witness windows, the scrub and the images (R236,
R436, R439, R440, R448, R450, R451), and the loopback test (R519). -/

namespace Sys2Proof.Machine

section
variable (s : State)

/-! ## Events and the log (R496, R497, R521) -/

theorem State.sendEvents_waiting {slot : Nat} {sub : Sub} {x : Session} {e : Endpoint} (hsub : Tab.find s.evt.subs slot = some sub)
    (hx : Tab.find s.ses slot = some x) (he : x.endpoint = some e) (hw : sub.waiting ≠ []) :
    s.sendEvents slot =
      let r := eventReply (x.id slot) (sub.waiting.take 64)
      let u := s.emit (.eventDatagram { ip := s.ml.addr, port := 47012 } e r (fragments (24 + r.ans.payload.length)))
      { u with evt := { u.evt with subs := Tab.put u.evt.subs slot { sub with waiting := sub.waiting.drop 64, since := s.now } } } := by
  cases hl : sub.waiting with
  | nil => exact absurd hl hw
  | cons y l => 
    simp only [State.sendEvents, hsub, hx, he, hl]
    rfl

theorem execEventDatagramSend_waiting {slot : Nat} {sub : Sub} (hslot : slot < 64) (hsub : Tab.find s.evt.subs slot = some sub)
    (hw : sub.waiting ≠ []) :
    execEventDatagramSend slot s = .next ((s.advanceNow (sub.since + msT 1)).sendEvents slot) := by
  simp only [execEventDatagramSend, if_neg (Nat.not_le.mpr hslot), ge_iff_le, hsub, List.isEmpty_iff, if_neg hw]

theorem execVectorHoldoffExpire_holding {v : Nat} {h : Holdoff} (hv : v < 64) (hh : Tab.find s.evt.holding v = some h) :
    execVectorHoldoffExpire v s =
      let w := s.advanceNow h.ends
      let u : State := { w with evt := { w.evt with holding := Tab.del w.evt.holding v } }
      .next (if h.due then u.signal v else u) := by
  simp only [execVectorHoldoffExpire, if_neg (Nat.not_le.mpr hv), ge_iff_le, hh]

theorem State.le_advanceNow_now (t : Nat) : t ≤ (s.advanceNow t).now := by
  rw [State.advanceNow, State.elapse_now]
  omega

section
variable {x : LogLine} {rest : List LogLine} (hq : s.evt.uart1 = x :: rest) (hd : s.gl.device ≠ .boot)
include hq hd

theorem execUart1LogLine_sent (hn : s.now < x.since + secT 1) :
    execUart1LogLine false s =
      .next (({ s with evt := { s.evt with uart1 := rest, uart1Drops := 0 } } : State).drive 4 (.uart1 s.evt.uart1Drops x.entry x.event)) := by
  simp only [execUart1LogLine, hq, if_neg hd, Bool.false_eq_true, if_false, ge_iff_le, if_neg (Nat.not_le.mpr hn)]

/-- A line that has waited for a second is dropped and counted. -/
theorem execUart1LogLine_late :
    execUart1LogLine true s =
      let u := s.advanceNow (x.since + secT 1)
      .next { u with evt := { u.evt with uart1 := rest, uart1Drops := u.evt.uart1Drops + 1 } } := by
  simp only [execUart1LogLine, hq, if_neg hd, if_true, ge_iff_le, if_pos (s.le_advanceNow_now _)]

end

/-! ## Check channels (R448, R450, R451) -/

theorem State.updChan_congr {c : Nat} {f g : Chk → Chk} (h : f (s.chan c) = g (s.chan c)) : s.updChan c f = s.updChan c g := by
  unfold State.chan at h
  simp only [State.updChan, Tab.upd, h]

section
variable {c : Nat} (hc : c < 4)
include hc

theorem execChkRegStart_starts (hst : (s.chan c).st ≠ .running) (hr : (s.chan c).region = 0)
    (hlen : s.lengthOk (s.chan c).source (s.chan c).start (s.chan c).length = true) :
    execChkRegStart c s = .next (s.updChan c fun x => { x with
      st := .running, arm := true, reloading := false, starter := 0, scanStart := x.start, scanLength := x.length, passAt := s.now }) := by
  have hok : ¬ ((s.chan c).region > 3 ∨ (s.chan c).region = 0 ∧ (!s.lengthOk (s.chan c).source (s.chan c).start (s.chan c).length) = true) := by
    rw [hr, hlen]
    decide
  rw [execChkRegStart, if_neg (Nat.not_le.mpr hc), State.chanRegStart]
  rw [if_neg hst, if_neg hok, State.startChan, if_pos hr]

theorem execChkRegStart_running (hst : (s.chan c).st = .running) :
    execChkRegStart c s = .next (s.updChan c fun x => { x with error := x.error ||| 1 }) := by
  rw [execChkRegStart, if_neg (Nat.not_le.mpr hc), State.chanRegStart]
  rw [if_pos hst]

theorem execChkAbort_running (hst : (s.chan c).st = .running) :
    execChkAbort c s = .next (s.updChan c fun x => { x with st := .aborted, reloading := false }) := by
  rw [execChkAbort, if_neg (Nat.not_le.mpr hc), State.chanAbort]
  exact congrArg Host.Outcome.next (s.updChan_congr (if_pos hst))

theorem execChkExpectedReloadDone_holding {v : Nat} (good : Bool) (hr : (s.chan c).reloading = true) (hh : (s.chan c).holding = some v) :
    execChkExpectedReloadDone c good s = .next ((s.updChan c fun x => { x with expected := v, reloading := false }).compareChan c) := by
  simp only [execChkExpectedReloadDone, if_neg (Nat.not_le.mpr hc), ge_iff_le, hr, hh, Bool.not_true, Bool.false_eq_true, if_false]

end

/-! ## Witness windows (R236, R237) -/

section
variable {w : Nat} (hw : w < 64)
include hw

theorem execExpectedLedgerCopy_window (hd : s.cfg.has .witness w = true) (hr : (s.window w).reloading = false) :
    execExpectedLedgerCopy (.witness w) s =
      .next { s with nv := { s.nv with expects := Tab.put s.nv.expects w (s.window w).expected } } := by
  simp only [execExpectedLedgerCopy, if_neg (Nat.not_le.mpr hw), ge_iff_le, hd, hr, Bool.not_false, Bool.and_self, if_true]

theorem execWitnessReloadDone_reloading (hr : (s.window w).reloading = true) (hst : s.stableWindow w = false) (good : Bool) :
    execWitnessReloadDone w good s =
      if good then .next (s.updWindow w fun x => { x with expected := Tab.getD s.nv.expects w x.expected, reloading := false })
      else .next ((s.badExpected.updWindow w fun x => { x with enable := false, reloading := false }).raise Ev.witnessFault w 0) := by
  simp only [execWitnessReloadDone, if_neg (Nat.not_le.mpr hw), ge_iff_le, hr, hst, Bool.not_true, Bool.or_self, Bool.false_eq_true, if_false]

end

/-! ## Errors of the memories (R438-R440) -/

theorem State.raise_ite_chkg (p : Bool) (a b c : Nat) : (if p then s.raise a b c else s).chkg = s.chkg := by
  split
  · exact s.raise_chkg a b c
  · rfl

theorem State.memCorrected_dramCe (a : Nat) : (s.memCorrected .dram a).chkg.dramCe = satInc s.chkg.dramCe :=
  congrArg ChkGlobal.dramCe (State.raise_ite_chkg _ _ _ _ _)

theorem State.memCorrected_sramCe (a : Nat) : (s.memCorrected .sram a).chkg.sramCe = satInc s.chkg.sramCe :=
  congrArg ChkGlobal.sramCe (State.raise_ite_chkg _ _ _ _ _)

theorem State.memCorrected_ledgerCe (a : Nat) : (s.memCorrected .ledger a).chkg.ledgerCe = satInc s.chkg.ledgerCe :=
  congrArg ChkGlobal.ledgerCe (State.raise_ite_chkg _ _ _ _ _)

/-- What an uncorrectable word leaves in the block: its address, and the count of its memory. -/
theorem State.foundPoison_chkg (p : Poison) :
    (s.foundPoison p).chkg.ueAddr = p.address % 2 ^ 40 ∧
      (p.mem = .dram → (s.foundPoison p).chkg.dramUe = satInc s.chkg.dramUe) ∧
      (p.mem = .sram → (s.foundPoison p).chkg.sramUe = satInc s.chkg.sramUe) := by
  simp only [State.foundPoison, State.raise_chkg]
  cases p.mem <;> simp

/-! ## The images and the schedule (R436, R439) -/

theorem execImageRewriteDone_rewriting (h : s.img.rewriting = true) :
    execImageRewriteDone s =
      .next { s with img := { s.img with copyA := s.image, copyB := s.image, badA := [], badB := [], lost := false, rewriting := false } } :=
  congrArg Host.Outcome.next (if_pos h)

/-- Copy A is the source where it is good, and else a good copy B. -/
theorem Image.source_eq_some {x : Image} {c : ImageCopy}
    (h : x.badA = [] ∧ x.copyA = some c ∨ x.badA ≠ [] ∧ x.badB = [] ∧ x.copyB = some c) : x.source = some c := by
  unfold Image.source
  rcases h with ⟨ha, hc⟩ | ⟨ha, hb, hc⟩
  · rw [if_pos (List.isEmpty_iff.mpr ha), hc]
  · rw [if_neg (mt List.isEmpty_iff.mp ha), if_pos (List.isEmpty_iff.mpr hb), hc]

theorem execScheduleRestoreDone_restores {f : InForce} {c : ImageCopy} (hr : s.img.restoring = true) (hl : s.img.lost = false)
    (hw : s.img.rewriting = false) (hf : s.force = some f) (hc : s.img.source = some c) :
    execScheduleRestoreDone s =
      .next { s with img := { s.img with restoring := false }, force := some { f with sched := c.force.sched } } := by
  simp only [execScheduleRestoreDone, hr, hl, hw, hf, hc, Bool.not_false, Bool.and_self, if_true, Option.map_some, Option.getD_some]

/-! ## The loopback test (R519) -/

theorem execLoopbackComplete_active {l ends : Nat} (good : Bool) {j : Job} (hl : l < s.lanes)
    (hrun : Tab.find s.jobs.loops l = some (j.id, ends)) (hj : (s.jobs.active.find? fun k => decide (k.id = j.id)) = some j) :
    execLoopbackComplete l good s =
      let u := s.advanceNow ends
      .next ({ u with jobs := { u.jobs with loops := u.jobs.loops.filter fun e => e.2.1 ≠ j.id } }.endJob j
        (if good then Status.ok else Status.crcBad) 0) := by
  simp only [execLoopbackComplete, if_neg (Nat.not_le.mpr hl), ge_iff_le, hrun, hj]

end

/-- Settles O42. First the sweep and what leaves by it and by the events, then check channels, windows, the scrub, the images and the
loopback test. The model's choices are the ledger records in the scrub (log entry 162), that a rewrite writes both copies and a
restore waits for it (164, 264), and that late lines of UART1 are dropped (189). -/
theorem monitorAndCheckEventsComplete : Obligations.MonitorAndCheckEventsComplete := by
  unfold Obligations.MonitorAndCheckEventsComplete
  refine ⟨fun s => ⟨?sweep, rfl, ?datagram, fun v h => execVectorHoldoffExpire_holding s, ?line⟩,
    fun s => ⟨fun c => execChkRegStart_starts s, fun c => execChkRegStart_running s, fun c => execChkAbort_running s, ?commit,
      fun c v good hc => execChkExpectedReloadDone_holding s hc good, fun w => execExpectedLedgerCopy_window s, ?reload,
      fun _ => rfl, fun _ _ => rfl, fun _ _ _ => rfl, fun _ _ => rfl, fun _ => rfl,
      fun a => ⟨s.memCorrected_dramCe a, s.memCorrected_sramCe a, s.memCorrected_ledgerCe a⟩, s.foundPoison_chkg,
      execImageRewriteDone_rewriting s, ?restore, fun l good j ends => execLoopbackComplete_active s good⟩⟩
  case sweep =>
    intro r hd
    obtain ⟨t, ht, hswept⟩ := execMonitorSweep_swept r s hd
    refine ⟨t, ht, fun hboot => ?_⟩
    obtain ⟨hsweep, hraw⟩ := Prod.mk.inj (hswept hboot)
    exact ⟨hsweep, congrArg Readings.temps hraw, congrArg Readings.volts hraw, congrArg Readings.cycles hraw⟩
  case datagram =>
    intro slot sub x e hslot hsub hx he hw
    exact (execEventDatagramSend_waiting s hslot hsub hw).trans
      (congrArg Host.Outcome.next ((s.advanceNow (sub.since + msT 1)).sendEvents_waiting hsub hx he hw))
  case line => exact fun x rest hq hd => ⟨execUart1LogLine_sent s hq hd, execUart1LogLine_late s hq hd⟩
  case commit => exact fun c w hc => if_neg (Nat.not_le.mpr hc)
  case reload =>
    intro w hw hr hst
    exact ⟨execWitnessReloadDone_reloading s hw hr hst true, execWitnessReloadDone_reloading s hw hr hst false⟩
  case restore => exact fun f c hr hl hw hf hc => execScheduleRestoreDone_restores s hr hl hw hf (Image.source_eq_some hc)

end Sys2Proof.Machine
end

section
/-! SUPPORT. The time keeper read and stepped (R267, R269, R309): the words of one instant, trigger units and inputs at a step, and a
capture read through its window. -/

namespace Sys2Proof

theorem Tab.find_mapV {α : Type} (t : Tab α) (f : Nat → α → α) (k : Nat) : Tab.find (Tab.mapV t f) k = (Tab.find t k).map (f k) := by
  induction t with
  | nil => rfl
  | cons e t ih =>
    have hcons : Tab.mapV (e :: t) f = (e.1, f e.1 e.2) :: Tab.mapV t f := rfl
    rw [hcons, Tab.find_cons, Tab.find_cons, ih]
    split
    next h => rw [h]; rfl
    · rfl

/-- A change that keeps the default acts on every entry, listed or not. -/
theorem Tab.getD_mapV {α : Type} (t : Tab α) {f : Nat → α → α} {k : Nat} {d : α} (hd : f k d = d) :
    Tab.getD (Tab.mapV t f) k d = f k (Tab.getD t k d) := by
  rw [Tab.getD, Tab.getD, Tab.find_mapV]
  cases Tab.find t k with
  | none => exact hd.symm
  | some a => rfl

end Sys2Proof

namespace Sys2Proof.Machine

section
variable (s : State)

/-! ## The time of day (R267) -/

theorem State.latch_nowNs : s.latch 0x30000 = { s with tk := { s.tk with latch := s.tk.counter } } := rfl

/-- Settles O57: the read of NOW_NS latches the counter, and a latched value does not move with time. -/
theorem nowIsReadFromOneInstant : Obligations.NowIsReadFromOneInstant := by
  unfold Obligations.NowIsReadFromOneInstant
  intro s
  refine ⟨_, rfl, ?out, fun dt => ?words⟩
  case out => rw [s.latch_nowNs]; rfl
  case words => rw [s.latch_nowNs]; exact ⟨rfl, rfl, rfl⟩

/-! ## Steps of the counter (R269) -/

theorem State.stepBy_tk (d : Int) :
    (s.stepBy d).tk = { (s.tk.shift d).forgetFsync with
      counter := (s.tk.counter + d).toNat, units := Tab.mapV s.tk.units fun _ u => u.stepped } :=
  State.raise_tk _ _ _ _

theorem State.stepBy_unit (d : Int) (u : Nat) : (s.stepBy d).unit u = (s.unit u).stepped := by
  rw [State.unit, s.stepBy_tk]
  exact Tab.getD_mapV (f := fun _ v => v.stepped) s.tk.units rfl

theorem State.stepBy_input (d : Int) (i : Nat) : (s.stepBy d).input i = s.input i := by
  rw [State.input, s.stepBy_tk]
  rfl

theorem Ttu.stepped_armed {u : Ttu} (h : u.armed = true) : u.stepped = { u with armed := false, status := u.status ||| 2 } := if_pos h

theorem Ttu.stepped_disarmed {u : Ttu} (h : u.armed = false) : u.stepped = u := if_neg fun hu => Bool.false_ne_true (h.symm.trans hu)

end

/-- Settles O56: what a step makes of the counter, of a unit that is armed or not, and of an input. -/
theorem stepsDisarmTriggerUnits : Obligations.StepsDisarmTriggerUnits := by
  unfold Obligations.StepsDisarmTriggerUnits
  refine fun d s => ⟨?counter, fun u hu => ?armed, fun u hu => ?disarmed, s.stepBy_input d⟩
  case counter => rw [s.stepBy_tk]
  case armed => rw [s.stepBy_unit, Ttu.stepped_armed hu]
  case disarmed => rw [s.stepBy_unit, Ttu.stepped_disarmed hu]

/-! ## Captures and their windows (R23, R294, R309) -/

/-- A flag above the bits of a number is its top bit. -/
theorem testBit_flag_add (c : Bool) {i n : Nat} (h : n < 2 ^ i) : (flag c i + n).testBit i = c := by
  have hn : n.testBit i = false := Nat.testBit_lt_two_pow h
  cases c with
  | false => rw [flag, if_neg Bool.false_ne_true, Nat.zero_add, hn]
  | true => rw [flag, if_pos rfl, Nat.testBit_two_pow_add_eq, hn]; rfl

theorem flag_add (c : Bool) (i j : Nat) : flag c (i + j) = flag c i * 2 ^ j := by
  cases c with
  | false => exact (Nat.zero_mul _).symm
  | true => exact Nat.pow_add 2 i j

theorem captureItems_eq (rising : Bool) (t : Nat) :
    captureItems rising t =
      [(flag rising 31 + t / 65536 % 1000000000, false), (t / 65536 / 1000000000 % 2 ^ 32, false),
        (t % 65536 * 65536 + t / 65536 / 1000000000 / 2 ^ 32 % 65536, true)] := rfl

theorem captureTime_mod (d : Bytes) (counter : Nat) : captureTime d counter % 16384 = 0 := Nat.mul_mod_left _ _

/-- The lower word of a FIFO window is DATA: EMPTY, LAST and LEVEL lie above it (R23). -/
theorem word_fifoWord (empty last : Bool) (level data : Nat) : word (fifoWord empty last level data) = word data := by
  have hempty : flag empty 63 = flag empty 31 * 2 ^ 32 := flag_add empty 31 32
  have hlast : flag last 62 = flag last 30 * 2 ^ 32 := flag_add last 30 32
  apply BitVec.eq_of_toNat_eq
  rw [word, word, BitVec.toNat_ofNat, BitVec.toNat_ofNat, fifoWord, hempty, hlast]
  omega

/-- The next item leaves a FIFO without a pending rinse. -/
theorem Fifo.pop_cons {f : Fifo} {e : Nat × Bool} {rest : List (Nat × Bool)} (hi : f.items = e :: rest) (hr : f.rinse = false) :
    f.pop = some (fifoWord false e.2 rest.length e.1, { f with items := rest, mid := !e.2 }) := by
  simp only [Fifo.pop, hi, hr, Bool.false_and, Bool.false_eq_true, if_false]

section
variable (s : State)

theorem State.windowAt_input {i : Nat} (h : i < 8) : s.windowAt (0x32000 + 0x20 * i) = some (.input i) := by
  have hi : (0x32000 + 0x20 * i - 0x32000) / 0x20 = i := by omega
  rw [State.windowAt, if_pos (by omega), hi]

theorem State.setFifo_input (i : Nat) (f : Fifo) : (s.setFifo (.input i) f).input i = { s.input i with fifo := f } :=
  Tab.getD_upd_self s.tk.inputs i {} fun x => { x with fifo := f }

/-- A read of 32 bits of a window that has an item returns it. -/
theorem State.windowEnd_narrow {w : Window} {v : Nat} {f : Fifo} (h : (s.fifo w).pop = some (v, f)) :
    s.windowEnd w false = ([word v], s.setFifo w { f with latch := word (v / 2 ^ 32) }) := by
  simp only [State.windowEnd, h, State.windowReturn, Bool.false_eq_true, if_false]

/-- A read of an input's window returns and removes the next item. -/
theorem State.hostRead_input {i : Nat} {e : Nat × Bool} {rest : List (Nat × Bool)} (h : i < 8)
    (hi : (s.fifo (.input i)).items = e :: rest) (hr : (s.fifo (.input i)).rinse = false) :
    ∃ f : Fifo, f.items = rest ∧
      s.hostRead (0x32000 + 0x20 * i) 4 = (s.setFifo (.input i) f).emit (.readData [word e.1]) := by
  have hword : barWord (0x32000 + 0x20 * i) 4 = 0x32000 + 0x20 * i := by
    rw [barWord_of_lt_eight _ (by decide)]
    omega
  have hw : s.windowAt (barWord (0x32000 + 0x20 * i) 4) = some (.input i) := by rw [hword, s.windowAt_input h]
  have hend : 0x32000 + 0x20 * i < barsEnd := lt_barsEnd_of_lt_bar0Size (by unfold bar0Size; omega)
  have hitems : (s.fifo (.input i)).items ≠ [] := hi ▸ List.cons_ne_nil e rest
  have hend4 : s.windowEnd (.input i) (4 = 8) = _ := s.windowEnd_narrow (Fifo.pop_cons hi hr)
  rw [s.hostRead_window hend hw hitems, State.readEnd, hend4, word_fifoWord, addressed_of_four_le _ _ (Nat.le_refl 4)]
  refine ⟨_, ?_, rfl⟩
  rfl

end

/-- Settles O54: the three items, the rounding of the time, and the read of the window that takes an item. -/
theorem capturesAreThreeItems : Obligations.CapturesAreThreeItems := by
  unfold Obligations.CapturesAreThreeItems
  refine ⟨fun rising t ht => ?items, captureTime_mod, fun s i e rest h hi hr => ?read⟩
  case items =>
    have hns : t / 65536 % 1000000000 < 1000000000 := Nat.mod_lt _ (by decide)
    have hflag : flag rising 31 = flag rising 1 * 2 ^ 30 := flag_add rising 1 30
    have hedge : flag rising 1 ≤ 2 := by cases rising <;> decide
    have hfrac : (t % 65536 * 65536 + t / 65536 / 1000000000 / 2 ^ 32 % 65536) / 65536 = t % 65536 := by omega
    have hquarter : t % 65536 % 16384 = 0 := by rw [Nat.mod_mod_of_dvd t (by decide), ht]
    exact ⟨_, _, _, captureItems_eq rising t, testBit_flag_add rising (by omega), by omega, by omega, rfl, hfrac, by rw [hfrac, hquarter],
      by omega, by omega⟩
  case read =>
    obtain ⟨f, hf, hread⟩ := s.hostRead_input h hi hr
    refine ⟨_, congrArg Host.Outcome.next hread, rfl, ?_⟩
    rw [← hf]
    exact congrArg (fun x : Tti => x.fifo.items) (s.setFifo_input i f)

end Sys2Proof.Machine
end

section
/-! SUPPORT. Messages and timers of PTP domains (R272, R274, R276, R281, R282): what each makes of a domain that is on. -/

namespace Sys2Proof.Machine

/-- Two changes of a domain that agree on what it is have the same effect. -/
theorem State.updDom_congr {s : State} {n : Nat} {f g : PtpDomain → PtpDomain} (h : f (s.tk.dom n) = g (s.tk.dom n)) :
    s.updDom n f = s.updDom n g := by
  unfold State.updDom
  unfold TimeKeeper.dom at h
  split
  next hn => rw [if_pos hn] at h; rw [h]
  next hn => rw [if_neg hn] at h; rw [h]

theorem State.ptpPacket_now (l : Nat) (d : Bytes) (event : Bool) (kind : String) (dest : Option (Bytes × Nat)) (body : Bytes) (s : State) :
    (s.ptpPacket l d event kind dest body).now = s.now := by
  unfold State.ptpPacket State.laneSend
  dsimp only
  split <;> rfl

section
variable (s : State) {k : Nat} {d : Bytes} (hk : k < 2) (hd : s.cfg.domainRec k = some d)
include hk hd

/-! ## What every message and timer has in common (R272, R314) -/

/-- A domain that is on is changed under its record. -/
theorem State.onDomain_record (f : Bytes → State → State) : s.onDomain k f = f d s := by
  simp only [State.onDomain, ge_iff_le, if_neg (Nat.not_le.mpr hk), hd]

/-- The port's stack hands a message that it takes to the domain. -/
theorem State.receivePtp_taken {p : PtpMsg} (hp : p.dom = k) (ht : s.takesFrame p.lane p.rx = true) (use : Bytes → State → State) :
    s.receivePtp p use = use d s := by
  rw [State.receivePtp, State.receive_of_takesFrame _ _ _ _ ht, hp, s.onDomain_record hk hd]

/-! ## Announces (R272, R274, R276) -/

theorem execPtpAnnounceRx_heard {a : PtpAnnounce} (ha : a.dom = k) (ht : s.takesFrame a.lane a.rx = true) (hu : s.ptpUsed k a.lane = true)
    (hi : a.identity ≠ Config.clockIdentity) (hl : (s.tk.dom k).lostAnn ≠ some (a.identity, a.lane, s.now)) :
    execPtpAnnounceRx a s =
      let u := (s.updDom k fun m => m.hear a s.now).runBmc k d false
      .next (if (u.tk.dom k).master.any fun b => sameMaster b a then u.updDom k fun m => { m with annAt := u.now } else u) := by
  simp only [execPtpAnnounceRx, State.receive_of_takesFrame _ _ _ _ ht, State.useAnnounce, ha, ge_iff_le, if_neg (Nat.not_le.mpr hk), hd,
    hu, hi, if_neg hl, Bool.not_true, decide_false, Bool.or_self, Bool.false_eq_true, if_false]

section
variable {p : PtpMsg} (hp : p.dom = k) (ht : s.takesFrame p.lane p.rx = true)
include hp ht

/-! ## Messages of the master (R272, R281, R282) -/

section
variable (hm : s.fromMaster k p.lane = true)
include hm

/-- A Sync that lost its race with the timeout. -/
theorem execPtpSyncRx_late (hl : (s.tk.dom k).lostSync = some s.now) : execPtpSyncRx p s = .next (s.latePtp k) := by
  simp only [execPtpSyncRx, s.receivePtp_taken hk hd hp ht, hp, hm, hl, Bool.not_true, Bool.false_eq_true, if_false, if_true]

theorem execPtpSyncRx_twoStep (hl : (s.tk.dom k).lostSync ≠ some s.now) (h2 : p.twoStep = true) :
    execPtpSyncRx p s = .next (s.updDom k fun m => { m with
      twoStep := (m.twoStep.filter fun x => x.1 ≠ p.seq) ++ [(p.seq, p.ingress, s.now)]
      lateFollow := m.lateFollow.filter fun x => x ≠ p.seq }) := by
  simp only [execPtpSyncRx, s.receivePtp_taken hk hd hp ht, hp, hm, h2, if_neg hl, Bool.not_true, Bool.false_eq_true, if_false, if_true]

theorem execPtpSyncRx_oneStep (hl : (s.tk.dom k).lostSync ≠ some s.now) (h2 : p.twoStep = false) :
    execPtpSyncRx p s = .next (s.useSync k d p.lane p.origin p.ingress) := by
  simp only [execPtpSyncRx, s.receivePtp_taken hk hd hp ht, hp, hm, h2, if_neg hl, Bool.not_true, Bool.false_eq_true, if_false]

theorem execPtpFollowUpRx_used {ingress since : Nat}
    (hf : ((s.tk.dom k).twoStep.find? fun x => decide (x.1 = p.seq)) = some (p.seq, ingress, since)) :
    execPtpFollowUpRx p s = .next ((s.updDom k fun m => { m with
      twoStep := m.twoStep.filter fun x => x.1 ≠ p.seq }).useSync k d p.lane p.origin ingress) := by
  simp only [execPtpFollowUpRx, s.receivePtp_taken hk hd hp ht, hp, hm, hf, Bool.not_true, Bool.false_eq_true, if_false]

/-- A Follow_Up that lost its race with the timeout. -/
theorem execPtpFollowUpRx_late (hf : ((s.tk.dom k).twoStep.find? fun x => decide (x.1 = p.seq)) = none)
    (hl : p.seq ∈ (s.tk.dom k).lateFollow) :
    execPtpFollowUpRx p s = .next ((s.updDom k fun m => { m with
      lateFollow := m.lateFollow.filter fun x => x ≠ p.seq }).latePtp k) := by
  simp only [execPtpFollowUpRx, s.receivePtp_taken hk hd hp ht, hp, hm, hf, List.contains_iff_mem.mpr hl, Bool.not_true,
    Bool.false_eq_true, if_false, if_true]

theorem execPtpDelayRespRx_used {t1 t2 : Int} {t3 since : Nat}
    (hf : ((s.tk.dom k).delayReq.find? fun x => decide (x.1 = p.seq)) = some (p.seq, t3, since))
    (hs : (s.tk.dom k).lastSync = some (t1, t2)) :
    execPtpDelayRespRx p s =
      let l := (s.tk.dom k).delays ++ [((t2 - t1) + ((p.origin : Int) - s.egress p.lane t3)) / 2]
      .next (s.updDom k fun m => { m with
        delayReq := m.delayReq.filter fun x => x.1 ≠ p.seq, delays := l.drop (l.length - 16) }) := by
  simp only [execPtpDelayRespRx, s.receivePtp_taken hk hd hp ht, hp, hm, hf, Bool.not_true, Bool.false_eq_true, if_false]
  exact congrArg Host.Outcome.next (State.updDom_congr (by simp only [hs]))

/-- A Delay_Resp that lost its race with the timeout. -/
theorem execPtpDelayRespRx_late (hf : ((s.tk.dom k).delayReq.find? fun x => decide (x.1 = p.seq)) = none)
    (hl : p.seq ∈ (s.tk.dom k).lateDelay) :
    execPtpDelayRespRx p s = .next ((s.updDom k fun m => { m with
      lateDelay := m.lateDelay.filter fun x => x ≠ p.seq }).latePtp k) := by
  simp only [execPtpDelayRespRx, s.receivePtp_taken hk hd hp ht, hp, hm, hf, List.contains_iff_mem.mpr hl, Bool.not_true,
    Bool.false_eq_true, if_false, if_true]

end

/-- A master answers a Delay_Req. -/
theorem execPtpDelayReqRx_master (hu : s.ptpUsed k p.lane = true) (hr : s.portRole k p.lane d = .master) :
    execPtpDelayReqRx p s = .next (s.ptpPacket p.lane d false "ptp delay-resp" none
      (leBytes 2 p.seq ++ leBytes 16 (s.ingress p.lane p.ingress + (s.tk.dom k).servo.offset).toNat)) := by
  simp only [execPtpDelayReqRx, s.receivePtp_taken hk hd hp ht, hp, hu, hr, Bool.not_true, ne_eq, not_true_eq_false, decide_false,
    Bool.or_self, Bool.false_eq_true, if_false]

end

/-! ## Timeouts (R282) -/

theorem execAnnounceReceiptTimeout_domain :
    execAnnounceReceiptTimeout k s =
      let u := s.advanceNow ((s.tk.dom k).annAt + u8 d 8 * dmAnnounce d)
      let v := u.updDom k fun m => { m with
        foreign := m.foreign.filter fun f => !m.master.any fun g => sameMaster f.ann g
        lostAnn := (m.master.map fun g => (g.identity, g.lane, u.now)).or m.lostAnn
        master := none, annAt := u.now, twoStep := [], delayReq := [] }
      .next ((v.loseSource (domSrc k)).runBmc k d true) :=
  congrArg Host.Outcome.next (s.onDomain_record hk hd _)

theorem execSyncReceiptTimeout_measuring
    (hst : (s.tk.servo (domSrc k)).st = .locked ∨ (s.tk.servo (domSrc k)).st = .acquiring) :
    execSyncReceiptTimeout k s =
      let u := s.advanceNow ((s.tk.dom k).syncAt + 4 * dmSync d)
      .next ((u.updDom k fun m => { m with
        lostSync := some u.now, syncAt := u.now, twoStep := []
        lateFollow := m.lateFollow ++ m.twoStep.map Prod.fst }).loseSource (domSrc k)) :=
  congrArg Host.Outcome.next ((s.onDomain_record hk hd _).trans (if_neg fun hn => hst.elim hn.left hn.right))

theorem execFollowUpTimeout_waiting {seq i since : Nat} {rest : List (Nat × Nat × Nat)}
    (h : (s.tk.dom k).twoStep = (seq, i, since) :: rest) :
    execFollowUpTimeout k s = .next ((s.advanceNow (since + dmSync d)).updDom k
      fun m => { m with twoStep := rest, lateFollow := m.lateFollow ++ [seq] }) := by
  simp only [execFollowUpTimeout, s.onDomain_record hk hd, h]

theorem execDelayRespTimeout_waiting {seq i since : Nat} {rest : List (Nat × Nat × Nat)}
    (h : (s.tk.dom k).delayReq = (seq, i, since) :: rest) :
    execDelayRespTimeout k s = .next ((s.advanceNow (since + min (dmDelay d) (secT 1))).updDom k
      fun m => { m with delayReq := rest, lateDelay := m.lateDelay ++ [seq] }) := by
  simp only [execDelayRespTimeout, s.onDomain_record hk hd, h]

/-! ## What a domain sends (R272, R274, R277, R289) -/

theorem execPtpSyncInterval_master (hp : s.masterPorts k d ≠ []) :
    execPtpSyncInterval k s =
      let m := s.tk.dom k
      .next (((s.masterPorts k d).foldl (fun s l =>
        let now := leBytes 16 (s.egress l (s.laneFree l (s.eventBytes l)) + m.servo.offset).toNat
        if bit (u8 d 12) 0 then
          (s.ptpPacket l d true "ptp sync" none (leBytes 2 m.syncSeq ++ leBytes 1 1 ++ zeros 16)).ptpPacket l d false "ptp follow-up" none
            (leBytes 2 m.syncSeq ++ now)
        else s.ptpPacket l d true "ptp sync" none (leBytes 2 m.syncSeq ++ leBytes 1 0 ++ now)) s).updDom k
          fun m => { m with syncSeq := (m.syncSeq + 1) % 65536 }) := by
  rw [execPtpSyncInterval, s.onDomain_record hk hd]
  dsimp only
  rw [if_neg (mt List.isEmpty_iff.mp hp)]
  cases bit (u8 d 12) 0 <;> rfl

theorem execPtpAnnounceInterval_master (hp : s.masterPorts k d ≠ []) :
    execPtpAnnounceInterval k s =
      let m := s.tk.dom k
      let tlv := if dmSmpte d && m.servo.st = .master then
        leBytes 4 s.cfg.rateN ++ leBytes 4 s.cfg.rateD ++ leBytes 1 s.lockingStatus ++ zeros 11 else []
      .next (((s.masterPorts k d).foldl (fun u l => u.ptpPacket l d false "ptp announce" none
        (leBytes 2 m.annSeq ++ leBytes 1 (dmNumber d) ++ (s.announced k d).flatMap (leBytes 8) ++ tlv)) s).updDom k
          fun m => { m with annSeq := (m.annSeq + 1) % 65536 }) := by
  rw [execPtpAnnounceInterval, s.onDomain_record hk hd]
  dsimp only
  rw [if_neg (mt List.isEmpty_iff.mp hp)]

theorem execPtpSyncInterval_noMaster (hp : s.masterPorts k d = []) : execPtpSyncInterval k s = .next s := by
  simp only [execPtpSyncInterval, s.onDomain_record hk hd, hp, List.foldl_nil, List.isEmpty_nil, if_true]

theorem execPtpAnnounceInterval_noMaster (hp : s.masterPorts k d = []) : execPtpAnnounceInterval k s = .next s := by
  simp only [execPtpAnnounceInterval, s.onDomain_record hk hd, hp, List.foldl_nil, List.isEmpty_nil, if_true]

theorem execDelayReqInterval_slave {b : PtpAnnounce} (hb : (s.tk.dom k).master = some b) (hf : s.portFaulty b.lane = false) :
    execDelayReqInterval k s = .next ((s.ptpPacket b.lane d true "ptp delay-req"
      (if bit (u8 d 12) 1 then some (b.rx.source, b.rx.ip) else none) (leBytes 2 (s.tk.dom k).delaySeq)).updDom k fun m => { m with
        delayReq := (m.delayReq.filter fun x => x.1 ≠ m.delaySeq) ++ [(m.delaySeq, s.laneFree b.lane (s.eventBytes b.lane), s.now)]
        lateDelay := m.lateDelay.filter fun x => x ≠ m.delaySeq, delaySeq := (m.delaySeq + 1) % 65536 }) := by
  simp only [execDelayReqInterval, s.onDomain_record hk hd, hb, hf, Bool.false_eq_true, if_false]
  rw [State.ptpPacket_now]

end

/-- Settles O47. First what comes in on a port, then the timeouts, and then what the domain sends. The model's choices are the bytes
of the messages that it sends (log entry 101) and the choice of the master by what is known of IEEE 1588-2019 (92). -/
theorem ptpEventsComplete : Obligations.PtpEventsComplete := by
  unfold Obligations.PtpEventsComplete
  intro k d s hk hd
  exact ⟨fun a ha ht hu hi hl => execPtpAnnounceRx_heard s hk hd ha ht hu hi hl,
    fun p hp ht hm hl => ⟨execPtpSyncRx_twoStep s hk hd hp ht hm hl, execPtpSyncRx_oneStep s hk hd hp ht hm hl⟩,
    fun p hp ht hm hl => execPtpSyncRx_late s hk hd hp ht hm hl,
    fun p ingress since hp ht hm hf => execPtpFollowUpRx_used s hk hd hp ht hm hf,
    fun p hp ht hm hf hl => execPtpFollowUpRx_late s hk hd hp ht hm hf hl,
    fun p hp ht hu hr => execPtpDelayReqRx_master s hk hd hp ht hu hr,
    fun p t1 t2 t3 since hp ht hm hf hs => execPtpDelayRespRx_used s hk hd hp ht hm hf hs,
    fun p hp ht hm hf hl => execPtpDelayRespRx_late s hk hd hp ht hm hf hl,
    fun g hg => execAnnounceReceiptTimeout_domain s hk hd,
    execSyncReceiptTimeout_measuring s hk hd,
    fun seq i since rest h => execFollowUpTimeout_waiting s hk hd h,
    fun seq i since rest h => execDelayRespTimeout_waiting s hk hd h,
    execPtpSyncInterval_master s hk hd, execPtpAnnounceInterval_master s hk hd,
    fun hp => ⟨execPtpSyncInterval_noMaster s hk hd hp, execPtpAnnounceInterval_noMaster s hk hd hp⟩,
    fun b hb hf => execDelayReqInterval_slave s hk hd hb hf⟩

end Sys2Proof.Machine
end

section
/-! SUPPORT. LTC and FSYNC (R286-R288), changes of source (R283, R284), trigger pulses and captures (R292, R294), and the runs and
probes of LATENCY_MEASURE (R300, R301, R335). -/

namespace Sys2Proof.Machine

/-- The model's comparison of an edge with the record's EDGE, of two propositions, is that of two flags. -/
theorem eq_true_eq_prop_iff {b : Bool} (p : Prop) [Decidable p] : ((b = true) = p) ↔ b = decide p := by
  rw [Bool.eq_iff_iff (b := decide p), decide_eq_true_iff]
  exact eq_iff_iff

theorem fsync_notAcquiring {s : State} (h : s.tk.source ≠ .fsync ∨ s.showRuns = true ∨ s.tk.fsync.servo.st = .locked) :
    (decide (s.tk.source = .fsync) && !s.showRuns && decide (s.tk.fsync.servo.st ≠ .locked)) = false := by
  rcases h with h | h | h <;> simp [h]

section
variable (s : State)

/-! ## LTC (R286, R287) -/

section
variable {d : Bytes} (hd : s.cfg.ltcRec = some d)
include hd

/-- The first codeword continues nothing, and breaks nothing. -/
theorem execLtcCodeword_first (c : LtcCode) (hl : s.tk.ltc.last = none) :
    execLtcCodeword c s =
      let k := (ltcCount (u8 d 1) c).2
      let t : Int := ((secT (u48 d 4) + ltcSpan (u8 d 1) (s.tk.ltc.days * (ltcCount (u8 d 1) c).1 + k) : Nat) : Int) + iAt d 12 4 * 65536
      .next (({ s with tk := { s.tk with ltc := { s.tk.ltc with last := some k, missing := 0 } } } : State).measure .ltc 100 8 false
        (t - c.stamp)) := by
  simp only [execLtcCodeword, hd, hl, reduceCtorEq, false_and, if_false, Bool.false_and, Bool.false_eq_true]

theorem execLtcCodewordMissing_few (h : s.tk.ltc.missing < 3) :
    execLtcCodewordMissing s = .next { s with tk := { s.tk with ltc := { s.tk.ltc with missing := s.tk.ltc.missing + 1 } } } := by
  simp only [execLtcCodewordMissing, hd, Option.isNone_some, Bool.false_eq_true, if_false, ge_iff_le,
    if_neg (show ¬ 4 ≤ s.tk.ltc.missing + 1 by omega)]

/-- The fourth codeword that is missing loses the source. -/
theorem execLtcCodewordMissing_fourth (h : s.tk.ltc.missing = 3) :
    execLtcCodewordMissing s =
      .next (({ s with tk := { s.tk with ltc := { s.tk.ltc with missing := 4 } } } : State).loseSource .ltc) := by
  simp only [execLtcCodewordMissing, hd, Option.isNone_some, Bool.false_eq_true, if_false, h, ge_iff_le, Nat.reduceAdd,
    Nat.le_refl, if_true]

end

/-! ## FSYNC (R288) -/

section
variable {d : Bytes} (hd : s.cfg.fsyncRec = some d)
include hd

theorem execFsyncEdge_otherEdge {rising : Bool} (hr : rising ≠ decide (u8 d 1 = 0)) : execFsyncEdge rising s = .next s := by
  simp only [execFsyncEdge, hd]
  exact if_pos (mt (eq_true_eq_prop_iff _).mp hr)

theorem execFsyncEdgeMissing_few (h : s.tk.fsync.missing < 3) :
    execFsyncEdgeMissing s = .next { s with tk := { s.tk with fsync := { s.tk.fsync with missing := s.tk.fsync.missing + 1 } } } := by
  simp only [execFsyncEdgeMissing, hd, Option.isNone_some, Bool.false_eq_true, if_false, ge_iff_le,
    if_neg (show ¬ 4 ≤ s.tk.fsync.missing + 1 by omega)]

section
variable {rising : Bool} (hr : rising = decide (u8 d 1 = 0))
include hr

/-- While the source in force acquires with the show stopped, the counter steps onto the nearest expected instant. -/
theorem execFsyncEdge_steps (hf : s.tk.source = .fsync) (hs : s.showRuns = false) (hl : s.tk.fsync.servo.st ≠ .locked)
    (hn : s.cfg.fsyncNearest d s.tk.counter ≠ s.tk.counter) :
    execFsyncEdge rising s =
      let near := s.cfg.fsyncNearest d s.tk.counter
      let u := ({ s with tk := { s.tk with fsync := { s.tk.fsync with missing := 0 } } } : State).stepBy (near - s.tk.counter)
      .next (u.measure .fsync 100 8 false (near - u.tk.counter)) := by
  have hedge : ¬ (rising = true) ≠ (u8 d 1 = 0) := not_not_intro ((eq_true_eq_prop_iff _).mpr hr)
  simp only [execFsyncEdge, hd, if_neg hedge, hf, hs, decide_eq_true hl, decide_eq_true hn, decide_true, Bool.not_false, Bool.and_self,
    Bool.not_true, Bool.false_and, Bool.false_eq_true, if_false, if_true]

section
variable (ho : s.tk.source ≠ .fsync ∨ s.showRuns = true ∨ s.tk.fsync.servo.st = .locked)
include ho

theorem execFsyncEdge_near (hn : (s.cfg.fsyncNearest d s.tk.counter - s.tk.counter).natAbs * 4 ≤ nsT s.cfg.periodNs) :
    execFsyncEdge rising s =
      .next (({ s with tk := { s.tk with fsync := { s.tk.fsync with missing := 0 } } } : State).measure .fsync 100 8 false
        (s.cfg.fsyncNearest d s.tk.counter - s.tk.counter)) := by
  have hedge : ¬ (rising = true) ≠ (u8 d 1 = 0) := not_not_intro ((eq_true_eq_prop_iff _).mpr hr)
  simp only [execFsyncEdge, hd, if_neg hedge, fsync_notAcquiring ho, gt_iff_lt, decide_eq_false (Nat.not_lt.mpr hn), Bool.and_false,
    Bool.false_and, Bool.false_eq_true, if_false]

/-- An edge far from every expected instant is not used. -/
theorem execFsyncEdge_stray (hn : nsT s.cfg.periodNs < (s.cfg.fsyncNearest d s.tk.counter - s.tk.counter).natAbs * 4) :
    execFsyncEdge rising s = .next { s with tk := { s.tk with stray := satInc s.tk.stray } } := by
  have hedge : ¬ (rising = true) ≠ (u8 d 1 = 0) := not_not_intro ((eq_true_eq_prop_iff _).mpr hr)
  simp only [execFsyncEdge, hd, if_neg hedge, fsync_notAcquiring ho, gt_iff_lt, decide_eq_true hn, Bool.not_false, Bool.and_self, if_true]

end
end
end

/-! ## Changes of source (R283, R284) -/

theorem execAutoSwitch_only {x t : Nat} (hx : x < 5) (ha : s.cfg.autoSwitch = true) (hc : s.candidates = [Src.ofCode x])
    (hq : s.qualifies (Src.ofCode x) = some t) :
    execAutoSwitch x s = .next ((s.advanceNow t).changeSource (Src.ofCode x)) := by
  have hfirst (b : Bool) : (if ([Src.ofCode x].contains s.preferred && b) = true then s.preferred else Src.ofCode x) = Src.ofCode x := by
    split
    next h => exact List.mem_singleton.mp (List.contains_iff_mem.mp (Bool.and_eq_true_iff.mp h).1)
    · rfl
  have hself : [Src.ofCode x].contains (Src.ofCode x) = true := List.contains_iff_mem.mpr (List.mem_singleton_self _)
  simp only [execAutoSwitch, if_neg (Nat.not_le.mpr hx), ge_iff_le, ha, hc, hq, hself, hfirst, Bool.not_true, Bool.or_self,
    Bool.false_eq_true, if_false]

theorem execSourceReversion_due {a : Nat} (hr : s.cfg.revert = true) (hs : s.preferred ≠ s.tk.source) (hf : s.preferred ≠ .free)
    (hl : (s.tk.servo s.preferred).lockedSince = some a) :
    execSourceReversion s = .next ((s.advanceNow (max a s.tk.autoFrom + secT s.cfg.revertS)).changeSource s.preferred) := by
  simp only [execSourceReversion, hr, hs, hf, hl, Bool.not_true, decide_false, Bool.or_self, Bool.false_eq_true, if_false]

/-! ## Trigger units and captures (R292, R294) -/

section
variable {u : Nat} {d : Bytes} (hd : s.cfg.get .trigger u = some d)
include hd

theorem execTtuPulse_due (hu : u < 32) (h : (s.unit u).due s.showRuns = true) :
    execTtuPulse u s = .next (if u8 d 2 = 2 then (s.fireUnit u d).launchQueue (u16 d 4) else s.fireUnit u d) := by
  simp only [execTtuPulse, if_neg (Nat.not_le.mpr hu), ge_iff_le, hd, h, Bool.not_true, Bool.false_eq_true, if_false]

theorem execTtuPulse_notDue (h : (s.unit u).due s.showRuns = false) : execTtuPulse u s = .next s := by
  simp only [execTtuPulse, hd, h, Bool.not_false, if_true, ite_self]

end

section
variable {i : Nat} {d : Bytes} {rising : Bool} (hi : i < 8) (hd : s.cfg.get .capture i = some d) (hk : u8 d 3 = 0)
  (hs : edgeSelected d rising = true) (he : (s.input i).enable = true)
include hi hd hk hs he

theorem execTtiEdge_capture (h : ((s.input i).last.any fun t => s.now < t + nsT 40) = false) :
    execTtiEdge i rising s =
      .next ((s.updInput i fun x => { x with last := some s.now }).arrive (.input i) 64
        (captureItems rising (captureTime d s.tk.counter))) := by
  simp only [execTtiEdge, if_neg (Nat.not_le.mpr hi), ge_iff_le, hd, hk, if_true, State.captureEdge, hs, he, h, Bool.not_true, Bool.or_self,
    Bool.false_eq_true, if_false]

theorem execTtiEdge_glitch (h : ((s.input i).last.any fun t => s.now < t + nsT 40) = true) :
    execTtiEdge i rising s = .next (s.updInput i fun x => { x with glitch := satInc x.glitch }) := by
  simp only [execTtiEdge, if_neg (Nat.not_le.mpr hi), ge_iff_le, hd, hk, if_true, State.captureEdge, hs, he, h, Bool.not_true, Bool.or_self,
    Bool.false_eq_true, if_false]

end

/-! ## Probes (R277, R335) -/

theorem execIxnikProbeRx_answers {l : Nat} {rx : RxFrame} {h : Bytes} (e : Endpoint) (st : Bytes) (ht : s.takesFrame l rx = true)
    (hm : beNat (slice h 0 2) = 0x4958) (hv : u8 h 2 = 1) (hk : u8 h 6 = 2) :
    execIxnikProbeRx ⟨l, rx⟩ e h st s = .next ((s.laneSend l "probe reply" rx.source 0 e.ip (some (47012, e.port))
      (putAt h 6 [3] ++ st ++ stampBytes (s.ingress l (s.frameStamp l rx)).toNat)).reportNode l (beNat (slice h 4 2))) := by
  have hknown : ixKnown h = true := by
    rw [ixKnown, hm, hv]
    rfl
  simp only [execIxnikProbeRx, State.receive_of_takesFrame _ _ _ _ ht, hknown, hk, Bool.not_true, Bool.false_eq_true, ne_eq,
    not_true_eq_false, if_false]

section
variable {f : Nat} {c : Bytes} {rx : RxFrame} {r : LatRun} (a b ns : Nat) (tm : List Nat) (hc : s.cfg.get .flow f = some c)
  (ht : s.takesFrame (flLane c) rx = true)
  (hr : (s.lat.runs.find? fun r => decide (r.phase = .probing) && decide (r.target = f)) = some r)
include hc ht hr

/-- A node that is not LOCKED fails the measurement. -/
theorem execProbeReplyRx_notLocked : execProbeReplyRx f rx (a, b) false ns tm s = .next (s.endLatRun r Status.timeNotReady 0) := by
  simp only [execProbeReplyRx, hc, State.receive_of_takesFrame _ _ _ _ ht, State.useProbeReply, hr, Bool.not_false, if_true]

theorem execProbeReplyRx_processing (hk : r.kind = 1) :
    execProbeReplyRx f rx (a, b) true ns tm s = .next (s.finishProbing r (.rx f (ceilDiv ns 1000 * 1000) tm)) := by
  simp only [execProbeReplyRx, hc, State.receive_of_takesFrame _ _ _ _ ht, State.useProbeReply, hr, hk, Bool.not_true, Bool.false_eq_true,
    if_false, if_true]

section
variable {l : List Int} (hk : r.kind ≠ 1) (hl : l = r.results ++ [(b : Int) - a])
include hk hl

theorem execProbeReplyRx_last (hn : u8 r.payload 2 ≤ l.length) :
    execProbeReplyRx f rx (a, b) true ns tm s = .next (s.finishProbing r
      (.net f (ceilDiv (l.foldl (· + ·) 0).toNat (65536 * l.length)) (ceilDiv (spreadT l) 65536))) := by
  simp only [execProbeReplyRx, hc, State.receive_of_takesFrame _ _ _ _ ht, State.useProbeReply, hr, if_neg hk, ← hl, ge_iff_le, if_pos hn,
    Bool.not_true, Bool.false_eq_true, if_false]

/-- Until its last probe a measurement goes on 1 ms after a reply. -/
theorem execProbeReplyRx_more (hn : l.length < u8 r.payload 2) :
    execProbeReplyRx f rx (a, b) true ns tm s =
      .next (((s.updLatRun r { r with results := l }).elapse (msT 1)).sendProbe f c "probe") := by
  have hcfg : (s.updLatRun r { r with results := l }).cfg.get .flow f = some c := hc
  simp only [execProbeReplyRx, hc, State.receive_of_takesFrame _ _ _ _ ht, State.useProbeReply, hr, if_neg hk, ← hl, ge_iff_le,
    if_neg (Nat.not_le.mpr hn), hcfg, Bool.not_true, Bool.false_eq_true, if_false]

end
end

/-! ## The times of a measurement (R300, R301) -/

theorem execLatencyStartTimeout_waiting {r : LatRun} (hr : (s.lat.runs.find? fun r => decide (r.phase = .waiting)) = some r)
    (hs : s.showRuns = false) :
    execLatencyStartTimeout s =
      .next ((s.advanceNow (r.since + secT 60)).endLatRun r Status.wrongState (s.advanceNow (r.since + secT 60)).wrongDetail) := by
  simp only [execLatencyStartTimeout, hr, hs, Bool.false_eq_true, if_false]

/-- Where processing times alone repeat, the interval starts them again. -/
theorem execLatencyRepeatInterval_processing {f since : Nat} {d : Bytes} (hn : Tab.find s.lat.repeats (2 * f) = none)
    (hr : Tab.find s.lat.repeats (2 * f + 1) = some (since, d)) :
    execLatencyRepeatInterval f s =
      .next ((s.advanceNow (since + secT (u16 d 16))).startProbing { id := 0, op := 0x0905, session := 0, tag := 0 } d) := by
  simp only [execLatencyRepeatInterval, Nat.add_zero, hn, hr]

theorem execLatencyCaptureTimeout_lit {r : LatRun} {n e : Nat} {f : Bytes} (hr : s.lat.runs = [r]) (hp : r.phase = .lit n)
    (hc : s.cfg.carrier r.target = some (e, f)) :
    execLatencyCaptureTimeout s = .next ((s.advanceTo (s.issueAt e n + secT 1)).endLatRun r Status.sensorTimeout 0) := by
  simp only [execLatencyCaptureTimeout, hr, List.filterMap_cons, List.filterMap_nil, hp, hc, Option.map_some]

end

/-- Settles O48. First the sources of time and their changes, trigger units and captures, then probes and the times of a measurement.
The model's choices are the slew at exactly 10 ns per second (log entry 95), that no edge is stray while FSYNC acquires (97), the
base of LTC that grows with each day of timecode (102), and JITTER rounded up with the 1 ms between probes (103). -/
theorem timeAndLatencyEventsComplete : Obligations.TimeAndLatencyEventsComplete := by
  unfold Obligations.TimeAndLatencyEventsComplete
  refine ⟨fun s => ⟨fun d c hd hl => execLtcCodeword_first s hd c hl, fun d hd h => execLtcCodewordMissing_few s hd h,
      fun d hd h => execLtcCodewordMissing_fourth s hd h, fun d rising hd hr => execFsyncEdge_otherEdge s hd hr, ?fsync,
      fun d hd h => execFsyncEdgeMissing_few s hd h, fun x t hx ha hc hq => execAutoSwitch_only s hx ha hc hq,
      fun a hr hs hf hl => execSourceReversion_due s hr hs hf hl, rfl, ?pulse, ?launch, ?notDue, ?edge⟩,
    fun s => ⟨fun l rx e h st ht hm hv hk => execIxnikProbeRx_answers s e st ht hm hv hk, ?reply,
      fun r hr hs => execLatencyStartTimeout_waiting s hr hs, fun f since d hn hr => execLatencyRepeatInterval_processing s hn hr,
      fun r n e f hr hp hc => execLatencyCaptureTimeout_lit s hr hp hc⟩⟩
  case fsync =>
    rintro d rising _ _ hd hr rfl rfl
    exact ⟨fun ho => ⟨execFsyncEdge_near s hd hr ho, execFsyncEdge_stray s hd hr ho⟩, execFsyncEdge_steps s hd hr⟩
  case pulse => exact fun u d hu hd h h2 => (execTtuPulse_due s hd hu h).trans (congrArg Host.Outcome.next (if_neg h2))
  case launch => exact fun u d hu hd h h2 => (execTtuPulse_due s hd hu h).trans (congrArg Host.Outcome.next (if_pos h2))
  case notDue =>
    rintro u ⟨d, hd⟩ h
    exact execTtuPulse_notDue s hd h
  case edge =>
    exact fun i d rising hi hd hk hs he => ⟨execTtiEdge_capture s hi hd hk hs he, execTtiEdge_glitch s hi hd hk hs he⟩
  case reply =>
    intro f c rx a b ns tm r hc ht hr
    exact ⟨execProbeReplyRx_notLocked s a b ns tm hc ht hr, execProbeReplyRx_processing s a b ns tm hc ht hr,
      fun hk => ⟨execProbeReplyRx_last s a b ns tm hc ht hr hk rfl, execProbeReplyRx_more s a b ns tm hc ht hr hk rfl⟩⟩

end Sys2Proof.Machine
end

section
/-! SUPPORT. The meters, the feeders and the backup island between commands: samples and line crossings (R408, R413), reads of SEQ
(R415), pulses (R419), bleeding (R427), windows of the night meter (R421) and tamper samples (R430). -/

namespace Sys2Proof.Machine

theorem State.addNight_now (b : Bytes) (s : State) : (s.addNight b).now = s.now := by
  unfold State.addNight
  split <;> rfl

theorem State.addNight_bak (b : Bytes) (s : State) : (s.addNight b).bak = s.bak := by
  unfold State.addNight
  split <;> rfl

section
variable (s : State)

/-! ## Samples, line crossings and reads (R408, R413, R415) -/

theorem execMeterSample_measuring (bits : List Nat) (hm : s.measuring = true) (ha : s.cfg.all .meter ≠ []) :
    execMeterSample bits s =
      let t := s.met.sampleAt.getD (s.now - nsT 25600)
      let u := s.advanceNow (t + nsT 25600)
      let v : State := { u with met := { u.met with sampleAt := some (t + nsT 25600) } }
      .next ((v.cfg.all .meter).foldl (fun s e => s.sampleMeter bits t e.1 e.2) v) := by
  simp only [execMeterSample, hm, List.isEmpty_iff, ha, Bool.not_true, Bool.false_eq_true, or_self, if_false]

/-- The timeout loses the line of a meter that counts its cycles. -/
theorem execMeterLineTimeout_lineLost {m : Nat} {d : Bytes} {x : Meter} (hm : m < 8) (hd : s.cfg.get .meter m = some d)
    (hx : Tab.find s.met.meters m = some x) (ht : mtType d ≠ 2) (hl : x.noLine = false) :
    execMeterLineTimeout m s =
      let u := s.advanceNow (x.validAt + msT 100)
      let y : Meter := { x with noLine := true, line := false, good := 0, crossing := none }
      .next (({ u with met := { u.met with meters := Tab.put u.met.meters m y } } : State).raise Ev.meterLineFault m 0) := by
  simp only [execMeterLineTimeout, if_neg (Nat.not_le.mpr hm), ge_iff_le, hd, hx, ht, hl, Bool.false_eq_true, or_self, if_false]

theorem execMeterSeqRead_defined {m : Nat} (h : s.cfg.has .meter m = true) :
    execMeterSeqRead m s = .next ((s.readSeq m).1.emit (.readData [word (s.readSeq m).2])) := by
  simp only [execMeterSeqRead, h, if_true]

theorem execMeterSeqRead_undefined {m : Nat} (h : s.cfg.has .meter m = false) :
    execMeterSeqRead m s = .next (s.emit (.readData [word 0])) := by
  simp only [execMeterSeqRead, h, Bool.false_eq_true, if_false]

/-! ## Pulses and feeders (R419, R427) -/

/-- A pulse that is due counts; a ball that its old owner holds does not show it. -/
theorem execEpoPulse_due {o t : Nat} {rest : List Nat} (ho : o < 4) (hd : (Tab.getD s.met.epos o {}).due = t :: rest) :
    execEpoPulse o s =
      let u := s.advanceNow t
      let x := Tab.getD s.met.epos o {}
      let held := u.ballHeld (ttoBall (4 + o))
      let y : Epo := { x with
        count := (x.count + 1) % 2 ^ 32, due := rest, high := if held then x.high else u.now + msT (u.cfg.epoWidth o) }
      let v : State := { u with met := { u.met with epos := Tab.put u.met.epos o y } }
      .next (if held then v else v.pulseOut o) := by
  simp only [execEpoPulse, if_neg (Nat.not_le.mpr ho), ge_iff_le, hd]

theorem execFeederBleedDone_safe {f t : Nat} (hf : f < 8) (hb : (s.feeder f).bleed = some t) (hs : 32 ≤ (s.feeder f).safe) :
    execFeederBleedDone f s =
      .next ((s.updFeeder f fun x => { x with st := .open_, bleed := none }).feederOut s.cfg f true false s.now) := by
  simp only [execFeederBleedDone, if_neg (Nat.not_le.mpr hf), ge_iff_le, hb, Option.isNone_some, Bool.false_eq_true, false_or,
    if_neg (Nat.not_lt.mpr hs)]

theorem execFeederBleedTimeout_bleeding {f t : Nat} {d : Bytes} (hf : f < 8) (hb : (s.feeder f).bleed = some t)
    (hd : s.cfg.get .feeder f = some d) :
    execFeederBleedTimeout f s = .next (((s.advanceNow (t + msT (fdBleed d))).updFeeder f
      fun x => { x with st := .bleedFault, bleed := none, faults := satInc x.faults }).raise Ev.feederBleedFault f 0) := by
  simp only [execFeederBleedTimeout, if_neg (Nat.not_le.mpr hf), ge_iff_le, hb, hd]

/-! ## The backup island (R421, R430) -/

/-- A window counts one more in a row on its side of THRESH_MA and none on the other, and an activity needs a second window: the first
hot one after a cold one starts none. -/
theorem execNightMeterWindow_counts {d : Bytes} {samples : List (List Int)} {u : State} {hot : Bool} (hd : s.bak.night = some d)
    (hl : s.boot.supplyLost = true) (hp : s.bak.powered = true) (harm : u8 d 1 % 16 ≠ 0)
    (hu : u = (s.elapse (secT (u8 d 2))).nightClock)
    (hh : hot = ((List.range 4).any fun i => bit (u8 d 1) i && decide (u32 d 4 ≤ u.bak.nightRms samples i))) :
    ∃ t, execNightMeterWindow samples s = .next t ∧ t.now = u.now ∧
      t.bak.above = (if hot then u.bak.above + 1 else 0) ∧ t.bak.below = (if hot then 0 else u.bak.below + 1) ∧
      (u.bak.activity = none → u.bak.above = 0 → t.bak.activity = none) := by
  have hhot : ((List.range 4).any fun i => bit (u8 d 1) i && decide (((List.range 4).map (u.bak.nightRms samples)).getD i 0 ≥ u32 d 4))
      = hot := hh.symm
  simp only [execNightMeterWindow, hd, hl, hp, harm, Bool.not_true, Bool.false_eq_true, or_self, if_false, ← hu, hhot]
  generalize ha : (if hot = true then u.bak.above + 1 else 0) = above
  generalize (if hot = true then 0 else u.bak.below + 1) = below
  cases u.bak.activity with
  | none =>
    have hfirst (h0 : u.bak.above = 0) : ¬ above ≥ 2 := by
      rw [← ha, h0]
      split <;> decide
    dsimp only
    split
    next h2 => exact ⟨_, rfl, rfl, rfl, rfl, fun _ h0 => absurd h2 (hfirst h0)⟩
    · exact ⟨_, rfl, rfl, rfl, rfl, fun _ _ => rfl⟩
  | some a =>
    dsimp only
    split
    · refine ⟨_, rfl, State.addNight_now _ _, ?_, ?_, nofun⟩ <;> rw [State.addNight_bak]
    · exact ⟨_, rfl, rfl, rfl, rfl, nofun⟩

theorem execTamperSample_powered (l : List Bool) (hp : s.bak.powered = true) :
    execTamperSample l s =
      let u := s.elapse (secT 1 / 4)
      .next { u with bak := (u.bak.sample u.rtc 0 (l.getD 0 false)).sample u.rtc 1 (l.getD 1 false) } := by
  simp only [execTamperSample, hp, Bool.not_true, Bool.false_eq_true, if_false]

end

/-- Settles O50. First the meters, their reads and pulses and the feeders, then the night meter, the tamper inputs and the supply of
the island. The model's choices are what a loss of the backup supply empties and its return sets (log entry 158), and that a pulse at
a ball which its old owner holds counts and is not output (200). -/
theorem meterEventsComplete : Obligations.MeterEventsComplete := by
  unfold Obligations.MeterEventsComplete
  refine fun s => ⟨fun l => execMeterSample_measuring s l, fun m d x => execMeterLineTimeout_lineLost s,
    fun m => ⟨execMeterSeqRead_defined s, execMeterSeqRead_undefined s⟩, fun _ _ _ => rfl, rfl, fun o t rest => execEpoPulse_due s,
    fun f t => execFeederBleedDone_safe s, fun f t d => execFeederBleedTimeout_bleeding s, ?night,
    fun l => execTamperSample_powered s l, ?move, ?loss, ?ret⟩
  case night =>
    intro d samples u hot hd hl hp harm hu hh
    obtain ⟨t, ht, hnow, habove, hbelow, hnone⟩ := execNightMeterWindow_counts s hd hl hp harm hu hh
    refine ⟨t, ht, hnow, ?_, ?_, hnone⟩ <;> rintro rfl
    · exact ⟨habove, hbelow⟩
    · exact ⟨habove, hbelow⟩
  case move => exact fun h => congrArg Host.Outcome.next (if_neg (Bool.eq_false_iff.mp h))
  case loss => exact fun h => congrArg Host.Outcome.next (if_pos h)
  case ret => exact fun h => congrArg Host.Outcome.next (if_neg (Bool.eq_false_iff.mp h))

end Sys2Proof.Machine
end

section
/-! SUPPORT. Check channels (R439, R449-R452) and the event, register and service commands (R492, R519, R520): the end of a native
pass, what the body of each command gives where its checks pass, and the reset that the reply of DEVICE_RESET arms. -/

namespace Sys2Proof.Machine

/-! ## Passes of a check channel (R439, R449) -/

/-- The state in which a native pass ends: its time is over, and the channel holds the check value of what it read. -/
def State.passEnd (c : Nat) (o : PassOutcome) (s : State) : State :=
  let x := s.chan c
  let u := s.advanceNow (x.passAt + x.passT)
  (u.updChan c fun y => { y with
    result := crcOf x.poly (u.scanBytes x o), valid := true, passes := satInc x.passes, passAt := u.now }).updChan c
    fun y => { y with st := .done }

section
variable {c : Nat} {o : PassOutcome} {s : State}

theorem State.passEnd_now : (s.passEnd c o).now = (s.advanceNow ((s.chan c).passAt + (s.chan c).passT)).now := rfl

theorem State.passEnd_chan :
    (s.passEnd c o).chan c = { s.chan c with
      result := crcOf (s.chan c).poly ((s.advanceNow ((s.chan c).passAt + (s.chan c).passT)).scanBytes (s.chan c) o)
      valid := true, passes := satInc (s.chan c).passes, passAt := (s.passEnd c o).now, st := .done } := by
  rw [State.passEnd, State.updChan_chan, State.updChan_chan]
  rfl

theorem execChkPassComplete_notRunning (hst : (s.chan c).st ≠ .running) : execChkPassComplete c o s = .next s := by
  simp only [execChkPassComplete, ne_eq, hst, not_false_eq_true, true_or, if_true, ite_self]

section
variable (hc : c < 4) (hst : (s.chan c).st = .running) (hd : s.gl.device ≠ .updatePause)
include hc hst hd

theorem execChkPassComplete_native (ho : o.poisoned = none) (hn : (s.chan c).te5100 = false) :
    execChkPassComplete c o s = .next ((s.passEnd c o).raise Ev.chkDone c ((s.passEnd c o).chan c).result) := by
  rw [State.passEnd_chan]
  simp only [execChkPassComplete, ge_iff_le, if_neg (Nat.not_le.mpr hc), if_neg (not_or.mpr ⟨not_not.mpr hst, hd⟩), ho, hn,
    Bool.not_false, if_true]
  rfl

theorem execChkPassComplete_poisoned {p : Poison} (ho : o.poisoned = some p) :
    execChkPassComplete c o s = .next ((s.memPoisoned p).updChan c fun x => { x with st := .dataError, reloading := false }) := by
  simp only [execChkPassComplete, ge_iff_le, if_neg (Nat.not_le.mpr hc), if_neg (not_or.mpr ⟨not_not.mpr hst, hd⟩), ho]

end
end

/-- Settles O55: a native pass ends in `State.passEnd`, and a channel that is not running completes no pass. -/
theorem nativePassReportsItsResult : Obligations.NativePassReportsItsResult := by
  unfold Obligations.NativePassReportsItsResult
  refine ⟨fun c o s hc hst hd ho hn => ?native, fun c o s p hc hst hd ho => execChkPassComplete_poisoned hc hst hd ho,
    fun c o s hc hst => execChkPassComplete_notRunning (by rw [hst]; decide)⟩
  case native =>
    have hchan := State.passEnd_chan (c := c) (o := o) (s := s)
    have hresult := congrArg Chk.result hchan
    exact ⟨s.passEnd c o, execChkPassComplete_native hc hst hd ho hn, rfl, hresult, by rw [hresult]; exact hchan⟩

/-! ## Ranges of event sources (R492) -/

/-- FIRST and COUNT name event sources, all below 0x200. -/
def SourceRange (d : Bytes) : Prop := u16 d 0 ≤ 0x1FF ∧ 1 ≤ u16 d 2 ∧ u16 d 0 + u16 d 2 ≤ 0x200

theorem sourceRange_ok {d : Bytes} (h : SourceRange d) : sourceRange d = .ok () := by
  obtain ⟨hfirst, hcount, hend⟩ := h
  rw [sourceRange, inRange_bind _ (decide_eq_true hfirst), inRange, need, if_pos (decide_eq_true ⟨hcount, hend⟩)]

section
variable {r : Req} {u : State} (hr : SourceRange r.payload)
include hr

/-- ACTION 0 sets the routes of the range. -/
theorem eventRouteOp_routes (hact : u8 r.payload 4 = 0) (hvec : u8 r.payload 6 ≤ 63) :
    eventRouteOp.result r u =
      let w := word (u8 r.payload 6 + flag (bit (u8 r.payload 5) 0) 8 + flag (bit (u8 r.payload 5) 1) 9 + flag (bit (u8 r.payload 5) 2) 10)
      .ok ({ u with evt := { u.evt with
        routes := (List.range (u16 r.payload 2)).foldl (fun t i => Tab.put t (u16 r.payload 0 + i) w) u.evt.routes } }, .ok) := by
  simp only [Op.result, eventRouteOp]
  rw [Chk?.ok_bind _ (sourceRange_ok hr), inRange_bind _ (decide_eq_true ⟨by omega, .inl hact⟩), if_pos hact,
    inRange_bind _ (decide_eq_true hvec)]

/-- ACTION 1 and 2 change the subscription of a session of the management lane. -/
theorem eventRouteOp_subscribes (hact : u8 r.payload 4 = 1 ∨ u8 r.payload 4 = 2) (hml : (u.ring r.pair).ml = true) {f : Sub → Sub}
    (hf : f = fun x => { x with
      sources := if u8 r.payload 4 = 1 then x.sources ||| rangeBits (u16 r.payload 0) (u16 r.payload 2)
        else x.sources &&& ~~~rangeBits (u16 r.payload 0) (u16 r.payload 2) }) :
    eventRouteOp.result r u =
      .ok ({ u with evt := { u.evt with subs := Tab.upd u.evt.subs (r.session % 64) {} f } }, .ok) := by
  subst hf
  have hnot : u8 r.payload 4 ≠ 0 := by omega
  simp only [Op.result, eventRouteOp]
  rw [Chk?.ok_bind _ (sourceRange_ok hr), inRange_bind _ (decide_eq_true ⟨by omega, .inr hml⟩), if_neg hnot]

theorem eventMaskOp_result (hact : u8 r.payload 4 ≤ 1) :
    eventMaskOp.result r u = .ok ({ u with evt := { u.evt with
      mask := if u8 r.payload 4 = 1 then u.evt.mask ||| rangeBits (u16 r.payload 0) (u16 r.payload 2)
        else u.evt.mask &&& ~~~rangeBits (u16 r.payload 0) (u16 r.payload 2) } }, .ok) := by
  simp only [Op.result, eventMaskOp]
  rw [Chk?.ok_bind _ (sourceRange_ok hr), inRange_bind _ (decide_eq_true hact)]

end

section
variable {r : Req} {u : State}

/-! ## Check channels (R450-R452) -/

section
variable (hc : u8 r.payload 0 ≤ 3)
include hc

theorem chkStartOp_result (hsource : u8 r.payload 1 ≤ 3) (hpoly : u8 r.payload 2 ≤ 3) (hregion : u8 r.payload 3 ≤ 3)
    (hrange : u8 r.payload 3 ≠ 0 ∨ u.startOk (u8 r.payload 1) (u64 r.payload 8) = true ∧
      u.lengthOk (u8 r.payload 1) (u64 r.payload 8) (u64 r.payload 16) = true)
    (hst : (u.chan (u8 r.payload 0)).st ≠ .running) :
    chkStartOp.result r u =
      .ok ((u.updChan (u8 r.payload 0) fun x => { x with
          config := u8 r.payload 1 + 4 * u8 r.payload 2 + flag x.te5100 4 + 256 * u8 r.payload 3
          start := u64 r.payload 8, length := u64 r.payload 16 }).startChan (u8 r.payload 0) r.session, .ok) := by
  simp only [Op.result, chkStartOp]
  rw [inRange_bind _ (decide_eq_true hc), inRange_bind _ (decide_eq_true hsource), inRange_bind _ (decide_eq_true hpoly),
    inRange_bind _ (decide_eq_true hregion), inRange_bind _ (decide_eq_true (hrange.imp_right And.left)),
    inRange_bind _ (decide_eq_true (hrange.imp_right And.right)), need_bind _ (decide_eq_true hst)]

theorem chkExpectOp_result :
    chkExpectOp.result r u = .ok (u.commitExpected (u8 r.payload 0) (u64 r.payload 8), .ok) := by
  simp only [Op.result, chkExpectOp]
  rw [inRange_bind _ (decide_eq_true hc)]

theorem chkModeOp_result (hmode : u8 r.payload 1 ≤ 1) (hst : (u.chan (u8 r.payload 0)).st ≠ .running) :
    chkModeOp.result r u = .ok (u.updChan (u8 r.payload 0) fun x => { x with
      config := x.config % 16 + 16 * u8 r.payload 1 + 256 * x.region }, .ok) := by
  simp only [Op.result, chkModeOp]
  rw [inRange_bind _ (decide_eq_true hc), inRange_bind _ (decide_eq_true hmode), need_bind _ (decide_eq_true hst)]

end

/-! ## Registers (R113, R519) -/

theorem barRange_ok {off count : Nat} (halign : off % 4 = 0) (hlo : 1 ≤ count) (hhi : count ≤ 256)
    (hend : off + 4 * count ≤ 0x400000) :
    barRange off count = .ok () := by
  have hoff : off < 0x400000 := by omega
  rw [barRange, inRange_bind _ (decide_eq_true ⟨halign, hoff⟩), inRange, need, if_pos (decide_eq_true ⟨hlo, hhi, hend⟩)]

section
variable (halign : u32 r.payload 0 % 4 = 0) (hlo : 1 ≤ u32 r.payload 4) (hhi : u32 r.payload 4 ≤ 256)
  (hend : u32 r.payload 0 + 4 * u32 r.payload 4 ≤ 0x400000)
include halign hlo hhi hend

theorem regReadOp_result :
    regReadOp.result r u =
      .ok ((u.readWords (u32 r.payload 4) (u32 r.payload 0)).2,
        .done { payload := (u.readWords (u32 r.payload 4) (u32 r.payload 0)).1.flatMap fun w => leBytes 4 w.toNat }) := by
  simp only [Op.result, regReadOp]
  rw [Chk?.ok_bind _ (barRange_ok halign hlo hhi hend)]
  rfl

theorem regWriteOp_result (hblock : 0x20000 ≤ u32 r.payload 0) :
    regWriteOp.result r u =
      .ok (u.writeWords (u32 r.payload 0) ((records r.payload 8 4 (u32 r.payload 4)).map fun b => u32 b 0), .ok) := by
  simp only [Op.result, regWriteOp]
  rw [Chk?.ok_bind _ (barRange_ok halign hlo hhi hend), State.regWritable, need_bind _ (decide_eq_true hblock)]

end

/-! ## SERVICE and the reset of the device (R520) -/

theorem serviceEnterOp_result (hs : u.showRuns = false) (hf : u.gl.firstCut = none) :
    serviceEnterOp.result r u = .ok ({ u with gl := { u.gl with device := .service } }, .ok) := by
  have hidle : (!u.showRuns && u.gl.firstCut.isNone) = true := by rw [hs, hf]; rfl
  have henter : u.enterService = .ok { u with gl := { u.gl with device := .service } } := by
    rw [State.enterService, need_bind _ hidle]
  simp only [Op.result, serviceEnterOp]
  rw [Chk?.ok_bind _ henter]

theorem serviceEnterOp_refused (hs : u.showRuns = true) : serviceEnterOp.result r u = .error ⟨Status.wrongState, u.wrongDetail⟩ := by
  have hbusy : (!u.showRuns && u.gl.firstCut.isNone) = false := by rw [hs]; rfl
  simp only [Op.result, serviceEnterOp, State.enterService, need, hbusy, Bool.false_eq_true, if_false]
  rfl

theorem serviceExitOp_result (hb : u.boot.recovery = false) :
    serviceExitOp.result r u = .ok ({ u with gl := { u.gl with device := .operational } }, .ok) := by
  simp only [Op.result, serviceExitOp, State.exitService, hb, Bool.false_eq_true, if_false]

theorem deviceResetOp_result (ha : u.gl.show_ ≠ .armed) : deviceResetOp.result r u = .ok (u, .ok) := by
  simp only [Op.result, deviceResetOp]
  rw [State.mayReset, need_bind _ (decide_eq_true ha)]

theorem deviceResetOp_refused (ha : u.gl.show_ = .armed) : deviceResetOp.result r u = .error ⟨Status.showArmed, 0⟩ := by
  simp only [Op.result, deviceResetOp, State.mayReset, need, ha, ne_eq, not_true_eq_false, decide_false, Bool.false_eq_true, if_false]
  rfl

end

/-! ## The reset that a reply arms (R520) -/

theorem State.signal_boot (v : Nat) (s : State) : (s.signal v).boot = s.boot :=
  show (s.signal v).silent.boot = s.silent.boot by rw [State.signal_silent]

/-- Of the boot state a reply that leaves touches what `State.armReset` does. -/
theorem State.sendReply_boot (n : Nat) (x : Slot) (a : Ans) (rest : List Slot) (s : State) :
    (s.sendReply n x a rest).boot = (s.armReset x a).boot := by
  unfold State.sendReply
  dsimp only
  split
  · rfl
  · split
    · split <;> rfl
    · split
      · exact State.signal_boot _ _
      · rfl

/-- An answered command that stands alone on its pair is held while the reply ring is full. -/
theorem State.flush_held_boot {n : Nat} {s : State} {x : Slot} {a : Ans} (hs : (s.ring n).slots = [x]) (ha : x.ans = some a)
    (hfull : (s.ring n).full = true) (hw : s.canWrite (s.ring n) = true) : (s.flush n).boot = s.boot := by
  simp only [State.flush, hs, List.length_singleton, State.flushFuel, ha, hfull, hw, Bool.and_self, if_true]
  split <;> rfl

section
variable {n : Nat} {s : State} {x : Slot} (a : Ans) (hs : (s.ring n).slots = [x]) (hx : x.wait = .executing)
include hs hx

/-- The reset is armed when the reply of DEVICE_RESET leaves. -/
theorem State.answer_armsReset (hop : x.op = deviceResetOp.code) (ha : a.status = Status.ok) (hroom : (s.ring n).full = false) :
    (s.answer n a).boot.resetAt = some (s.now + msT 10) := by
  obtain ⟨ses, hses⟩ := s.record_eq x a
  have harms : ({ x with ans := some a, wait := .nothing } : Slot).op = 0x0F07 ∧ a.status = Status.ok := ⟨hop, ha⟩
  rw [State.answer_executing hs hx, hses,
    State.flush_answered (by rw [State.setRing_ring]) rfl (by rw [State.setRing_ring]; exact hroom), State.sendReply_boot,
    State.armReset, if_pos harms]
  rfl

theorem State.answer_boot_of_held (hfull : (s.ring n).full = true) (hw : s.canWrite (s.ring n) = true) :
    (s.answer n a).boot = s.boot := by
  obtain ⟨ses, hses⟩ := s.record_eq x a
  rw [State.answer_executing hs hx, hses,
    State.flush_held_boot (by rw [State.setRing_ring]) rfl (by rw [State.setRing_ring]; exact hfull) (by rw [State.setRing_ring]; exact hw)]
  rfl

end

/-- A ready command whose body refuses, with the detail that the state gives, changes nothing but the host interface. -/
theorem runs_of_refused {i : Req → Instr} {op : Op} (hi : ∀ r s, exec (i r) s = hostCommand op r s) {r : Req} {p : State → Prop}
    {b : State → Bad} (h : ∀ u, p u → op.result r u = .error (b u)) (s : State) : Runs i op r s p (fun u => u) fun u => (b u).ans :=
  fun hr hp => (hi r s).trans (hostCommand_refused op r s _ hr (h _ hp))

/-- Settles O33, command by command: what its body gives (`runs_of_result`) or refuses with (`runs_of_refusal`), and the reset that
the reply of DEVICE_RESET arms. -/
theorem diagnosticCommandsComplete : Obligations.DiagnosticCommandsComplete := by
  unfold Obligations.DiagnosticCommandsComplete
  refine fun r s => ⟨?routes, ?subscribe, ?unsubscribe, ?mask, ?unmask, ?start, ?expect, ?mode, ?read, ?write, ?enter, ?noEnter, ?exit,
    ?reset, ?noReset, fun n x a hs hx hop ha => ⟨State.answer_armsReset a hs hx hop ha, State.answer_boot_of_held a hs hx⟩⟩
  case routes =>
    exact runs_of_result (fun _ _ => rfl) (fun u ⟨hf, hc, he, hact, hvec⟩ => eventRouteOp_routes ⟨hf, hc, he⟩ hact hvec) s
  case subscribe =>
    exact runs_of_result (fun _ _ => rfl) (fun u ⟨hf, hc, he, hact, hml⟩ =>
      eventRouteOp_subscribes ⟨hf, hc, he⟩ (.inl hact) hml (by simp only [hact, if_true])) s
  case unsubscribe =>
    exact runs_of_result (fun _ _ => rfl) (fun u ⟨hf, hc, he, hact, hml⟩ =>
      eventRouteOp_subscribes ⟨hf, hc, he⟩ (.inr hact) hml (by simp only [hact, OfNat.ofNat_ne_one, if_false])) s
  case mask =>
    exact runs_of_result (fun _ _ => rfl) (fun u ⟨hf, hc, he, hact⟩ =>
      (eventMaskOp_result ⟨hf, hc, he⟩ hact.le).trans (by rw [if_pos hact]; rfl)) s
  case unmask =>
    exact runs_of_result (fun _ _ => rfl) (fun u ⟨hf, hc, he, hact⟩ =>
      (eventMaskOp_result ⟨hf, hc, he⟩ (by omega)).trans (by rw [if_neg (by omega)]; rfl)) s
  case start =>
    exact runs_of_result (fun _ _ => rfl) (fun u ⟨hc, hsource, hpoly, hregion, hrange, hst⟩ =>
      chkStartOp_result hc hsource hpoly hregion hrange hst) s
  case expect => exact runs_of_result (fun _ _ => rfl) (fun u hc => chkExpectOp_result hc) s
  case mode => exact runs_of_result (fun _ _ => rfl) (fun u ⟨hc, hmode, hst⟩ => chkModeOp_result hc hmode hst) s
  case read => exact runs_of_result (fun _ _ => rfl) (fun u ⟨halign, hlo, hhi, hend⟩ => regReadOp_result halign hlo hhi hend) s
  case write =>
    exact runs_of_result (fun _ _ => rfl) (fun u ⟨halign, hblock, hlo, hhi, hend⟩ => regWriteOp_result halign hlo hhi hend hblock) s
  case enter => exact runs_of_result (fun _ _ => rfl) (fun u ⟨hs, hf⟩ => serviceEnterOp_result hs hf) s
  case noEnter =>
    exact runs_of_refused (b := fun u => ⟨Status.wrongState, u.wrongDetail⟩) (fun _ _ => rfl) (fun u hs => serviceEnterOp_refused hs) s
  case exit => exact runs_of_result (fun _ _ => rfl) (fun u hb => serviceExitOp_result hb) s
  case reset => exact runs_of_result (fun _ _ => rfl) (fun u ha => deviceResetOp_result ha) s
  case noReset =>
    exact runs_of_refusal (b := ⟨Status.showArmed, 0⟩) (fun _ _ => rfl) (fun u ha => deviceResetOp_refused ha) s

end Sys2Proof.Machine
end

section
/-! SUPPORT. The bytes of the flash under a program operation, an erase and a free range (R455, R457), and its canonical form
from reset on. -/

namespace Sys2Proof.Machine

/-! ## Bytes put and programmed (R457) -/

theorem Memory.read_put_outside (l : Bytes) {b : Nat} : ∀ (m : Memory) (a : Nat), Memory.wf m = true → b < a ∨ a + l.length ≤ b →
    (m.put a l).read b = m.read b := by
  induction l with
  | nil => exact fun m a _ _ => rfl
  | cons v l ih =>
    intro m a hm hb
    rw [List.length_cons] at hb
    rw [Memory.put, ih _ _ (Memory.write_wf m a v hm) (by omega), Memory.read_write m a b v hm, if_neg (by omega)]

theorem Memory.read_put_inside (l : Bytes) {v : Byte} : ∀ (m : Memory) (a i : Nat), Memory.wf m = true → l[i]? = some v →
    (m.put a l).read (a + i) = v := by
  induction l with
  | nil => exact fun m a i _ h => nomatch h
  | cons x l ih =>
    intro m a i hm h
    have hw := Memory.write_wf m a x hm
    rw [Memory.put]
    cases i with
    | zero =>
      rw [Nat.add_zero a, Memory.read_put_outside l _ (a + 1) hw (.inl (Nat.lt_succ_self a)), Memory.read_write m a _ x hm, if_pos rfl]
      exact Option.some.inj h
    | succ i => rw [← ih _ (a + 1) i hw h, Nat.add_right_comm, Nat.add_assoc]

/-- A program operation puts the conjunction of the old bytes and the new. -/
theorem Memory.program_eq_put (l : Bytes) : ∀ (m : Memory) (a : Nat), Memory.wf m = true →
    m.program a l = m.put a (List.zipWith (· &&& ·) (m.range a l.length) l) := by
  induction l with
  | nil => exact fun m a _ => congrArg (Memory.put m a) List.zipWith_nil_right.symm
  | cons v l ih =>
    intro m a hm
    have hrest : (m.write a (m.read a &&& v)).range (a + 1) l.length = (List.range l.length).map fun i => m.read (a + (i + 1)) := by
      refine List.map_congr_left fun i _ => ?_
      rw [Memory.read_write m a _ _ hm, if_neg (by omega), Nat.add_assoc, Nat.add_comm 1]
    have hrange : m.range a (v :: l).length = m.read a :: (List.range l.length).map fun i => m.read (a + (i + 1)) := by
      rw [Memory.range, List.length_cons, List.range_succ_eq_map, List.map_cons, List.map_map]
      rfl
    rw [Memory.program, ih _ _ (Memory.write_wf m a _ hm), hrest, hrange, List.zipWith_cons_cons, Memory.put]

theorem Memory.length_range (m : Memory) (a n : Nat) : (m.range a n).length = n := by
  rw [Memory.range, List.length_map, List.length_range]

theorem Memory.getElem?_range (m : Memory) (a : Nat) {i n : Nat} (h : i < n) : (m.range a n)[i]? = some (m.read (a + i)) := by
  rw [Memory.range, List.getElem?_map, List.getElem?_range h, Option.map_some]

theorem Memory.read_program_outside {m : Memory} {a b : Nat} {l : Bytes} (hm : Memory.wf m = true) (hb : b < a ∨ a + l.length ≤ b) :
    (m.program a l).read b = m.read b := by
  have hlen : (List.zipWith (· &&& ·) (m.range a l.length) l).length = l.length := by
    rw [List.length_zipWith, Memory.length_range, Nat.min_self]
  rw [Memory.program_eq_put l m a hm, Memory.read_put_outside _ m a hm (by rwa [hlen])]

theorem Memory.read_program_inside {m : Memory} {a i : Nat} {l : Bytes} {v : Byte} (hm : Memory.wf m = true) (h : l[i]? = some v) :
    (m.program a l).read (a + i) = m.read (a + i) &&& v := by
  obtain ⟨hi, -⟩ := List.getElem?_eq_some_iff.mp h
  rw [Memory.program_eq_put l m a hm]
  refine Memory.read_put_inside _ m a i hm ?_
  rw [List.getElem?_zipWith, Memory.getElem?_range m a hi, h]

/-! ## Erased bytes -/

/-- A byte that is erased is not listed, and so reads 0xFF. -/
theorem Memory.read_erase (m : Memory) (a len b : Nat) : (m.erase a len).read b = if a ≤ b ∧ b < a + len then 0xFF else m.read b := by
  unfold Memory.erase
  induction m with
  | nil => exact (ite_self _).symm
  | cons e m ih =>
    obtain ⟨k, v⟩ := e
    rw [List.filter_cons, Memory.read]
    split
    case isTrue hkept =>
      have hk : k < a ∨ a + len ≤ k := by simpa using hkept
      rw [Memory.read, ih]
      split
      case isTrue hb => rw [if_neg (by omega)]
      case isFalse => rfl
    case isFalse hdropped =>
      have hk : a ≤ k ∧ k < a + len := by simpa using hdropped
      rw [ih]
      split
      case isTrue => rfl
      case isFalse hb => rw [if_neg (by omega)]

/-- Settles O32: a program operation is a `put` (`Memory.program_eq_put`), which goes byte by byte, and an erase drops its cells. -/
theorem flashBytesOutsideTheRangeStay : Obligations.FlashBytesOutsideTheRangeStay := by
  unfold Obligations.FlashBytesOutsideTheRangeStay
  refine ⟨fun m a b l hm => ⟨fun hb => ?outside, fun i v h => ?inside⟩, Memory.read_erase⟩
  case outside => exact ⟨Memory.read_program_outside hm hb, Memory.read_put_outside l m a hm hb⟩
  case inside => exact ⟨Memory.read_program_inside hm h, Memory.read_put_inside l m a i hm h⟩

/-! ## The canonical form (R455) -/

/-- Settles O4: the flash of the reset state is erased, and no byte of it is listed. -/
theorem resetFlashCanonical : Obligations.ResetFlashCanonical := by
  unfold Obligations.ResetFlashCanonical
  rfl

/-- Settles O5: the canonical form is among what every step keeps (`step_kept`). -/
theorem stepKeepsFlashCanonical : Obligations.StepKeepsFlashCanonical := by
  unfold Obligations.StepKeepsFlashCanonical
  intro s t hs h
  obtain ⟨-, -, hflash⟩ := step_kept s t h
  exact hflash hs

end Sys2Proof.Machine
end

section
/-! SUPPORT. The commands of the update slot, the trial, the owner lock and the flash (R457, R465-R469, R472, R475, R476): what
the body of each gives where its checks pass. -/

namespace Sys2Proof.Machine

@[simp] theorem State.entered_boot (op : Op) (r : Req) (s : State) : (s.entered op r).boot = s.boot := by
  obtain ⟨h, l, n, e⟩ := s.entered_eq op r
  rw [e]

@[simp] theorem State.entered_gl (op : Op) (r : Req) (s : State) : (s.entered op r).gl = s.gl := by
  obtain ⟨h, l, n, e⟩ := s.entered_eq op r
  rw [e]

section
variable {r : Req} {u : State}

/-! ## The staging slot and its holder (R465-R468) -/

theorem State.holdsUpdate_holder (hh : u.upd.holder = some r.session) : u.holdsUpdate r = .ok () := by
  unfold State.holdsUpdate
  rw [hh]
  exact if_pos rfl

theorem updateOpenOp_result (hc : u.updateChecks.passes = true) (ht : u.boot.trialSince = none) (hh : u.upd.holder = none)
    (hlen : bodyLenOk (u32 r.payload 0) = true) :
    updateOpenOp.result r u = .ok ({ u.freeUpdate with upd := { u.freeUpdate.upd with
      holder := some r.session, source := (u.ring r.pair).source.getD .pcie, bodyLen := u32 r.payload 0, last := u.now } }, .ok) := by
  simp only [Op.result, updateOpenOp, hh]
  rw [Chk?.ok_bind _ (Chk?.eq_ok hc), need_bind _ (by rw [ht]; rfl), Chk?.ok_bind _ rfl, need_bind _ hlen]
  rfl

section
variable (hh : u.upd.holder = some r.session)
include hh

/-- A block after the first needs the header of the first. -/
theorem updateBlockOp_result_next {h : Bytes} (hd : u.upd.header = some h) (hpos : 0 < u32 r.payload 0) (halign : u32 r.payload 0 % 4096 = 0)
    (hin : u32 r.payload 0 < u.upd.bodyLen + 256)
    (hlen : (r.payload.drop 8).length = min 4096 (u.upd.bodyLen + 256 - u32 r.payload 0)) :
    updateBlockOp.result r u =
      let upd : Update := { u.upd with blocks := Tab.put u.upd.blocks (u32 r.payload 0 / 4096) (r.payload.drop 8) }
      .ok ({ u with upd }, .ok (leBytes 4 upd.missing)) := by
  have hoff : u32 r.payload 0 ≠ 0 := Nat.ne_of_gt hpos
  simp only [Op.result, updateBlockOp]
  rw [Chk?.ok_bind _ (State.holdsUpdate_holder hh), inRange_bind _ (decide_eq_true ⟨halign, hin⟩), inRange_bind _ (decide_eq_true hlen),
    need_bind _ (decide_eq_true (.inr (by rw [hd]; rfl)))]
  simp only [if_neg hoff]

/-- The first block brings the header that is already staged, or one that passes its checks. -/
theorem updateBlockOp_result_first (hoff : u32 r.payload 0 = 0) (hlen : (r.payload.drop 8).length = min 4096 (u.upd.bodyLen + 256))
    (hd : u.upd.header = some ((r.payload.drop 8).take 256) ∨
      u.upd.header = none ∧ u.checkHeader (some u.upd.bodyLen) ((r.payload.drop 8).take 256) = Status.ok) :
    updateBlockOp.result r u =
      let upd : Update := { u.upd with header := some ((r.payload.drop 8).take 256), blocks := Tab.put u.upd.blocks 0 (r.payload.drop 8) }
      .ok ({ u with upd }, .ok (leBytes 4 upd.missing)) := by
  simp only [Op.result, updateBlockOp]
  rw [Chk?.ok_bind _ (State.holdsUpdate_holder hh), inRange_bind _ (decide_eq_true (by omega)),
    inRange_bind _ (decide_eq_true (by rw [hlen, hoff, Nat.sub_zero])), need_bind _ (decide_eq_true (.inl hoff))]
  rcases hd with hd | ⟨hd, hok⟩
  · simp only [hoff, if_true, Nat.zero_div, hd]
    rw [need_bind _ (decide_eq_true trivial)]
  · simp only [hoff, if_true, Nat.zero_div, hd, hok]
    rw [need_bind _ (decide_eq_true trivial)]

theorem updateCloseOp_result (hc : u.updateChecks.passes = true) (hm : u.upd.missing = 0) (hn : u.upd.closing = none) :
    updateCloseOp.result r u =
      .ok ({ (u.startJob 0x0C03 r.session r.tag).2 with upd := { u.upd with
          closing := some ((u.startJob 0x0C03 r.session r.tag).1, u.upd.blocks.flatMap Prod.snd), verified := false } },
        .done { status := Status.acceptedDeferred, payload := leBytes 4 u.jobId }) := by
  simp only [Op.result, updateCloseOp]
  rw [Chk?.ok_bind _ (Chk?.eq_ok hc), Chk?.ok_bind _ (State.holdsUpdate_holder hh), need_bind _ (decide_eq_true hm),
    need_bind _ (by rw [hn]; rfl)]
  rfl

theorem updateAbortOp_result : updateAbortOp.result r u = .ok (u.freeUpdate, .ok) := by
  simp only [Op.result, updateAbortOp]
  rw [Chk?.ok_bind _ (State.holdsUpdate_holder hh)]

/-! ## Activation and trial (R469, R472) -/

section
variable (hc : u.updateChecks.passes = true) (hv : u.upd.verified = true)
include hc hv

/-- The slot's schedule format fits the running one, or no show runs. -/
theorem updateActivateOp_result (hr : u.boot.recovery = false)
    (hf : hdFormat (u.slotHeader u.targetSlot) = hdFormat (u.slotHeader u.boot.running) ∨ u.gl.show_ ≠ .running ∧ u.gl.show_ ≠ .safeHold) :
    updateActivateOp.result r u = .ok (u.activateSlot u.targetSlot none, .wait .activation) := by
  have hfits : (decide (hdFormat (u.slotHeader u.targetSlot) = hdFormat (u.slotHeader u.boot.running)) ||
      !(decide (u.gl.show_ = .running) || decide (u.gl.show_ = .safeHold))) = true := by
    rcases hf with hsame | ⟨hrun, hhold⟩
    · simp [hsame]
    · simp [hrun, hhold]
  simp only [Op.result, updateActivateOp]
  rw [Chk?.ok_bind _ (Chk?.eq_ok hc), Chk?.ok_bind _ (State.holdsUpdate_holder hh), need_bind _ hv, if_neg (Bool.eq_false_iff.mp hr),
    need_bind _ hfits]

/-- In recovery the boot record names the new slot at once, and the device resets into it. -/
theorem updateActivateOp_result_recovery (hr : u.boot.recovery = true) :
    updateActivateOp.result r u =
      .ok ({ u with
          nv := u.nv.putBoot { u.bootRecord with active := u.targetSlot, previous := !u.targetSlot, trial := false }
          boot := { u.boot with resetAt := some u.now } }.freeUpdate,
        .ok (leBytes 4 (hdVersion (u.slotHeader u.targetSlot)))) := by
  simp only [Op.result, updateActivateOp]
  rw [Chk?.ok_bind _ (Chk?.eq_ok hc), Chk?.ok_bind _ (State.holdsUpdate_holder hh), need_bind _ hv, if_pos hr]
  simp only [State.slotHeader, State.freeUpdate, NonVolatile.putBoot_flash]

end
end

theorem healthConfirmOp_result (ht : u.boot.trialSince ≠ none) :
    healthConfirmOp.result r u =
      .ok (({ u with
        boot := { u.boot with trialSince := none }
        nv := { u.nv.putBoot { u.bootRecord with trial := false } with
          minVersion := max u.nv.minVersion (hdSecurity (u.slotHeader u.boot.running)) } } : State).raise Ev.updateConfirmed 0 0, .ok) := by
  simp only [Op.result, healthConfirmOp]
  rw [need_bind _ (Option.isSome_iff_ne_none.mpr ht)]

theorem healthConfirmOp_refused (ht : u.boot.trialSince = none) :
    healthConfirmOp.result r u = .error ⟨Status.wrongState, u.wrongDetail⟩ := by
  simp only [Op.result, healthConfirmOp, ht]
  rfl

/-! ## The owner lock (R475) -/

theorem ownerLockOp_result_lock (hs : u8 r.payload 0 = 1) (hn : u.nv.ownerHash = none) :
    ownerLockOp.result r u = .ok ({ u with nv := { u.nv with ownerHash := some (sha256 (slice r.payload 4 8)) } }, .ok) := by
  simp only [Op.result, ownerLockOp]
  rw [inRange_bind _ (decide_eq_true hs.le), if_pos hs, need_bind _ (by rw [hn]; rfl)]

section
variable {h : Bytes} (hs : u8 r.payload 0 = 0) (hl : u.lock.lockout = none) (hh : u.nv.ownerHash = some h)
include hs hl hh

theorem ownerLockOp_result_clear (hcode : h = sha256 (slice r.payload 4 8)) :
    ownerLockOp.result r u = .ok ({ u with nv := { u.nv with ownerHash := none }, lock := {} }, .ok) := by
  simp only [Op.result, ownerLockOp]
  rw [inRange_bind _ (decide_eq_true (by omega)), if_neg (by omega), need_bind _ (by rw [hl]; rfl), need_bind _ (by rw [hh]; rfl),
    if_pos (by rw [hh, hcode])]

/-- The eighth wrong code in a row locks the clear out. -/
theorem ownerLockOp_result_wrong (hcode : h ≠ sha256 (slice r.payload 4 8)) :
    ownerLockOp.result r u =
      .ok ({ u with lock := { wrong := u.lock.wrong + 1, lockout := if u.lock.wrong + 1 ≥ 8 then some u.now else none } },
        .done { status := Status.ownerLocked }) := by
  simp only [Op.result, ownerLockOp]
  rw [inRange_bind _ (decide_eq_true (by omega)), if_neg (by omega), need_bind _ (by rw [hl]; rfl), need_bind _ (by rw [hh]; rfl),
    if_neg (by rw [hh]; exact fun e => hcode (Option.some.inj e))]

end

/-! ## The flash (R457, R476) -/

theorem flashWriteOp_result (hw : (u.flashWritable (u64 r.payload 0) (r.payload.drop 16).length).passes = true) :
    flashWriteOp.result r u =
      .ok (u.flashOp (u64 r.payload 0) (r.payload.drop 16).length (fun m => m.program (u64 r.payload 0) (r.payload.drop 16)) fun m =>
        { status := if m.range (u64 r.payload 0) (r.payload.drop 16).length = r.payload.drop 16 then Status.ok else Status.crcBad }) := by
  simp only [Op.result, flashWriteOp]
  rw [Chk?.ok_bind _ (Chk?.eq_ok hw)]

theorem flashEraseOp_result (ha : u64 r.payload 0 % 65536 = 0) (hl : u32 r.payload 8 % 65536 = 0)
    (hw : (u.flashWritable (u64 r.payload 0) (u32 r.payload 8)).passes = true) :
    flashEraseOp.result r u =
      .ok (u.flashOp (u64 r.payload 0) (u32 r.payload 8) (fun m => m.erase (u64 r.payload 0) (u32 r.payload 8)) fun _ => {}) := by
  simp only [Op.result, flashEraseOp]
  rw [inRange_bind _ (decide_eq_true ha), inRange_bind _ (decide_eq_true hl), Chk?.ok_bind _ (Chk?.eq_ok hw)]

/-- An operation that completes answers with what the flash holds then; one that does not answers FLASH_TIMEOUT. -/
theorem State.flashOp_eq (a len : Nat) (f : Memory → Memory) (status : Memory → Nat) (s : State) :
    s.flashOp a len f (fun m => { status := status m }) =
      let m := if Config.flashDone s.fresh then f s.nv.flash
        else s.nv.flash.put a ((List.range len).map fun i => Config.flashByte s.fresh (a + i))
      ({ s with fresh := s.fresh + 1, nv := { s.nv with flash := m } },
        .done { status := if Config.flashDone s.fresh then status (f s.nv.flash) else Status.flashTimeout }) := by
  unfold State.flashOp
  dsimp only
  cases Config.flashDone s.fresh <;> rfl

theorem calsetSaveOp_result (ha : u.gl.show_ ≠ .armed) :
    calsetSaveOp.result r u =
      let recs := u.col.sets.map fun e => ({ kind := .calSet, num := e.1, data := e.2 } : Rec)
      let c := saveCopy recs u.nv.calA u.nv.calB
      let c := if Config.flashDone u.fresh then c else spoilCopy u.nv.calA u.nv.calB c.1
      .ok ({ u with fresh := u.fresh + 1, nv := { u.nv with calA := c.1, calB := c.2 } },
        .done { status := if Config.flashDone u.fresh then Status.ok else Status.flashTimeout }) := by
  simp only [Op.result, calsetSaveOp]
  rw [need_bind _ (decide_eq_true ha)]

end

/-- Settles O30, command by command. The model's choice is that UPDATE_ACTIVATE in recovery writes the boot record and resets at
once (log entry 173). -/
theorem updateCommandsComplete : Obligations.UpdateCommandsComplete := by
  unfold Obligations.UpdateCommandsComplete
  refine fun r s => ⟨?open_, fun h => ?block, ?first, ?close, ?abort, fun hr hc hh hv hrec hf => ?activate, ?recover, ?confirm, ?lock,
    ?clear, fun h => ?wrong⟩
  case open_ => exact runs_of_result (fun _ _ => rfl) (fun u ⟨hc, ht, hh, hlen⟩ => updateOpenOp_result hc ht hh hlen) s
  case block =>
    exact runs_of_result (fun _ _ => rfl) (fun u ⟨hh, hd, hpos, halign, hin, hlen⟩ =>
      updateBlockOp_result_next hh hd hpos halign hin hlen) s
  case first => exact runs_of_result (fun _ _ => rfl) (fun u ⟨hh, hoff, hlen, hd⟩ => updateBlockOp_result_first hh hoff hlen hd) s
  case close => exact runs_of_result (fun _ _ => rfl) (fun u ⟨hc, hh, hm, hn⟩ => updateCloseOp_result hh hc hm hn) s
  case abort => exact runs_of_result (fun _ _ => rfl) (fun u hh => updateAbortOp_result hh) s
  case activate =>
    exact hostCommand_waits updateActivateOp r s _ _ hr
      (updateActivateOp_result hh hc hv (by rwa [State.entered_boot]) (by rwa [State.entered_boot, State.entered_gl]))
  case recover =>
    exact runs_of_result (fun _ _ => rfl) (fun u ⟨hc, hh, hv, hrec⟩ => updateActivateOp_result_recovery hh hc hv hrec) s
  case confirm => exact runs_of_result (fun _ _ => rfl) (fun u ht => healthConfirmOp_result ht) s
  case lock => exact runs_of_result (fun _ _ => rfl) (fun u ⟨hs, hn⟩ => ownerLockOp_result_lock hs hn) s
  case clear => exact runs_of_result (fun _ _ => rfl) (fun u ⟨hs, hl, hh⟩ => ownerLockOp_result_clear hs hl hh rfl) s
  case wrong => exact runs_of_result (fun _ _ => rfl) (fun u ⟨hs, hl, hh, hcode⟩ => ownerLockOp_result_wrong hs hl hh hcode) s

/-- Settles O31, command by command. The model's choices are that whether the flash completes in time is a free value (log entry 12),
and that an operation which does not leaves its range free, or its saved copy spoilt (170). -/
theorem flashCommandsComplete : Obligations.FlashCommandsComplete := by
  unfold Obligations.FlashCommandsComplete
  refine fun r s => ⟨?write, ?erase, ?save⟩
  case write =>
    exact runs_of_result (fun _ _ => rfl) (fun u hw => (flashWriteOp_result hw).trans (congrArg _ (State.flashOp_eq _ _ _ _ u))) s
  case erase =>
    exact runs_of_result (fun _ _ => rfl) (fun u ⟨ha, hl, hw⟩ =>
      (flashEraseOp_result ha hl hw).trans (congrArg _ (State.flashOp_eq _ _ _ (fun _ => Status.ok) u))) s
  case save => exact runs_of_result (fun _ _ => rfl) (fun u ha => calsetSaveOp_result ha) s

end Sys2Proof.Machine
end

section
/-! SUPPORT. The trial of a new image (R472, R473): its beginning, the ends that it has, and what is refused in it and outside it. -/

namespace Sys2Proof.Machine

/-! ## What leaves a trial alone -/

/-- Apart from the host interface, an equal state is in the same trial. -/
theorem State.trialSince_of_core {s t : State} (h : t.core = s.core) : t.boot.trialSince = s.boot.trialSince :=
  show t.core.boot.trialSince = s.core.boot.trialSince by rw [h]

theorem State.beginPause_boot (s : State) : s.beginPause.boot = s.boot := by
  unfold State.beginPause
  split <;> rfl

theorem State.activateSlot_boot (slot : Bool) (cause : Option FallbackCause) (s : State) : (s.activateSlot slot cause).boot = s.boot := by
  unfold State.activateSlot
  dsimp only
  split
  · rfl
  · exact State.beginPause_boot _

/-! ## The beginning and the ends of a trial -/

theorem State.newImage_begins_trial (slot : Bool) (s : State) : (s.newImage slot none).boot.trialSince = some s.now := by
  unfold State.newImage
  dsimp only
  rw [State.trialSince_of_core (State.completeAny_core _ _ _), State.raise_boot]

/-- A fallback leaves no trial, whether one was running or not. -/
theorem State.fallBack_ends_trial (cause : FallbackCause) (s : State) : (s.fallBack cause).boot.trialSince = none := by
  unfold State.fallBack
  split
  next h => exact Option.isNone_iff_eq_none.mp h
  next => rw [State.activateSlot_boot]

theorem execTrialTimeout_ends_trial {s t : State} (h : execTrialTimeout s = .next t) : t.boot.trialSince = none := by
  unfold execTrialTimeout at h
  split at h
  next hs => cases h; exact hs
  next => cases h; exact State.fallBack_ends_trial _ _

/-! ## SHOW_ARM in a trial -/

/-- SHOW_ARM is refused with WRONG_STATE alone. -/
theorem moveAllowed_showArm_cases (s : State) :
    moveAllowed 0x0207 s = .ok () ∨ moveAllowed 0x0207 s = .error ⟨Status.wrongState, s.wrongDetail⟩ := by
  unfold moveAllowed need
  rw [if_neg (not_and_of_not_left _ (by decide))]
  split
  · exact .inl rfl
  · exact .inr rfl

theorem timedState_cases (op : Nat) (s : State) :
    timedState op s = .ok () ∨ timedState op s = .error ⟨Status.wrongState, s.wrongDetail⟩ := by
  unfold timedState
  dsimp only
  split
  · exact .inr rfl
  · split
    case h_2 =>
      split
      · exact .inl rfl
      · exact .inr rfl
    case h_1 => exact .inr rfl
    all_goals exact .inl rfl

/-- The state of the show may refuse SHOW_ARM before the trial does, with the same status and DETAIL. -/
theorem showArmOp_refused_in_trial {r : Req} {s : State} (ht : s.boot.trialSince ≠ none) (hs : (stateCheck showArmOp r s).passes = true)
    (hl : showArmOp.layout r.payload = none) : showArmOp.execute r s = .error ⟨Status.wrongState, s.wrongDetail⟩ := by
  have hnone : s.boot.trialSince.isNone = false := Option.isNone_eq_false_iff.mpr (Option.isSome_iff_ne_none.mpr ht)
  rw [Op.execute, Chk?.eq_ok hs, hl]
  simp only [showArmOp, moveOp]
  rcases timedState_cases 0x0207 s with h | h
  · rcases moveAllowed_showArm_cases s with h' | h'
    · rw [h, h', hnone]
      rfl
    · rw [h, h']
      rfl
  · rw [h]

/-- Settles O58: the beginning of a trial, its end by HEALTH_CONFIRM and by its time-out, and the two refusals. -/
theorem trialsEndByConfirmation : Obligations.TrialsEndByConfirmation := by
  unfold Obligations.TrialsEndByConfirmation
  refine ⟨State.newImage_begins_trial, fun r s hr ht => ?confirmed, fun r s hr ht => ?refused,
    fun r s ht hs hl => ⟨_, showArmOp_refused_in_trial ht hs hl⟩, fun s t a _ h => execTrialTimeout_ends_trial h⟩
  case confirmed =>
    refine ⟨_, hostCommand_done healthConfirmOp r s _ _ hr (healthConfirmOp_result (by rwa [State.entered_boot])), ?_⟩
    rw [State.trialSince_of_core (State.answer_core _ _ _), State.raise_boot]
  case refused =>
    exact ⟨_, hostCommand_refused healthConfirmOp r s _ hr (healthConfirmOp_refused (by rwa [State.entered_boot])), rfl⟩

end Sys2Proof.Machine
end

section
/-! SUPPORT. What a reset by PORST_N or its detector keeps (R102, R461, R468, R548): the fuses, the backup island and what is not
volatile, but for the log and the slot that an UPDATE_CLOSE was writing. -/

namespace Sys2Proof.Machine

/-! ## A slot whose writing is cut short (R468) -/

@[simp] theorem NonVolatile.unlogged_flash (n : NonVolatile) : n.unlogged.flash = n.flash := rfl

@[simp] theorem NonVolatile.unlogged_newestBoot (n : NonVolatile) : n.unlogged.newestBoot = n.newestBoot := rfl

theorem State.targetSlot_of_unlogged {s t : State} (h : t.nv.unlogged = s.nv.unlogged) : t.targetSlot = s.targetSlot := by
  have hnewest : t.nv.newestBoot = s.nv.newestBoot := by rw [← t.nv.unlogged_newestBoot, h, NonVolatile.unlogged_newestBoot]
  rw [State.targetSlot, State.targetSlot, State.bootRecord, State.bootRecord, hnewest]

theorem State.spoilSlot_eq (short : Bool) (s : State) :
    ∃ flash, s.spoilSlot short = { s with fresh := s.fresh + 1, nv := { s.nv with flash } } := ⟨_, rfl⟩

section
variable {s : State} {a : Nat}

theorem State.spoilSlot_read_outside (hm : Memory.wf s.nv.flash = true)
    (ha : a < slotBase s.targetSlot ∨ slotBase s.targetSlot + 0x1000000 ≤ a) :
    (s.spoilSlot true).nv.flash.read a = s.nv.flash.read a := by
  unfold State.spoilSlot
  dsimp only
  rw [if_pos rfl, Memory.read_erase, if_neg (by omega), Memory.read_put_outside _ _ _ hm (by rwa [List.length_map, List.length_range])]

theorem State.spoilSlot_read_header (hlo : slotBase s.targetSlot ≤ a) (hhi : a < slotBase s.targetSlot + 256) :
    (s.spoilSlot true).nv.flash.read a = 0xFF := by
  unfold State.spoilSlot
  dsimp only
  rw [if_pos rfl, Memory.read_erase, if_pos ⟨hlo, hhi⟩]

end

/-- Of what a reset keeps, the slot being written is all that a reset changes. -/
theorem State.cutClose_keeps (s : State) :
    s.cutClose.fuses = s.fuses ∧ s.cutClose.bak = s.bak ∧ { s.cutClose.nv with flash := s.nv.flash } = s.nv := by
  unfold State.cutClose
  split
  · obtain ⟨flash, h⟩ := s.spoilSlot_eq true
    rw [h]
    exact ⟨rfl, rfl, rfl⟩
  · exact ⟨rfl, rfl, rfl⟩

section
variable {s : State} {j : Job} {image : Bytes} (hc : s.upd.closing = some (j, image))
include hc

theorem State.cutClose_writing (hd : digestOk image = true) : s.cutClose = s.spoilSlot true := by
  unfold State.cutClose
  rw [hc]
  exact if_pos hd

/-- An image without the digest of its header is not written. -/
theorem State.cutClose_bad_digest (hd : digestOk image = false) : s.cutClose = s := by
  unfold State.cutClose
  rw [hc]
  exact if_neg (Bool.eq_false_iff.mp hd)

end

/-! ## The reset (R461, R548) -/

theorem NonVolatile.relogged {m n : NonVolatile} (h : m.unlogged = n.unlogged) :
    { m with seq := n.seq, log := n.log, logNext := n.logNext } = n :=
  congrArg (fun k : NonVolatile => { k with seq := n.seq, log := n.log, logNext := n.logNext }) h

theorem RingPair.atReset_slots (n : Nat) : (RingPair.atReset n).slots = [] := by
  unfold RingPair.atReset
  split <;> rfl

/-- Either cause resets the device; they differ in what the boot knows of the main supply. -/
theorem exec_reset_cases {i : Instr} (hi : i = .porstNAssert ∨ i = .resetDetectorTrip) {s t : State} (h : exec i s = .next t) :
    ∃ boot, t = { s.selfReset false with boot } := by
  rcases hi with rfl | rfl
  · replace h : execPorstNAssert s = .next t := h
    unfold execPorstNAssert at h
    generalize s.selfReset false = u at h ⊢
    split at h <;> cases h <;> exact ⟨_, rfl⟩
  · replace h : execResetDetectorTrip s = .next t := h
    unfold execResetDetectorTrip at h
    generalize s.selfReset false = u at h ⊢
    cases h
    exact ⟨_, rfl⟩

/-- Settles O40: a reset restarts from a state in which the sessions have ended (`State.selfReset_cases`) and the writing of an
image is cut short. The model's choices are the erased header of a slot that was being written (log entry 170) and the records
of the ends of sessions at a reset by PORST_N (60). -/
theorem resetKeepsWhatPowerOffKeeps : Obligations.ResetKeepsWhatPowerOffKeeps := by
  unfold Obligations.ResetKeepsWhatPowerOffKeeps
  intro i s t hi h
  obtain ⟨boot, rfl⟩ := exec_reset_cases hi h
  obtain ⟨v, hv, hreset⟩ := s.selfReset_cases false
  simp only [State.remains, Prod.mk.injEq] at hv
  obtain ⟨hfuses, hbak, hnv, hclosing, -, -⟩ := hv
  obtain ⟨hcfuses, hcbak, hcnv⟩ := v.cutClose_keeps
  have hflash : v.nv.flash = s.nv.flash := by rw [← v.nv.unlogged_flash, hnv, NonVolatile.unlogged_flash]
  rw [hreset]
  refine ⟨hcfuses.trans hfuses, hcbak.trans hbak, ?kept, fun hc => ?idle, fun j image hc hd => ?bad, fun j image a hc hd hm => ?writing,
    rfl, rfl, rfl, rfl, rfl, rfl, rfl, RingPair.atReset_slots⟩
  case kept =>
    calc { v.cutClose.nv with seq := s.nv.seq, log := s.nv.log, logNext := s.nv.logNext, flash := s.nv.flash }
      _ = { ({ v.cutClose.nv with flash := v.nv.flash } : NonVolatile) with
            seq := s.nv.seq, log := s.nv.log, logNext := s.nv.logNext } := by rw [hflash]
      _ = { v.nv with seq := s.nv.seq, log := s.nv.log, logNext := s.nv.logNext } := by rw [hcnv]
      _ = s.nv := NonVolatile.relogged hnv
  case idle =>
    show v.cutClose.nv.flash = s.nv.flash
    rw [v.cutClose_idle (hclosing.trans hc), hflash]
  case bad =>
    show v.cutClose.nv.flash = s.nv.flash
    rw [State.cutClose_bad_digest (hclosing.trans hc) hd, hflash]
  case writing =>
    show (_ → v.cutClose.nv.flash.read a = _) ∧ (_ → _ → v.cutClose.nv.flash.read a = _)
    rw [State.cutClose_writing (hclosing.trans hc) hd, ← State.targetSlot_of_unlogged hnv, ← hflash]
    exact ⟨State.spoilSlot_read_outside (hflash ▸ hm), State.spoilSlot_read_header⟩

end Sys2Proof.Machine
end

section
/-! SUPPORT. No command stops the machine (R6, R11): every executor answers a next state. -/

namespace Sys2Proof.Machine

/-- The outcome is a next state: the command neither faults nor is refused by the model. -/
def GoesOn (o : Outcome) : Prop := ∃ t, o = .next t

theorem GoesOn.next (t : State) : GoesOn (.next t) := ⟨t, rfl⟩

theorem GoesOn.ite {c : Prop} [Decidable c] {a b : Outcome} (ha : GoesOn a) (hb : GoesOn b) : GoesOn (if c then a else b) := by
  split
  · exact ha
  · exact hb

/-- A host command answers, waits, or is not taken; each is a next state (R103). -/
theorem hostCommand_goesOn (op : Op) (r : Req) (s : State) : GoesOn (hostCommand op r s) :=
  .ite (.next _) (.ite (.next _) (.next _))

/-! ## Time (R266-R310) -/

theorem execLtcCodeword_goesOn (c : LtcCode) (s : State) : GoesOn (execLtcCodeword c s) := by
  unfold execLtcCodeword
  split
  · exact .next _
  · exact .ite (.next _) (.next _)

theorem execFsyncEdge_goesOn (rising : Bool) (s : State) : GoesOn (execFsyncEdge rising s) := by
  unfold execFsyncEdge
  split
  · exact .next _
  · exact .ite (.next _) (.ite (.next _) (.next _))

theorem execAutoSwitch_goesOn (candidate : Nat) (s : State) : GoesOn (execAutoSwitch candidate s) := by
  refine .ite (.next _) (.ite (.next _) ?_)
  split <;> exact .next _

theorem execSourceReversion_goesOn (s : State) : GoesOn (execSourceReversion s) := by
  refine .ite (.next _) ?_
  split <;> exact .next _

theorem execTtiEdge_goesOn (input : Nat) (rising : Bool) (s : State) : GoesOn (execTtiEdge input rising s) := by
  refine .ite (.next _) ?_
  split
  · exact .next _
  · exact .ite (.next _) (.ite (.next _) (.next _))

theorem execTtuPulse_goesOn (unit : Nat) (s : State) : GoesOn (execTtuPulse unit s) := by
  refine .ite (.next _) ?_
  split
  · exact .next _
  · exact .ite (.next _) (.next _)

theorem execLatencyStartTimeout_goesOn (s : State) : GoesOn (execLatencyStartTimeout s) := by
  unfold execLatencyStartTimeout
  split
  · exact .next _
  · exact .ite (.next _) (.next _)

theorem execLatencyCaptureTimeout_goesOn (s : State) : GoesOn (execLatencyCaptureTimeout s) := by
  unfold execLatencyCaptureTimeout
  dsimp only
  split <;> exact .next _

/-! ## Network outputs and inputs (R311-R339) -/

theorem execArpRefresh_goesOn (lane ip : Nat) (answered : Bool) (s : State) : GoesOn (execArpRefresh lane ip answered s) := by
  unfold execArpRefresh
  split <;> exact .next _

theorem execSacnSyncTimeout_goesOn (univ : Nat) (cid : Bytes) (s : State) : GoesOn (execSacnSyncTimeout univ cid s) := by
  unfold execSacnSyncTimeout
  dsimp only
  split <;> exact .next _

theorem execSacnSourceTimeout_goesOn (univ : Nat) (cid : Bytes) (s : State) : GoesOn (execSacnSourceTimeout univ cid s) := by
  unfold execSacnSourceTimeout
  dsimp only
  split <;> exact .next _

theorem execFifoWriteWaitExpire_goesOn (lane : Nat) (w : Reg) (s : State) : GoesOn (execFifoWriteWaitExpire lane w s) := by
  refine .ite (.next _) ?_
  dsimp only
  split
  · exact .ite (.next _) (.next _)
  · exact .next _

theorem execLaunchInstant_goesOn (flow : Nat) (s : State) : GoesOn (execLaunchInstant flow s) := by
  unfold execLaunchInstant
  split
  · exact .next _
  · refine .ite (.next _) ?_
    dsimp only
    split <;> exact .next _

/-! ## Calibration and sensors (R175-R202) -/

theorem execCalRunStartTimeout_goesOn (s : State) : GoesOn (execCalRunStartTimeout s) := by
  unfold execCalRunStartTimeout
  split
  · exact .next _
  · exact .ite (.next _) (.next _)

theorem execCalRunProgress_goesOn (s : State) : GoesOn (execCalRunProgress s) := by
  unfold execCalRunProgress
  split <;> exact .next _

theorem execSensorScriptRun_goesOn (script : Nat) (s : State) : GoesOn (execSensorScriptRun script s) := by
  refine .ite (.next _) ?_
  split
  · exact .next _
  · exact .ite (.next _) (.next _)

theorem execSensorReadingDone_goesOn (script : Nat) (read : Bytes) (s : State) : GoesOn (execSensorReadingDone script read s) := by
  refine .ite (.next _) ?_
  split
  · exact .next _
  · exact .ite (.next _) (.next _)

theorem execSensorTransactionTimeout_goesOn (failed : SensorFailure) (s : State) : GoesOn (execSensorTransactionTimeout failed s) := by
  refine .ite (.next _) ?_
  split
  · exact .next _
  · refine .ite (.next _) ?_
    dsimp only
    split <;> exact .next _

/-! ## Canvases, layers and video (R203-R240) -/

theorem execPressPoint_goesOn (canvas : Nat) (s : State) : GoesOn (execPressPoint canvas s) := by
  refine .ite (.next _) ?_
  split <;> exact .next _

theorem execBufferFetchComplete_goesOn (layer : Nat) (data : Bytes) (s : State) : GoesOn (execBufferFetchComplete layer data s) := by
  refine .ite (.next _) ?_
  split
  · exact .next _
  · split <;> exact .next _

theorem execVideoPacketRx_goesOn (stream : Nat) (p : VideoPacket) (s : State) : GoesOn (execVideoPacketRx stream p s) := by
  refine .ite (.next _) ?_
  split <;> exact .next _

/-! ## Scan and DMX ports (R340-R380) -/

theorem execScanRefreshStart_goesOn (port : Nat) (detect : List Bool) (s : State) : GoesOn (execScanRefreshStart port detect s) := by
  unfold execScanRefreshStart
  split
  · dsimp only
    split
    · exact .ite (.next _) (.next _)
    · exact .next _
  · exact .next _

theorem execScanLineWrite_goesOn (port : Nat) (waited : Bool) (detect : List Bool) (s : State) :
    GoesOn (execScanLineWrite port waited detect s) := by
  refine .ite (.next _) ?_
  split
  · exact .next _
  · split
    · exact .next _
    · dsimp only
      split
      · exact .next _
      · split
        · exact .next _
        · exact .ite (.next _) (.next _)

theorem execRdmTransactionStart_goesOn (port : Nat) (s : State) : GoesOn (execRdmTransactionStart port s) := by
  refine .ite (.next _) ?_
  split
  · dsimp only
    split
    · split <;> exact .next _
    · split <;> exact .next _
    · exact .next _
  · exact .next _

theorem execRdmResponseRx_goesOn (port : Nat) (m : RdmResponse) (s : State) : GoesOn (execRdmResponseRx port m s) := by
  refine .ite (.next _) (.ite (.next _) ?_)
  dsimp only
  split
  · split
    · exact .next _
    · exact .ite (.next _) (.ite (.next _) (.next _))
  · exact .ite (.next _) (.next _)
  · exact .next _

theorem execRdmResponseTimeout_goesOn (port : Nat) (s : State) : GoesOn (execRdmResponseTimeout port s) := by
  refine .ite (.next _) ?_
  dsimp only
  split
  · exact .ite (.next _) (.ite (.next _) (.next _))
  · refine .ite (.next _) ?_
    split <;> exact .next _
  · exact .next _

/-! ## Admission, the cut and the render schedule (R50, R60, R241-R265) -/

theorem execAdmissionComplete_goesOn (s : State) : GoesOn (execAdmissionComplete s) := by
  unfold execAdmissionComplete
  split <;> exact .next _

theorem execCut_goesOn (s : State) : GoesOn (execCut s) := by
  unfold execCut
  dsimp only
  split
  · exact .next _
  · exact .ite (.next _) (.ite (.next _) (.next _))

theorem execJobSegmentComplete_goesOn (lane : Nat) (reads : StoreRead) (s : State) : GoesOn (execJobSegmentComplete lane reads s) := by
  refine .ite (.next _) ?_
  split <;> exact .next _

theorem execJobComplete_goesOn (lane : Nat) (badParity : List Nat) (s : State) : GoesOn (execJobComplete lane badParity s) := by
  refine .ite (.next _) ?_
  split <;> exact .next _

/-! ## Metering (R403-R434) -/

theorem execEpoPulse_goesOn (output : Nat) (s : State) : GoesOn (execEpoPulse output s) := by
  refine .ite (.next _) ?_
  dsimp only
  split <;> exact .next _

theorem execFeederBleedTimeout_goesOn (f : Nat) (s : State) : GoesOn (execFeederBleedTimeout f s) := by
  refine .ite (.next _) ?_
  split <;> exact .next _

theorem execMeterLineTimeout_goesOn (m : Nat) (s : State) : GoesOn (execMeterLineTimeout m s) := by
  refine .ite (.next _) ?_
  split
  · exact .ite (.next _) (.next _)
  · exact .next _

theorem execNightMeterWindow_goesOn (samples : List (List Int)) (s : State) : GoesOn (execNightMeterWindow samples s) := by
  unfold execNightMeterWindow
  split
  · exact .next _
  · refine .ite (.next _) ?_
    dsimp only
    split <;> exact .ite (.next _) (.next _)

/-! ## Memory integrity (R435-R454) -/

theorem execScrubItem_goesOn (item : ScrubResult) (s : State) : GoesOn (execScrubItem item s) := by
  cases item <;> exact .next _

theorem execChkPassComplete_goesOn (c : Nat) (o : PassOutcome) (s : State) : GoesOn (execChkPassComplete c o s) := by
  refine .ite (.next _) (.ite (.next _) ?_)
  split
  · exact .next _
  · exact .ite (.next _) (.ite (.next _) (.ite (.next _) (.next _)))

theorem execChkExpectedReloadDone_goesOn (c : Nat) (ledgerGood : Bool) (s : State) :
    GoesOn (execChkExpectedReloadDone c ledgerGood s) := by
  refine .ite (.next _) (.ite (.next _) ?_)
  split <;> exact .next _

theorem execExpectedLedgerCopy_goesOn (owner : ExpectOwner) (s : State) : GoesOn (execExpectedLedgerCopy owner s) := by
  cases owner with
  | witness w => exact .ite (.next _) (.next _)
  | channel c =>
    refine .ite (.next _) ?_
    split <;> exact .next _

theorem execLoopbackComplete_goesOn (lane : Nat) (good : Bool) (s : State) : GoesOn (execLoopbackComplete lane good s) := by
  refine .ite (.next _) ?_
  split
  · exact .next _
  · split <;> exact .next _

/-! ## Boot, reset and update (R455-R477) -/

theorem execAutoload_goesOn (s : State) : GoesOn (execAutoload s) := by
  refine .ite (.next _) ?_
  dsimp only
  split
  · exact .next _
  · split <;> exact .next _

theorem execAutoStart_goesOn (s : State) : GoesOn (execAutoStart s) := by
  refine .ite (.next _) ?_
  dsimp only
  split <;> exact .next _

theorem execUpdateCloseComplete_goesOn (o : WriteOutcome) (s : State) : GoesOn (execUpdateCloseComplete o s) := by
  unfold execUpdateCloseComplete
  split
  · exact .next _
  · refine .ite (.next _) ?_
    split <;> exact .next _

theorem execActivationPauseEnd_goesOn (s : State) : GoesOn (execActivationPauseEnd s) := by
  unfold execActivationPauseEnd
  split <;> exact .next _

theorem execTrialTimeout_goesOn (s : State) : GoesOn (execTrialTimeout s) := by
  unfold execTrialTimeout
  split <;> exact .next _

theorem execOwnerLockLockoutEnd_goesOn (s : State) : GoesOn (execOwnerLockLockoutEnd s) := by
  unfold execOwnerLockLockoutEnd
  split <;> exact .next _

theorem execDeviceResetTimer_goesOn (s : State) : GoesOn (execDeviceResetTimer s) := by
  unfold execDeviceResetTimer
  split <;> exact .next _

/-! ## Events (R488-R506, R521) -/

theorem execEventDatagramSend_goesOn (slot : Nat) (s : State) : GoesOn (execEventDatagramSend slot s) := by
  refine .ite (.next _) ?_
  split <;> exact .next _

theorem execVectorHoldoffExpire_goesOn (v : Nat) (s : State) : GoesOn (execVectorHoldoffExpire v s) := by
  refine .ite (.next _) ?_
  split <;> exact .next _

theorem execUart1LogLine_goesOn (late : Bool) (s : State) : GoesOn (execUart1LogLine late s) := by
  unfold execUart1LogLine
  split
  · exact .next _
  · exact .ite (.next _) (.ite (.next _) (.next _))

/-! ## The pair (R381-R402) -/

theorem execHeartbeatTimeout_goesOn (s : State) : GoesOn (execHeartbeatTimeout s) := by
  unfold execHeartbeatTimeout
  split <;> exact .next _

theorem execJoinWaitExpire_goesOn (s : State) : GoesOn (execJoinWaitExpire s) := by
  unfold execJoinWaitExpire
  split
  · exact .next _
  · exact .ite (.next _) (.next _)

theorem execReversion_goesOn (s : State) : GoesOn (execReversion s) := by
  unfold execReversion
  split
  · dsimp only
    split
    · exact .ite (.next _) (.next _)
    · exact .next _
  · exact .next _

/-! ## Hosts (R81-R113, R507-R525) -/

theorem execSessionKeepaliveExpire_goesOn (slot : Nat) (s : State) : GoesOn (execSessionKeepaliveExpire slot s) := by
  unfold execSessionKeepaliveExpire
  split
  · exact .next _
  · exact .ite (.next _) (.next _)

theorem execDmaReadFail_goesOn (target : DmaTarget) (s : State) : GoesOn (execDmaReadFail target s) := by
  cases target <;> exact .ite (.next _) (.next _)

theorem execMsixUnmask_goesOn (mask : MsixMask) (s : State) : GoesOn (execMsixUnmask mask s) := by
  cases mask <;> exact .next _

theorem execMlReassemblyTimeout_goesOn (src : Endpoint) (id : Nat) (s : State) : GoesOn (execMlReassemblyTimeout src id s) := by
  unfold execMlReassemblyTimeout
  split <;> exact .next _

theorem execDhcpMessageRx_goesOn (msg : DhcpMsg) (s : State) : GoesOn (execDhcpMessageRx msg s) := by
  refine .ite (.next _) ?_
  cases msg with
  | offer a => exact .ite (.next _) (.next _)
  | ack a gateway n => exact .ite (.next _) (.next _)
  | nak => exact .ite (.next _) (.ite (.next _) (.next _))

theorem execDhcpLeaseTimer_goesOn (timer : LeaseTimer) (s : State) : GoesOn (execDhcpLeaseTimer timer s) := by
  refine .ite (.next _) ?_
  cases timer <;> exact .next _

theorem execOtpCommitExpire_goesOn (s : State) : GoesOn (execOtpCommitExpire s) := by
  unfold execOtpCommitExpire
  split <;> exact .next _

/-! ## Every command -/

/-- By the shape of the executor: a host command, an event that always acts, one that first asks whether what it names is there, and
those above that look up what they act on. -/
theorem exec_goesOn (i : Instr) (s : State) : GoesOn (exec i s) := by
  cases i with
  | identify r | sessionOpen r | sessionClose r | sessionKeepalive r | tagStatus r | timedCancel r | sessionList r
  | admitConfig r | basteBegin r | basteAbort r | pressConfig r | admitReport r | showStart r | showArm r | showDisarm r
  | showStop r | safeHoldEnter r | showResume r | setEnvelope r | setFrame r | setRole r | stageRead r | configSave r
  | configLoad r | typeDefine r | typeDelete r | patchAdd r | patchRemove r | patchRead r | paramWrite r | paramRelease r
  | paramRead r | sacnRxMap r | playbackDefine r | cueStore r | playbackGo r | playbackBack r | playbackGoto r
  | playbackRelease r | playbackLevel r | playbackRate r | curveTable r | playbackStatus r | effectDefine r | effectAssign r
  | effectRate r | effectSize r | effectStart r | effectStop r | effectPhase r | effectStatus r | colourSpace r
  | mixStrategy r | dimCurve r | calsetLoad r | sensorScript r | calRun r | calResult r | trimControl r | trimStatus r
  | calsetSave r | canvasDefine r | layerDefine r | pixmapLoad r | videoRxDefine r | witnessDefine r | bufferRegister r
  | bufferRelease r | videoRxStatus r | laneDefine r | flowDefine r | flowDelete r | sacnOutDefine r | sacnRxDefine r
  | ixnikDefine r | scanDefine r | dmxDefine r | flowEnable r | flowRinse r | flowStats r | rdmRequest r | rdmDiscover r
  | timeConfig r | timeStatus r | domainSelect r | triggerDefine r | latencyMeasure r | latencyTable r | pairDefine r
  | pairStatus r | pairMaintenance r | pairHandover r | meterDefine r | feederDefine r | meterRead r | feederReset r
  | nightMeterRead r | updateOpen r | updateBlock r | updateClose r | updateAbort r | updateActivate r | healthConfirm r
  | flashRead r | flashWrite r | flashErase r | ownerLock r | personalityRead r | healthRead r | eventRoute r | eventMask r
  | logRead r | countersRead r | avsStatus r | chkStart r | chkResult r | chkExpect r | chkMode r | regRead r | regWrite r
  | echo r | loopback r | serviceEnter r | serviceExit r | deviceReset r =>
    exact hostCommand_goesOn _ r s
  | pcieLinkLoss | pcieFlr | busMasterClear | d3hotEnter | perstNAssert | mlDatagramRx _ _ _ | mlFragmentRx _ _ _ _ _
  | mlApply | fifoWindowRead _ _ | fifoReadWaitExpire _ _ | rinsePartialTimeout _ | rcRead _ | latchingRead _ | nowNsRead
  | sweepRead | meterSeqRead _ | rtcFracRead | deltaRead _ _ _ | registerWrite _ _ | shadowWrite _ _ | timeSet
  | qdataWrite _ _ | qrinse _ | evtRingEnable | porstNAssert | imageRewriteDone | ptpSyncRx _ | ptpFollowUpRx _
  | ptpAnnounceRx _ | ptpDelayReqRx _ | ptpDelayRespRx _ | announceReceiptTimeout _ | syncReceiptTimeout _
  | followUpTimeout _ | delayRespTimeout _ | ptpSyncInterval _ | ptpAnnounceInterval _ | delayReqInterval _
  | latencyRepeatInterval _ | ixnikProbeRx _ _ _ _ | probeReplyRx _ _ _ _ _ _ | laneLinkDown _ | arpPacketRx _ _ _ _ _
  | icmpEchoRx _ _ _ | igmpQueryRx _ _ | sacnDataRx _ | sacnSyncRx _ _ _ | ixnikPacketRx _ _ _ | heartbeatRx _ | mirrorRx _
  | mirrorAckRx _ | syncTransferRx _ | sentinelRx _ _ _ | holdupEnter | holdupExit | tamperRecordMove | backupPowerLoss
  | niwinHelp | niwinId | niwinState | niwinTime | niwinHealth | niwinLog _ | niwinLogFollow | niwinCounters | niwinMl
  | niwinServiceOn | niwinServiceOff | niwinMlDhcp | niwinMlStatic _ _ _ | niwinRegRd _ _ | niwinRegWr _ _ | niwinOtp
  | niwinOtpKey _ _ | niwinOtpRevoke _ | niwinOtpCommit _ | niwinReset | mlLinkChange _ _ | pcieLinkUp | backupPowerReturn
  | slewComplete | scheduleRestoreDone | niwinKeyPress | resetDetectorTrip =>
    exact .next _
  | cmdTailWrite _ _ | commandAccept _ _ _ | rplTailWrite _ _ | replyStallTimeout _ | replyTimeoutExpire _ _
  | hostqEnableSet _ | hostqEnableClear _ | hostqDisableDone _ | hostqRinse _ | rplDmaFail _ | mlBindingExpire _
  | linkLocalTimeout _ | rinseDiscardPoint _ | canvasCommitWrite _ | paletteWrite _ _ | palMapWrite _ _
  | witnessExpectedWrite _ _ | ttuArm _ _ | ttuDisarm _ | ttiRinse _ | faultCtrlWrite _ _ | seamGainWrite _ _ _
  | fullWriteRequest _ | retRinse _ | groupRearm _ _ _ | uidRinse _ | chkRegStart _ | chkAbort _ | chkExpectedCommit _ _
  | boot _ | coreRestartDone _ | paletteCopyDone _ | ltcCodewordMissing | fsyncEdgeMissing | sacnDiscoveryTx _
  | meterSample _ | tamperSample _ | monitorSweep _ | vcoreUndervoltage _ | updateSlotIdleTimeout | thermalHoldStep _ =>
    exact .ite (.next _) (.next _)
  | coreWatchdogExpire _ | backgroundItemComplete _ _ | laneLinkUp _ _ _ | teStuckTimeout _ | feederBleedDone _ =>
    exact .ite (.next _) (.ite (.next _) (.next _))
  | witnessReloadDone _ _ => exact .ite (.next _) (.ite (.next _) (.ite (.next _) (.next _)))
  | dmaReadFail target => exact execDmaReadFail_goesOn target s
  | msixUnmask mask => exact execMsixUnmask_goesOn mask s
  | mlReassemblyTimeout src id => exact execMlReassemblyTimeout_goesOn src id s
  | dhcpMessageRx msg => exact execDhcpMessageRx_goesOn msg s
  | sessionKeepaliveExpire slot => exact execSessionKeepaliveExpire_goesOn slot s
  | fifoWriteWaitExpire lane word => exact execFifoWriteWaitExpire_goesOn lane word s
  | autoload => exact execAutoload_goesOn s
  | autoStart => exact execAutoStart_goesOn s
  | admissionComplete => exact execAdmissionComplete_goesOn s
  | cut => exact execCut_goesOn s
  | jobSegmentComplete lane storeError => exact execJobSegmentComplete_goesOn lane storeError s
  | jobComplete lane badParity => exact execJobComplete_goesOn lane badParity s
  | scrubItem item => exact execScrubItem_goesOn item s
  | launchInstant flow => exact execLaunchInstant_goesOn flow s
  | pressPoint canvas => exact execPressPoint_goesOn canvas s
  | bufferFetchComplete layer data => exact execBufferFetchComplete_goesOn layer data s
  | expectedLedgerCopy owner => exact execExpectedLedgerCopy_goesOn owner s
  | videoPacketRx stream packet => exact execVideoPacketRx_goesOn stream packet s
  | ltcCodeword code => exact execLtcCodeword_goesOn code s
  | fsyncEdge rising => exact execFsyncEdge_goesOn rising s
  | autoSwitch candidate => exact execAutoSwitch_goesOn candidate s
  | sourceReversion => exact execSourceReversion_goesOn s
  | ttuPulse unit => exact execTtuPulse_goesOn unit s
  | ttiEdge input rising => exact execTtiEdge_goesOn input rising s
  | latencyCaptureTimeout => exact execLatencyCaptureTimeout_goesOn s
  | latencyStartTimeout => exact execLatencyStartTimeout_goesOn s
  | arpRefresh lane ip answered => exact execArpRefresh_goesOn lane ip answered s
  | sacnSourceTimeout univ cid => exact execSacnSourceTimeout_goesOn univ cid s
  | sacnSyncTimeout univ cid => exact execSacnSyncTimeout_goesOn univ cid s
  | scanRefreshStart port detect => exact execScanRefreshStart_goesOn port detect s
  | scanLineWrite port waited detect => exact execScanLineWrite_goesOn port waited detect s
  | rdmTransactionStart port => exact execRdmTransactionStart_goesOn port s
  | rdmResponseRx port response => exact execRdmResponseRx_goesOn port response s
  | rdmResponseTimeout port => exact execRdmResponseTimeout_goesOn port s
  | heartbeatTimeout => exact execHeartbeatTimeout_goesOn s
  | joinWaitExpire => exact execJoinWaitExpire_goesOn s
  | reversion => exact execReversion_goesOn s
  | meterLineTimeout meter => exact execMeterLineTimeout_goesOn meter s
  | epoPulse output => exact execEpoPulse_goesOn output s
  | feederBleedTimeout feeder => exact execFeederBleedTimeout_goesOn feeder s
  | nightMeterWindow samples => exact execNightMeterWindow_goesOn samples s
  | chkPassComplete channel outcome => exact execChkPassComplete_goesOn channel outcome s
  | chkExpectedReloadDone channel ledgerGood => exact execChkExpectedReloadDone_goesOn channel ledgerGood s
  | loopbackComplete lane good => exact execLoopbackComplete_goesOn lane good s
  | calRunProgress => exact execCalRunProgress_goesOn s
  | calRunStartTimeout => exact execCalRunStartTimeout_goesOn s
  | sensorScriptRun script => exact execSensorScriptRun_goesOn script s
  | sensorReadingDone script read => exact execSensorReadingDone_goesOn script read s
  | sensorTransactionTimeout failed => exact execSensorTransactionTimeout_goesOn failed s
  | eventDatagramSend slot => exact execEventDatagramSend_goesOn slot s
  | vectorHoldoffExpire vector => exact execVectorHoldoffExpire_goesOn vector s
  | uart1LogLine late => exact execUart1LogLine_goesOn late s
  | updateCloseComplete outcome => exact execUpdateCloseComplete_goesOn outcome s
  | activationPauseEnd => exact execActivationPauseEnd_goesOn s
  | trialTimeout => exact execTrialTimeout_goesOn s
  | ownerLockLockoutEnd => exact execOwnerLockLockoutEnd_goesOn s
  | deviceResetTimer => exact execDeviceResetTimer_goesOn s
  | otpCommitExpire => exact execOtpCommitExpire_goesOn s
  | dhcpLeaseTimer timer => exact execDhcpLeaseTimer_goesOn timer s

/-- Settles O8. An index out of range, a record that is not there or a timer that does not run leaves the state as it was: the
model's choice, log entry 14. -/
theorem everyCommandGoesOn : Obligations.EveryCommandGoesOn := by
  unfold Obligations.EveryCommandGoesOn
  exact exec_goesOn

/-- Settles O1: the queue is not empty, so its front command runs. -/
theorem stepRunsFrontCommand : Obligations.StepRunsFrontCommand := by
  unfold Obligations.StepRunsFrontCommand
  intro c rest s h
  rw [step, h]

end Sys2Proof.Machine
end

section
/-! SUPPORT. The serial monitor Niwin (R522-R525): what becomes of a line that comes in, and what a command makes of a state in
which it is available. -/

namespace Sys2Proof.Machine

/-! ## A line that comes in (R522) -/

theorem State.endFollow_of_follow {s : State} (h : s.nw.follow = true) :
    s.endFollow = ({ s with nw := { s.nw with follow := false } } : State).drive 4 (.uart0 "OK" []) := if_pos h

theorem State.endFollow_of_not_follow {s : State} (h : s.nw.follow = false) : s.endFollow = s := if_neg (by simp [h])

section
variable {s : State} {l : Line} (hstart : s.nw.started = true)
include hstart

/-- In UPDATE_PAUSE a line is echoed and kept. -/
theorem State.niwinInput_pause (hp : s.gl.device = .updatePause) (run : State → State) :
    s.niwinInput l run = { s.drive 4 (.uart0Echo l) with nw := (s.drive 4 (.uart0Echo l)).nw.keep l } := by
  simp only [State.niwinInput, hstart, Bool.not_true, Bool.false_eq_true, if_false, State.drive_gl, hp, if_true]

/-- While kept lines wait, a line that comes whole waits behind them. -/
theorem State.niwinInput_behind (hp : s.gl.device ≠ .updatePause) (hh : s.nw.held ≠ []) (hc : s.nw.cut = false) (run : State → State) :
    s.niwinInput l run =
      { s.drive 4 (.uart0Echo l) with nw := { (s.drive 4 (.uart0Echo l)).nw with held := s.nw.held ++ [some l] } } := by
  have hwait : s.nw.held.isEmpty = false := by simp [hh]
  simp only [State.niwinInput, hstart, Bool.not_true, Bool.false_eq_true, if_false, State.drive_gl, State.drive_nw, hp, hc, hwait,
    Bool.not_false, if_true]

/-- With no kept line a line acts, after the end of a log that is followed. -/
theorem State.niwinInput_open (hp : s.gl.device ≠ .updatePause) (hh : s.nw.held = []) (hc : s.nw.cut = false) (run : State → State) :
    s.niwinInput l run = run (s.drive 4 (.uart0Echo l)).endFollow := by
  simp only [State.niwinInput, hstart, Bool.not_true, Bool.false_eq_true, if_false, State.drive_gl, State.drive_nw, hp, hc, hh,
    List.isEmpty_nil]

end

/-- The characters that kept lines take (log entry 32). -/
def Niwin.used (n : Niwin) : Nat := (n.held.map fun l => (l.map lineLength).getD 0).foldl (· + ·) 0

section
variable {n : Niwin} {l : Line}

theorem Niwin.keep_full (h : n.cut = true ∨ 256 ≤ n.used) : n.keep l = n := by
  have hfull : (n.cut || decide (n.used ≥ 256)) = true := by simpa using h
  exact if_pos hfull

variable (hc : n.cut = false) (hu : n.used < 256)
include hc hu

theorem Niwin.keep_open : n.keep l =
    if n.used + lineLength l > 256 then { n with cut := true } else { n with held := n.held ++ [some l] } := by
  have hopen : ¬ (n.cut || decide (n.used ≥ 256)) = true := by simpa [hc] using hu
  exact if_neg hopen

theorem Niwin.keep_cuts (h : 256 < n.used + lineLength l) : n.keep l = { n with cut := true } := by
  rw [Niwin.keep_open hc hu, if_pos h]

theorem Niwin.keep_holds (h : n.used + lineLength l ≤ 256) : n.keep l = { n with held := n.held ++ [some l] } := by
  rw [Niwin.keep_open hc hu, if_neg (Nat.not_lt.mpr h)]

end

/-! ## Commands (R522, R523) -/

@[simp] theorem State.niwinAllowed_r (s : State) : s.niwinAllowed .r = true := rfl

@[simp] theorem State.drive_niwinAllowed (b : Nat) (o : Output) (level : Level) (s : State) :
    (s.drive b o).niwinAllowed level = s.niwinAllowed level := by
  rw [State.niwinAllowed, State.niwinAllowed, State.drive_gl, State.drive_boot]

/-- In SERVICE, outside recovery, the commands of level S are available. -/
theorem State.niwinAllowed_s {s : State} (hd : s.gl.device = .service) (hr : s.boot.recovery = false) : s.niwinAllowed .s = true := by
  simp [State.niwinAllowed, hd, hr]

theorem State.not_niwinAllowed_s {s : State} (h : s.gl.device ≠ .service ∨ s.boot.recovery = true) : s.niwinAllowed .s = false := by
  rcases h with h | h <;> simp [State.niwinAllowed, h]

/-- The prompt stands and nothing keeps a line from acting: neither UPDATE_PAUSE, nor a kept or cut line, nor a followed log. -/
structure State.Prompts (s : State) : Prop where
  started : s.nw.started = true
  running : s.gl.device ≠ .updatePause
  held : s.nw.held = []
  whole : s.nw.cut = false
  quiet : s.nw.follow = false

section
variable {s : State} (hs : s.Prompts) {l : Line}
include hs

theorem State.Prompts.acts (run : State → State) : s.niwinInput l run = run (s.drive 4 (.uart0Echo l)) := by
  rw [State.niwinInput_open hs.started hs.running hs.held hs.whole, State.endFollow_of_not_follow (by rw [State.drive_nw, hs.quiet])]

/-- A command that is available answers what its body gives. -/
theorem State.Prompts.niwin {level : Level} (ha : s.niwinAllowed level = true) (f : State → Chk? State) :
    Machine.niwin level l s f = .next ((s.drive 4 (.uart0Echo l)).niwinEnd (f (s.drive 4 (.uart0Echo l)))) := by
  rw [Machine.niwin, State.niwinRun, hs.acts, State.niwinDo, State.drive_niwinAllowed, if_pos ha]

theorem State.Prompts.niwin_ok {level : Level} (ha : s.niwinAllowed level = true) {f : State → Chk? State} {t : State}
    (h : f (s.drive 4 (.uart0Echo l)) = .ok t) : Machine.niwin level l s f = .next (t.drive 4 (.uart0 "OK" [])) := by
  rw [hs.niwin ha, h]
  rfl

theorem State.Prompts.niwin_error {level : Level} (ha : s.niwinAllowed level = true) {f : State → Chk? State} {b : Bad}
    (h : f (s.drive 4 (.uart0Echo l)) = .error b) :
    Machine.niwin level l s f =
      .next ((s.drive 4 (.uart0Echo l)).drive 4 (.uart0 ("ERR " ++ statusName b.status) [b.status])) := by
  rw [hs.niwin ha, h]
  rfl

end

/-! ## Level S outside SERVICE and in recovery (R523) -/

section
variable {s : State} (hs : s.Prompts) (ha : s.niwinAllowed .s = false) {l : Line}
include hs ha

theorem State.Prompts.niwin_unavailable (f : State → Chk? State) :
    Machine.niwin .s l s f = .next ((s.drive 4 (.uart0Echo l)).drive 4 (.uart0 "ERR WRONG_STATE" [Status.wrongState])) := by
  rw [Machine.niwin, State.niwinRun, hs.acts, State.niwinDo, State.drive_niwinAllowed, ha]
  rfl

theorem execNiwinOtpCommit_unavailable (c : Reg) :
    execNiwinOtpCommit c s =
      .next ((s.drive 4 (.uart0Echo (.otpCommit c))).drive 4 (.uart0 "ERR WRONG_STATE" [Status.wrongState])) := by
  rw [execNiwinOtpCommit, hs.acts, State.niwinCommit, State.drive_niwinAllowed, ha]
  rfl

end

/-- Settles O43, command by command: seven go through `niwin`, and `otp commit` looks at its level by itself. -/
theorem niwinServiceCommandsAreRefused : Obligations.NiwinServiceCommandsAreRefused := by
  unfold Obligations.NiwinServiceCommandsAreRefused
  intro s i l hstart hp hf hh hc hd hi
  have hs : s.Prompts := ⟨hstart, hp, hh, hc, hf⟩
  have ha : s.niwinAllowed .s = false := State.not_niwinAllowed_s hd
  rcases hi with ⟨rfl, rfl⟩ | ⟨a, p, g, rfl, rfl⟩ | ⟨off, n, rfl, rfl⟩ | ⟨off, w, rfl, rfl⟩ | ⟨k, h, rfl, rfl⟩ | ⟨k, rfl, rfl⟩ |
    ⟨c, rfl, rfl⟩ | ⟨rfl, rfl⟩
  · exact hs.niwin_unavailable ha _
  · exact hs.niwin_unavailable ha _
  · exact hs.niwin_unavailable ha _
  · exact hs.niwin_unavailable ha _
  · exact hs.niwin_unavailable ha _
  · exact hs.niwin_unavailable ha _
  · exact execNiwinOtpCommit_unavailable hs ha c
  · exact hs.niwin_unavailable ha _

/-! ## What the bodies give (R515, R523-R525) -/

section
variable {u : State}

theorem niwinLogBody_ok {n : Nat} (hlo : 1 ≤ n) (hhi : n ≤ 64) :
    niwinLogBody n u =
      .ok ((u.nv.log.drop (u.nv.log.length - n)).foldl (fun (s : State) r => s.say "log" (byteValues (r.bytes false))) u) := by
  rw [niwinLogBody, inRange_bind _ (decide_eq_true ⟨hlo, hhi⟩)]

theorem State.enterService_ok (hs : u.showRuns = false) (hf : u.gl.firstCut = none) :
    u.enterService = .ok { u with gl := { u.gl with device := .service } } := by
  have hidle : (!u.showRuns && u.gl.firstCut.isNone) = true := by rw [hs, hf]; rfl
  rw [State.enterService, need_bind _ hidle]

theorem State.enterService_refused (h : u.showRuns = true ∨ u.gl.firstCut ≠ none) :
    u.enterService = .error ⟨Status.wrongState, u.wrongDetail⟩ := by
  have hbusy : (!u.showRuns && u.gl.firstCut.isNone) = false := by
    rcases h with h | h
    · simp [h]
    · simp [Option.ne_none_iff_isSome.mp h]
  rw [State.enterService, hbusy]
  rfl

theorem State.exitService_of_not_recovery (h : u.boot.recovery = false) :
    u.exitService = { u with gl := { u.gl with device := .operational } } := by
  rw [State.exitService, h]
  rfl

theorem niwinStaticBody_ok {a p g : Nat} (ha : a < 2 ^ 32) (hp : p < 32) (hg : g < 2 ^ 32) :
    niwinStaticBody a p g u = .ok ({ u with ml := { u.ml with dhcp := false, ipv4 := a, plen := p, gateway := g } } : State).mlApply := by
  rw [niwinStaticBody, Nat.mod_eq_of_lt ha, Nat.mod_eq_of_lt hg, Nat.min_eq_left (Nat.le_of_lt_succ hp)]

theorem niwinRegRdBody_ok {off n : Nat} (halign : off % 4 = 0) (hlo : 1 ≤ n) (hhi : n ≤ 256) (hend : off + 4 * n ≤ 0x400000) :
    niwinRegRdBody off n u = .ok ((u.readWords n off).2.say "reg rd" ((u.readWords n off).1.map BitVec.toNat)) := by
  rw [niwinRegRdBody, Chk?.ok_bind _ (barRange_ok halign hlo hhi hend)]

theorem niwinRegWrBody_ok {off : Nat} (w : Reg) (halign : off % 4 = 0) (hlo : 0x20000 ≤ off) (hhi : off < 0x400000) :
    niwinRegWrBody off w u = .ok (u.writeWord off w.toNat) := by
  rw [niwinRegWrBody, Chk?.ok_bind _ (barRange_ok halign le_rfl (by decide) (by omega)), State.regWritable,
    need_bind _ (decide_eq_true hlo)]

theorem niwinKeyBody_ok {k : Nat} {h : Bytes} (hk : k < 4) (hl : h.length = 32) (hfree : (Tab.getD u.nv.keys k {}).hash = none)
    (ho : u.nv.ownerHash = none) : niwinKeyBody k h u = .ok (u.prepareOtp k (some h)) := by
  rw [niwinKeyBody, need_bind _ (Option.isNone_iff_eq_none.mpr ho),
    inRange_bind _ (decide_eq_true ⟨hk, hl, Option.isNone_iff_eq_none.mpr hfree⟩)]

theorem niwinRevokeBody_ok {k : Nat} {h : Bytes} (hk : k < 4) (hr : k ≠ u.runningKey) (hh : (Tab.getD u.nv.keys k {}).hash = some h)
    (ho : u.nv.ownerHash = none) : niwinRevokeBody k u = .ok (u.prepareOtp k none) := by
  rw [niwinRevokeBody, inRange_bind _ (decide_eq_true ⟨hk, hr, Option.isSome_of_eq_some hh⟩),
    need_bind _ (Option.isNone_iff_eq_none.mpr ho)]

theorem State.deviceReset_ok {now : Nat} (ha : u.gl.show_ ≠ .armed) (hn : u.now = now) :
    u.deviceReset = .ok { u with boot := { u.boot with resetAt := some (now + msT 10) } } := by
  rw [State.deviceReset, State.mayReset, need_bind _ (decide_eq_true ha), hn]

section
variable {p : OtpPrep} (hp : u.nw.prep = some p) (ht : u.now < p.since + secT 30)
include hp ht

/-- In time and with its code, the prepared write is made and the slot printed. -/
theorem State.commitOtp_ok :
    u.commitOtp p.code =
      let w := ({ u with nw := { u.nw with prep := none } } : State).writeOtp p
      (w.say "otp" (w.slotRow p.slot)).drive 4 (.uart0 "OK" []) := by
  simp only [State.commitOtp, hp, ge_iff_le, Nat.not_le.mpr ht, if_false, ne_eq, not_true_eq_false]
  rfl

theorem State.commitOtp_wrongCode {c : Reg} (hc : c ≠ p.code) :
    u.commitOtp c = ({ u with nw := { u.nw with prep := none } } : State).drive 4 (.uart0 "ERR CRC_BAD" [Status.crcBad]) := by
  simp only [State.commitOtp, hp, ge_iff_le, Nat.not_le.mpr ht, if_false, if_pos hc]
  rfl

end
end

/-! ## What the echo of a line leaves as it was -/

@[simp] theorem State.drive_showRuns (b : Nat) (o : Output) (s : State) : (s.drive b o).showRuns = s.showRuns := by
  rw [State.showRuns, State.showRuns, State.drive_gl]

@[simp] theorem State.drive_runningKey (b : Nat) (o : Output) (s : State) : (s.drive b o).runningKey = s.runningKey := by
  rw [State.runningKey, State.runningKey, State.slotHeader, State.slotHeader, State.drive_nv, State.drive_boot]

/-! ## Each command in its place -/

section
variable {s : State} (hs : s.Prompts)
include hs

theorem execNiwinLog_ok {n : Nat} (hlo : 1 ≤ n) (hhi : n ≤ 64) :
    execNiwinLog n s =
      let u := s.drive 4 (.uart0Echo (.log n))
      .next (((u.nv.log.drop (u.nv.log.length - n)).foldl (fun (s : State) r => s.say "log" (byteValues (r.bytes false))) u).drive 4
        (.uart0 "OK" [])) :=
  hs.niwin_ok rfl (niwinLogBody_ok hlo hhi)

theorem execNiwinServiceOn_ok (hr : s.showRuns = false) (hf : s.gl.firstCut = none) :
    execNiwinServiceOn s =
      let u := s.drive 4 (.uart0Echo .serviceOn)
      .next (({ u with gl := { u.gl with device := .service } } : State).drive 4 (.uart0 "OK" [])) :=
  hs.niwin_ok rfl (State.enterService_ok (by rw [State.drive_showRuns, hr]) (by rw [State.drive_gl, hf]))

theorem execNiwinServiceOn_refused (h : s.showRuns = true ∨ s.gl.firstCut ≠ none) :
    execNiwinServiceOn s = .next ((s.drive 4 (.uart0Echo .serviceOn)).drive 4 (.uart0 "ERR WRONG_STATE" [Status.wrongState])) :=
  hs.niwin_error rfl (State.enterService_refused (by rwa [State.drive_showRuns, State.drive_gl]))

theorem execNiwinServiceOff_ok (hr : s.boot.recovery = false) :
    execNiwinServiceOff s =
      let u := s.drive 4 (.uart0Echo .serviceOff)
      .next (({ u with gl := { u.gl with device := .operational } } : State).drive 4 (.uart0 "OK" [])) :=
  hs.niwin_ok rfl (congrArg Except.ok (State.exitService_of_not_recovery (by rw [State.drive_boot, hr])))

section
variable (ha : s.niwinAllowed .s = true)
include ha

theorem execNiwinOtpKey_ok {k : Nat} {h : Bytes} (hk : k < 4) (hl : h.length = 32) (hfree : (Tab.getD s.nv.keys k {}).hash = none)
    (ho : s.nv.ownerHash = none) :
    execNiwinOtpKey k h s =
      .next (((s.drive 4 (.uart0Echo (.otpKey k h))).prepareOtp k (some h)).drive 4 (.uart0 "OK" [])) :=
  hs.niwin_ok ha (niwinKeyBody_ok hk hl (by rw [State.drive_nv, hfree]) (by rw [State.drive_nv, ho]))

theorem execNiwinOtpRevoke_ok {k : Nat} {h : Bytes} (hk : k < 4) (hr : k ≠ s.runningKey) (hh : (Tab.getD s.nv.keys k {}).hash = some h)
    (ho : s.nv.ownerHash = none) :
    execNiwinOtpRevoke k s =
      .next (((s.drive 4 (.uart0Echo (.otpRevoke k))).prepareOtp k none).drive 4 (.uart0 "OK" [])) :=
  hs.niwin_ok ha (niwinRevokeBody_ok hk (by rwa [State.drive_runningKey]) (by rw [State.drive_nv, hh]) (by rw [State.drive_nv, ho]))

theorem execNiwinOtpCommit_available (c : Reg) :
    execNiwinOtpCommit c s = .next ((s.drive 4 (.uart0Echo (.otpCommit c))).commitOtp c) := by
  rw [execNiwinOtpCommit, hs.acts, State.niwinCommit, State.drive_niwinAllowed, if_pos ha]

section
variable {p : OtpPrep} (hp : s.nw.prep = some p) (ht : s.now < p.since + secT 30)
include hp ht

theorem execNiwinOtpCommit_ok :
    execNiwinOtpCommit p.code s =
      let u := s.drive 4 (.uart0Echo (.otpCommit p.code))
      let w := ({ u with nw := { u.nw with prep := none } } : State).writeOtp p
      .next ((w.say "otp" (w.slotRow p.slot)).drive 4 (.uart0 "OK" [])) := by
  rw [execNiwinOtpCommit_available hs ha, State.commitOtp_ok (by rw [State.drive_nw, hp]) (by rwa [State.drive_now])]

theorem execNiwinOtpCommit_wrongCode {c : Reg} (hc : c ≠ p.code) :
    execNiwinOtpCommit c s =
      let u := s.drive 4 (.uart0Echo (.otpCommit c))
      .next (({ u with nw := { u.nw with prep := none } } : State).drive 4 (.uart0 "ERR CRC_BAD" [Status.crcBad])) := by
  rw [execNiwinOtpCommit_available hs ha, State.commitOtp_wrongCode (by rw [State.drive_nw, hp]) (by rwa [State.drive_now]) hc]

end

theorem execNiwinReset_ok (hshow : s.gl.show_ ≠ .armed) :
    execNiwinReset s =
      let u := s.drive 4 (.uart0Echo .reset)
      .next (({ u with boot := { u.boot with resetAt := some (s.now + msT 10) } } : State).drive 4 (.uart0 "OK" [])) :=
  hs.niwin_ok ha (State.deviceReset_ok (by rwa [State.drive_gl]) (State.drive_now _ _ _))

end
end

/-- A key ends a followed log, whose OK comes then. -/
theorem execNiwinKeyPress_endsFollow {s : State} (hstart : s.nw.started = true) (hp : s.gl.device ≠ .updatePause) (hh : s.nw.held = [])
    (hc : s.nw.cut = false) (hf : s.nw.follow = true) :
    execNiwinKeyPress s =
      let u := s.drive 4 (.uart0Echo .key)
      .next (({ u with nw := { u.nw with follow := false } } : State).drive 4 (.uart0 "OK" [])) := by
  rw [execNiwinKeyPress, State.niwinInput_open hstart hp hh hc, State.endFollow_of_follow (by rw [State.drive_nw, hf])]
  rfl

theorem execOtpCommitExpire_prepared {s : State} {p : OtpPrep} (hp : s.nw.prep = some p) :
    execOtpCommitExpire s =
      .next { s.advanceNow (p.since + secT 30) with nw := { (s.advanceNow (p.since + secT 30)).nw with prep := none } } := by
  rw [execOtpCommitExpire, hp]

/-- Settles O41, line by line and command by command. The length of a kept line and the discard of a cut one are the model's choice
(log entry 32), and so is that a fixed first cut refuses `service on` (log entry 270). -/
theorem niwinCommandsComplete : Obligations.NiwinCommandsComplete := by
  unfold Obligations.NiwinCommandsComplete
  refine ⟨fun s hstart => ⟨fun _ run hp => State.niwinInput_pause hstart hp run,
      fun l n => ⟨Niwin.keep_full, Niwin.keep_cuts, Niwin.keep_holds⟩,
      fun _ run hp hh hc => State.niwinInput_behind hstart hp hh hc run, fun hp hh hc hf => ?levelR,
      fun hp hh hc hf => execNiwinKeyPress_endsFollow hstart hp hh hc hf⟩,
    fun s hstart hd hr hf hh hc => ?levelS⟩
  case levelR =>
    have hs : s.Prompts := ⟨hstart, hp, hh, hc, hf⟩
    exact ⟨hs.niwin_ok rfl rfl, hs.niwin_ok rfl rfl, hs.niwin_ok rfl rfl, hs.niwin_ok rfl rfl, hs.niwin_ok rfl rfl,
      fun n hlo hhi => execNiwinLog_ok hs hlo hhi, hs.niwin_ok rfl rfl, hs.niwin_ok rfl rfl, hs.niwin_ok rfl rfl,
      congrArg Host.Outcome.next (hs.acts niwinFollowBody), execNiwinServiceOn_ok hs, execNiwinServiceOn_refused hs,
      execNiwinServiceOff_ok hs⟩
  case levelS =>
    have hs : s.Prompts := ⟨hstart, by rw [hd]; decide, hh, hc, hf⟩
    have ha : s.niwinAllowed .s = true := State.niwinAllowed_s hd hr
    exact ⟨hs.niwin_ok ha rfl, fun a p g hlt hp hg => hs.niwin_ok ha (niwinStaticBody_ok hlt hp hg),
      fun off n halign hlo hhi hend => hs.niwin_ok ha (niwinRegRdBody_ok halign hlo hhi hend),
      fun off w halign hlo hhi => hs.niwin_ok ha (niwinRegWrBody_ok w halign hlo hhi),
      fun k h hk hl hfree ho => execNiwinOtpKey_ok hs ha hk hl hfree ho,
      fun k h hk hne hh ho => execNiwinOtpRevoke_ok hs ha hk hne hh ho,
      fun p hp ht => execNiwinOtpCommit_ok hs ha hp ht, fun p c hp ht hne => execNiwinOtpCommit_wrongCode hs ha hp ht hne,
      execNiwinReset_ok hs ha, fun p hp => execOtpCommitExpire_prepared hp⟩

end Sys2Proof.Machine
end

section
/-! SUPPORT. Replies as they are laid out (R84, R486, R487): fields of a byte string that is put together of parts, and the replies of
HEALTH_READ and AVS_STATUS. -/

namespace Sys2Proof

/-! ## Fields of byte strings -/

@[simp] theorem leBytes_length (n w : Nat) : (leBytes n w).length = n := by
  induction n generalizing w with
  | zero => rfl
  | succ n ih => rw [leBytes, List.length_cons, ih]

@[simp] theorem leInt_length (n : Nat) (i : Int) : (leInt n i).length = n := leBytes_length _ _

theorem leNat_leBytes (n w : Nat) : leNat (leBytes n w) = w % 256 ^ n := by
  induction n generalizing w with
  | zero => rw [leBytes, leNat, Nat.pow_zero, Nat.mod_one]
  | succ n ih => rw [leBytes, leNat, ih, BitVec.toNat_ofNat, Nat.pow_succ' (m := 256), Nat.mod_mul]

theorem slice_append_left {a : Bytes} {off len : Nat} (h : off + len ≤ a.length) (b : Bytes) :
    slice (a ++ b) off len = slice a off len := by
  rw [slice, slice, List.drop_append_of_le_length (by omega), List.take_append_of_le_length (by rw [List.length_drop]; omega)]

theorem slice_append_right {a : Bytes} {n : Nat} (h : a.length = n) (b : Bytes) (off len : Nat) :
    slice (a ++ b) (n + off) len = slice b off len := by
  subst h
  rw [slice, slice, List.drop_length_add_append]

section
variable {f : Nat → Bytes} {w : Nat} (hf : ∀ i, (f i).length = w)
include hf

theorem flatMap_range_length (n : Nat) : ((List.range n).flatMap f).length = w * n := by
  rw [List.length_flatMap, List.map_congr_left fun i _ => hf i, List.map_const', List.sum_replicate, List.length_range, smul_eq_mul,
    Nat.mul_comm]

/-- The records of a table of records of one size stand one behind the other. -/
theorem slice_flatMap_range {n i : Nat} (hi : i < n) : slice ((List.range n).flatMap f) (w * i) w = f i := by
  induction n with
  | zero => omega
  | succ n ih =>
    rw [List.range_succ, List.flatMap_append, List.flatMap_singleton]
    rcases Nat.lt_succ_iff_lt_or_eq.mp hi with h | rfl
    · have hend : w * i + w ≤ w * n := by rw [← Nat.mul_succ]; exact Nat.mul_le_mul_left w h
      rw [slice_append_left (by rw [flatMap_range_length hf]; exact hend), ih h]
    · have hlast := slice_append_right (flatMap_range_length hf i) (f i) 0 w
      rw [Nat.add_zero] at hlast
      rw [hlast, slice, List.drop_zero, List.take_of_length_le (hf i).le]

end

end Sys2Proof

namespace Sys2Proof.Machine

@[simp] theorem words16_length (n : Nat) (l : List Nat) : (words16 n l).length = 2 * n :=
  flatMap_range_length (fun _ => leBytes_length 2 _) n

theorem slice_words16 {n i : Nat} (l : List Nat) (hi : i < n) : slice (words16 n l) (2 * i) 2 = leBytes 2 (l.getD i 0) :=
  slice_flatMap_range (fun _ => leBytes_length 2 _) hi

/-! ## HEALTH_READ (R487) -/

/-- The TEMP field of HEALTH_READ. -/
def tempBytes (l : List Int) : Bytes := (List.range 16).flatMap fun i => leInt 2 (l.getD i 0)

@[simp] theorem tempBytes_length (l : List Int) : (tempBytes l).length = 32 := flatMap_range_length (fun _ => leInt_length 2 _) 16

theorem slice_tempBytes {i : Nat} (l : List Int) (hi : i < 16) : slice (tempBytes l) (2 * i) 2 = leInt 2 (l.getD i 0) :=
  slice_flatMap_range (fun _ => leInt_length 2 _) hi

theorem State.healthBytes_eq (u : State) :
    u.healthBytes = leBytes 4 u.mon.sweep ++ leBytes 4 u.mon.alarms ++ tempBytes u.mon.raw.temps ++ words16 24 u.mon.raw.volts ++
      words16 8 u.mon.raw.cycles ++ words16 8 u.mon.raw.refs := rfl

theorem State.healthBytes_length (u : State) : u.healthBytes.length = 120 := by
  simp only [State.healthBytes_eq, List.length_append, leBytes_length, tempBytes_length, words16_length]

theorem State.healthBytes_temp (u : State) {i : Nat} (hi : i < 16) :
    slice u.healthBytes (8 + 2 * i) 2 = leInt 2 (u.mon.raw.temps.getD i 0) := by
  rw [State.healthBytes_eq, slice_append_left (by simp; omega), slice_append_left (by simp; omega), slice_append_left (by simp; omega),
    slice_append_right (by simp), slice_tempBytes _ hi]

theorem State.healthBytes_volt (u : State) {i : Nat} (hi : i < 24) :
    slice u.healthBytes (40 + 2 * i) 2 = leBytes 2 (u.mon.raw.volts.getD i 0) := by
  rw [State.healthBytes_eq, slice_append_left (by simp; omega), slice_append_left (by simp; omega), slice_append_right (by simp),
    slice_words16 _ hi]

theorem State.healthBytes_cycle (u : State) {i : Nat} (hi : i < 8) :
    slice u.healthBytes (88 + 2 * i) 2 = leBytes 2 (u.mon.raw.cycles.getD i 0) := by
  rw [State.healthBytes_eq, slice_append_left (by simp; omega), slice_append_right (by simp), slice_words16 _ hi]

theorem State.healthBytes_ref (u : State) {i : Nat} (hi : i < 8) :
    slice u.healthBytes (104 + 2 * i) 2 = leBytes 2 (u.mon.raw.refs.getD i 0) := by
  rw [State.healthBytes_eq, slice_append_right (by simp), slice_words16 _ hi]

/-- Acceptance leaves the reply of HEALTH_READ as it is. -/
theorem State.entered_healthBytes (op : Op) (r : Req) (s : State) : (s.entered op r).healthBytes = s.healthBytes := by
  obtain ⟨h, l, n, e⟩ := s.entered_eq op r
  rw [e]
  rfl

/-! ## AVS_STATUS (R486) -/

theorem State.avsState_le (u : State) : u.avsState ≤ 4 := by
  unfold State.avsState
  repeat' split
  all_goals decide

theorem State.entered_avsBytes (op : Op) (r : Req) (s : State) : (s.entered op r).avsBytes = s.avsBytes := by
  obtain ⟨h, l, n, e⟩ := s.entered_eq op r
  rw [e]
  rfl

/-- Settles O27. The fields of AVS_STATUS stand at fixed places, so that each is read off; in HEALTH_READ a field of a table is found
behind the parts before it. -/
theorem healthRepliesAreLaidOut : Obligations.HealthRepliesAreLaidOut := by
  unfold Obligations.HealthRepliesAreLaidOut
  refine ⟨fun r s hr => ?health, fun r s hr => ?avs, fun u => ?healthLayout, fun u => ?avsLayout⟩
  case health => exact hostCommand_done _ r s _ _ hr (by rw [← s.entered_healthBytes healthReadOp r]; rfl)
  case avs => exact hostCommand_done _ r s _ _ hr (by rw [← s.entered_avsBytes avsStatusOp r]; rfl)
  case healthLayout =>
    exact ⟨u.healthBytes_length, leNat_leBytes 4 _, leNat_leBytes 4 _, fun _ hi => u.healthBytes_temp hi,
      fun _ hi => u.healthBytes_volt hi, fun _ hi => u.healthBytes_cycle hi, fun _ hi => u.healthBytes_ref hi⟩
  case avsLayout =>
    have hstate : u8 u.avsBytes 8 = u.avsState % 256 := leNat_leBytes 1 _
    have hsmall : u.avsState < 256 := Nat.lt_of_le_of_lt u.avsState_le (by decide)
    exact ⟨rfl, leNat_leBytes 2 _, leNat_leBytes 2 _, leNat_leBytes 2 _, leNat_leBytes 2 _, hstate.trans (Nat.mod_eq_of_lt hsmall),
      rfl, leNat_leBytes 4 _⟩

end Sys2Proof.Machine
end
